-- ==== Sys2Proof/Word.lean ====
section
/-!
DEFINITION. Word.lean: the machine words of the manual (00 R7, R8, R14).
-/
namespace Sys2Proof

/-- One byte of memory, of a block or of a cell. -/
abbrev Byte := BitVec 8

/-- One 64-bit word: a register, a sequencer S register, an instruction word (00 R14; 06 R203, R212). -/
abbrev Word := BitVec 64

/-- One vector register of 512 bytes (06 R210). Byte `i` is bits `8 i + 7 : 8 i`. -/
abbrev VReg := BitVec 4096

/-- One predicate register of 512 bits (06 R210). -/
abbrev PReg := BitVec 512

end Sys2Proof
end

