-- ==== Sys2Proof/Syntax.lean ====
section
/-!
DEFINITION. Syntax.lean: the commands of the block, one constructor per row of spec/opcode_table.json, and the
data they carry: cells, instruction fields, descriptors, packet headers and readings.
-/
namespace Sys2Proof

/-- A cell (10 R327): the common header of R328 in `hdr`, header bytes 16 to 31 in `ext` (the tally field of 04 R140, the
data header of R330 or the control field of R332) and the 480 payload bytes, byte `i` at bits `8 i + 7 : 8 i`. -/
structure Cell where
  hdr : BitVec 128
  ext : BitVec 128
  payload : BitVec 3840
  deriving DecidableEq, Repr

/-- The unit fields of a vector instruction word (06 R212, R215). -/
structure VF where
  ve : BitVec 2
  ty : BitVec 4
  rm : BitVec 2
  sat : Bool
  vd : BitVec 6
  va : BitVec 6
  vb : BitVec 6
  vc : BitVec 6
  imm : BitVec 16
  pred : BitVec 3
  deriving DecidableEq, Repr

/-- The unit fields of a Chime instruction word (06 R215). -/
structure CF where
  index : BitVec 15
  sa : BitVec 5
  indirect : Bool
  after : BitVec 4
  arg : BitVec 16
  deriving DecidableEq, Repr

/-- The header of a descriptor: its ring, its submission slot and its ID, which its completion returns, and FENCE (15 R481, R482,
R484). -/
structure Desc where
  ring : Fin 16
  slot : BitVec 12
  id : BitVec 32
  fence : Bool
  deriving DecidableEq, Repr

/-- The header fields of an Acvel packet, whose TYPE is the command's and whose LEN is that of its payload, and its LCRC (15 R465).
`codes` is how many code errors the packet holds, `idle` how many the columns before it held, in IDL and markers (15 R461, R462); `room`
is clear where the receiver has no room (15 R467). -/
structure AcvHdr where
  addr : BitVec 64
  status : BitVec 3
  rlen : BitVec 13
  tag : BitVec 8
  lseq : BitVec 12
  lcrc : BitVec 32
  codes : BitVec 8
  idle : BitVec 8
  room : Bool
  deriving DecidableEq, Repr

/-- What a receiver finds in the markers of one lane: LANE, SPLIT, and in how many rounds in a row PATTERN came with consecutive ROUND at one
position (14 R429, R432). -/
structure LaneMark where
  lane : BitVec 3
  split : Bool
  rounds : BitVec 8
  deriving DecidableEq, Repr

/-- The link that a control block came on, and the block's CRC as it came (14 R434). -/
structure Came where
  link : Fin 256
  crc : BitVec 32
  deriving DecidableEq, Repr

/-- VALUE of a PROBE block, and what the four bits 35:32 hold that ACRE and VALUE both have (14 R435; log entry 5). -/
structure ProbeVal where
  ck : BitVec 32
  both : BitVec 4
  deriving DecidableEq, Repr

/-- The number of a slot, and the symbols that FEC has corrected on its link since the last command (14 R430, R456). -/
structure SlotNo where
  lseq : BitVec 32
  csym : BitVec 16
  deriving DecidableEq, Repr

/-- The markers of a link's lanes and their spread in CK (14 R432). -/
structure Markers where
  lanes : List LaneMark
  skew : BitVec 8
  deriving DecidableEq, Repr

/-- What a receiver could not use (14 R438, R456): an uncorrectable codeword, or with `marker` a bad marker, and the symbols that FEC has
corrected on the link since the last command. -/
structure Spoilt where
  csym : BitVec 16
  marker : Bool
  deriving DecidableEq, Repr

/-- A HELLO packet: its header fields and its 8 bytes (15 R465, R469). -/
structure HelloPkt where
  head : AcvHdr
  body : BitVec 64
  deriving DecidableEq, Repr

/-- One sensor's sample (01 R38): temperature in 0.25 degrees, first and second rail in mV. -/
structure Reading where
  temp : BitVec 16
  vmain : BitVec 16
  vaux : BitVec 16
  deriving DecidableEq, Repr

/-- What patrol scrub meets in one block (13 R418 to R421): its address, and whether it is uncorrectable. -/
structure ScrubErr where
  addr : BitVec 48
  bad : Bool
  deriving DecidableEq, Repr

/-- The parties that write registers (20 R597). -/
inductive Party where
  | sexton
  | acvel
  | mgmt
  | cell
  deriving DecidableEq, Repr
/-- The commands of the block: one constructor per row of spec/opcode_table.json. -/
inductive Instr where
  /-- GROUP1_REGULATION (R52): Group 1 reaches regulation: the always-on block starts, MGMT_SEL is sampled and power STATE becomes AON_UP. -/
  | group1Regulation (sel : Bool)
  /-- GROUP1_LOSS (R54): Loss of group 1 clears the latched FAULT_N, THERMTRIP_N and C4_CAUSE and leaves FAULTED. -/
  | group1Loss
  /-- RAIL_RISE (R52): A rail of groups 2 to 4 reaches 10 % of nominal, moving STATE from AON_UP to POWERING. -/
  | railRise (g : Fin 3)
  /-- GROUPS_IN_REGULATION (R52): GRP_OK shows all four groups in regulation and STATE becomes WAIT_RESET. -/
  | groupsInRegulation (ok : BitVec 4)
  /-- RAILS_DOWN (R52): Every rail of groups 2 to 4 falls below 10 % and STATE returns to AON_UP. -/
  | railsDown
  /-- PORST_RISE (R564): PORST_N rises: STATE becomes RUNNING, the package CK count starts and the start sequence begins at step 2. -/
  | porstRise
  /-- PORST_FALL (R52): PORST_N falls: STATE becomes WAIT_RESET, and a device running a Score stops at once and its links drop. -/
  | porstFall
  /-- REGULATOR_FAULT (R47): A rail of groups 2 to 4 stays out of tolerance for more than 2 µs after PORST_N has risen, which is a C4 fault. -/
  | regulatorFault
  /-- GOVERNOR_SAMPLE (R31): Every 1 µs the governor samples package power, updates SAMPLE_W and AVG_W, and raises, lowers or holds the throttle
  level T. -/
  | governorSample (watts : BitVec 12)
  /-- SENSOR_SAMPLE (R38): Every 1 µs each temperature and voltage sensor is sampled into its ENG_SENSE register. -/
  | sensorSample (rs : List Reading)
  /-- OFF_REQ (R51): A write of 1 to OFF_REQ starts an orderly power-off: SAFE_OFF at once, or OFF_PENDING while a Score runs. -/
  | offReq
  /-- SAFE_OFF_REACHED (R51): A device in OFF_PENDING has left its Acre and STATE becomes SAFE_OFF. -/
  | safeOffReached
  /-- MGMT_READ (R49): The management target reads an ENG register by command code and captures the whole 64-bit word at its first byte. -/
  | mgmtRead (code : BitVec 8)
  /-- CLAVE_EDGE (R61): An active Clave edge is timestamped, or discarded if too close to the last one, and the Clave master computes PEND. -/
  | claveEdge (edge : BitVec 64)
  /-- TOLL_PRESET (R75): A write to TOLL_PRESET sets the count and enters LOCKED on a free Toll reference, and is otherwise ignored with PRESET_REJ
  set. -/
  | tollPreset (v : BitVec 64)
  /-- TICK_MARK (R72): A tick mark or TICK block from the parent port is taken: the device steps its count, or corrects its rate, and updates its
  Toll state. -/
  | tickMark (k : Came) (cseq : BitVec 8) (count : BitVec 64) (depth : BitVec 8)
  /-- TOLL_MARK_TIMEOUT (R73): A locked device receives no mark for 1,048,576 CK and enters LOST. -/
  | tollMarkTimeout
  /-- TICK_SEND (R71): Every 262,144 CK a parent sends a TICK control block to each child port. -/
  | tickSend
  /-- LAUNCH_TOLL_REACHED (R80): An ARMED device reaches LAUNCH_TOLL: Beat numbering starts, the first boundary is set and STATE becomes RUNNING. -/
  | launchTollReached
  /-- BEAT_BOUNDARY (R79): The Toll count reaches a Beat end boundary: seals are sent, Beats commit or halt, and the Beat state is reset for the
  next Beat. -/
  | beatBoundary
  /-- SEAL_RECEIVED (R84): A child seal arrives in a SEAL block and is combined, and it is forwarded once every child has sealed. -/
  | sealReceived (k : Fin 256) (crc : BitVec 32) (cseq : BitVec 8) (w : BitVec 128)
  /-- SEAL_WAIT_EXPIRY (R84): SEAL_WAIT after the boundary ends: the device forwards its combined seal and marks missing children MISSING. -/
  | sealWaitExpiry
  /-- GONG_WORD (R90): A Gong word arrives in a GONG block: the device forwards it and acts on its verdict, stretch and Clave adjustment. -/
  | gongWord (k : Fin 256) (crc : BitVec 32) (cseq : BitVec 8) (w : BitVec 128)
  /-- ROLLBACK (R252): Once every started operation has completed, the device copies back both undo logs, newest record first, and empties them. -/
  | rollback
  /-- GONG_VOUCH (R85): The Sexton writes a Beat number to GONG_VOUCH, vouching for that Beat. -/
  | gongVouch (beat : BitVec 48)
  /-- HOLD_CHECK (R94): At HOLD_LEAD before the end boundary each cluster checks its hold mark, and a HOLD round is sent up if any cluster has not
  passed it. -/
  | holdCheck
  /-- HOLD_ROUND (R95): A HOLDR block is received: it is forwarded or discarded, and at the root a stretch is granted and SEAL_HOLD is returned. -/
  | holdRound (k : Came) (cseq : BitVec 8) (body : BitVec 128)
  /-- PROBE_ROUND (R88): A PROBE block of the probe round arrives: round-trip times are combined by maximum, and MEAS_CK, SUBTREE_CK and SEAL_WAIT
  are set. -/
  | probeRound (k : Came) (cseq : BitVec 8) (down : Bool) (acre : BitVec 10) (v : ProbeVal)
  /-- PROBE_TIMEOUT (R260): A device not in a completed probe round within 2,500,000,000 CK of joining ends its load with PROBE_TIMEOUT. -/
  | probeTimeout
  /-- CHIME_SPACE_ARRIVE (R110): A write to a Chime's ARRIVE word queues ARRIVE(n) at its die's Chime unit. -/
  | chimeSpaceArrive (i : BitVec 15) (n : BitVec 16)
  /-- CHIME_SPACE_RESET (R110): A write to a Chime's RESET word queues RESET(t) at its die's Chime unit. -/
  | chimeSpaceReset (i : BitVec 15) (t : BitVec 16)
  /-- CHIME_OP_APPLY (R107): A Chime unit applies a queued operation after the Beat test of R108, with RESET before ARRIVE in one CK. -/
  | chimeOpApply (d : Bool)
  /-- CHIME_WAIT_RESUME (R107): A sequencer stalled on CH.WAIT resumes 3 CK, or 43 CK across dies, after the satisfying operation is applied. -/
  | chimeWaitResume (c : Fin 64)
  /-- ADD (R217): SD := SA + SB, modulo 2^64. -/
  | add (c : Fin 64) (sd sa sb : BitVec 5)
  /-- SUB (R217): SD := SA − SB, modulo 2^64. -/
  | sub (c : Fin 64) (sd sa sb : BitVec 5)
  /-- AND (R217): SD := SA AND SB. -/
  | and (c : Fin 64) (sd sa sb : BitVec 5)
  /-- OR (R217): SD := SA OR SB. -/
  | or (c : Fin 64) (sd sa sb : BitVec 5)
  /-- XOR (R217): SD := SA XOR SB. -/
  | xor (c : Fin 64) (sd sa sb : BitVec 5)
  /-- SHL (R217): SD := SA shifted left by SB[5:0]. -/
  | shl (c : Fin 64) (sd sa sb : BitVec 5)
  /-- SHR (R217): SD := SA shifted logically right by SB[5:0]. -/
  | shr (c : Fin 64) (sd sa sb : BitVec 5)
  /-- MUL (R217): SD := the low 64 bits of SA × SB. -/
  | mul (c : Fin 64) (sd sa sb : BitVec 5)
  /-- ADDI (R217): SD := SA + IMM. -/
  | addi (c : Fin 64) (sd sa : BitVec 5) (imm : BitVec 32)
  /-- LI (R217): SD := IMM. -/
  | li (c : Fin 64) (sd : BitVec 5) (imm : BitVec 32)
  /-- LUI (R217): SD[63:32] := IMM, with SD[31:0] unchanged. -/
  | lui (c : Fin 64) (sd : BitVec 5) (imm : BitVec 32)
  /-- LD (R217): SD := the 8 bytes at SA + IMM in working memory. -/
  | ld (c : Fin 64) (sd sa : BitVec 5) (imm : BitVec 32)
  /-- ST (R217): The 8 bytes at SA + IMM := SB, visible 24 CK after issue. -/
  | st (c : Fin 64) (sa sb : BitVec 5) (imm : BitVec 32)
  /-- BEQ (R217): Branches to the current index + IMM when SA = SB. -/
  | beq (c : Fin 64) (sa sb : BitVec 5) (imm : BitVec 32)
  /-- BNE (R217): Branches to the current index + IMM when SA ≠ SB. -/
  | bne (c : Fin 64) (sa sb : BitVec 5) (imm : BitVec 32)
  /-- BLT (R217): Branches to the current index + IMM when SA < SB, signed. -/
  | blt (c : Fin 64) (sa sb : BitVec 5) (imm : BitVec 32)
  /-- BGE (R217): Branches to the current index + IMM when SA ≥ SB, signed. -/
  | bge (c : Fin 64) (sa sb : BitVec 5) (imm : BitVec 32)
  /-- SEQ_HOLD (R207): The hold mark issues once all earlier work has completed, and the sequencer has then passed its hold mark. -/
  | seqHold (c : Fin 64)
  /-- SEQ_END (R208): Ends the cluster's phase once all earlier work has completed; nothing more issues until the boundary. -/
  | seqEnd (c : Fin 64)
  /-- SEQ_DRAIN (R217): Issues once every queue is empty and every started instruction has completed. -/
  | seqDrain (c : Fin 64)
  /-- SEQ_BEAT (R217): SD := the current Beat number. -/
  | seqBeat (c : Fin 64) (sd : BitVec 5)
  /-- SEQ_CCOUNT (R217): SD := the completion count. -/
  | seqCcount (c : Fin 64) (sd : BitVec 5)
  /-- VADD (R218): VD := VA + VB, rounded once. -/
  | vadd (c : Fin 64) (f : VF)
  /-- VSUB (R218): VD := VA − VB, rounded once. -/
  | vsub (c : Fin 64) (f : VF)
  /-- VMUL (R218): VD := VA × VB, rounded once. -/
  | vmul (c : Fin 64) (f : VF)
  /-- VFMA (R218): VD := VA × VB + VC, with one rounding. -/
  | vfma (c : Fin 64) (f : VF)
  /-- VMIN (R219): VD := the smaller of VA and VB. -/
  | vmin (c : Fin 64) (f : VF)
  /-- VMAX (R219): VD := the larger of VA and VB. -/
  | vmax (c : Fin 64) (f : VF)
  /-- VABS (R219): VD := the magnitude of VA. -/
  | vabs (c : Fin 64) (f : VF)
  /-- VNEG (R219): VD := the negation of VA. -/
  | vneg (c : Fin 64) (f : VF)
  /-- VDIV (R219): VD := VA / VB, exact result rounded once. -/
  | vdiv (c : Fin 64) (f : VF)
  /-- VSQRT (R219): VD := √VA, exact result rounded once. -/
  | vsqrt (c : Fin 64) (f : VF)
  /-- VRSQRT (R219): VD := 1/√VA, exact result rounded once. -/
  | vrsqrt (c : Fin 64) (f : VF)
  /-- VCVT (R221): Converts VA from format TYPE to the format DFMT named in VB. -/
  | vcvt (c : Fin 64) (f : VF)
  /-- VRSUM (R220): Sums every element in a fixed binary tree into element 0. -/
  | vrsum (c : Fin 64) (f : VF)
  /-- VRAMAX (R220): Writes the largest unmasked magnitude into element 0. -/
  | vramax (c : Fin 64) (f : VF)
  /-- VCMP (R219): Writes the predicate P(VD) := VA cond VB. -/
  | vcmp (c : Fin 64) (f : VF)
  /-- VSEL (R218): VD := VA where PRED is set, and VB elsewhere. -/
  | vsel (c : Fin 64) (f : VF)
  /-- VIADD (R218): VD := VA + VB, INT32 modulo 2^32. -/
  | viadd (c : Fin 64) (f : VF)
  /-- VAND (R218): Bitwise AND of VA and VB. -/
  | vand (c : Fin 64) (f : VF)
  /-- VOR (R218): Bitwise OR of VA and VB. -/
  | vor (c : Fin 64) (f : VF)
  /-- VXOR (R218): Bitwise XOR of VA and VB. -/
  | vxor (c : Fin 64) (f : VF)
  /-- VSHL (R218): Shifts VA left by IMM[4:0]. -/
  | vshl (c : Fin 64) (f : VF)
  /-- VSHR (R218): Shifts VA logically right by IMM[4:0]. -/
  | vshr (c : Fin 64) (f : VF)
  /-- VLD (R218): Loads 512 bytes of working memory into VD. -/
  | vld (c : Fin 64) (f : VF)
  /-- VST (R218): Stores VA to working memory under the predicate. -/
  | vst (c : Fin 64) (f : VF)
  /-- VBCAST (R218): Sets every element of VD to the low bits of an S register. -/
  | vbcast (c : Fin 64) (f : VF)
  /-- VSETSR (R222): Sets LANE_BASE and DRAW_IDX from an S register. -/
  | vsetsr (c : Fin 64) (f : VF)
  /-- PAND (R218): P(VD) := P(VA) AND P(VB). -/
  | pand (c : Fin 64) (f : VF)
  /-- POR (R218): P(VD) := P(VA) OR P(VB). -/
  | por (c : Fin 64) (f : VF)
  /-- PNOT (R218): P(VD) := NOT P(VA). -/
  | pnot (c : Fin 64) (f : VF)
  /-- VCRC (R223): Element 0 of VD := CRC-32C of the 512 bytes of VA, chained from VB. -/
  | vcrc (c : Fin 64) (f : VF)
  /-- MXE_OP (R224): The MXE.OP instruction places a matrix operation in the matrix engine's queue. -/
  | mxeOp (c : Fin 64) (sa : BitVec 5)
  /-- MXE_OP_ISSUE (R189): An operation leaves the head of its queue: its parameter block is read and checked, and its tile loads and streaming are
  scheduled. -/
  | mxeOpIssue (c : Fin 64)
  /-- MXE_OP_COMPLETE (R188): A matrix operation's results are written after LAT or SCORED_LAT, and its completion entry and Chime follow. -/
  | mxeOpComplete (c : Fin 64)
  /-- RAMP_STEP (R191): At the end of each 32-CK interval the engine's ramp step S rises, holds or falls. -/
  | rampStep (c : Fin 64)
  /-- ENG_REPAIR_WRITE (R198): The Sexton writes a repair map, which is accepted as pending or rejected with REJ set. -/
  | engRepairWrite (n : Fin 64) (v : BitVec 64)
  /-- REPAIR_APPLY (R199): A pending repair map takes effect at the first CK after the next boundary with no row in the array. -/
  | repairApply (n : Fin 64)
  /-- TALLY_PUT (R228): Offers a working-memory chunk as a leaf input to a Bushel record. -/
  | tallyPut (c : Fin 64) (sa sb : BitVec 5) (r : BitVec 6)
  /-- TALLY_ANY (R228): Sets ANY in a Score record for the rest of the Beat. -/
  | tallyAny (c : Fin 64) (r : BitVec 6)
  /-- TALLY_CELL_IN (R152): A tally cell is steered to its record's tally engine, checked for CSUM and Beat, and then queued or parked. -/
  | tallyCellIn (d : Bool) (cell : Cell)
  /-- TALLY_OPERATION (R148): The tally engine takes an input in turn: it pushes, fuses or merges, delivers a completed node and advances the turn. -/
  | tallyOperation (c : Fin 64)
  /-- PARKED_RELEASE (R166): A parked or held input is released to its tally engine in the CK after it comes into turn. -/
  | parkedRelease (c : Fin 64)
  /-- TALLY_TIMEOUT (R168): An open Bushel whose chunk takes no input for TIMEOUT_K × 1,024 CK ends its collective with TALLY_TIMEOUT. -/
  | tallyTimeout (c : Fin 64) (r : BitVec 6)
  /-- PARKED_CELL_EXPIRY (R319): A cell parked for a collective that has not started within TIMEOUT_K × 1,024 CK is discarded and counted in
  EXPIRED. -/
  | parkedCellExpiry
  /-- MOV_COPY (R229): Copies LEN bytes from SRC to DST. -/
  | movCopy (c : Fin 64) (sa : BitVec 5)
  /-- MOV_XPOSE (R422): Copies a ROWS × COLS array through the transposer. -/
  | movXpose (c : Fin 64) (sa : BitVec 5)
  /-- MOV_SEND (R229): Sends LEN bytes as scored-class cells on the slots of SLOTSET. -/
  | movSend (c : Fin 64) (sa : BitVec 5)
  /-- MOV_SENDA (R229): Sends LEN bytes as open-class cells, sprayed adaptively. -/
  | movSenda (c : Fin 64) (sa : BitVec 5)
  /-- MOV_AADD (R229): Adds elements into remote memory in arrival order. -/
  | movAadd (c : Fin 64) (sa : BitVec 5)
  /-- MOVER_COMPLETE (R229): A mover instruction completes when its last byte is written or its last cell has left, and it writes its completion
  entry. -/
  | moverComplete (c : Fin 64)
  /-- CH_ARRIVE (R230): Issues ARRIVE(n) to a Chime, at once or after a named queue. -/
  | chArrive (c : Fin 64) (f : CF)
  /-- CH_WAIT (R230): Stalls the sequencer until the Chime's COUNT reaches its TARGET. -/
  | chWait (c : Fin 64) (f : CF)
  /-- CH_RESET (R230): Issues RESET(t) to a Chime, at once or after a named queue. -/
  | chReset (c : Fin 64) (f : CF)
  /-- RIDE_CELL_TIMEOUT (R295): An open ride cell not joined within 64 CK closes and leaves on the ride slots. -/
  | rideCellTimeout (d : Bool)
  /-- RIDE_CELL_IN (R296): A holder takes a ride cell into its ride buffer, or refuses it. -/
  | rideCellIn (d : Bool) (cell : Cell)
  /-- RIDE_DRAIN_DONE (R297): The drain of a committed Beat's ride buffer into the mirror ends and MIRROR_BEAT is updated. -/
  | rideDrainDone
  /-- CELL_INGRESS (R329): A cell is parsed at its ingress point, checked, and looked up to find its output points. -/
  | cellIngress (k : Fin 256) (lseq : SlotNo) (cell : Cell)
  /-- CELL_TIME (R337): Each cell time, the shapers update, reservations take scored cells, open cells are matched, and cells cross. -/
  | cellTime
  /-- SPILL_RETURN (R348): Spilled cells of a queue return to the die, oldest first, once fewer than 32 of its cells remain on the die. -/
  | spillReturn (d : Bool)
  /-- RESEQ_TIMEOUT (R351): A context's oldest held cell waits RESEQ_TO cell times: the expected index skips the gap and the run that follows is
  delivered. -/
  | reseqTimeout (d : Bool)
  /-- RESEQ_IDLE_FREE (R351): An empty resequencer context with no cell for 4 × RESEQ_TO cell times is freed. -/
  | reseqIdleFree (d : Bool)
  /-- MIRROR_RECORD_WRITE (R355): A queued header mirror record is written to the ring in tier 2. -/
  | mirrorRecordWrite (d : Bool)
  /-- MIRROR_EN_WRITE (R354): A write of EN from 0 to 1 restarts the sample counts and clears FULL. -/
  | mirrorEnWrite (v : BitVec 64)
  /-- CTL_CHIME_ARRIVE (R332): A CONTROL cell with CTYPE 1 queues ARRIVE(n) for its Chime. -/
  | ctlChimeArrive (cell : Cell)
  /-- CTL_CHIME_RESET (R332): A CONTROL cell with CTYPE 2 queues RESET(t) for its Chime. -/
  | ctlChimeReset (cell : Cell)
  /-- DRAIN_DOWN (R382): A DOWN(w) drain marker is forwarded to the device's children. -/
  | drainDown (k : Fin 256) (cell : Cell)
  /-- DRAIN_UP (R382): An UP drain marker is combined, sent upward once all children report, or used by the root to start or judge a drain. -/
  | drainUp (k : Fin 256) (cell : Cell)
  /-- DRAIN_QUIET (R385): A QUIET marker from an endpoint port is recorded for the device's EMPTY. -/
  | drainQuiet (k : Fin 256) (cell : Cell)
  /-- DRAIN_SWAP (R380): A SWAP marker sets GEN(A), and a draining device swaps banks or, on GO 0, returns to PREPARED with ROUTE_TIMEOUT. -/
  | drainSwap (k : Fin 256) (cell : Cell)
  /-- DRAIN_WAVE_TIMER (R383): After its 4,096 CK wait the root sends the next DOWN wave, or SWAP with GO 0 when the drain has timed out. -/
  | drainWaveTimer
  /-- TELEMETRY_SAMPLE (R397): Each time the Toll count passes a multiple of 16,384, queue sample records are written for the selected ports and
  VCs. -/
  | telemetrySample
  /-- TELEMETRY_EN_WRITE (R399): A write of EN from 0 to 1 clears FULL and sets WPTR to 0. -/
  | telemetryEnWrite (v : BitVec 64)
  /-- SHAPER_CONFIG_WRITE (R396): A shaper or bucket register write takes effect at the next cell time and clamps C and T. -/
  | shaperConfigWrite (kind : BitVec 2) (n : Fin 128) (v : BitVec 64)
  /-- POOL_CFG_WRITE (R401): A write to POOL_CFGn starts a rebuild of pool n's free list and sets BUILDING. -/
  | poolCfgWrite (n : Fin 5) (v : BitVec 64)
  /-- POOL_BUILD_DONE (R401): A pool build ends, BUILDING clears, and waiting requests proceed. -/
  | poolBuildDone (n : Fin 5)
  /-- REFRESH_WINDOW (R417): A tier 1 or tier 2 refresh window opens on the Toll count, and refresh and patrol scrub run in it. -/
  | refreshWindow (tier2 : Bool) (errs : List ScrubErr) (pass : Bool)
  /-- LASER_LOW (R425): A laser input is below minimum power for 10 µs: its PORT_LASER bit is set and a LASER_LOW message is sent. -/
  | laserLow (i : Fin 16)
  /-- LINK_TRAINED (R441): Every lane has signal and its adaptation has settled, and the link moves from TRAIN to LOCK. -/
  | linkTrained (k : Fin 256)
  /-- LINK_ALIGNED (R432): Every lane is locked and ordered within skew, and the link moves to IDENT. -/
  | linkAligned (k : Fin 256) (marks : Markers)
  /-- LINK_ALIGN_LOST (R441): A link loses lane lock or alignment, returns to TRAIN, and leaves READY with LINK_DOWN where it was READY. -/
  | linkAlignLost (k : Fin 256)
  /-- ROLL_CALL_TIMEOUT (R441): A Roll call attempt exceeds its time limit, returning the link to TRAIN or, after ATTEMPTS, to FAILED. -/
  | rollCallTimeout (k : Fin 256)
  /-- IDENT_RECEIVED (R443): A peer IDENT block is taken and the link protocol version and features are negotiated, or the link is quarantined for
  VERSION. -/
  | identReceived (k : Came) (body : BitVec 128)
  /-- DREQ_RECEIVED (R445): A DREQ is stamped with t2 and answered with DRESP carrying t2 and t3. -/
  | dreqReceived (k : Came) (t1 t2 t3 : BitVec 64)
  /-- DRESP_RECEIVED (R445): A DRESP completes a delay exchange, and after 16 exchanges DELAY is set and the wiring check runs. -/
  | drespReceived (k : Fin 256) (crc : BitVec 32) (t2 t3 : BitVec 64)
  /-- DREQ_TIMEOUT (R445): A delay exchange whose DRESP has not arrived within 8 rounds is run again. -/
  | dreqTimeout (k : Fin 256)
  /-- READY_RECEIVED (R447): A link that has both sent and received READY enters READY, sends REPLAY(0), and grants its credit. -/
  | readyReceived (k : Came)
  /-- ACK_RECEIVED (R438): An ACK frees replay slots and sequenced blocks, and a NAK or CNAK is answered with a resend. -/
  | ackReceived (k : Fin 256) (crc : BitVec 32) (lnext : BitVec 32) (cnext : BitVec 8) (nak cnak : Bool)
  /-- REPLAY_RECEIVED (R438): A REPLAY block tells the receiver which LSEQ the next round starts at, ending its discard. -/
  | replayReceived (k : Came) (lseq : BitVec 32)
  /-- CREDIT_RECEIVED (R375): A CREDIT block returns open-VC link credit to the sender. -/
  | creditReceived (k : Fin 256) (crc : BitVec 32) (cseq : BitVec 8) (op0 op1 mgt ctl : BitVec 16)
  /-- UNCORRECTABLE_CODEWORD (R438): An uncorrectable codeword or bad marker makes the receiver discard slots from the first affected one and send
  NAK. -/
  | uncorrectableCodeword (k : Fin 256) (what : Spoilt)
  /-- PORT_RETRAIN (R452): A write to PORT_RETRAIN returns every link of the named ports to TRAIN with TRIES at 0. -/
  | portRetrain (hi : Bool) (v : BitVec 64)
  /-- ACV_ALIGNED (R464): All eight Acvel lanes lock within 40 UI and the link enters ALIGNED, then HELLO. -/
  | acvAligned (skew : BitVec 8)
  /-- ACV_HELLO_SEND (R469): Every 64 columns in HELLO a side sends a HELLO packet. -/
  | acvHelloSend
  /-- ACV_HELLO_RECEIVED (R470): A HELLO is taken: the version is negotiated, the session restarts or resumes, and the side enters UP. -/
  | acvHelloReceived (p : HelloPkt)
  /-- ACV_TRAIN_TIMEOUT (R469): An Acvel attempt that has not reached UP within 2,500,000 CK returns to TRAIN. -/
  | acvTrainTimeout
  /-- ACV_MRD (R466): A memory read request packet is taken and answered with CPL packets. -/
  | acvMrd (h : AcvHdr)
  /-- ACV_MWR (R472): A memory write packet is taken and performed or refused under the access limits. -/
  | acvMwr (h : AcvHdr) (data : List Byte)
  /-- ACV_CPL (R466): A completion packet returns data or status for an outstanding device read of host memory. -/
  | acvCpl (h : AcvHdr) (data : List Byte)
  /-- ACV_ACK (R467): An ACK packet frees the sender's acknowledged packets. -/
  | acvAck (h : AcvHdr)
  /-- ACV_NAK (R467): A NAK packet makes the sender resend every packet from the named LSEQ. -/
  | acvNak (h : AcvHdr)
  /-- ACV_RESEND_TIMEOUT (R467): The oldest unacknowledged packet was last sent 25,000 CK before, so it and every later packet are resent. -/
  | acvResendTimeout
  /-- ACV_READ_TIMEOUT (R471): A device read of host memory not complete within 250,000 CK ends with STATUS ERROR. -/
  | acvReadTimeout (tag : BitVec 8)
  /-- ACV_LIVE_GO (R475): A write of GO checks the ring configuration and makes the rings live, or sets CFG_ERR. -/
  | acvLiveGo
  /-- DOORBELL_POLL (R479): Every POLL_CK CK the device reads doorbell words 0 to 16, or skips the poll while a read is outstanding. -/
  | doorbellPoll
  /-- DOORBELL_DATA (R480): Doorbell data arrive: each ring fetches its new descriptors or stops on an overrun. -/
  | doorbellData (ok : Bool) (words : List (BitVec 64))
  /-- COMPLETION_WRITE (R484): A completion entry is written to its ring once there is room under CCONS. -/
  | completionWrite (r : Fin 16)
  /-- FAULT_RING_WRITE (R528): The hub aggregator writes a received fault message, and any CPER record, to the fault ring. -/
  | faultRingWrite
  /-- NOP (R482): A NOP descriptor completes DONE. -/
  | nop (d : Desc)
  /-- DESC_BAD (R482): A descriptor with a reserved opcode, header bit or trailing byte completes with DESC_BAD. -/
  | descBad (d : Desc)
  /-- SCORE_LOAD (R259): A load descriptor fetches a Score into staging and runs checks 1 to 9, then joins the probe round. -/
  | scoreLoad (d : Desc) (host len : BitVec 64) (ok : Bool)
  /-- SCORE_LOAD_FINISH (R262): After the probe round, the loader runs checks 11 to 13 and writes the registers, pages, records, routes and tags. -/
  | scoreLoadFinish
  /-- LAUNCH (R265): A launch descriptor is checked and arms the device for LAUNCH_TOLL at START_BEAT. -/
  | launch (d : Desc) (toll : BitVec 64) (beat : BitVec 48)
  /-- PAUSE (R267): A pause descriptor sets SEQ_PAUSE and makes Beat p a drain Beat. -/
  | pause (d : Desc) (beat : BitVec 48)
  /-- GROUP (R304): A group descriptor registers, replaces or deletes a group table entry. -/
  | group (d : Desc) (w0 w1 w2 w3 : BitVec 64)
  /-- COLL_START (R312): A start descriptor takes a sequence number and claims the Bushels of an open collective. -/
  | collStart (d : Desc) (ws : List (BitVec 64))
  /-- COLL_END (R315): An end descriptor cancels an active open collective, or completes with NO_COLL. -/
  | collEnd (d : Desc) (g : BitVec 12) (seq : BitVec 16)
  /-- ROUTE_IMAGE (R378): A route image is applied to the inactive bank, or refused with ROUTE_BAD. -/
  | routeImage (d : Desc) (host len : BitVec 64) (ok : Bool)
  /-- ROUTE_SWAP (R380): A swap descriptor enters DRAINING and requests a drain, or swaps at once while every port is OFF. -/
  | routeSwap (d : Desc)
  /-- POOL_ALLOC (R402): Allocates a buffer from the smallest fitting pool, or completes with POOL_EMPTY or POOL_TOO_BIG. -/
  | poolAlloc (d : Desc) (size : BitVec 64)
  /-- POOL_FREE (R403): Pushes a released handle onto its pool's free list. -/
  | poolFree (d : Desc) (h : BitVec 32)
  /-- COPY_IN (R483): Moves LEN bytes from host memory into the device address space. -/
  | copyIn (d : Desc) (host dev len : BitVec 64) (fail : Option (BitVec 64))
  /-- COPY_OUT (R483): Moves LEN bytes from the device address space to host memory. -/
  | copyOut (d : Desc) (dev host len : BitVec 64) (fail : Option (BitVec 64))
  /-- CKPT_SAVE (R546): Saves the state image at NEXT_BEAT into a local flash slot. -/
  | ckptSave (d : Desc) (ws : List (BitVec 64))
  /-- CKPT_LOAD (R552): Loads a local flash slot into the state areas under the restore checks. -/
  | ckptLoad (d : Desc) (ws : List (BitVec 64))
  /-- CKPT_RECEIVE (R551): Opens a receive window for restore cells in MODE 0, 1 or 2. -/
  | ckptReceive (d : Desc) (ws : List (BitVec 64))
  /-- CKPT_SEND (R549): A holder sends its mirror and a MIRROR head as restore cells. -/
  | ckptSend (d : Desc) (ws : List (BitVec 64))
  /-- CKPT_FILL (R549): A source device sends its own image at NEXT_BEAT to fill its holder's mirror. -/
  | ckptFill (d : Desc) (ws : List (BitVec 64))
  /-- CKPT_UPLOAD (R549): Sends a valid flash slot's image and head as restore cells. -/
  | ckptUpload (d : Desc) (ws : List (BitVec 64))
  /-- NVME_COMPLETION (R546): An NVMe command to a local drive completes, advancing a save or load, or failing it with NVME_ERR. -/
  | nvmeCompletion (ok : Bool)
  /-- RESTORE_CELL_IN (R551): A restore cell from SOURCE is written directly, and the restore ends with its digest and state checks once every byte
  arrives. -/
  | restoreCellIn (d : Bool) (cell : Cell)
  /-- RESTORE_TIMEOUT (R553): No restore cell is taken for TIMEOUT × 2^20 CK, and the restore completes with RESTORE_TIMEOUT. -/
  | restoreTimeout
  /-- BOOT_STAGE (R583): Writes an update image into the other flash bank and checks it, reaching STAGED. -/
  | bootStage (d : Desc) (ws : List (BitVec 64)) (ok : Bool)
  /-- BOOT_ACTIVATE (R584): Arms a staged update for UPDATE_TOLL and REVERT_TOLL. -/
  | bootActivate (d : Desc) (ws : List (BitVec 64))
  /-- BOOT_COMMIT (R587): Ends a trial by raising the trial bank's BANK_SEQ and advancing the counter. -/
  | bootCommit (d : Desc)
  /-- BOOT_REVERT (R588): Ends a trial by restarting the firmware of the bank the device started from. -/
  | bootRevert (d : Desc)
  /-- ATTEST (R580): Writes a signed attestation record with the nonce and measurements to host memory. -/
  | attest (d : Desc) (ws : List (BitVec 64)) (ok : Bool)
  /-- DEBUG_OPEN (R590): Checks a debug certificate and, if it passes, erases the identity and opens JTAG. -/
  | debugOpen (d : Desc) (ws : List (BitVec 64)) (ok : Bool)
  /-- UPDATE_TOLL_REACHED (R585): An ARMED device reaches UPDATE_TOLL and runs a firmware restart into TRIAL, or returns to STAGED. -/
  | updateTollReached
  /-- REVERT_TOLL_REACHED (R588): A trial not committed by REVERT_TOLL reverts and sets REVERTED. -/
  | revertTollReached
  /-- ROM_BANK_ACCEPT (R571): The mask ROM verifies a flash bank's first stage and starts it, or raises BOOT_UE when none passes. -/
  | romBankAccept
  /-- FIRST_STAGE (R576): The first stage checks the manifest, applies records and the persistent copy, unwraps the identity and loads every part. -/
  | firstStage
  /-- MEM_TRAINING_END (R567): Training of all stacks ends, with failed stacks leaving the start FAILED, and the Acvel link begins training. -/
  | memTrainingEnd (failed : BitVec 16)
  /-- SEXTON_WDOG (R566): The Sexton's watchdog expires, which is a C3 fault or a failure of the bank being tried. -/
  | sextonWdog
  /-- DEVICE_RESET (R514): After a C3 fault's seal, the Sexton records the fault, stops every port and resets the device. -/
  | deviceReset
  /-- REGION_COLLECTOR_TAKE (R526): A region collector takes a queued fault message, opening or merging its first-error record and forwarding it. -/
  | regionCollectorTake (n : Fin 8)
  /-- DIE_COLLECTOR_TAKE (R525): A die collector takes a queued fault message and forwards it to the hub aggregator. -/
  | dieCollectorTake (d : Bool)
  /-- REGION_RECORD_CLEAR (R527): A write of 1 to VALID closes a region record and sends MERGED if messages were merged. -/
  | regionRecordClear (n : Fin 8)
  /-- DIAGNOSIS (R521): Once its clusters are idle, the failing unit and its sibling repeat the captured work to find a transient or permanent
  fault. -/
  | diagnosis (c : Fin 64) (self sibling : Bool) (row : Option (BitVec 7))
  /-- FENCE_MAP_WRITE (R530): Host software adds fence bits with a W1S write when no Score is active. -/
  | fenceMapWrite (j : Fin 10) (v : BitVec 64)
  /-- INJ_ARM (R531): A key write advances the arming sequence, and three correct keys arm injection. -/
  | injArm (host : Bool) (key : BitVec 64)
  /-- INJ_ARM_EXPIRY (R531): An armed window of 2,500,000,000 CK ends without a firing and injection disarms. -/
  | injArmExpiry
  /-- INJ_GO (R532): A write of GO while ARMED is checked, then sets a pending firing or REJ. -/
  | injGo (host : Bool) (v : BitVec 64)
  /-- INJ_FIRE (R532): At WHEN the pending injection produces COUNT events at the named unit and disarms. -/
  | injFire
  /-- REGISTER_WRITE (R597): A write to a register field with no behaviour of its own sets it, subject to its access code, the party and the
  rings-live rules. -/
  | registerWrite (p : Party) (a : BitVec 28) (v : BitVec 64)
  /-- ACV_ALIGN_LOST (R464): An Acvel receive lane loses lock after four consecutive bad markers, and the link leaves its state for TRAIN and raises
  ACV_DOWN. -/
  | acvAlignLost
  /-- LASER_POWER_RESTORED (R425): Light at a laser source input returns above minimum power and its PORT_LASER bit clears, so the lanes it feeds
  can train again. -/
  | laserPowerRestored (i : Fin 16)
  /-- FIRMWARE_RESTART_END (R585): A firmware restart from staged or running parts ends, with STATE set to TRIAL or STAGED, BOOT_ACTIVATE or the
  revert completed, and descriptor acceptance resumed. -/
  | firmwareRestartEnd
  /-- BOOT_STAGING_END (R583): Writing and read-back checking of an update image in the other flash bank ends, and BOOT_UPDATE STATE moves from
  STAGING to STAGED or NONE and the descriptor completes. -/
  | bootStagingEnd
  /-- REGISTER_READ (R17): A read of a register by the Sexton returns the value and clears any RC field under the same-CK rule of R17. -/
  | registerRead (a : BitVec 28)
  deriving DecidableEq, Repr

end Sys2Proof
end

