-- ==== Sys2Proof/WellFormed.lean ====
section
/-!
DEFINITION. WellFormed.lean: which instructions of a list R213 of spec/06 lets a sequencer issue, and which other commands carry
the operands their row says. An instruction that is not well formed is a forbidden encoding (06 R213, R214).
-/
namespace Sys2Proof

/-- The five plain floating-point formats, "F" of 06 R218. -/
def tyF (t : BitVec 4) : Bool := decide (t.toNat ≤ 4)

/-- Any format code that is not reserved (06 R216). -/
def tyAny (t : BitVec 4) : Bool := decide (t.toNat ≤ 11)

/-- INT32 (04 R141). -/
def tyI32 (t : BitVec 4) : Bool := decide (t.toNat = 10)

/-- FP32, BF16 or FP16 (06 R218). -/
def tySum (t : BitVec 4) : Bool := decide (t.toNat ≤ 2)

/-- Bits of an element of a format code (03 R115, 06 R216). -/
def tyWidth (t : Nat) : Nat :=
  if t = 0 ∨ t = 10 then 32
  else if t = 1 ∨ t = 2 then 16
  else if t = 7 ∨ t = 8 then 6
  else if t = 9 then 4
  else 8

/-- An MX format code (04 R141). -/
def tyMx (t : Nat) : Bool := decide (5 ≤ t) && decide (t ≤ 9)

/-- Elements of a conversion between two widths: 128, 256 or 512 by the wider (06 R221). -/
def cvtCount (a b : Nat) : Nat := if max a b = 32 then 128 else if max a b = 16 then 256 else 512

/-- What a VCVT may name (06 R221): formats that are not reserved, an MX format only with FP32, to MX only under P0, a segment
within byte 511. -/
def cvtOk (f : VF) : Bool :=
  let src := f.ty.toNat
  let dst := f.vb.toNat % 16
  let seg := f.vb.toNat / 16
  let a := tyWidth src
  let b := tyWidth dst
  decide (src ≤ 11) && decide (dst ≤ 11) && (!tyMx src || decide (dst = 0)) &&
  (!tyMx dst || (decide (src = 0) && decide (f.pred = 0))) &&
  (decide (a = b) || decide ((seg + 1) * cvtCount a b * min a b ≤ 4096))

/-- What every vector instruction's word must satisfy: RM is not 0b11, TYPE is of its column (06 R213, R218; 03 R133). -/
def VF.ok (f : VF) (ty : BitVec 4 → Bool) : Bool := decide (f.rm ≠ 3) && tyAny f.ty && ty f.ty

/-- What every Chime instruction's word must satisfy: AFTER is not reserved (06 R215). -/
def CF.ok (f : CF) : Bool := decide (f.after.toNat ≤ 7)

/-- Well-formedness of a command. -/
def Instr.wf (i : Instr) : Bool :=
  match i with
  | .group1Regulation _ => true
  | .group1Loss => true
  | .railRise _ => true
  | .groupsInRegulation _ => true
  | .railsDown => true
  | .porstRise => true
  | .porstFall => true
  | .regulatorFault => true
  | .governorSample _ => true
  | .sensorSample rs => decide (rs.length = 33)
  | .offReq => true
  | .safeOffReached => true
  | .mgmtRead _ => true
  | .claveEdge _ => true
  | .tollPreset _ => true
  | .tickMark _ _ _ _ => true
  | .tollMarkTimeout => true
  | .tickSend => true
  | .launchTollReached => true
  | .beatBoundary => true
  | .sealReceived _ _ _ _ => true
  | .sealWaitExpiry => true
  | .gongWord _ _ _ _ => true
  | .rollback => true
  | .gongVouch _ => true
  | .holdCheck => true
  | .holdRound _ _ _ => true
  | .probeRound _ _ _ _ _ => true
  | .probeTimeout => true
  | .chimeSpaceArrive _ _ => true
  | .chimeSpaceReset _ _ => true
  | .chimeOpApply _ => true
  | .chimeWaitResume _ => true
  | .add _ _ _ _ => true
  | .sub _ _ _ _ => true
  | .and _ _ _ _ => true
  | .or _ _ _ _ => true
  | .xor _ _ _ _ => true
  | .shl _ _ _ _ => true
  | .shr _ _ _ _ => true
  | .mul _ _ _ _ => true
  | .addi _ _ _ _ => true
  | .li _ _ _ => true
  | .lui _ _ _ => true
  | .ld _ _ _ _ => true
  | .st _ _ _ _ => true
  | .beq _ _ _ _ => true
  | .bne _ _ _ _ => true
  | .blt _ _ _ _ => true
  | .bge _ _ _ _ => true
  | .seqHold _ => true
  | .seqEnd _ => true
  | .seqDrain _ => true
  | .seqBeat _ _ => true
  | .seqCcount _ _ => true
  | .vadd _ f => f.ok tyF
  | .vsub _ f => f.ok tyF
  | .vmul _ f => f.ok tyF
  | .vfma _ f => f.ok tyF
  | .vmin _ f => f.ok tyF
  | .vmax _ f => f.ok tyF
  | .vabs _ f => f.ok tyF
  | .vneg _ f => f.ok tyF
  | .vdiv _ f => f.ok tyF
  | .vsqrt _ f => f.ok tyF
  | .vrsqrt _ f => f.ok tyF
  | .vcvt _ f => f.ok tyAny && cvtOk f
  | .vrsum _ f => f.ok tySum
  | .vramax _ f => f.ok tyF
  | .vcmp _ f => f.ok (fun t => tyF t || tyI32 t) && decide (f.imm.toNat % 8 ≤ 5)
  | .vsel _ f => f.ok tyAny
  | .viadd _ f => f.ok tyI32
  | .vand _ f => f.ok tyAny
  | .vor _ f => f.ok tyAny
  | .vxor _ f => f.ok tyAny
  | .vshl _ f => f.ok tyI32
  | .vshr _ f => f.ok tyI32
  | .vld _ f => f.ok tyAny
  | .vst _ f => f.ok tyAny
  | .vbcast _ f => f.ok tyAny
  | .vsetsr _ f => f.ok tyAny
  | .pand _ f => f.ok tyAny
  | .por _ f => f.ok tyAny
  | .pnot _ f => f.ok tyAny
  | .vcrc _ f => f.ok tyAny
  | .mxeOp _ _ => true
  | .mxeOpIssue _ => true
  | .mxeOpComplete _ => true
  | .rampStep _ => true
  | .engRepairWrite _ _ => true
  | .repairApply _ => true
  | .tallyPut _ _ _ _ => true
  | .tallyAny _ _ => true
  | .tallyCellIn _ _ => true
  | .tallyOperation _ => true
  | .parkedRelease _ => true
  | .tallyTimeout _ _ => true
  | .parkedCellExpiry => true
  | .movCopy _ _ => true
  | .movXpose _ _ => true
  | .movSend _ _ => true
  | .movSenda _ _ => true
  | .movAadd _ _ => true
  | .moverComplete _ => true
  | .chArrive _ f => f.ok
  | .chWait _ f => f.ok && decide (f.after = 0)
  | .chReset _ f => f.ok
  | .rideCellTimeout _ => true
  | .rideCellIn _ _ => true
  | .rideDrainDone => true
  | .cellIngress _ _ _ => true
  | .cellTime => true
  | .spillReturn _ => true
  | .reseqTimeout _ => true
  | .reseqIdleFree _ => true
  | .mirrorRecordWrite _ => true
  | .mirrorEnWrite _ => true
  | .ctlChimeArrive _ => true
  | .ctlChimeReset _ => true
  | .drainDown _ _ => true
  | .drainUp _ _ => true
  | .drainQuiet _ _ => true
  | .drainSwap _ _ => true
  | .drainWaveTimer => true
  | .telemetrySample => true
  | .telemetryEnWrite _ => true
  | .shaperConfigWrite _ _ _ => true
  | .poolCfgWrite _ _ => true
  | .poolBuildDone _ => true
  | .refreshWindow _ _ _ => true
  | .laserLow _ => true
  | .linkTrained _ => true
  | .linkAligned _ _ => true
  | .linkAlignLost _ => true
  | .rollCallTimeout _ => true
  | .identReceived _ _ => true
  | .dreqReceived _ _ _ _ => true
  | .drespReceived _ _ _ _ => true
  | .dreqTimeout _ => true
  | .readyReceived _ => true
  | .ackReceived _ _ _ _ _ _ => true
  | .replayReceived _ _ => true
  | .creditReceived _ _ _ _ _ _ _ => true
  | .uncorrectableCodeword _ _ => true
  | .portRetrain _ _ => true
  | .acvAligned _ => true
  | .acvHelloSend => true
  | .acvHelloReceived _ => true
  | .acvTrainTimeout => true
  | .acvMrd _ => true
  | .acvMwr _ _ => true
  | .acvCpl _ _ => true
  | .acvAck _ => true
  | .acvNak _ => true
  | .acvResendTimeout => true
  | .acvReadTimeout _ => true
  | .acvLiveGo => true
  | .doorbellPoll => true
  | .doorbellData _ _ => true
  | .completionWrite _ => true
  | .faultRingWrite => true
  | .nop _ => true
  | .descBad _ => true
  | .scoreLoad _ _ _ _ => true
  | .scoreLoadFinish => true
  | .launch _ _ _ => true
  | .pause _ _ => true
  | .group _ _ _ _ _ => true
  | .collStart _ _ => true
  | .collEnd _ _ _ => true
  | .routeImage _ _ _ _ => true
  | .routeSwap _ => true
  | .poolAlloc _ _ => true
  | .poolFree _ _ => true
  | .copyIn _ _ _ _ _ => true
  | .copyOut _ _ _ _ _ => true
  | .ckptSave _ _ => true
  | .ckptLoad _ _ => true
  | .ckptReceive _ _ => true
  | .ckptSend _ _ => true
  | .ckptFill _ _ => true
  | .ckptUpload _ _ => true
  | .nvmeCompletion _ => true
  | .restoreCellIn _ _ => true
  | .restoreTimeout => true
  | .bootStage _ _ _ => true
  | .bootActivate _ _ => true
  | .bootCommit _ => true
  | .bootRevert _ => true
  | .attest _ _ _ => true
  | .debugOpen _ _ _ => true
  | .updateTollReached => true
  | .revertTollReached => true
  | .romBankAccept => true
  | .firstStage => true
  | .memTrainingEnd _ => true
  | .sextonWdog => true
  | .deviceReset => true
  | .regionCollectorTake _ => true
  | .dieCollectorTake _ => true
  | .regionRecordClear _ => true
  | .diagnosis _ _ _ _ => true
  | .fenceMapWrite _ _ => true
  | .injArm _ _ => true
  | .injArmExpiry => true
  | .injGo _ _ => true
  | .injFire => true
  | .registerWrite _ _ _ => true
  | .acvAlignLost => true
  | .laserPowerRestored _ => true
  | .firmwareRestartEnd => true
  | .bootStagingEnd => true
  | .registerRead _ => true

end Sys2Proof
end

