-- ==== Sys2Proof/Decode.lean ====
section
/-!
DEFINITION. Decode.lean: the command a word of the table spells (none has bits), and the 64-bit instruction words of spec/06
R212 to R230: their decoder, which answers none for every encoding that R213 forbids, and their encoder.
-/
namespace Sys2Proof

/-- The command that a word spells by the table's bits. No row of spec/opcode_table.json has bits (log entry 7): none. -/
def decodeTableWord (_nbits _w : Nat) : Option Instr := none

/-! ### The instruction word (06 R212, R215) -/

/-- A word from its common header and 49 unit bits. -/
def insnWord (v : BitVec 1) (unit : BitVec 3) (op : BitVec 8) (pred : BitVec 3) (rest : BitVec 49) : Word :=
  v ++ (unit ++ (op ++ (pred ++ rest)))

/-- A sequencer word: SD, SA, SB and IMM. -/
def seqWord (op : BitVec 8) (sd sa sb : BitVec 5) (imm : BitVec 32) : Word :=
  insnWord 0 0 op 0 (sd ++ (sa ++ (sb ++ (0#2 ++ imm))))

/-- A vector word. -/
def vecWord (op : BitVec 8) (f : VF) : Word :=
  insnWord 0 1 op f.pred
    (f.ve ++ (f.ty ++ (f.rm ++ (BitVec.ofBool f.sat ++ (f.vd ++ (f.va ++ (f.vb ++ (f.vc ++ f.imm))))))))

/-- A matrix word. -/
def mxWord (sa : BitVec 5) : Word := insnWord 0 2 1 0 (sa ++ 0#44)

/-- A tally word. -/
def tallyWord (v : BitVec 1) (op : BitVec 8) (sa sb : BitVec 5) (r : BitVec 6) : Word :=
  insnWord v 3 op 0 (sa ++ (sb ++ (r ++ 0#33)))

/-- A mover word. -/
def movWord (v : BitVec 1) (op : BitVec 8) (sa : BitVec 5) : Word := insnWord v 4 op 0 (sa ++ 0#44)

/-- A Chime word. -/
def chimeWord (op : BitVec 8) (f : CF) : Word :=
  insnWord 0 5 op 0 (f.index ++ (f.sa ++ (BitVec.ofBool f.indirect ++ (f.after ++ (0#8 ++ f.arg)))))

/-- The word of an instruction of a list; none for a command that is no instruction. -/
def encodeInsn (i : Instr) : Option Word :=
  match i with
  | .add _ sd sa sb => some (seqWord 0x01 sd sa sb 0)
  | .sub _ sd sa sb => some (seqWord 0x02 sd sa sb 0)
  | .and _ sd sa sb => some (seqWord 0x03 sd sa sb 0)
  | .or _ sd sa sb => some (seqWord 0x04 sd sa sb 0)
  | .xor _ sd sa sb => some (seqWord 0x05 sd sa sb 0)
  | .shl _ sd sa sb => some (seqWord 0x06 sd sa sb 0)
  | .shr _ sd sa sb => some (seqWord 0x07 sd sa sb 0)
  | .mul _ sd sa sb => some (seqWord 0x08 sd sa sb 0)
  | .addi _ sd sa imm => some (seqWord 0x09 sd sa 0 imm)
  | .li _ sd imm => some (seqWord 0x0A sd 0 0 imm)
  | .lui _ sd imm => some (seqWord 0x0B sd 0 0 imm)
  | .ld _ sd sa imm => some (seqWord 0x10 sd sa 0 imm)
  | .st _ sa sb imm => some (seqWord 0x11 0 sa sb imm)
  | .beq _ sa sb imm => some (seqWord 0x18 0 sa sb imm)
  | .bne _ sa sb imm => some (seqWord 0x19 0 sa sb imm)
  | .blt _ sa sb imm => some (seqWord 0x1A 0 sa sb imm)
  | .bge _ sa sb imm => some (seqWord 0x1B 0 sa sb imm)
  | .seqHold _ => some (seqWord 0x20 0 0 0 0)
  | .seqEnd _ => some (seqWord 0x21 0 0 0 0)
  | .seqDrain _ => some (seqWord 0x22 0 0 0 0)
  | .seqBeat _ sd => some (seqWord 0x23 sd 0 0 0)
  | .seqCcount _ sd => some (seqWord 0x24 sd 0 0 0)
  | .vadd _ f => some (vecWord 0x01 f)
  | .vsub _ f => some (vecWord 0x02 f)
  | .vmul _ f => some (vecWord 0x03 f)
  | .vfma _ f => some (vecWord 0x04 f)
  | .vmin _ f => some (vecWord 0x05 f)
  | .vmax _ f => some (vecWord 0x06 f)
  | .vabs _ f => some (vecWord 0x07 f)
  | .vneg _ f => some (vecWord 0x08 f)
  | .vdiv _ f => some (vecWord 0x09 f)
  | .vsqrt _ f => some (vecWord 0x0A f)
  | .vrsqrt _ f => some (vecWord 0x0B f)
  | .vcvt _ f => some (vecWord 0x0C f)
  | .vrsum _ f => some (vecWord 0x0D f)
  | .vramax _ f => some (vecWord 0x0E f)
  | .vcmp _ f => some (vecWord 0x10 f)
  | .vsel _ f => some (vecWord 0x11 f)
  | .viadd _ f => some (vecWord 0x18 f)
  | .vand _ f => some (vecWord 0x19 f)
  | .vor _ f => some (vecWord 0x1A f)
  | .vxor _ f => some (vecWord 0x1B f)
  | .vshl _ f => some (vecWord 0x1C f)
  | .vshr _ f => some (vecWord 0x1D f)
  | .vld _ f => some (vecWord 0x20 f)
  | .vst _ f => some (vecWord 0x21 f)
  | .vbcast _ f => some (vecWord 0x22 f)
  | .vsetsr _ f => some (vecWord 0x23 f)
  | .pand _ f => some (vecWord 0x28 f)
  | .por _ f => some (vecWord 0x29 f)
  | .pnot _ f => some (vecWord 0x2A f)
  | .vcrc _ f => some (vecWord 0x30 f)
  | .mxeOp _ sa => some (mxWord sa)
  | .tallyPut _ sa sb r => some (tallyWord 0 0x01 sa sb r)
  | .tallyAny _ r => some (tallyWord 1 0x02 0 0 r)
  | .movCopy _ sa => some (movWord 0 0x01 sa)
  | .movXpose _ sa => some (movWord 0 0x02 sa)
  | .movSend _ sa => some (movWord 0 0x03 sa)
  | .movSenda _ sa => some (movWord 1 0x04 sa)
  | .movAadd _ sa => some (movWord 1 0x05 sa)
  | .chArrive _ f => some (chimeWord 0x01 f)
  | .chWait _ f => some (chimeWord 0x02 f)
  | .chReset _ f => some (chimeWord 0x03 f)
  | _ => none

/-- The word of an instruction, zero for a command that is none: what a fault entry records (17 R529). -/
def insnBits (i : Instr) : Nat := ((encodeInsn i).getD 0).toNat

/-- The fields of a vector word. -/
def vecFields (w : Word) : VF :=
  ⟨w.extractLsb' 47 2, w.extractLsb' 43 4, w.extractLsb' 41 2, w.getLsbD 40, w.extractLsb' 34 6, w.extractLsb' 28 6,
   w.extractLsb' 22 6, w.extractLsb' 16 6, w.extractLsb' 0 16, w.extractLsb' 49 3⟩

/-- The fields of a Chime word. -/
def chimeFields (w : Word) : CF :=
  ⟨w.extractLsb' 34 15, w.extractLsb' 29 5, w.getLsbD 28, w.extractLsb' 24 4, w.extractLsb' 0 16⟩

/-- The instruction of a sequencer word, by OP (06 R217). -/
def seqInsn (c : Fin 64) (w : Word) : Option Instr :=
  let sd := w.extractLsb' 44 5
  let sa := w.extractLsb' 39 5
  let sb := w.extractLsb' 34 5
  let imm := w.extractLsb' 0 32
  match (w.extractLsb' 52 8).toNat with
  | 0x01 => some (.add c sd sa sb)
  | 0x02 => some (.sub c sd sa sb)
  | 0x03 => some (.and c sd sa sb)
  | 0x04 => some (.or c sd sa sb)
  | 0x05 => some (.xor c sd sa sb)
  | 0x06 => some (.shl c sd sa sb)
  | 0x07 => some (.shr c sd sa sb)
  | 0x08 => some (.mul c sd sa sb)
  | 0x09 => some (.addi c sd sa imm)
  | 0x0A => some (.li c sd imm)
  | 0x0B => some (.lui c sd imm)
  | 0x10 => some (.ld c sd sa imm)
  | 0x11 => some (.st c sa sb imm)
  | 0x18 => some (.beq c sa sb imm)
  | 0x19 => some (.bne c sa sb imm)
  | 0x1A => some (.blt c sa sb imm)
  | 0x1B => some (.bge c sa sb imm)
  | 0x20 => some (.seqHold c)
  | 0x21 => some (.seqEnd c)
  | 0x22 => some (.seqDrain c)
  | 0x23 => some (.seqBeat c sd)
  | 0x24 => some (.seqCcount c sd)
  | _ => none

/-- The instruction of a vector word, by OP (06 R218). -/
def vecInsn (c : Fin 64) (w : Word) : Option Instr :=
  let f := vecFields w
  match (w.extractLsb' 52 8).toNat with
  | 0x01 => some (.vadd c f)
  | 0x02 => some (.vsub c f)
  | 0x03 => some (.vmul c f)
  | 0x04 => some (.vfma c f)
  | 0x05 => some (.vmin c f)
  | 0x06 => some (.vmax c f)
  | 0x07 => some (.vabs c f)
  | 0x08 => some (.vneg c f)
  | 0x09 => some (.vdiv c f)
  | 0x0A => some (.vsqrt c f)
  | 0x0B => some (.vrsqrt c f)
  | 0x0C => some (.vcvt c f)
  | 0x0D => some (.vrsum c f)
  | 0x0E => some (.vramax c f)
  | 0x10 => some (.vcmp c f)
  | 0x11 => some (.vsel c f)
  | 0x18 => some (.viadd c f)
  | 0x19 => some (.vand c f)
  | 0x1A => some (.vor c f)
  | 0x1B => some (.vxor c f)
  | 0x1C => some (.vshl c f)
  | 0x1D => some (.vshr c f)
  | 0x20 => some (.vld c f)
  | 0x21 => some (.vst c f)
  | 0x22 => some (.vbcast c f)
  | 0x23 => some (.vsetsr c f)
  | 0x28 => some (.pand c f)
  | 0x29 => some (.por c f)
  | 0x2A => some (.pnot c f)
  | 0x30 => some (.vcrc c f)
  | _ => none

/-- The instruction of a word of another unit, by UNIT, V and OP (06 R212, R224, R228 to R230, R232). -/
def unitInsn (c : Fin 64) (w : Word) : Option Instr :=
  let sa := w.extractLsb' 44 5
  let sb := w.extractLsb' 39 5
  let r := w.extractLsb' 33 6
  let f := chimeFields w
  match (w.extractLsb' 60 3).toNat, w.getLsbD 63, (w.extractLsb' 52 8).toNat with
  | 2, false, 0x01 => some (.mxeOp c sa)
  | 3, false, 0x01 => some (.tallyPut c sa sb r)
  | 3, true, 0x02 => some (.tallyAny c r)
  | 4, false, 0x01 => some (.movCopy c sa)
  | 4, false, 0x02 => some (.movXpose c sa)
  | 4, false, 0x03 => some (.movSend c sa)
  | 4, true, 0x04 => some (.movSenda c sa)
  | 4, true, 0x05 => some (.movAadd c sa)
  | 5, false, 0x01 => some (.chArrive c f)
  | 5, false, 0x02 => some (.chWait c f)
  | 5, false, 0x03 => some (.chReset c f)
  | _, _, _ => none

/-- Whether the reserved fields of a word are zero, by UNIT (06 R213, R215). -/
def reservedZero (w : Word) : Bool :=
  match (w.extractLsb' 60 3).toNat with
  | 0 => decide (w.extractLsb' 32 2 = 0)
  | 1 => true
  | 2 => decide (w.extractLsb' 0 44 = 0)
  | 3 => decide (w.extractLsb' 0 33 = 0)
  | 4 => decide (w.extractLsb' 0 44 = 0)
  | _ => decide (w.extractLsb' 16 8 = 0)

/-- The instruction that a word of a list of cluster c spells; none for an encoding that R213 of spec/06 forbids. -/
def decodeInsn (c : Fin 64) (w : Word) : Option Instr :=
  let unit := (w.extractLsb' 60 3).toNat
  let i := if unit = 0 then (if w.getLsbD 63 then none else seqInsn c w)
    else if unit = 1 then (if w.getLsbD 63 then none else vecInsn c w)
    else unitInsn c w
  if reservedZero w && (decide (unit = 1) || decide (w.extractLsb' 49 3 = 0)) then i.filter Instr.wf else none

end Sys2Proof
end

