-- ==== Sys2Proof/Config.lean ====
section
/-!
DEFINITION. Config.lean: what the spec leaves to an implementation or does not fix, as constants without a body: nothing
can be proved about their values. Each is named in a log entry under notes/assumptions.
-/
namespace Sys2Proof.Config

/-- The rounding of AVG_W to whole watts for a sum of 1,000 samples: whether it goes up (01 R30, R36; log entry 5). -/
opaque avgUp : Nat → Bool

/-- The rate correction the device publishes in RATE_PPB (02 R72, R75; log entry 5), at the n-th publication. -/
opaque ratePpb : Nat → BitVec 24

/-- A byte of Bushel memory as a reader finds it: the layout of accumulators in a Peck is not given (04 R156, R159; log
entry 6), at the n-th read. -/
opaque bushelByte : Nat → BitVec 8

/-- The bytes of an identity signature (19 R580; log entry 5) over the n-th record. -/
opaque signature : Nat → List (BitVec 8)

/-- The SHA-256 of the verification key set that the fuses hold (19 R571; log entry 5). -/
opaque vkeyHash : List (BitVec 8)

/-- Whether the wrapped identity unwraps with the key that the hub SRAM's start-up gives (19 R579; log entry 5), at the
n-th start. -/
opaque unwraps : Nat → Bool

/-- Whether a processor reports ready within 100 ms of its load (19 R576; log entry 5), at the n-th load. -/
opaque partReady : Nat → Bool

/-- Whether every program and erase of boot flash succeeded (19 R583; log entry 5), at the n-th staging. -/
opaque flashOk : Nat → Bool

/-- The device's own round-trip time in a probe round (02 R87, R88; log entry 5), at the n-th round; cut to 60,000 CK. -/
opaque probeRtt : Nat → Nat

/-- The four bits 35:32 of a PROBE block, which 14 R435 gives both to ACRE and to VALUE (log entry 5), at the n-th block. -/
opaque probeShared : Nat → BitVec 4

/-- MSG of the message a mover or a memory controller sends: the sender's choice (10 R330; log entry 5), at the n-th message. -/
opaque message : Nat → BitVec 16

/-- An INT32 sum of MOV.AADD outside the range of INT32: the manual states no result (06 R229; log entry 5), at the n-th use. -/
opaque aaddSum : Nat → BitVec 32

/-- The INDEX in a pool link word that would lie outside tier 1: nothing lies there (12 R404; log entry 25), at the n-th use. -/
opaque poolLink : Nat → BitVec 24

/-- The shard list of an image head that the device forms: no rule says where it has the places of its shards from (18 R542; log entry
32), at the n-th head. -/
opaque shards : Nat → List (BitVec 64)

/-- SAVE_SEQ of a head that is formed for no save (18 R542, R549; log entry 32), at the n-th head. -/
opaque fillSeq : Nat → BitVec 64

/-- The device of the unit that sent a TALLY or CONTROL cell on a multicast set: neither field carries it (11 R373; log entry 76), by the
cell's header. -/
opaque sender : BitVec 128 → BitVec 128 → BitVec 32

/-- Where the payload of a DATA cell for this device goes: the data header has no address (10 R330, R334; 07 R250; log entry 52). -/
opaque cellPlace : BitVec 128 → BitVec 128 → BitVec 48

/-- The AFMT in which the payload of a DATA cell is added to memory, for a cell of MOV.AADD (06 R229); none for one that is stored. The
data header does not carry it (10 R330; log entry 52). -/
opaque cellAdd : BitVec 128 → BitVec 128 → Option (BitVec 4)

/-- Whether a destination set of that index is one that a shard's weight stream goes to: the mover block has no field for MCAST (06 R229; 08
R291; 10 R328; log entry 77), by ROUTE. -/
opaque sendsSet : Nat → Bool

end Sys2Proof.Config
end

