-- ==== Sys2Proof/Machine/Crypto.lean ====
section
/-!
DEFINITION. Machine/Crypto.lean: byte order (00 R8), CRC-32C (04 R144), SHA-256 (07 R237, R238) and the modular
exponentiation of signature checks (19 R571).
-/
namespace Sys2Proof.Machine

/-- The number whose little-endian bytes these are (00 R8). -/
def leNat : List Byte → Nat
  | [] => 0
  | b :: t => b.toNat + 256 * leNat t

/-- The `n` little-endian bytes of a number (00 R8). -/
def leBytes : Nat → Nat → List Byte
  | 0, _ => []
  | n + 1, v => BitVec.ofNat 8 v :: leBytes n (v / 256)

/-- The number whose big-endian bytes these are. -/
def beNat (l : List Byte) : Nat := leNat l.reverse

/-- Exactly `n` bytes: cut, or padded with zeros. -/
def fitBytes (n : Nat) (l : List Byte) : List Byte := (l ++ List.replicate n 0).take n

/-- Bits `hi : lo` of a number (00 R7). -/
def bitsOf (v hi lo : Nat) : Nat := (v >>> lo) % 2 ^ (hi + 1 - lo)

/-- One bit of a number. -/
def bitOf (v n : Nat) : Bool := v.testBit n

/-- 1 for true. -/
def b2n (b : Bool) : Nat := if b then 1 else 0

/-- A two's complement field of `w` bits as an integer. -/
def sxt (w v : Nat) : Int := if v % 2 ^ w < 2 ^ (w - 1) then (v % 2 ^ w : Nat) else ((v % 2 ^ w : Nat) : Int) - (2 ^ w : Nat)

/-- An integer as a two's complement field of `w` bits. -/
def toField (w : Nat) (i : Int) : Nat := (i % ((2 ^ w : Nat) : Int)).toNat

/-- One bit step of the reflected CRC-32C. -/
def crcStep (c : Nat) : Nat := if c % 2 = 1 then (c / 2) ^^^ 0x82F63B78 else c / 2

/-- `n` bit steps. -/
def crcSteps : Nat → Nat → Nat
  | 0, c => c
  | n + 1, c => crcSteps n (crcStep c)

/-- The CRC register after one byte. -/
def crcByte (c : Nat) (b : Byte) : Nat := crcSteps 8 (c ^^^ b.toNat)

/-- The CRC register run over bytes from a starting state. -/
def crcRun (c : Nat) (l : List Byte) : Nat := l.foldl crcByte c

/-- CRC-32C: initial value and final XOR of all ones (04 R144). -/
def crc32c (l : List Byte) : Nat := (crcRun 0xFFFFFFFF l) ^^^ 0xFFFFFFFF

/-- The largest `r` below `r0 + 2 ^ n` with `r ^ k ≤ v`, found bit by bit from `r0`. -/
def rootFrom (k v : Nat) : Nat → Nat → Nat
  | 0, r => r
  | n + 1, r => rootFrom k v n (if (r + 2 ^ n) ^ k ≤ v then r + 2 ^ n else r)

/-- The first 32 bits of the fraction of the `k`-th root of `p`: SHA-256 takes its constants from such roots. -/
def rootFraction (k p : Nat) : Nat := rootFrom k (p * 2 ^ (32 * k)) 36 0 % 2 ^ 32

/-- The primes below 312: the first 64. -/
def primes64 : List Nat := (List.range 312).filter (fun p => decide (2 ≤ p) && (List.range p).all (fun d => decide (d < 2) || decide (p % d ≠ 0)))

/-- The round constants of SHA-256: from the cube roots of the first 64 primes. -/
def shaK : List Nat := primes64.map (rootFraction 3)

/-- The eight working words of SHA-256. -/
structure Sha where
  a : BitVec 32
  b : BitVec 32
  c : BitVec 32
  d : BitVec 32
  e : BitVec 32
  f : BitVec 32
  g : BitVec 32
  h : BitVec 32
  deriving DecidableEq, Repr

/-- The initial hash value: from the square roots of the first eight primes. -/
def shaInit : Sha :=
  let r := fun p => BitVec.ofNat 32 (rootFraction 2 p)
  ⟨r 2, r 3, r 5, r 7, r 11, r 13, r 17, r 19⟩

/-- One round with its constant and message word. -/
def shaRound (s : Sha) (kw : Nat × BitVec 32) : Sha :=
  let s1 := s.e.rotateRight 6 ^^^ s.e.rotateRight 11 ^^^ s.e.rotateRight 25
  let ch := (s.e &&& s.f) ^^^ (~~~s.e &&& s.g)
  let t1 := s.h + s1 + ch + BitVec.ofNat 32 kw.1 + kw.2
  let s0 := s.a.rotateRight 2 ^^^ s.a.rotateRight 13 ^^^ s.a.rotateRight 22
  let mj := (s.a &&& s.b) ^^^ (s.a &&& s.c) ^^^ (s.b &&& s.c)
  ⟨t1 + (s0 + mj), s.a, s.b, s.c, s.d + t1, s.e, s.f, s.g⟩

/-- The message schedule: `n` more words after a reversed list of those so far. -/
def shaExtend : Nat → List (BitVec 32) → List (BitVec 32)
  | 0, w => w
  | n + 1, w =>
    let x15 := w.getD 14 0
    let x2 := w.getD 1 0
    let s0 := x15.rotateRight 7 ^^^ x15.rotateRight 18 ^^^ (x15 >>> 3)
    let s1 := x2.rotateRight 17 ^^^ x2.rotateRight 19 ^^^ (x2 >>> 10)
    shaExtend n ((w.getD 15 0 + s0 + w.getD 6 0 + s1) :: w)

/-- Big-endian 32-bit words of bytes, four at a time, `n` of them. -/
def beWords : Nat → List Byte → List (BitVec 32)
  | 0, _ => []
  | n + 1, l => BitVec.ofNat 32 (beNat (l.take 4)) :: beWords n (l.drop 4)

/-- The hash after one 64-byte block. -/
def shaBlock (s : Sha) (blk : List Byte) : Sha :=
  let w := (shaExtend 48 (beWords 16 blk).reverse).reverse
  let t := (shaK.zip w).foldl shaRound s
  ⟨s.a + t.a, s.b + t.b, s.c + t.c, s.d + t.d, s.e + t.e, s.f + t.f, s.g + t.g, s.h + t.h⟩

/-- The hash over `n` blocks. -/
def shaBlocks : Nat → Sha → List Byte → Sha
  | 0, s, _ => s
  | n + 1, s, l => shaBlocks n (shaBlock s (l.take 64)) (l.drop 64)

/-- Four big-endian bytes of a word. -/
def be4 (w : BitVec 32) : List Byte := (leBytes 4 w.toNat).reverse

/-- SHA-256 of bytes. -/
def sha256 (l : List Byte) : List Byte :=
  let n := l.length
  let z := (119 - n % 64) % 64
  let p := l ++ [0x80] ++ List.replicate z 0 ++ (leBytes 8 (8 * n)).reverse
  let s := shaBlocks (p.length / 64) shaInit p
  be4 s.a ++ be4 s.b ++ be4 s.c ++ be4 s.d ++ be4 s.e ++ be4 s.f ++ be4 s.g ++ be4 s.h

/-- Modular exponentiation by squaring, `n` exponent bits. -/
def powModAux (m : Nat) : Nat → Nat → Nat → Nat → Nat
  | 0, _, _, acc => acc
  | n + 1, b, e, acc => powModAux m n (b * b % m) (e / 2) (if e % 2 = 1 then acc * b % m else acc)

/-- `b ^ e mod m`. -/
def powMod (b e m : Nat) : Nat := powModAux m (e.log2 + 1) (b % m) e 1

/-- The exclusive-or of two byte strings, as long as the shorter. -/
def bytesXor (a b : List Byte) : List Byte := (a.zip b).map (fun p => p.1 ^^^ p.2)

/-- `n` bytes, big-endian. -/
def beBytes (n v : Nat) : List Byte := (leBytes n v).reverse

/-- MGF1 of RFC 8017 with SHA-256: `n` blocks of 32 bytes. -/
def mgf1 (seed : List Byte) (n : Nat) : List Byte := (List.range n).flatMap (fun i => sha256 (seed ++ beBytes 4 i))

/-- Verification of RSASSA-PSS of RFC 8017 with a 3,072-bit modulus, exponent 65,537, SHA-256, MGF1 with SHA-256 and a salt of 32
bytes (19 R570). `key` is the modulus, 384 bytes big-endian, then the exponent, 4 bytes. -/
def pssVerify (key msg sig : List Byte) : Bool :=
  let n := beNat (key.take 384)
  let v := beNat sig
  let em := beBytes 384 (powMod v 65537 n)
  let h := (em.drop 351).take 32
  let db := bytesXor (em.take 351) (mgf1 h 11)
  let db0 := (db.headD 0 &&& 0x7F) :: db.drop 1
  decide (n.log2 = 3071) && decide (beNat ((key.drop 384).take 4) = 65537) && decide (sig.length = 384) && decide (v < n) &&
    decide (em.getLastD 0 = 0xbc) && decide ((em.headD 0).toNat < 128) &&
    decide (db0.take 319 = List.replicate 318 0 ++ [1]) &&
    decide (sha256 (List.replicate 8 0 ++ sha256 msg ++ db0.drop 319) = h)

end Sys2Proof.Machine
end

