-- ==== Sys2Proof/Machine/Fields.lean ====
section
/-!
DEFINITION. Machine/Fields.lean: every register field the manual names, from its register tables: where it lies in
register space (20 R594), its bits, access code (00 R16), reset value (00 R15), whether it stays writable once the rings
are live (15 R476; 20 R599), whether only the loader writes it, whether host software never writes it, and whether
it keeps its value across a device reset (00 R15).
-/
namespace Sys2Proof.Machine

/-- The access codes of 00 R16. -/
inductive Access where
  | ro | rw | w1c | w1s | wo | rc
  deriving DecidableEq, Repr

/-- One field of one kind of register. `base` is the byte offset in register space of instance 0, `stride` the distance
of two instances, `count` their number, `lo` the lowest bit and `width` the number of bits. -/
structure Field where
  base : Nat
  stride : Nat
  count : Nat
  lo : Nat
  width : Nat
  acc : Access
  reset : Nat
  live : Bool
  loader : Bool
  hub : Bool
  keep : Bool
  deriving DecidableEq, Repr

/-- The key of instance `n` of a field in the register table: its register's offset and its lowest bit. -/
def Field.key (f : Field) (n : Nat) : Nat := (f.base + f.stride * n) * 64 + f.lo

/-- Whether the register at byte offset `a` of register space holds this field. -/
def Field.at (f : Field) (a : Nat) : Bool :=
  decide (f.base ≤ a) && (decide ((a - f.base) % f.stride = 0) && decide ((a - f.base) / f.stride < f.count))

/-- Which instance of this field's register lies at byte offset `a`. -/
def Field.inst (f : Field) (a : Nat) : Nat := (a - f.base) / f.stride

namespace F

/-- BEAT_PERIOD[47:24], 02 R113: Stretch in CK; reset is 156,250 -/
def BEAT_PERIOD_STRETCH : Field := ⟨0x0, 8, 1, 24, 24, .ro, 0x2625a, false, true, false, false⟩
/-- BEAT_PERIOD[23:0], 02 R113: Period in CK; reset is 1,250,000 -/
def BEAT_PERIOD_PERIOD : Field := ⟨0x0, 8, 1, 0, 24, .ro, 0x1312d0, false, true, false, false⟩
/-- BEAT_LEAD[23:0], 02 R113: HOLD check lead in CK -/
def BEAT_LEAD_HOLD_LEAD : Field := ⟨0x8, 8, 1, 0, 24, .ro, 0, false, true, false, false⟩
/-- BEAT_LAUNCH[63:0], 02 R113: Toll count of launch -/
def BEAT_LAUNCH_LAUNCH_TOLL : Field := ⟨0x10, 8, 1, 0, 64, .ro, 0, false, true, false, false⟩
/-- BEAT_NUM[47:0], 02 R113: Number of the Beat now running -/
def BEAT_NUM_NUM : Field := ⟨0x18, 8, 1, 0, 48, .ro, 0, false, false, false, false⟩
/-- BEAT_NEXT[63:0], 02 R113: Toll count of the next boundary -/
def BEAT_NEXT_BOUNDARY : Field := ⟨0x20, 8, 1, 0, 64, .ro, 0, false, false, false, false⟩
/-- BEAT_STATUS[13:12], 02 R113: Consecutive replays of the current Beat -/
def BEAT_STATUS_REPLAY_RUN : Field := ⟨0x28, 8, 1, 12, 2, .ro, 0, false, false, false, false⟩
/-- BEAT_STATUS[11:8], 02 R113: Stretches granted to the current Beat -/
def BEAT_STATUS_STRETCHES : Field := ⟨0x28, 8, 1, 8, 4, .ro, 0, false, false, false, false⟩
/-- BEAT_STATUS[2:0], 02 R113: 0 IDLE; 1 ARMED; 2 RUNNING; 3 HALTED; 4 LEFT -/
def BEAT_STATUS_STATE : Field := ⟨0x28, 8, 1, 0, 3, .ro, 0, false, false, false, false⟩
/-- BEAT_COUNTS[63:32], 02 R113: Replays begun -/
def BEAT_COUNTS_REPLAYS : Field := ⟨0x30, 8, 1, 32, 32, .rc, 0, false, false, false, false⟩
/-- BEAT_COUNTS[31:0], 02 R113: Stretches granted -/
def BEAT_COUNTS_STRETCHES : Field := ⟨0x30, 8, 1, 0, 32, .rc, 0, false, false, false, false⟩
/-- BEAT_CLAVE_CFG[1:0], 02 R113: 0 OFF; 1 MONITOR; 2 FOLLOW; 3 treated as OFF -/
def BEAT_CLAVE_CFG_MODE : Field := ⟨0x38, 8, 1, 0, 2, .rw, 0, true, false, false, false⟩
/-- BEAT_CLAVE_EDGE[63:0], 02 R113: Toll count of the last accepted edge -/
def BEAT_CLAVE_EDGE_EDGE : Field := ⟨0x40, 8, 1, 0, 64, .ro, 0, false, false, false, false⟩
/-- BEAT_CLAVE_STATUS[47:24], 02 R113: d of the last accepted edge, two's complement CK -/
def BEAT_CLAVE_STATUS_LAST_D : Field := ⟨0x48, 8, 1, 24, 24, .ro, 0, false, false, false, false⟩
/-- BEAT_CLAVE_STATUS[23:0], 02 R113: Pending adjustment, two's complement CK -/
def BEAT_CLAVE_STATUS_PEND : Field := ⟨0x48, 8, 1, 0, 24, .ro, 0, false, false, false, false⟩
/-- BEAT_CLAVE_COUNTS[63:32], 02 R113: Edges discarded under R61 -/
def BEAT_CLAVE_COUNTS_DISCARDED : Field := ⟨0x50, 8, 1, 32, 32, .rc, 0, false, false, false, false⟩
/-- BEAT_CLAVE_COUNTS[31:0], 02 R113: Edges accepted -/
def BEAT_CLAVE_COUNTS_ACCEPTED : Field := ⟨0x50, 8, 1, 0, 32, .rc, 0, false, false, false, false⟩
/-- TOLL_COUNT[63:0], 02 R75: Toll count -/
def TOLL_COUNT_COUNT : Field := ⟨0x10000, 8, 1, 0, 64, .ro, 0, false, false, false, false⟩
/-- TOLL_PRESET[63:0], 02 R75: On the Toll reference in state FREE, while no Score runs, sets COUNT to VALUE and enters LOCKED; in any other case
the write is ignored and PRESET_REJ is set -/
def TOLL_PRESET_VALUE : Field := ⟨0x10008, 8, 1, 0, 64, .wo, 0, false, false, false, false⟩
/-- TOLL_STATUS[63:40], 02 R75: Present rate correction, two's complement, parts per 10⁹ -/
def TOLL_STATUS_RATE_PPB : Field := ⟨0x10010, 8, 1, 40, 24, .ro, 0, false, false, false, false⟩
/-- TOLL_STATUS[39:32], 02 R75: Hops from the Toll reference. It is 0 on the reference. On any other device it is 0 until the device has taken a
TICK block from its parent port, and after that it is the DEPTH carried by the last such TICK block, by R435, plus one, saturating at 255 -/
def TOLL_STATUS_DEPTH : Field := ⟨0x10010, 8, 1, 32, 8, .ro, 0, false, false, false, false⟩
/-- TOLL_STATUS[31:16], 02 R75: Last measured offset, two's complement, 1/16 CK; an offset beyond the field's range reads as 0x7FFF or 0x8000 -/
def TOLL_STATUS_OFFSET : Field := ⟨0x10010, 8, 1, 16, 16, .ro, 0, false, false, false, false⟩
/-- TOLL_STATUS[8:8], 02 R75: A TOLL_PRESET write was ignored -/
def TOLL_STATUS_PRESET_REJ : Field := ⟨0x10010, 8, 1, 8, 1, .w1c, 0, false, false, false, false⟩
/-- TOLL_STATUS[1:0], 02 R75: 0 FREE; 1 COARSE; 2 LOCKED; 3 LOST -/
def TOLL_STATUS_STATE : Field := ⟨0x10010, 8, 1, 0, 2, .ro, 0, false, false, false, false⟩
/-- TOLL_DELAY[31:0], 02 R75: One-way delay from the parent, 1/16 CK -/
def TOLL_DELAY_DELAY : Field := ⟨0x10018, 8, 1, 0, 32, .ro, 0, false, false, false, false⟩
/-- TOLL_EXCURSIONS[31:0], 02 R75: Marks taken while LOCKED with an offset beyond ±4 CK; holds at 0xFFFF_FFFF -/
def TOLL_EXCURSIONS_SLEWS : Field := ⟨0x10020, 8, 1, 0, 32, .rc, 0, false, false, false, false⟩
/-- GONG_CFG[14:8], 02 R114: Port toward the root; ignored when ROOT is set -/
def GONG_CFG_PARENT_PORT : Field := ⟨0x20000, 8, 1, 8, 7, .rw, 0, false, false, false, false⟩
/-- GONG_CFG[0:0], 02 R114: This device is the Gong root and Toll reference -/
def GONG_CFG_ROOT : Field := ⟨0x20000, 8, 1, 0, 1, .rw, 0, false, false, false, false⟩
/-- GONG_CHILD_LO[63:0], 02 R114: Bit n marks port n (LO) or port 64 + n (HI) as a child -/
def GONG_CHILD_LO_CHILD : Field := ⟨0x20008, 8, 1, 0, 64, .rw, 0, false, false, false, false⟩
/-- GONG_CHILD_HI[63:0], 02 R114: Bit n marks port n (LO) or port 64 + n (HI) as a child -/
def GONG_CHILD_HI_CHILD : Field := ⟨0x20010, 8, 1, 0, 64, .rw, 0, false, false, false, false⟩
/-- GONG_LAT[63:32], 02 R114: Longest seal-to-word time seen since the last read -/
def GONG_LAT_MAX_CK : Field := ⟨0x20018, 8, 1, 32, 32, .rc, 0, false, false, false, false⟩
/-- GONG_LAT[31:0], 02 R114: Acre Gong latency from the last probe round -/
def GONG_LAT_MEAS_CK : Field := ⟨0x20018, 8, 1, 0, 32, .ro, 0, false, false, false, false⟩
/-- GONG_SEAL_LO[63:0], 02 R114: Bits 63:0 (LO) and 127:64 (HI) of the last seal sent -/
def GONG_SEAL_LO_SEAL : Field := ⟨0x20020, 8, 1, 0, 64, .ro, 0, false, false, false, false⟩
/-- GONG_SEAL_HI[63:0], 02 R114: Bits 63:0 (LO) and 127:64 (HI) of the last seal sent -/
def GONG_SEAL_HI_SEAL : Field := ⟨0x20028, 8, 1, 0, 64, .ro, 0, false, false, false, false⟩
/-- GONG_WORD_LO[63:0], 02 R114: Bits 63:0 (LO) and 127:64 (HI) of the last Gong word received -/
def GONG_WORD_LO_WORD : Field := ⟨0x20030, 8, 1, 0, 64, .ro, 0, false, false, false, false⟩
/-- GONG_WORD_HI[63:0], 02 R114: Bits 63:0 (LO) and 127:64 (HI) of the last Gong word received -/
def GONG_WORD_HI_WORD : Field := ⟨0x20038, 8, 1, 0, 64, .ro, 0, false, false, false, false⟩
/-- GONG_VOUCH[47:0], 02 R114: The Beat the Sexton vouches for; writes over the Acvel link are ignored -/
def GONG_VOUCH_BEAT : Field := ⟨0x20040, 8, 1, 0, 48, .wo, 0, false, false, true, false⟩
/-- GONG_CAUSES[15:0], 02 R114: OR of CAUSE in every Gong word received since the last read -/
def GONG_CAUSES_CAUSE_ACC : Field := ⟨0x20048, 8, 1, 0, 16, .rc, 0, false, false, false, false⟩
/-- GONG_WAIT[47:24], 02 R114: Latest child seal arrival in the last probe round -/
def GONG_WAIT_SUBTREE_CK : Field := ⟨0x20050, 8, 1, 24, 24, .ro, 0, false, false, false, false⟩
/-- GONG_WAIT[23:0], 02 R114: Wait for child seals in CK; reset is 32,768; raised by the loader under R88 -/
def GONG_WAIT_SEAL_WAIT : Field := ⟨0x20050, 8, 1, 0, 24, .rw, 0x8000, false, true, false, false⟩
/-- CHIME_CFG[30:16], 02 R111: Score Chimes on Die 1 -/
def CHIME_CFG_SCORE_CHIMES_D1 : Field := ⟨0x30000, 8, 1, 16, 15, .ro, 0, false, true, false, false⟩
/-- CHIME_CFG[14:0], 02 R111: Score Chimes on Die 0 -/
def CHIME_CFG_SCORE_CHIMES_D0 : Field := ⟨0x30000, 8, 1, 0, 15, .ro, 0, false, true, false, false⟩
/-- CHIME_STATUS[47:47], 02 R112: A COUNT has saturated -/
def CHIME_STATUS_OVF : Field := ⟨0x30008, 8, 1, 47, 1, .w1c, 0, false, false, false, false⟩
/-- CHIME_STATUS[46:32], 02 R112: Index of the first saturation since OVF was clear -/
def CHIME_STATUS_OVF_INDEX : Field := ⟨0x30008, 8, 1, 32, 15, .ro, 0, false, false, false, false⟩
/-- CHIME_STATUS[31:16], 02 R112: Operations discarded under R108; holds at 0xFFFF -/
def CHIME_STATUS_STALE : Field := ⟨0x30008, 8, 1, 16, 16, .rc, 0, false, false, false, false⟩
/-- CHIME_STATUS[8:0], 02 R112: Deepest queue on either die since the last read -/
def CHIME_STATUS_QMAX : Field := ⟨0x30008, 8, 1, 0, 9, .rc, 0, false, false, false, false⟩
/-- TALLY_CFG[47:32], 04 R170: Open Bushel timeout in units of 1,024 CK; reset is 1,024; 0 is treated as 1 -/
def TALLY_CFG_TIMEOUT_K : Field := ⟨0x40000, 8, 1, 32, 16, .rw, 0x400, true, false, false, false⟩
/-- TALLY_CFG[22:16], 04 R170: Records reserved for the Score in every cluster, 0–64 -/
def TALLY_CFG_SCORE_RECORDS : Field := ⟨0x40000, 8, 1, 16, 7, .ro, 0, false, true, false, false⟩
/-- TALLY_CFG[9:0], 04 R170: Pecks reserved for the Score in every cluster, 0–512 -/
def TALLY_CFG_SCORE_PECKS : Field := ⟨0x40000, 8, 1, 0, 10, .ro, 0, false, true, false, false⟩
/-- TALLY_PARK[63:32], 04 R170: Inputs held outside the park area under R166; holds at 0xFFFF_FFFF -/
def TALLY_PARK_PARK_SPILL : Field := ⟨0x40008, 8, 1, 32, 32, .rc, 0, false, false, false, false⟩
/-- TALLY_PARK[28:16], 04 R170: Cells now parked on Die 1 -/
def TALLY_PARK_PARKED_D1 : Field := ⟨0x40008, 8, 1, 16, 13, .ro, 0, false, false, false, false⟩
/-- TALLY_PARK[12:0], 04 R170: Cells now parked on Die 0 -/
def TALLY_PARK_PARKED_D0 : Field := ⟨0x40008, 8, 1, 0, 13, .ro, 0, false, false, false, false⟩
/-- TALLY_DISCARD_A[63:48], 04 R170: Cells discarded under R143 -/
def TALLY_DISCARD_A_FMT_BAD : Field := ⟨0x40010, 8, 1, 48, 16, .rc, 0, false, false, false, false⟩
/-- TALLY_DISCARD_A[47:32], 04 R170: Cells or chunks discarded under R147 and R151 -/
def TALLY_DISCARD_A_NODE_BAD : Field := ⟨0x40010, 8, 1, 32, 16, .rc, 0, false, false, false, false⟩
/-- TALLY_DISCARD_A[31:16], 04 R170: Cells discarded under R167 -/
def TALLY_DISCARD_A_SEQ_MISMATCH : Field := ⟨0x40010, 8, 1, 16, 16, .rc, 0, false, false, false, false⟩
/-- TALLY_DISCARD_A[15:0], 04 R170: Cells discarded under R145 -/
def TALLY_DISCARD_A_CSUM_BAD : Field := ⟨0x40010, 8, 1, 0, 16, .rc, 0, false, false, false, false⟩
/-- TALLY_DISCARD_B[47:32], 04 R170: Cells discarded under R153 -/
def TALLY_DISCARD_B_STALE_BEAT : Field := ⟨0x40018, 8, 1, 32, 16, .rc, 0, false, false, false, false⟩
/-- TALLY_DISCARD_B[31:16], 04 R170: Cells discarded under R149 -/
def TALLY_DISCARD_B_DUP : Field := ⟨0x40018, 8, 1, 16, 16, .rc, 0, false, false, false, false⟩
/-- TALLY_DISCARD_B[15:0], 04 R170: Cells discarded under R162 -/
def TALLY_DISCARD_B_REJECTED : Field := ⟨0x40018, 8, 1, 0, 16, .rc, 0, false, false, false, false⟩
/-- TALLY_CLUSTER[35:35], 04 R170: An INT32 accumulator saturated -/
def TALLY_CLUSTER_ISAT : Field := ⟨0x40100, 8, 64, 35, 1, .w1c, 0, false, false, false, false⟩
/-- TALLY_CLUSTER[34:34], 04 R170: An accumulator or output conversion overflowed -/
def TALLY_CLUSTER_OVF : Field := ⟨0x40100, 8, 64, 34, 1, .w1c, 0, false, false, false, false⟩
/-- TALLY_CLUSTER[33:33], 04 R170: A NaN was produced from non-NaN inputs -/
def TALLY_CLUSTER_INV : Field := ⟨0x40100, 8, 64, 33, 1, .w1c, 0, false, false, false, false⟩
/-- TALLY_CLUSTER[32:32], 04 R170: An input was NaN, or an MX block scale was 0xFF -/
def TALLY_CLUSTER_NANIN : Field := ⟨0x40100, 8, 64, 32, 1, .w1c, 0, false, false, false, false⟩
/-- TALLY_CLUSTER[30:24], 04 R170: Valid records, 0–64 -/
def TALLY_CLUSTER_ACTIVE : Field := ⟨0x40100, 8, 64, 24, 7, .ro, 0, false, false, false, false⟩
/-- TALLY_CLUSTER[19:10], 04 R170: Longest run of free Pecks -/
def TALLY_CLUSTER_LARGEST_RUN : Field := ⟨0x40100, 8, 64, 10, 10, .ro, 0x200, false, false, false, false⟩
/-- TALLY_CLUSTER[9:0], 04 R170: Free Pecks -/
def TALLY_CLUSTER_FREE : Field := ⟨0x40100, 8, 64, 0, 10, .ro, 0x200, false, false, false, false⟩
/-- MXE_CFG[9:9], 05 R201: Results are held to SCORED_LAT, by R188 -/
def MXE_CFG_FIXED_LAT : Field := ⟨0x50000, 8, 1, 9, 1, .ro, 0, false, true, false, false⟩
/-- MXE_CFG[8:0], 05 R201: Latency used under FIXED_LAT, in CK; reset is 182 -/
def MXE_CFG_SCORED_LAT : Field := ⟨0x50000, 8, 1, 0, 9, .ro, 0xb6, false, true, false, false⟩
/-- MXE_ENG[63:48], 05 R201: Failed checks under R196; holds at 0xFFFF -/
def MXE_ENG_CHECK_FAIL : Field := ⟨0x50100, 8, 64, 48, 16, .rc, 0, false, false, false, false⟩
/-- MXE_ENG[39:39], 05 R201: An INT32 accumulator saturated -/
def MXE_ENG_ISAT : Field := ⟨0x50100, 8, 64, 39, 1, .w1c, 0, false, false, false, false⟩
/-- MXE_ENG[38:38], 05 R201: An accumulator or output conversion overflowed -/
def MXE_ENG_OVF : Field := ⟨0x50100, 8, 64, 38, 1, .w1c, 0, false, false, false, false⟩
/-- MXE_ENG[37:37], 05 R201: A NaN was produced from non-NaN operands -/
def MXE_ENG_INV : Field := ⟨0x50100, 8, 64, 37, 1, .w1c, 0, false, false, false, false⟩
/-- MXE_ENG[36:36], 05 R201: An operand was NaN, or an MX scale was 0xFF -/
def MXE_ENG_NANIN : Field := ⟨0x50100, 8, 64, 36, 1, .w1c, 0, false, false, false, false⟩
/-- MXE_ENG[35:35], 05 R201: An operation completed with EMPTY under R186 -/
def MXE_ENG_EMPTY : Field := ⟨0x50100, 8, 64, 35, 1, .w1c, 0, false, false, false, false⟩
/-- MXE_ENG[18:16], 05 R201: 0 IDLE; 1 RAMP_UP; 2 FULL; 3 FILL; 4 RAMP_DOWN; 5 FENCED -/
def MXE_ENG_STATE : Field := ⟨0x50100, 8, 64, 16, 3, .ro, 0, false, false, false, false⟩
/-- MXE_ENG[15:12], 05 R201: Ramp step S, 0–8 -/
def MXE_ENG_STEP : Field := ⟨0x50100, 8, 64, 12, 4, .ro, 0, false, false, false, false⟩
/-- MXE_ENG[7:0], 05 R201: Engine latency in CK, 180 or 181 -/
def MXE_ENG_LAT : Field := ⟨0x50100, 8, 64, 0, 8, .ro, 0xb4, false, false, false, false⟩
/-- VXE_ENG[38:38], 06 R235: A result or conversion overflowed -/
def VXE_ENG_OVF : Field := ⟨0x60100, 8, 256, 38, 1, .w1c, 0, false, false, false, false⟩
/-- VXE_ENG[37:37], 06 R235: A NaN was produced from non-NaN operands -/
def VXE_ENG_INV : Field := ⟨0x60100, 8, 256, 37, 1, .w1c, 0, false, false, false, false⟩
/-- VXE_ENG[36:36], 06 R235: An operand was NaN, or an MX scale was 0xFF -/
def VXE_ENG_NANIN : Field := ⟨0x60100, 8, 256, 36, 1, .w1c, 0, false, false, false, false⟩
/-- VXE_ENG[18:16], 06 R235: 0 IDLE; 1 BUSY; 5 FENCED -/
def VXE_ENG_STATE : Field := ⟨0x60100, 8, 256, 16, 3, .ro, 0, false, false, false, false⟩
/-- VXE_ENG[5:0], 06 R235: Instructions in the engine's queue, 0–32 -/
def VXE_ENG_QDEPTH : Field := ⟨0x60100, 8, 256, 0, 6, .ro, 0, false, false, false, false⟩
/-- SEQ_CFG[31:28], 06 R233: Completion ring holds 2^(RING_LOG2 + 6) entries; 0–10 -/
def SEQ_CFG_RING_LOG2 : Field := ⟨0x70000, 8, 1, 28, 4, .ro, 0, false, true, false, false⟩
/-- SEQ_CFG[21:0], 06 R233: Working memory offset of the ring, a multiple of 4,096, the same in every cluster -/
def SEQ_CFG_RING_BASE : Field := ⟨0x70000, 8, 1, 0, 22, .ro, 0, false, true, false, false⟩
/-- SEQ_SCORE[47:32], 07 R269: Completion code of the last load descriptor -/
def SEQ_SCORE_LAST_CODE : Field := ⟨0x70008, 8, 1, 32, 16, .ro, 0, false, false, false, false⟩
/-- SEQ_SCORE[2:0], 07 R269: 0 NONE; 1 LOADING; 2 LOADED; 3 RUNNING; 4 PAUSING; 5 PAUSED; 6 ENDED; 7 STOPPED -/
def SEQ_SCORE_STATE : Field := ⟨0x70008, 8, 1, 0, 3, .ro, 0, false, false, false, false⟩
/-- SEQ_DIGEST[63:0], 07 R270: Eight bytes of the digest -/
def SEQ_DIGEST_DIGEST : Field := ⟨0x70010, 8, 4, 0, 64, .ro, 0, false, false, false, false⟩
/-- SEQ_LAYOUT[63:0], 07 R270: Eight bytes of the digest -/
def SEQ_LAYOUT_DIGEST : Field := ⟨0x70030, 8, 4, 0, 64, .ro, 0, false, false, false, false⟩
/-- SEQ_LOAD_CFG[0:0], 07 R271: Loader in STRICT mode, by R263; cleared by device reset only -/
def SEQ_LOAD_CFG_STRICT : Field := ⟨0x70050, 8, 1, 0, 1, .w1s, 0, false, false, false, false⟩
/-- SEQ_PAUSE[47:0], 07 R272: The drain Beat of the pending pause; 0 when none is pending -/
def SEQ_PAUSE_PAUSE_BEAT : Field := ⟨0x70058, 8, 1, 0, 48, .ro, 0, false, false, false, false⟩
/-- SEQ_UNDO[63:48], 07 R273: Writes not performed under R250; holds at 0xFFFF -/
def SEQ_UNDO_STALE : Field := ⟨0x70060, 8, 1, 48, 16, .rc, 0, false, false, false, false⟩
/-- SEQ_UNDO[47:24], 07 R273: Most records appended to one log of one die in any Beat since the last read -/
def SEQ_UNDO_HWM : Field := ⟨0x70060, 8, 1, 24, 24, .rc, 0, false, false, false, false⟩
/-- SEQ_UNDO[23:0], 07 R273: Records per log, floor(UNDO_BYTES / 4,160) -/
def SEQ_UNDO_CAP : Field := ⟨0x70060, 8, 1, 0, 24, .ro, 0, false, false, false, false⟩
/-- SEQ_CLUSTER[62:48], 06 R234: Chime awaited while STALL is 2 -/
def SEQ_CLUSTER_WAIT_CHIME : Field := ⟨0x70100, 8, 64, 48, 15, .ro, 0, false, false, false, false⟩
/-- SEQ_CLUSTER[47:24], 06 R234: List index of the next instruction -/
def SEQ_CLUSTER_INDEX : Field := ⟨0x70100, 8, 64, 24, 24, .ro, 0, false, false, false, false⟩
/-- SEQ_CLUSTER[23:8], 06 R234: Completion count of R226; holds at 0xFFFF -/
def SEQ_CLUSTER_CCOUNT : Field := ⟨0x70100, 8, 64, 8, 16, .ro, 0, false, false, false, false⟩
/-- SEQ_CLUSTER[7:7], 06 R234: Issue stopped under R214 -/
def SEQ_CLUSTER_ILLEGAL : Field := ⟨0x70100, 8, 64, 7, 1, .w1c, 0, false, false, false, false⟩
/-- SEQ_CLUSTER[6:4], 06 R234: 0 IDLE; 1 RUNNING; 2 PAST_HOLD; 3 ENDED; 4 STOPPED -/
def SEQ_CLUSTER_STATE : Field := ⟨0x70100, 8, 64, 4, 3, .ro, 0, false, false, false, false⟩
/-- SEQ_CLUSTER[3:0], 06 R234: 0 none; 1 queue full; 2 CH.WAIT; 3 SEQ.DRAIN, SEQ.HOLD or SEQ.END waiting; 4 register interlock -/
def SEQ_CLUSTER_STALL : Field := ⟨0x70100, 8, 64, 0, 4, .ro, 0, false, false, false, false⟩
/-- COLL_CFG[31:0], 09 R326: Striping threshold in bytes, by R313; reset is 262,144; 0 stripes every collective -/
def COLL_CFG_COLL_THRESH : Field := ⟨0x80000, 8, 1, 0, 32, .rw, 0x40000, false, false, false, false⟩
/-- COLL_STATUS[26:16], 09 R326: Open collectives now active, 0–1,024 -/
def COLL_STATUS_ACTIVE : Field := ⟨0x80008, 8, 1, 16, 11, .ro, 0, false, false, false, false⟩
/-- COLL_STATUS[12:0], 09 R326: Registered groups, 0–4,096 -/
def COLL_STATUS_GROUPS : Field := ⟨0x80008, 8, 1, 0, 13, .ro, 0, false, false, false, false⟩
/-- COLL_COUNTS[63:32], 09 R326: Sequence numbers taken; holds at 0xFFFF_FFFF -/
def COLL_COUNTS_STARTED : Field := ⟨0x80010, 8, 1, 32, 32, .rc, 0, false, false, false, false⟩
/-- COLL_COUNTS[31:16], 09 R326: Collectives completed DONE_FALLBACK; holds at 0xFFFF -/
def COLL_COUNTS_FALLBACKS : Field := ⟨0x80010, 8, 1, 16, 16, .rc, 0, false, false, false, false⟩
/-- COLL_COUNTS[15:0], 09 R326: Parked cells discarded under R319; holds at 0xFFFF -/
def COLL_COUNTS_EXPIRED : Field := ⟨0x80010, 8, 1, 0, 16, .rc, 0, false, false, false, false⟩
/-- COLL_SEQ_SEL[11:0], 09 R326: Group shown in COLL_SEQ -/
def COLL_SEQ_SEL_HANDLE : Field := ⟨0x80018, 8, 1, 0, 12, .rw, 0, true, false, false, false⟩
/-- COLL_SEQ[32:32], 09 R326: The selected group is registered -/
def COLL_SEQ_REG : Field := ⟨0x80020, 8, 1, 32, 1, .ro, 0, false, false, false, false⟩
/-- COLL_SEQ[31:16], 09 R326: Latest sequence started, by R318 -/
def COLL_SEQ_LATEST : Field := ⟨0x80020, 8, 1, 16, 16, .ro, 0xffff, false, false, false, false⟩
/-- COLL_SEQ[15:0], 09 R326: Next sequence number -/
def COLL_SEQ_NEXT : Field := ⟨0x80020, 8, 1, 0, 16, .ro, 0, false, false, false, false⟩
/-- OPT_RIDE_CFG[39:8], 08 R300: Coordinate of the device that holds this device's mirror -/
def OPT_RIDE_CFG_PARTNER : Field := ⟨0x90000, 8, 1, 8, 32, .rw, 0, false, false, false, false⟩
/-- OPT_RIDE_CFG[0:0], 08 R300: Send riding copies, by R293 -/
def OPT_RIDE_CFG_EN : Field := ⟨0x90000, 8, 1, 0, 1, .rw, 0, false, false, false, false⟩
/-- OPT_HOLD_CFG[39:8], 08 R300: Coordinate of the device whose mirror this device holds -/
def OPT_HOLD_CFG_SOURCE : Field := ⟨0x90008, 8, 1, 8, 32, .rw, 0, false, false, false, false⟩
/-- OPT_HOLD_CFG[0:0], 08 R300: Accept ride cells into the mirror area, by R296 -/
def OPT_HOLD_CFG_HOLD : Field := ⟨0x90008, 8, 1, 0, 1, .rw, 0, false, false, false, false⟩
/-- OPT_RIDE_STATUS[31:16], 08 R300: Highest ride queue fill on either die since the last read, in KiB -/
def OPT_RIDE_STATUS_QHWM : Field := ⟨0x90010, 8, 1, 16, 16, .rc, 0, false, false, false, false⟩
/-- OPT_RIDE_STATUS[3:2], 08 R300: Ride buffers now holding entries, 0–3 -/
def OPT_RIDE_STATUS_FILLED : Field := ⟨0x90010, 8, 1, 2, 2, .ro, 0, false, false, false, false⟩
/-- OPT_RIDE_STATUS[1:1], 08 R300: A drain is in progress -/
def OPT_RIDE_STATUS_DRAINING : Field := ⟨0x90010, 8, 1, 1, 1, .ro, 0, false, false, false, false⟩
/-- OPT_RIDE_STATUS[0:0], 08 R300: The mirror holds SOURCE's committed state as of MIRROR_BEAT, and no committed entry awaits drain -/
def OPT_RIDE_STATUS_CONSISTENT : Field := ⟨0x90010, 8, 1, 0, 1, .ro, 0, false, false, false, false⟩
/-- OPT_MIRROR_BEAT[48:48], 08 R300: At least one Beat has been drained -/
def OPT_MIRROR_BEAT_VALID : Field := ⟨0x90018, 8, 1, 48, 1, .ro, 0, false, false, false, true⟩
/-- OPT_MIRROR_BEAT[47:0], 08 R300: Last Beat of SOURCE drained into the mirror -/
def OPT_MIRROR_BEAT_BEAT : Field := ⟨0x90018, 8, 1, 0, 48, .ro, 0, false, false, false, true⟩
/-- OPT_RIDE_COUNTS[63:32], 08 R300: Ride cells sent; holds at 0xFFFF_FFFF -/
def OPT_RIDE_COUNTS_CELLS : Field := ⟨0x90020, 8, 1, 32, 32, .rc, 0, false, false, false, false⟩
/-- OPT_RIDE_COUNTS[31:16], 08 R300: Ride cells discarded for their Beat, under R298; holds at 0xFFFF -/
def OPT_RIDE_COUNTS_STALE : Field := ⟨0x90020, 8, 1, 16, 16, .rc, 0, false, false, false, false⟩
/-- OPT_RIDE_COUNTS[15:0], 08 R300: Ride cells refused under R298; holds at 0xFFFF -/
def OPT_RIDE_COUNTS_REFUSED : Field := ⟨0x90020, 8, 1, 0, 16, .rc, 0, false, false, false, false⟩
/-- XBAR_CFG[39:32], 10 R358: Spill area per die in GiB, 0–64; reset is 64 -/
def XBAR_CFG_SPILL_GIB : Field := ⟨0xa0000, 8, 1, 32, 8, .rw, 0x40, false, false, false, false⟩
/-- XBAR_CFG[31:16], 10 R358: Resequencer timeout in cell times; reset is 1,024; 0 is treated as 1 -/
def XBAR_CFG_RESEQ_TO : Field := ⟨0xa0000, 8, 1, 16, 16, .rw, 0x400, true, false, false, false⟩
/-- XBAR_CFG[0:0], 10 R358: Path by CIDX, by R346 -/
def XBAR_CFG_SPRAY_FIXED : Field := ⟨0xa0000, 8, 1, 0, 1, .rw, 0, true, false, false, false⟩
/-- XBAR_BUF[63:40], 10 R358: Spill in use on both dies, in MiB -/
def XBAR_BUF_SPILL_MIB : Field := ⟨0xa0008, 8, 1, 40, 24, .ro, 0, false, false, false, false⟩
/-- XBAR_BUF[35:18], 10 R358: Open pool cells in use on Die 1 -/
def XBAR_BUF_OPEN_D1 : Field := ⟨0xa0008, 8, 1, 18, 18, .ro, 0, false, false, false, false⟩
/-- XBAR_BUF[17:0], 10 R358: Open pool cells in use on Die 0 -/
def XBAR_BUF_OPEN_D0 : Field := ⟨0xa0008, 8, 1, 0, 18, .ro, 0, false, false, false, false⟩
/-- XBAR_DROP_A[63:48], 10 R358: Cells discarded for a full scored queue, under R340 -/
def XBAR_DROP_A_SC_DROP : Field := ⟨0xa0010, 8, 1, 48, 16, .rc, 0, false, false, false, false⟩
/-- XBAR_DROP_A[47:32], 10 R358: Cells discarded for their Beat, under R340 -/
def XBAR_DROP_A_SC_STALE : Field := ⟨0xa0010, 8, 1, 32, 16, .rc, 0, false, false, false, false⟩
/-- XBAR_DROP_A[31:16], 10 R358: Cells discarded under R329 -/
def XBAR_DROP_A_HDR_BAD : Field := ⟨0xa0010, 8, 1, 16, 16, .rc, 0, false, false, false, false⟩
/-- XBAR_DROP_A[15:0], 10 R358: Cells discarded under R331 -/
def XBAR_DROP_A_PCRC_BAD : Field := ⟨0xa0010, 8, 1, 0, 16, .rc, 0, false, false, false, false⟩
/-- XBAR_DROP_B[63:48], 10 R358: Cells discarded under R341 -/
def XBAR_DROP_B_PURGED : Field := ⟨0xa0018, 8, 1, 48, 16, .rc, 0, false, false, false, false⟩
/-- XBAR_DROP_B[47:32], 10 R358: Cells discarded under R351 for lack of room -/
def XBAR_DROP_B_RESEQ_FULL : Field := ⟨0xa0018, 8, 1, 32, 16, .rc, 0, false, false, false, false⟩
/-- XBAR_DROP_B[31:16], 10 R358: Gaps skipped under R351 -/
def XBAR_DROP_B_RESEQ_GAP : Field := ⟨0xa0018, 8, 1, 16, 16, .rc, 0, false, false, false, false⟩
/-- XBAR_DROP_B[15:0], 10 R358: Late cells discarded under R351 -/
def XBAR_DROP_B_RESEQ_LATE : Field := ⟨0xa0018, 8, 1, 0, 16, .rc, 0, false, false, false, false⟩
/-- XBAR_MIR_CFG[39:32], 10 R358: Bit v selects VC code v; bits 39:38 are ignored -/
def XBAR_MIR_CFG_VC_MASK : Field := ⟨0xa0020, 8, 1, 32, 8, .rw, 0, true, false, false, false⟩
/-- XBAR_MIR_CFG[31:24], 10 R358: Bit t selects TYPE code t; bits 31:28 are ignored -/
def XBAR_MIR_CFG_TYPE_MASK : Field := ⟨0xa0020, 8, 1, 24, 8, .rw, 0, true, false, false, false⟩
/-- XBAR_MIR_CFG[19:16], 10 R358: One selected cell in 2^SAMPLE_LOG2 -/
def XBAR_MIR_CFG_SAMPLE_LOG2 : Field := ⟨0xa0020, 8, 1, 16, 4, .rw, 0, true, false, false, false⟩
/-- XBAR_MIR_CFG[9:8], 10 R358: Bit 8 ingress; bit 9 egress -/
def XBAR_MIR_CFG_DIR : Field := ⟨0xa0020, 8, 1, 8, 2, .rw, 0, true, false, false, false⟩
/-- XBAR_MIR_CFG[1:1], 10 R358: Overwrite the oldest records, by R355 -/
def XBAR_MIR_CFG_WRAP : Field := ⟨0xa0020, 8, 1, 1, 1, .rw, 0, true, false, false, false⟩
/-- XBAR_MIR_CFG[0:0], 10 R358: Mirroring enabled -/
def XBAR_MIR_CFG_EN : Field := ⟨0xa0020, 8, 1, 0, 1, .rw, 0, true, false, false, false⟩
/-- XBAR_MIR_PORT_LO[63:0], 10 R358: Bit n selects port n (LO) or port 64 + n (HI) -/
def XBAR_MIR_PORT_LO_PORTS : Field := ⟨0xa0028, 8, 1, 0, 64, .rw, 0, true, false, false, false⟩
/-- XBAR_MIR_PORT_HI[63:0], 10 R358: Bit n selects port n (LO) or port 64 + n (HI) -/
def XBAR_MIR_PORT_HI_PORTS : Field := ⟨0xa0030, 8, 1, 0, 64, .rw, 0, true, false, false, false⟩
/-- XBAR_MIR_RING[53:48], 10 R358: Ring holds 2^SIZE_LOG2 records, 12–28 -/
def XBAR_MIR_RING_SIZE_LOG2 : Field := ⟨0xa0038, 8, 1, 48, 6, .rw, 0xc, false, false, false, false⟩
/-- XBAR_MIR_RING[47:12], 10 R358: Ring base address bits 47:12; reset is 0x010C_0000_0000 -/
def XBAR_MIR_RING_BASE : Field := ⟨0xa0038, 8, 1, 12, 36, .rw, 0x10c00000, false, false, false, false⟩
/-- XBAR_MIR_STATUS[48:48], 10 R358: Mirroring stopped under R355 -/
def XBAR_MIR_STATUS_FULL : Field := ⟨0xa0040, 8, 1, 48, 1, .ro, 0, false, false, false, false⟩
/-- XBAR_MIR_STATUS[47:0], 10 R358: Records written since EN was last set; the next record is k = WPTR -/
def XBAR_MIR_STATUS_WPTR : Field := ⟨0xa0040, 8, 1, 0, 48, .ro, 0, false, false, false, false⟩
/-- XBAR_MIR_DROP[31:0], 10 R358: Selected cells with no record; holds at 0xFFFF_FFFF -/
def XBAR_MIR_DROP_MIR_DROP : Field := ⟨0xa0048, 8, 1, 0, 32, .rc, 0, false, false, false, false⟩
/-- CAL_PHASE[31:16], 10 R359: Pages of Die 1 selected by the running phase -/
def CAL_PHASE_PAGES_D1 : Field := ⟨0xb0000, 8, 1, 16, 16, .ro, 0, false, false, false, false⟩
/-- CAL_PHASE[15:0], 10 R359: Pages of Die 0 selected by the running phase -/
def CAL_PHASE_PAGES_D0 : Field := ⟨0xb0000, 8, 1, 0, 16, .ro, 0, false, false, false, false⟩
/-- CAL_TIME[31:0], 10 R359: Cell time n of the current Beat, by R337 -/
def CAL_TIME_CT : Field := ⟨0xb0008, 8, 1, 0, 32, .ro, 0, false, false, false, false⟩
/-- CAL_COUNTS[63:32], 10 R359: Reservations that carried a scored cell -/
def CAL_COUNTS_USED : Field := ⟨0xb0010, 8, 1, 32, 32, .rc, 0, false, false, false, false⟩
/-- CAL_COUNTS[31:0], 10 R359: Reservations left to the open class under R342 -/
def CAL_COUNTS_IDLE : Field := ⟨0xb0010, 8, 1, 0, 32, .rc, 0, false, false, false, false⟩
/-- ROUTE_TOPO[61:52], 11 R390: The device's Acre, from the active bank -/
def ROUTE_TOPO_DEV_ACRE : Field := ⟨0xc0000, 8, 1, 52, 10, .ro, 0, false, false, false, false⟩
/-- ROUTE_TOPO[51:51], 11 R390: DEV_ACRE is valid -/
def ROUTE_TOPO_ACRE_V : Field := ⟨0xc0000, 8, 1, 51, 1, .ro, 0, false, false, false, false⟩
/-- ROUTE_TOPO[48:47], 11 R390: Tree level, by R363 -/
def ROUTE_TOPO_LEVEL : Field := ⟨0xc0000, 8, 1, 47, 2, .rw, 0, false, false, false, false⟩
/-- ROUTE_TOPO[46:45], 11 R390: Arrangement, by R361; 3 is treated as 0 -/
def ROUTE_TOPO_ARR : Field := ⟨0xc0000, 8, 1, 45, 2, .rw, 0, false, false, false, false⟩
/-- ROUTE_TOPO[44:40], 11 R390: Z size -/
def ROUTE_TOPO_SZ : Field := ⟨0xc0000, 8, 1, 40, 5, .rw, 1, false, false, false, false⟩
/-- ROUTE_TOPO[39:36], 11 R390: Y size -/
def ROUTE_TOPO_SY : Field := ⟨0xc0000, 8, 1, 36, 4, .rw, 1, false, false, false, false⟩
/-- ROUTE_TOPO[35:32], 11 R390: X size -/
def ROUTE_TOPO_SX : Field := ⟨0xc0000, 8, 1, 32, 4, .rw, 1, false, false, false, false⟩
/-- ROUTE_TOPO[31:0], 11 R390: Device coordinate, by R360 -/
def ROUTE_TOPO_COORD : Field := ⟨0xc0000, 8, 1, 0, 32, .rw, 0, false, false, false, false⟩
/-- ROUTE_BANK[39:32], 11 R390: Last drain wave seen -/
def ROUTE_BANK_WAVE : Field := ⟨0xc0008, 8, 1, 32, 8, .ro, 0, false, false, false, false⟩
/-- ROUTE_BANK[25:16], 11 R390: Acre of the prepared image -/
def ROUTE_BANK_PREP_ACRE : Field := ⟨0xc0008, 8, 1, 16, 10, .ro, 0, false, false, false, false⟩
/-- ROUTE_BANK[11:8], 11 R390: GEN(DEV_ACRE) -/
def ROUTE_BANK_GEN : Field := ⟨0xc0008, 8, 1, 8, 4, .ro, 0, false, false, false, false⟩
/-- ROUTE_BANK[3:1], 11 R390: 0 IDLE; 1 PREPARED; 2 DRAINING -/
def ROUTE_BANK_STATE : Field := ⟨0xc0008, 8, 1, 1, 3, .ro, 0, false, false, false, false⟩
/-- ROUTE_BANK[0:0], 11 R390: Active bank -/
def ROUTE_BANK_ACTIVE : Field := ⟨0xc0008, 8, 1, 0, 1, .ro, 0, false, false, false, false⟩
/-- ROUTE_DROPS[63:48], 11 R390: Discarded under R379 -/
def ROUTE_DROPS_GEN_STALE : Field := ⟨0xc0010, 8, 1, 48, 16, .rc, 0, false, false, false, false⟩
/-- ROUTE_DROPS[47:32], 11 R390: Discarded under R386 -/
def ROUTE_DROPS_ACRE_DROP : Field := ⟨0xc0010, 8, 1, 32, 16, .rc, 0, false, false, false, false⟩
/-- ROUTE_DROPS[31:16], 11 R390: Discarded under R387 -/
def ROUTE_DROPS_TRANSIT_OPEN : Field := ⟨0xc0010, 8, 1, 16, 16, .rc, 0, false, false, false, false⟩
/-- ROUTE_DROPS[15:0], 11 R390: Discarded under R366 -/
def ROUTE_DROPS_ROUTE_MISS : Field := ⟨0xc0010, 8, 1, 0, 16, .rc, 0, false, false, false, false⟩
/-- ROUTE_PORT[54:54], 11 R390: The port carries an Acre -/
def ROUTE_PORT_TAG_V : Field := ⟨0xc0100, 8, 128, 54, 1, .ro, 0, false, false, false, false⟩
/-- ROUTE_PORT[53:44], 11 R390: The port's Acre -/
def ROUTE_PORT_TAG : Field := ⟨0xc0100, 8, 128, 44, 10, .ro, 0, false, false, false, false⟩
/-- ROUTE_PORT[43:43], 11 R390: Transit grant 3 -/
def ROUTE_PORT_G3_V : Field := ⟨0xc0100, 8, 128, 43, 1, .ro, 0, false, false, false, false⟩
/-- ROUTE_PORT[42:33], 11 R390: Transit grant 3 -/
def ROUTE_PORT_G3 : Field := ⟨0xc0100, 8, 128, 33, 10, .ro, 0, false, false, false, false⟩
/-- ROUTE_PORT[32:32], 11 R390: Transit grant 2 -/
def ROUTE_PORT_G2_V : Field := ⟨0xc0100, 8, 128, 32, 1, .ro, 0, false, false, false, false⟩
/-- ROUTE_PORT[31:22], 11 R390: Transit grant 2 -/
def ROUTE_PORT_G2 : Field := ⟨0xc0100, 8, 128, 22, 10, .ro, 0, false, false, false, false⟩
/-- ROUTE_PORT[21:21], 11 R390: Transit grant 1 -/
def ROUTE_PORT_G1_V : Field := ⟨0xc0100, 8, 128, 21, 1, .ro, 0, false, false, false, false⟩
/-- ROUTE_PORT[20:11], 11 R390: Transit grant 1 -/
def ROUTE_PORT_G1 : Field := ⟨0xc0100, 8, 128, 11, 10, .ro, 0, false, false, false, false⟩
/-- ROUTE_PORT[10:10], 11 R390: Transit grant 0 -/
def ROUTE_PORT_G0_V : Field := ⟨0xc0100, 8, 128, 10, 1, .ro, 0, false, false, false, false⟩
/-- ROUTE_PORT[9:0], 11 R390: Transit grant 0 -/
def ROUTE_PORT_G0 : Field := ⟨0xc0100, 8, 128, 0, 10, .ro, 0, false, false, false, false⟩
/-- ROUTE_NBR[41:40], 11 R390: 0 unused; 1 device; 2 endpoint; 3 reserved -/
def ROUTE_NBR_KIND : Field := ⟨0xc0500, 8, 128, 40, 2, .ro, 0, false, false, false, false⟩
/-- ROUTE_NBR[38:32], 11 R390: The neighbour's port number, for KIND 1 -/
def ROUTE_NBR_PORT : Field := ⟨0xc0500, 8, 128, 32, 7, .ro, 0, false, false, false, false⟩
/-- ROUTE_NBR[31:0], 11 R390: The neighbour's coordinate, for KIND 1 -/
def ROUTE_NBR_COORD : Field := ⟨0xc0500, 8, 128, 0, 32, .ro, 0, false, false, false, false⟩
/-- SHAPE_CLASS[63:48], 12 R406: Last handle of class CHECKPOINT -/
def SHAPE_CLASS_CKPT_HI : Field := ⟨0xd0000, 8, 1, 48, 16, .rw, 0, true, false, false, false⟩
/-- SHAPE_CLASS[47:32], 12 R406: First handle of class CHECKPOINT -/
def SHAPE_CLASS_CKPT_LO : Field := ⟨0xd0000, 8, 1, 32, 16, .rw, 0xffff, true, false, false, false⟩
/-- SHAPE_CLASS[31:16], 12 R406: Last handle of class STORAGE -/
def SHAPE_CLASS_STOR_HI : Field := ⟨0xd0000, 8, 1, 16, 16, .rw, 0, true, false, false, false⟩
/-- SHAPE_CLASS[15:0], 12 R406: First handle of class STORAGE -/
def SHAPE_CLASS_STOR_LO : Field := ⟨0xd0000, 8, 1, 0, 16, .rw, 0xffff, true, false, false, false⟩
/-- SHAPE_TEL_CFG[11:8], 12 R406: Bit 8 OP0; bit 9 OP1; bit 10 CTL; bit 11 MGT -/
def SHAPE_TEL_CFG_VC_MASK : Field := ⟨0xd0008, 8, 1, 8, 4, .rw, 0, true, false, false, false⟩
/-- SHAPE_TEL_CFG[1:1], 12 R406: Overwrite the oldest records -/
def SHAPE_TEL_CFG_WRAP : Field := ⟨0xd0008, 8, 1, 1, 1, .rw, 0, true, false, false, false⟩
/-- SHAPE_TEL_CFG[0:0], 12 R406: Sampling enabled -/
def SHAPE_TEL_CFG_EN : Field := ⟨0xd0008, 8, 1, 0, 1, .rw, 0, true, false, false, false⟩
/-- SHAPE_TEL_RING[53:48], 12 R406: Ring holds 2^SIZE_LOG2 records, 10–29 -/
def SHAPE_TEL_RING_SIZE_LOG2 : Field := ⟨0xd0010, 8, 1, 48, 6, .rw, 0xc, false, false, false, false⟩
/-- SHAPE_TEL_RING[47:12], 12 R406: Ring base address bits 47:12; reset is 0x010E_0000_0000 -/
def SHAPE_TEL_RING_BASE : Field := ⟨0xd0010, 8, 1, 12, 36, .rw, 0x10e00000, false, false, false, false⟩
/-- SHAPE_TEL_PORT_LO[63:0], 12 R406: Bit n selects port n (LO) or port 64 + n (HI) -/
def SHAPE_TEL_PORT_LO_PORTS : Field := ⟨0xd0018, 8, 1, 0, 64, .rw, 0, true, false, false, false⟩
/-- SHAPE_TEL_PORT_HI[63:0], 12 R406: Bit n selects port n (LO) or port 64 + n (HI) -/
def SHAPE_TEL_PORT_HI_PORTS : Field := ⟨0xd0020, 8, 1, 0, 64, .rw, 0, true, false, false, false⟩
/-- SHAPE_TEL_STATUS[48:48], 12 R406: Sampling stopped at the ring's end -/
def SHAPE_TEL_STATUS_FULL : Field := ⟨0xd0028, 8, 1, 48, 1, .ro, 0, false, false, false, false⟩
/-- SHAPE_TEL_STATUS[47:0], 12 R406: Records written since EN was last set -/
def SHAPE_TEL_STATUS_WPTR : Field := ⟨0xd0028, 8, 1, 0, 48, .ro, 0, false, false, false, false⟩
/-- SHAPE_PORT[39:28], 12 R406: Credit ceiling, 0–4,095 -/
def SHAPE_PORT_CMAX : Field := ⟨0xd0100, 8, 128, 28, 12, .rw, 0x100, true, false, false, false⟩
/-- SHAPE_PORT[23:12], 12 R406: Fall per cell sent, 0–4,095 -/
def SHAPE_PORT_FALL : Field := ⟨0xd0100, 8, 128, 12, 12, .rw, 0, true, false, false, false⟩
/-- SHAPE_PORT[11:0], 12 R406: Rise per cell time waited, 0–4,095 -/
def SHAPE_PORT_RISE : Field := ⟨0xd0100, 8, 128, 0, 12, .rw, 1, true, false, false, false⟩
/-- SHAPE_STOR[63:52], 12 R406: Whole tokens held, floor -/
def SHAPE_STOR_TOKENS : Field := ⟨0xd0500, 8, 128, 52, 12, .ro, 0, false, false, false, false⟩
/-- SHAPE_STOR[43:32], 12 R406: Burst in cells, 1–4,095; 0 is treated as 1 -/
def SHAPE_STOR_BURST : Field := ⟨0xd0500, 8, 128, 32, 12, .rw, 0x40, true, false, false, false⟩
/-- SHAPE_STOR[16:0], 12 R406: Tokens per cell time, in 1/65,536 cell, 0–65,536 -/
def SHAPE_STOR_RATE : Field := ⟨0xd0500, 8, 128, 0, 17, .rw, 0x10000, true, false, false, false⟩
/-- SHAPE_CKPT[63:52], 12 R406: Whole tokens held, floor -/
def SHAPE_CKPT_TOKENS : Field := ⟨0xd0900, 8, 128, 52, 12, .ro, 0, false, false, false, false⟩
/-- SHAPE_CKPT[43:32], 12 R406: Burst in cells, 1–4,095; 0 is treated as 1 -/
def SHAPE_CKPT_BURST : Field := ⟨0xd0900, 8, 128, 32, 12, .rw, 0x40, true, false, false, false⟩
/-- SHAPE_CKPT[16:0], 12 R406: Tokens per cell time, in 1/65,536 cell, 0–65,536 -/
def SHAPE_CKPT_RATE : Field := ⟨0xd0900, 8, 128, 0, 17, .rw, 0x10000, true, false, false, false⟩
/-- SHAPE_MGT[63:52], 12 R406: Whole tokens held, floor -/
def SHAPE_MGT_TOKENS : Field := ⟨0xd0d00, 8, 128, 52, 12, .ro, 0, false, false, false, false⟩
/-- SHAPE_MGT[43:32], 12 R406: Burst in cells, 1–4,095; 0 is treated as 1 -/
def SHAPE_MGT_BURST : Field := ⟨0xd0d00, 8, 128, 32, 12, .rw, 0x40, true, false, false, false⟩
/-- SHAPE_MGT[16:0], 12 R406: Tokens per cell time, in 1/65,536 cell, 0–65,536 -/
def SHAPE_MGT_RATE : Field := ⟨0xd0d00, 8, 128, 0, 17, .rw, 0x10000, true, false, false, false⟩
/-- POOL_CFG[59:36], 12 R407: Buffers in pool n, 0–16,777,214 -/
def POOL_CFG_COUNT : Field := ⟨0xe0000, 8, 5, 36, 24, .rw, 0, false, false, false, false⟩
/-- POOL_CFG[35:0], 12 R407: Pool base address bits 47:12 -/
def POOL_CFG_BASE : Field := ⟨0xe0000, 8, 5, 0, 36, .rw, 0, false, false, false, false⟩
/-- POOL_STATE[48:48], 12 R407: A build under R401 is in progress -/
def POOL_STATE_BUILDING : Field := ⟨0xe0040, 8, 5, 48, 1, .ro, 0, false, false, false, false⟩
/-- POOL_STATE[47:24], 12 R407: Free count, modulo 2²⁴ -/
def POOL_STATE_FREE : Field := ⟨0xe0040, 8, 5, 24, 24, .ro, 0, false, false, false, false⟩
/-- POOL_STATE[23:0], 12 R407: INDEX of the first free buffer -/
def POOL_STATE_HEAD : Field := ⟨0xe0040, 8, 5, 0, 24, .ro, 0xffffff, false, false, false, false⟩
/-- POOL_EMPTY_COUNTS[59:48], 12 R407: POOL_EMPTY completions for pool 4 -/
def POOL_EMPTY_COUNTS_HOGSHEAD : Field := ⟨0xe0080, 8, 1, 48, 12, .rc, 0, false, false, false, false⟩
/-- POOL_EMPTY_COUNTS[47:36], 12 R407: POOL_EMPTY completions for pool 3 -/
def POOL_EMPTY_COUNTS_GALLON : Field := ⟨0xe0080, 8, 1, 36, 12, .rc, 0, false, false, false, false⟩
/-- POOL_EMPTY_COUNTS[35:24], 12 R407: POOL_EMPTY completions for pool 2 -/
def POOL_EMPTY_COUNTS_QUART : Field := ⟨0xe0080, 8, 1, 24, 12, .rc, 0, false, false, false, false⟩
/-- POOL_EMPTY_COUNTS[23:12], 12 R407: POOL_EMPTY completions for pool 1 -/
def POOL_EMPTY_COUNTS_PINT : Field := ⟨0xe0080, 8, 1, 12, 12, .rc, 0, false, false, false, false⟩
/-- POOL_EMPTY_COUNTS[11:0], 12 R407: POOL_EMPTY completions for pool 0 -/
def POOL_EMPTY_COUNTS_GILL : Field := ⟨0xe0080, 8, 1, 0, 12, .rc, 0, false, false, false, false⟩
/-- MEM_CFG[0:0], 13 R423: Patrol scrub under R418 -/
def MEM_CFG_SCRUB_EN : Field := ⟨0xf0000, 8, 1, 0, 1, .rw, 1, true, false, false, false⟩
/-- MEM_UE_FIRST[63:63], 13 R423: A poisoned tier 1 or tier 2 block has been read, or met by a partial write under R421 -/
def MEM_UE_FIRST_VALID : Field := ⟨0xf0008, 8, 1, 63, 1, .w1c, 0, false, false, false, false⟩
/-- MEM_UE_FIRST[51:48], 13 R423: 0 cluster unit; 1 switch core; 2 roll-back; 3 ride drain; 4 Sexton; 5 host software; 6–15 reserved -/
def MEM_UE_FIRST_READER : Field := ⟨0xf0008, 8, 1, 48, 4, .ro, 0, false, false, false, false⟩
/-- MEM_UE_FIRST[47:0], 13 R423: Address of the first poisoned block read -/
def MEM_UE_FIRST_ADDR : Field := ⟨0xf0008, 8, 1, 0, 48, .ro, 0, false, false, false, false⟩
/-- MEM_SCRUB[31:0], 13 R423: Scrub passes completed over all stacks; holds at 0xFFFF_FFFF -/
def MEM_SCRUB_PASSES : Field := ⟨0xf0010, 8, 1, 0, 32, .rc, 0, false, false, false, false⟩
/-- MEM_STACK[63:48], 13 R423: Uncorrectable blocks read; holds at 0xFFFF -/
def MEM_STACK_UE : Field := ⟨0xf0100, 8, 16, 48, 16, .rc, 0, false, false, false, false⟩
/-- MEM_STACK[47:16], 13 R423: Corrected errors; holds at 0xFFFF_FFFF -/
def MEM_STACK_CE : Field := ⟨0xf0100, 8, 16, 16, 32, .rc, 0, false, false, false, false⟩
/-- MEM_STACK[2:0], 13 R423: 0 OFF; 1 TRAINING; 2 READY; 3 FAILED; 4–7 reserved -/
def MEM_STACK_STATE : Field := ⟨0xf0100, 8, 16, 0, 3, .ro, 0, false, false, false, false⟩
/-- PORT_RETRAIN_LO[63:0], 14 R452: Bit n returns every link of port n (LO) or port 64 + n (HI) to TRAIN, with TRIES at 0 -/
def PORT_RETRAIN_LO_PORTS : Field := ⟨0x100000, 8, 1, 0, 64, .wo, 0, false, false, false, false⟩
/-- PORT_RETRAIN_HI[63:0], 14 R452: Bit n returns every link of port n (LO) or port 64 + n (HI) to TRAIN, with TRIES at 0 -/
def PORT_RETRAIN_HI_PORTS : Field := ⟨0x100008, 8, 1, 0, 64, .wo, 0, false, false, false, false⟩
/-- PORT_LASER[15:0], 14 R452: Bit i: laser input i is below minimum power, by R425 -/
def PORT_LASER_LOW : Field := ⟨0x100010, 8, 1, 0, 16, .ro, 0, false, false, false, false⟩
/-- PORT_CFG[31:16], 14 R453: NAKs answered per 2²⁸ CK before quarantine, by R440; reset is 256 -/
def PORT_CFG_RETRY_LIMIT : Field := ⟨0x100100, 8, 128, 16, 16, .rw, 0x100, false, false, false, false⟩
/-- PORT_CFG[11:8], 14 R453: Roll call attempts before FAILED, 1–15; 0 is treated as 1 -/
def PORT_CFG_ATTEMPTS : Field := ⟨0x100100, 8, 128, 8, 4, .rw, 8, false, false, false, false⟩
/-- PORT_CFG[0:0], 14 R453: Run port n as two half-ports, by R431 -/
def PORT_CFG_SPLIT : Field := ⟨0x100100, 8, 128, 0, 1, .rw, 0, false, false, false, false⟩
/-- PORT_LINK[63:48], 14 R454: Link delay in 1/16 CK, by R445 -/
def PORT_LINK_DELAY : Field := ⟨0x100500, 8, 256, 48, 16, .ro, 0, false, false, false, false⟩
/-- PORT_LINK[47:32], 14 R454: Negotiated link protocol version -/
def PORT_LINK_VERSION : Field := ⟨0x100500, 8, 256, 32, 16, .ro, 0, false, false, false, false⟩
/-- PORT_LINK[31:24], 14 R454: The peer's PORT, from its IDENT -/
def PORT_LINK_PEER_PORT : Field := ⟨0x100500, 8, 256, 24, 8, .ro, 0, false, false, false, false⟩
/-- PORT_LINK[23:16], 14 R454: Marker spread in CK, by R432 -/
def PORT_LINK_SKEW : Field := ⟨0x100500, 8, 256, 16, 8, .ro, 0, false, false, false, false⟩
/-- PORT_LINK[12:12], 14 R454: The peer is an endpoint -/
def PORT_LINK_PEER_EP : Field := ⟨0x100500, 8, 256, 12, 1, .ro, 0, false, false, false, false⟩
/-- PORT_LINK[11:8], 14 R454: Failed attempts since the last READY -/
def PORT_LINK_TRIES : Field := ⟨0x100500, 8, 256, 8, 4, .ro, 0, false, false, false, false⟩
/-- PORT_LINK[7:4], 14 R454: 0 none; 1 WIRING; 2 ROLE; 3 VERSION; 4 ERRORS; 5 PEER; 6 DISTANCE -/
def PORT_LINK_QCAUSE : Field := ⟨0x100500, 8, 256, 4, 4, .ro, 0, false, false, false, false⟩
/-- PORT_LINK[3:0], 14 R454: 0 OFF; 1 TRAIN; 2 LOCK; 3 IDENT; 4 TIME; 5 CHECK; 6 READY; 7 QUARANTINED; 8 FAILED -/
def PORT_LINK_STATE : Field := ⟨0x100500, 8, 256, 0, 4, .ro, 0, false, false, false, false⟩
/-- PORT_PEER[63:32], 14 R455: Negotiated features, by R443 -/
def PORT_PEER_FEATURES : Field := ⟨0x100d00, 8, 256, 32, 32, .ro, 0, false, false, false, false⟩
/-- PORT_PEER[31:0], 14 R455: The peer's COORD, from its IDENT -/
def PORT_PEER_COORD : Field := ⟨0x100d00, 8, 256, 0, 32, .ro, 0, false, false, false, false⟩
/-- PORT_ERR[63:48], 14 R456: Uncorrectable codewords -/
def PORT_ERR_UCW : Field := ⟨0x101500, 8, 256, 48, 16, .rc, 0, false, false, false, false⟩
/-- PORT_ERR[47:32], 14 R456: NAKs answered under R438 -/
def PORT_ERR_REPLAYS : Field := ⟨0x101500, 8, 256, 32, 16, .rc, 0, false, false, false, false⟩
/-- PORT_ERR[31:16], 14 R456: Control blocks discarded under R434 -/
def PORT_ERR_CRC_BAD : Field := ⟨0x101500, 8, 256, 16, 16, .rc, 0, false, false, false, false⟩
/-- PORT_ERR[15:0], 14 R456: Departures from READY -/
def PORT_ERR_DOWNS : Field := ⟨0x101500, 8, 256, 0, 16, .rc, 0, false, false, false, false⟩
/-- PORT_FEC[63:0], 14 R456: FEC symbols corrected, all lanes; holds at all ones -/
def PORT_FEC_CSYM : Field := ⟨0x101d00, 8, 256, 0, 64, .rc, 0, false, false, false, false⟩
/-- ACV_EQ[31:0], 15 R488: Bits 4i + 3:4i are STEPi of R460; reset gives 4.8 dB -/
def ACV_EQ_STEPS : Field := ⟨0x110000, 8, 1, 0, 32, .rw, 0x66666666, false, false, false, false⟩
/-- ACV_LINK[31:16], 15 R488: Negotiated Acvel protocol version -/
def ACV_LINK_VERSION : Field := ⟨0x110008, 8, 1, 16, 16, .ro, 0, false, false, false, false⟩
/-- ACV_LINK[15:8], 15 R488: Lane spread in UI, by R464 -/
def ACV_LINK_SKEW_UI : Field := ⟨0x110008, 8, 1, 8, 8, .ro, 0, false, false, false, false⟩
/-- ACV_LINK[2:0], 15 R488: 0 DOWN; 1 TRAIN; 2 ALIGNED; 3 HELLO; 4 UP -/
def ACV_LINK_STATE : Field := ⟨0x110008, 8, 1, 0, 3, .ro, 0, false, false, false, false⟩
/-- ACV_ERR[63:48], 15 R488: Packets discarded for lack of room -/
def ACV_ERR_NOROOM : Field := ⟨0x110010, 8, 1, 48, 16, .rc, 0, false, false, false, false⟩
/-- ACV_ERR[47:32], 15 R488: Resends by the device, under R467 -/
def ACV_ERR_REPLAYS : Field := ⟨0x110010, 8, 1, 32, 16, .rc, 0, false, false, false, false⟩
/-- ACV_ERR[31:16], 15 R488: Packets discarded as corrupt or out of sequence -/
def ACV_ERR_LCRC_BAD : Field := ⟨0x110010, 8, 1, 16, 16, .rc, 0, false, false, false, false⟩
/-- ACV_ERR[15:0], 15 R488: Code errors, under R461 -/
def ACV_ERR_CODE_ERR : Field := ⟨0x110010, 8, 1, 0, 16, .rc, 0, false, false, false, false⟩
/-- ACV_CFG[47:32], 15 R488: Descriptor format version used by host software; RW in the set-up window -/
def ACV_CFG_DESC_VER : Field := ⟨0x110018, 8, 1, 32, 16, .rw, 0x100, false, false, false, false⟩
/-- ACV_CFG[31:0], 15 R488: Poll interval in CK; reset is 2,500 -/
def ACV_CFG_POLL_CK : Field := ⟨0x110018, 8, 1, 0, 32, .rw, 0x9c4, true, false, false, false⟩
/-- ACV_DOORBELL[63:8], 15 R488: Doorbell block address bits 63:8 -/
def ACV_DOORBELL_BASE : Field := ⟨0x110020, 8, 1, 8, 56, .rw, 0, false, false, false, false⟩
/-- ACV_FRING[63:12], 15 R488: Fault ring address bits 63:12 -/
def ACV_FRING_BASE : Field := ⟨0x110028, 8, 1, 12, 52, .rw, 0, false, false, false, false⟩
/-- ACV_FRING[4:0], 15 R488: Fault ring holds 2^FLOG2 entries, 6–16 -/
def ACV_FRING_FLOG2 : Field := ⟨0x110028, 8, 1, 0, 5, .rw, 0, false, false, false, false⟩
/-- ACV_LIVE[23:16], 15 R488: Failed check of R475; 0 none -/
def ACV_LIVE_CFG_ERR : Field := ⟨0x110030, 8, 1, 16, 8, .ro, 0, false, false, false, false⟩
/-- ACV_LIVE[8:8], 15 R488: The rings are live -/
def ACV_LIVE_LIVE : Field := ⟨0x110030, 8, 1, 8, 1, .ro, 0, false, false, false, false⟩
/-- ACV_LIVE[0:0], 15 R488: Writing 1 makes the rings live, by R475 -/
def ACV_LIVE_GO : Field := ⟨0x110030, 8, 1, 0, 1, .wo, 0, false, false, false, false⟩
/-- ACV_COUNTS[63:48], 15 R488: Polls skipped under R479; holds at 0xFFFF -/
def ACV_COUNTS_POLL_SKIP : Field := ⟨0x110038, 8, 1, 48, 16, .rc, 0, false, false, false, false⟩
/-- ACV_COUNTS[47:32], 15 R488: Host writes not performed under R472; holds at 0xFFFF -/
def ACV_COUNTS_WR_REFUSED : Field := ⟨0x110038, 8, 1, 32, 16, .rc, 0, false, false, false, false⟩
/-- ACV_COUNTS[31:0], 15 R488: Fault entries not written under R485; holds at 0xFFFF_FFFF -/
def ACV_COUNTS_FRING_LOST : Field := ⟨0x110038, 8, 1, 0, 32, .rc, 0, false, false, false, false⟩
/-- ACV_SQ[63:12], 15 R488: Ring address bits 63:12 -/
def ACV_SQ_BASE : Field := ⟨0x110100, 16, 16, 12, 52, .rw, 0, false, false, false, false⟩
/-- ACV_SQ[4:1], 15 R488: Slots 2^LOG2, 4–12; in ACV_SQn only -/
def ACV_SQ_LOG2 : Field := ⟨0x110100, 16, 16, 1, 4, .rw, 0, false, false, false, false⟩
/-- ACV_SQ[0:0], 15 R488: Ring enabled; in ACV_SQn only -/
def ACV_SQ_EN : Field := ⟨0x110100, 16, 16, 0, 1, .rw, 0, false, false, false, false⟩
/-- ACV_CQ[63:12], 15 R488: Ring address bits 63:12 -/
def ACV_CQ_BASE : Field := ⟨0x110108, 16, 16, 12, 52, .rw, 0, false, false, false, false⟩
/-- ACV_RCONS[63:32], 15 R488: Completion entries written, modulo 2³² -/
def ACV_RCONS_WRITTEN : Field := ⟨0x110200, 8, 16, 32, 32, .ro, 0, false, false, false, false⟩
/-- ACV_RCONS[31:0], 15 R488: Descriptors fetched, modulo 2³² -/
def ACV_RCONS_CONS : Field := ⟨0x110200, 8, 16, 0, 32, .ro, 0, false, false, false, false⟩
/-- ACV_RSTAT[8:8], 15 R488: Ring stopped under R480 -/
def ACV_RSTAT_STOPPED : Field := ⟨0x110280, 8, 16, 8, 1, .ro, 0, false, false, false, false⟩
/-- ACV_RSTAT[6:0], 15 R488: Descriptors fetched and not yet completed, 0–64 -/
def ACV_RSTAT_INFLIGHT : Field := ⟨0x110280, 8, 16, 0, 7, .ro, 0, false, false, false, false⟩
/-- FLT_CFG[16:16], 17 R538: Diagnosis under R520 -/
def FLT_CFG_DIAG_EN : Field := ⟨0x120000, 8, 1, 16, 1, .rw, 1, true, false, false, false⟩
/-- FLT_CFG[7:0], 17 R538: Transients per unit per 2⁴⁴ CK, by R523; reset is 16; 0 is treated as 1 -/
def FLT_CFG_TRANS_LIMIT : Field := ⟨0x120000, 8, 1, 0, 8, .rw, 0x10, true, false, false, false⟩
/-- FLT_COUNTS[63:56], 17 R538: C2 messages reaching the hub -/
def FLT_COUNTS_C2 : Field := ⟨0x120008, 8, 1, 56, 8, .rc, 0, false, false, false, false⟩
/-- FLT_COUNTS[55:32], 17 R538: C1 messages reaching the hub -/
def FLT_COUNTS_C1 : Field := ⟨0x120008, 8, 1, 32, 24, .rc, 0, false, false, false, false⟩
/-- FLT_COUNTS[31:0], 17 R538: C0 messages reaching the hub -/
def FLT_COUNTS_C0 : Field := ⟨0x120008, 8, 1, 0, 32, .rc, 0, false, false, false, false⟩
/-- FLT_CL_SEL[5:0], 17 R538: Cluster shown in FLT_CL_HIST -/
def FLT_CL_SEL_CLUSTER : Field := ⟨0x120010, 8, 1, 0, 6, .rw, 0, true, false, false, false⟩
/-- FLT_CL_NEXT[35:4], 17 R538: Messages taken by the selected collector; holds at 0xFFFF_FFFF -/
def FLT_CL_NEXT_TAKEN : Field := ⟨0x120018, 8, 1, 4, 32, .ro, 0, false, false, false, false⟩
/-- FLT_CL_NEXT[3:0], 17 R538: History entry written next -/
def FLT_CL_NEXT_NEXT : Field := ⟨0x120018, 8, 1, 0, 4, .ro, 0, false, false, false, false⟩
/-- FLT_DIE_LOST[31:16], 17 R538: Messages dropped at Die 1's collector under R525 -/
def FLT_DIE_LOST_LOST_D1 : Field := ⟨0x120020, 8, 1, 16, 16, .rc, 0, false, false, false, false⟩
/-- FLT_DIE_LOST[15:0], 17 R538: Messages dropped at Die 0's collector under R525 -/
def FLT_DIE_LOST_LOST_D0 : Field := ⟨0x120020, 8, 1, 0, 16, .rc, 0, false, false, false, false⟩
/-- FLT_CL_HIST[63:0], 17 R538: Half of the message -/
def FLT_CL_HIST_MSG : Field := ⟨0x120100, 8, 32, 0, 64, .ro, 0, false, false, false, false⟩
/-- FLT_RG_LO[63:0], 17 R538 -/
def FLT_RG_LO_MSG : Field := ⟨0x120200, 32, 8, 0, 64, .ro, 0, false, false, false, false⟩
/-- FLT_RG_HI[63:0], 17 R538 -/
def FLT_RG_HI_MSG : Field := ⟨0x120208, 32, 8, 0, 64, .ro, 0, false, false, false, false⟩
/-- FLT_RG_STAT[63:63], 17 R538: A record is open, by R526 -/
def FLT_RG_STAT_VALID : Field := ⟨0x120210, 32, 8, 63, 1, .w1c, 0, false, false, false, false⟩
/-- FLT_RG_STAT[47:32], 17 R538: OR of merged kinds -/
def FLT_RG_STAT_KIND_OR : Field := ⟨0x120210, 32, 8, 32, 16, .ro, 0, false, false, false, false⟩
/-- FLT_RG_STAT[31:16], 17 R538: Messages merged; holds at 0xFFFF -/
def FLT_RG_STAT_MERGES : Field := ⟨0x120210, 32, 8, 16, 16, .ro, 0, false, false, false, false⟩
/-- FLT_RG_STAT[15:0], 17 R538: Messages dropped under R525; holds at 0xFFFF -/
def FLT_RG_STAT_LOST : Field := ⟨0x120210, 32, 8, 0, 16, .rc, 0, false, false, false, false⟩
/-- FLT_FENCE0[15:0], 17 R538 -/
def FLT_FENCE0_VERSION : Field := ⟨0x120300, 8, 1, 0, 16, .ro, 0x100, false, false, false, false⟩
/-- FLT_FENCE[63:0], 17 R538: Word j of the record of R255 -/
def FLT_FENCE_MAP : Field := ⟨0x120308, 8, 10, 0, 64, .w1s, 0, false, false, false, true⟩
/-- FLT_DIAG[63:48], 17 R538: DIAG_TRANSIENT outcomes -/
def FLT_DIAG_TRANSIENT : Field := ⟨0x120400, 8, 64, 48, 16, .rc, 0, false, false, false, false⟩
/-- FLT_DIAG[47:40], 17 R538: DIAG_PERMANENT and MXE_REPAIRED outcomes -/
def FLT_DIAG_PERMANENT : Field := ⟨0x120400, 8, 64, 40, 8, .rc, 0, false, false, false, false⟩
/-- FLT_DIAG[39:32], 17 R538: DIAG_UNRESOLVED outcomes -/
def FLT_DIAG_UNRESOLVED : Field := ⟨0x120400, 8, 64, 32, 8, .rc, 0, false, false, false, false⟩
/-- FLT_DIAG[31:16], 17 R538: Failures not diagnosed, by R520 -/
def FLT_DIAG_BUSY_LOST : Field := ⟨0x120400, 8, 64, 16, 16, .rc, 0, false, false, false, false⟩
/-- FLT_DIAG[10:8], 17 R538: Slot of R506 of the unit held -/
def FLT_DIAG_SLOT : Field := ⟨0x120400, 8, 64, 8, 3, .ro, 0, false, false, false, false⟩
/-- FLT_DIAG[1:0], 17 R538: 0 IDLE; 1 HELD; 2 RUNNING -/
def FLT_DIAG_STATE : Field := ⟨0x120400, 8, 64, 0, 2, .ro, 0, false, false, false, false⟩
/-- INJ_ARM[15:0], 17 R539: Key word, by R531 -/
def INJ_ARM_KEY : Field := ⟨0x130000, 8, 1, 0, 16, .wo, 0, false, false, false, false⟩
/-- INJ_TARGET[63:63], 17 R539: Fire, by R532; ignored unless ARMED; clears on firing -/
def INJ_TARGET_GO : Field := ⟨0x130008, 8, 1, 63, 1, .w1s, 0, false, false, false, false⟩
/-- INJ_TARGET[62:62], 17 R539: Permit a C4 kind -/
def INJ_TARGET_GRAVE : Field := ⟨0x130008, 8, 1, 62, 1, .rw, 0, true, false, false, false⟩
/-- INJ_TARGET[61:60], 17 R539: 0 report; 1 correctable corruption; 2 uncorrectable corruption; 3 treated as 0 -/
def INJ_TARGET_MODE : Field := ⟨0x130008, 8, 1, 60, 2, .rw, 0, true, false, false, false⟩
/-- INJ_TARGET[59:48], 17 R539: Events per firing; 0 is treated as 1 -/
def INJ_TARGET_COUNT : Field := ⟨0x130008, 8, 1, 48, 12, .rw, 1, true, false, false, false⟩
/-- INJ_TARGET[47:45], 17 R539: Level, by R505 -/
def INJ_TARGET_LEVEL : Field := ⟨0x130008, 8, 1, 45, 3, .rw, 0, true, false, false, false⟩
/-- INJ_TARGET[44:34], 17 R539: Unit, by R506 -/
def INJ_TARGET_UNIT : Field := ⟨0x130008, 8, 1, 34, 11, .rw, 0, true, false, false, false⟩
/-- INJ_TARGET[33:18], 17 R539: Kind, by R516 -/
def INJ_TARGET_KIND : Field := ⟨0x130008, 8, 1, 18, 16, .rw, 0, true, false, false, false⟩
/-- INJ_TOLL[63:0], 17 R539: Toll count at which to fire; 0 fires at once -/
def INJ_TOLL_WHEN : Field := ⟨0x130010, 8, 1, 0, 64, .rw, 0, true, false, false, false⟩
/-- INJ_STATUS[33:33], 17 R539: A firing was refused under R532 -/
def INJ_STATUS_REJ : Field := ⟨0x130018, 8, 1, 33, 1, .w1c, 0, false, false, false, false⟩
/-- INJ_STATUS[32:32], 17 R539: Armed under R531 -/
def INJ_STATUS_ARMED : Field := ⟨0x130018, 8, 1, 32, 1, .ro, 0, false, false, false, false⟩
/-- INJ_STATUS[31:16], 17 R539: Events still to fire -/
def INJ_STATUS_PENDING : Field := ⟨0x130018, 8, 1, 16, 16, .ro, 0, false, false, false, false⟩
/-- INJ_STATUS[15:0], 17 R539: Events injected; holds at 0xFFFF -/
def INJ_STATUS_FIRED : Field := ⟨0x130018, 8, 1, 0, 16, .rc, 0, false, false, false, false⟩
/-- CKPT_CFG[17:16], 18 R563: Local drives, 0–2; 3 is treated as 0 -/
def CKPT_CFG_DRIVES : Field := ⟨0x140000, 8, 1, 16, 2, .rw, 0, false, false, false, false⟩
/-- CKPT_CFG[15:0], 18 R563: Receive timeout in units of 2²⁰ CK; reset is 1,024; 0 is treated as 1 -/
def CKPT_CFG_TIMEOUT : Field := ⟨0x140000, 8, 1, 0, 16, .rw, 0x400, true, false, false, false⟩
/-- CKPT_STATUS[55:52], 18 R563: 0 IDLE; 1 SAVE; 2 LOAD; 3 RECEIVE; 4 SEND; 5 FILL; 6 UPLOAD -/
def CKPT_STATUS_OP : Field := ⟨0x140008, 8, 1, 52, 4, .ro, 0, false, false, false, false⟩
/-- CKPT_STATUS[50:50], 18 R563: A ride drain wrote a poisoned block, under R421 -/
def CKPT_STATUS_MIRROR_POISON : Field := ⟨0x140008, 8, 1, 50, 1, .ro, 0, false, false, false, true⟩
/-- CKPT_STATUS[49:49], 18 R563: A restore wrote state and did not complete DONE -/
def CKPT_STATUS_DIRTY : Field := ⟨0x140008, 8, 1, 49, 1, .w1c, 0, false, false, false, false⟩
/-- CKPT_STATUS[48:48], 18 R563: NEXT_BEAT is valid -/
def CKPT_STATUS_NEXT_V : Field := ⟨0x140008, 8, 1, 48, 1, .ro, 0, false, false, false, false⟩
/-- CKPT_STATUS[47:0], 18 R563: First uncommitted Beat, by R547 -/
def CKPT_STATUS_NEXT_BEAT : Field := ⟨0x140008, 8, 1, 0, 48, .ro, 0, false, false, false, false⟩
/-- CKPT_PROGRESS[57:48], 18 R563: Segment in progress -/
def CKPT_PROGRESS_SEGMENT : Field := ⟨0x140010, 8, 1, 48, 10, .ro, 0, false, false, false, false⟩
/-- CKPT_PROGRESS[47:0], 18 R563: Image bytes moved by the current or last operation -/
def CKPT_PROGRESS_BYTES : Field := ⟨0x140010, 8, 1, 0, 48, .ro, 0, false, false, false, false⟩
/-- CKPT_SLOT[63:63], 18 R563: The slot is valid, by R546 -/
def CKPT_SLOT_VALID : Field := ⟨0x140018, 8, 2, 63, 1, .ro, 0, false, false, false, false⟩
/-- CKPT_SLOT[62:48], 18 R563: SAVE_SEQ bits 14:0 -/
def CKPT_SLOT_SEQ : Field := ⟨0x140018, 8, 2, 48, 15, .ro, 0, false, false, false, false⟩
/-- CKPT_SLOT[47:0], 18 R563: IMAGE_BEAT -/
def CKPT_SLOT_BEAT : Field := ⟨0x140018, 8, 2, 0, 48, .ro, 0, false, false, false, false⟩
/-- CKPT_EPOCH[7:0], 18 R563: Placement epoch, by R559 -/
def CKPT_EPOCH_EPOCH : Field := ⟨0x140028, 8, 1, 0, 8, .rw, 0, true, false, false, false⟩
/-- CKPT_COUNTS[63:48], 18 R563: Cells discarded under R559 -/
def CKPT_COUNTS_EPOCH_STALE : Field := ⟨0x140030, 8, 1, 48, 16, .rc, 0, false, false, false, false⟩
/-- CKPT_COUNTS[47:32], 18 R563: Restore cells discarded under R551 -/
def CKPT_COUNTS_STRAY : Field := ⟨0x140030, 8, 1, 32, 16, .rc, 0, false, false, false, false⟩
/-- CKPT_COUNTS[31:16], 18 R563: Segments that failed check 6 -/
def CKPT_COUNTS_DIGEST_FAIL : Field := ⟨0x140030, 8, 1, 16, 16, .rc, 0, false, false, false, false⟩
/-- CKPT_COUNTS[15:0], 18 R563: NVMe commands that ended in error -/
def CKPT_COUNTS_NVME_FAIL : Field := ⟨0x140030, 8, 1, 0, 16, .rc, 0, false, false, false, false⟩
/-- BOOT_STATUS[63:32], 19 R593: BOOT_COUNT bits 31:0 -/
def BOOT_STATUS_BOOT_COUNT : Field := ⟨0x150000, 8, 1, 32, 32, .ro, 0, false, false, true, false⟩
/-- BOOT_STATUS[23:16], 19 R593: 0 none; 1 MEM_TRAIN, by R567 -/
def BOOT_STATUS_FAIL : Field := ⟨0x150000, 8, 1, 16, 8, .ro, 0, false, false, true, false⟩
/-- BOOT_STATUS[7:7], 19 R593: A trial reverted at REVERT_TOLL, by R588 -/
def BOOT_STATUS_REVERTED : Field := ⟨0x150000, 8, 1, 7, 1, .w1c, 0, false, false, false, false⟩
/-- BOOT_STATUS[6:6], 19 R593: By R571 -/
def BOOT_STATUS_FALLBACK : Field := ⟨0x150000, 8, 1, 6, 1, .ro, 0, false, false, true, false⟩
/-- BOOT_STATUS[5:5], 19 R593: Bank the running firmware came from: 0 A, 1 B -/
def BOOT_STATUS_BANK : Field := ⟨0x150000, 8, 1, 5, 1, .ro, 0, false, false, true, false⟩
/-- BOOT_STATUS[4:4], 19 R593: By R579 -/
def BOOT_STATUS_IDENTITY_V : Field := ⟨0x150000, 8, 1, 4, 1, .ro, 0, false, false, true, false⟩
/-- BOOT_STATUS[3:0], 19 R593: 0 ROM; 1 FIRST; 2 MEMORY; 3 READY; 4 RESTART; 5 FAILED -/
def BOOT_STATUS_STAGE : Field := ⟨0x150000, 8, 1, 0, 4, .ro, 0, false, false, true, false⟩
/-- BOOT_FW[63:32], 19 R593: SVN -/
def BOOT_FW_SVN : Field := ⟨0x150008, 8, 1, 32, 32, .ro, 0, false, false, true, false⟩
/-- BOOT_FW[31:0], 19 R593: FW_VERSION, by R572 -/
def BOOT_FW_FW_VERSION : Field := ⟨0x150008, 8, 1, 0, 32, .ro, 0, false, false, true, false⟩
/-- BOOT_COUNTER[31:0], 19 R593: Anti-rollback counter, by R582 -/
def BOOT_COUNTER_COUNTER : Field := ⟨0x150010, 8, 1, 0, 32, .ro, 0, false, false, true, false⟩
/-- BOOT_STAGED[63:32], 19 R593: SVN -/
def BOOT_STAGED_SVN : Field := ⟨0x150018, 8, 1, 32, 32, .ro, 0, false, false, true, false⟩
/-- BOOT_STAGED[31:0], 19 R593: FW_VERSION, by R572 -/
def BOOT_STAGED_FW_VERSION : Field := ⟨0x150018, 8, 1, 0, 32, .ro, 0, false, false, true, false⟩
/-- BOOT_UPDATE[2:0], 19 R593: 0 NONE; 1 STAGING; 2 STAGED; 3 ARMED; 4 TRIAL -/
def BOOT_UPDATE_STATE : Field := ⟨0x150020, 8, 1, 0, 3, .ro, 0, false, false, true, false⟩
/-- BOOT_UPDATE_TOLL[63:0], 19 R593: UPDATE_TOLL or REVERT_TOLL of the latest accepted BOOT_ACTIVATE -/
def BOOT_UPDATE_TOLL_TOLL : Field := ⟨0x150028, 8, 1, 0, 64, .ro, 0, false, false, true, false⟩
/-- BOOT_REVERT_TOLL[63:0], 19 R593: UPDATE_TOLL or REVERT_TOLL of the latest accepted BOOT_ACTIVATE -/
def BOOT_REVERT_TOLL_TOLL : Field := ⟨0x150030, 8, 1, 0, 64, .ro, 0, false, false, true, false⟩
/-- BOOT_DEVICE_ID[63:0], 19 R593: Eight bytes of the digest -/
def BOOT_DEVICE_ID_DIGEST : Field := ⟨0x150038, 8, 4, 0, 64, .ro, 0, false, false, true, false⟩
/-- BOOT_DBG_CHAL[63:0], 19 R593: Eight bytes of the digest -/
def BOOT_DBG_CHAL_DIGEST : Field := ⟨0x150058, 8, 4, 0, 64, .ro, 0, false, false, true, false⟩
/-- BOOT_DEBUG[63:32], 19 R593: DEBUG_OPEN attempts since this start -/
def BOOT_DEBUG_TRIES : Field := ⟨0x150078, 8, 1, 32, 32, .ro, 0, false, false, true, false⟩
/-- BOOT_DEBUG[0:0], 19 R593: Debug is open, by R590 -/
def BOOT_DEBUG_OPEN : Field := ⟨0x150078, 8, 1, 0, 1, .ro, 0, false, false, true, false⟩
/-- ENG_PWR_LIMIT[27:16], 01 R35: Hysteresis in W, range 10–200; reset is 50 -/
def ENG_PWR_LIMIT_HYST_W : Field := ⟨0x160400, 8, 1, 16, 12, .rw, 0x32, true, false, false, false⟩
/-- ENG_PWR_LIMIT[11:0], 01 R35: Power limit in W, range 1,200–2,400; reset is 2,400 -/
def ENG_PWR_LIMIT_LIMIT_W : Field := ⟨0x160400, 8, 1, 0, 12, .rw, 0x960, true, false, false, false⟩
/-- ENG_PWR_STATUS[47:36], 01 R36: Mean of the last 1,000 samples, in W; the mean counts samples not yet taken as zero -/
def ENG_PWR_STATUS_AVG_W : Field := ⟨0x160408, 8, 1, 36, 12, .ro, 0, false, false, false, false⟩
/-- ENG_PWR_STATUS[35:24], 01 R36: Latest sample, in W -/
def ENG_PWR_STATUS_SAMPLE_W : Field := ⟨0x160408, 8, 1, 24, 12, .ro, 0, false, false, false, false⟩
/-- ENG_PWR_STATUS[7:4], 01 R36: Thermal floor: 0 or 8 -/
def ENG_PWR_STATUS_THERM_FLOOR : Field := ⟨0x160408, 8, 1, 4, 4, .ro, 0, false, false, false, false⟩
/-- ENG_PWR_STATUS[3:0], 01 R36: Governor level T -/
def ENG_PWR_STATUS_THROTTLE : Field := ⟨0x160408, 8, 1, 0, 4, .ro, 0, false, false, false, false⟩
/-- ENG_PWR_THROTTLE_US[31:0], 01 R37: Samples at which the effective level was above 0; holds at 0xFFFF_FFFF -/
def ENG_PWR_THROTTLE_US_THR_US : Field := ⟨0x160410, 8, 1, 0, 32, .rc, 0, false, false, false, false⟩
/-- ENG_PWR_STATE[15:12], 01 R50: 0 none; 1 thermal trip; 2 regulator fault; 3 sequence violation; 4 tamper; 5 boot state uncorrectable -/
def ENG_PWR_STATE_C4_CAUSE : Field := ⟨0x160418, 8, 1, 12, 4, .ro, 0, false, false, false, true⟩
/-- ENG_PWR_STATE[11:8], 01 R50: Bit 8 + n − 1 is set while every rail of group n is in regulation -/
def ENG_PWR_STATE_GRP_OK : Field := ⟨0x160418, 8, 1, 8, 4, .ro, 1, false, false, false, false⟩
/-- ENG_PWR_STATE[4:4], 01 R50: Request an orderly power-off; cleared at power-on only -/
def ENG_PWR_STATE_OFF_REQ : Field := ⟨0x160418, 8, 1, 4, 1, .w1s, 0, false, false, false, false⟩
/-- ENG_PWR_STATE[3:0], 01 R50: 0x1 AON_UP; 0x2 POWERING; 0x3 WAIT_RESET; 0x4 RUNNING; 0x5 OFF_PENDING; 0x6 SAFE_OFF; 0xF FAULTED -/
def ENG_PWR_STATE_STATE : Field := ⟨0x160418, 8, 1, 0, 4, .ro, 1, false, false, false, false⟩
/-- ENG_THERM_CFG[39:32], 01 R39: Memory stack trip, 100 °C -/
def ENG_THERM_CFG_TRIP_MEM_C : Field := ⟨0x160420, 8, 1, 32, 8, .ro, 0x64, false, false, false, false⟩
/-- ENG_THERM_CFG[31:24], 01 R39: Optical engine trip, 90 °C -/
def ENG_THERM_CFG_TRIP_OE_C : Field := ⟨0x160420, 8, 1, 24, 8, .ro, 0x5a, false, false, false, false⟩
/-- ENG_THERM_CFG[23:16], 01 R39: Fabric and hub die trip, 115 °C -/
def ENG_THERM_CFG_TRIP_C : Field := ⟨0x160420, 8, 1, 16, 8, .ro, 0x73, false, false, false, false⟩
/-- ENG_THERM_CFG[15:8], 01 R39: Memory stack throttle threshold, range 60–90 °C; reset is 85 °C -/
def ENG_THERM_CFG_MEM_THROTTLE_C : Field := ⟨0x160420, 8, 1, 8, 8, .rw, 0x55, false, false, false, false⟩
/-- ENG_THERM_CFG[7:0], 01 R39: Fabric die throttle threshold, range 70–100 °C; reset is 95 °C -/
def ENG_THERM_CFG_THROTTLE_C : Field := ⟨0x160420, 8, 1, 0, 8, .rw, 0x5f, false, false, false, false⟩
/-- ENG_SENSE_REGION[47:32], 01 R38: Second rail, in mV -/
def ENG_SENSE_REGION_VAUX_MV : Field := ⟨0x160440, 8, 8, 32, 16, .ro, 0, false, false, false, false⟩
/-- ENG_SENSE_REGION[31:16], 01 R38: First rail, in mV -/
def ENG_SENSE_REGION_VMAIN_MV : Field := ⟨0x160440, 8, 8, 16, 16, .ro, 0, false, false, false, false⟩
/-- ENG_SENSE_REGION[15:0], 01 R38: Temperature, two's complement, in units of 0.25 °C -/
def ENG_SENSE_REGION_TEMP : Field := ⟨0x160440, 8, 8, 0, 16, .ro, 0, false, false, false, false⟩
/-- ENG_SENSE_HUB[47:32], 01 R38: Second rail, in mV -/
def ENG_SENSE_HUB_VAUX_MV : Field := ⟨0x160480, 8, 1, 32, 16, .ro, 0, false, false, false, false⟩
/-- ENG_SENSE_HUB[31:16], 01 R38: First rail, in mV -/
def ENG_SENSE_HUB_VMAIN_MV : Field := ⟨0x160480, 8, 1, 16, 16, .ro, 0, false, false, false, false⟩
/-- ENG_SENSE_HUB[15:0], 01 R38: Temperature, two's complement, in units of 0.25 °C -/
def ENG_SENSE_HUB_TEMP : Field := ⟨0x160480, 8, 1, 0, 16, .ro, 0, false, false, false, false⟩
/-- ENG_SENSE_MEM[47:32], 01 R38: Second rail, in mV -/
def ENG_SENSE_MEM_VAUX_MV : Field := ⟨0x160500, 8, 16, 32, 16, .ro, 0, false, false, false, false⟩
/-- ENG_SENSE_MEM[31:16], 01 R38: First rail, in mV -/
def ENG_SENSE_MEM_VMAIN_MV : Field := ⟨0x160500, 8, 16, 16, 16, .ro, 0, false, false, false, false⟩
/-- ENG_SENSE_MEM[15:0], 01 R38: Temperature, two's complement, in units of 0.25 °C -/
def ENG_SENSE_MEM_TEMP : Field := ⟨0x160500, 8, 16, 0, 16, .ro, 0, false, false, false, false⟩
/-- ENG_SENSE_OE[47:32], 01 R38: Second rail, in mV -/
def ENG_SENSE_OE_VAUX_MV : Field := ⟨0x160580, 8, 8, 32, 16, .ro, 0, false, false, false, false⟩
/-- ENG_SENSE_OE[31:16], 01 R38: First rail, in mV -/
def ENG_SENSE_OE_VMAIN_MV : Field := ⟨0x160580, 8, 8, 16, 16, .ro, 0, false, false, false, false⟩
/-- ENG_SENSE_OE[15:0], 01 R38: Temperature, two's complement, in units of 0.25 °C -/
def ENG_SENSE_OE_TEMP : Field := ⟨0x160580, 8, 8, 0, 16, .ro, 0, false, false, false, false⟩
/-- ENG_REPAIR[35:34], 05 R202: Checks made, by R197: 0 both axes; 1 AXIS 0 only; 2 none -/
def ENG_REPAIR_COVER : Field := ⟨0x160800, 8, 64, 34, 2, .ro, 0, false, false, true, false⟩
/-- ENG_REPAIR[33:33], 05 R202: A write was rejected under R198 -/
def ENG_REPAIR_REJ : Field := ⟨0x160800, 8, 64, 33, 1, .w1c, 0, false, false, true, false⟩
/-- ENG_REPAIR[32:32], 05 R202: A spare row substitutes; LAT is 181 -/
def ENG_REPAIR_LAT1 : Field := ⟨0x160800, 8, 64, 32, 1, .ro, 0, false, false, true, false⟩
/-- ENG_REPAIR[31:31], 05 R202: Entry 3 valid; spare row 130 -/
def ENG_REPAIR_SUB3_V : Field := ⟨0x160800, 8, 64, 31, 1, .rw, 0, true, false, true, true⟩
/-- ENG_REPAIR[30:24], 05 R202: Working row replaced by entry 3 -/
def ENG_REPAIR_SUB3_ROW : Field := ⟨0x160800, 8, 64, 24, 7, .rw, 0, true, false, true, true⟩
/-- ENG_REPAIR[23:23], 05 R202: Entry 2 valid; spare row 129 -/
def ENG_REPAIR_SUB2_V : Field := ⟨0x160800, 8, 64, 23, 1, .rw, 0, true, false, true, true⟩
/-- ENG_REPAIR[22:16], 05 R202: Working row replaced by entry 2 -/
def ENG_REPAIR_SUB2_ROW : Field := ⟨0x160800, 8, 64, 16, 7, .rw, 0, true, false, true, true⟩
/-- ENG_REPAIR[15:15], 05 R202: Entry 1 valid; spare row 128 -/
def ENG_REPAIR_SUB1_V : Field := ⟨0x160800, 8, 64, 15, 1, .rw, 0, true, false, true, true⟩
/-- ENG_REPAIR[14:8], 05 R202: Working row replaced by entry 1 -/
def ENG_REPAIR_SUB1_ROW : Field := ⟨0x160800, 8, 64, 8, 7, .rw, 0, true, false, true, true⟩
/-- ENG_REPAIR[7:7], 05 R202: Entry 0 valid; spare row 131 -/
def ENG_REPAIR_SUB0_V : Field := ⟨0x160800, 8, 64, 7, 1, .rw, 0, true, false, true, true⟩
/-- ENG_REPAIR[6:0], 05 R202: Working row replaced by entry 0 -/
def ENG_REPAIR_SUB0_ROW : Field := ⟨0x160800, 8, 64, 0, 7, .rw, 0, true, false, true, true⟩

end F

/-- Fields of block BEAT. -/
def fieldsBeat : List Field :=
  [F.BEAT_PERIOD_STRETCH, F.BEAT_PERIOD_PERIOD, F.BEAT_LEAD_HOLD_LEAD, F.BEAT_LAUNCH_LAUNCH_TOLL,
   F.BEAT_NUM_NUM, F.BEAT_NEXT_BOUNDARY, F.BEAT_STATUS_REPLAY_RUN, F.BEAT_STATUS_STRETCHES,
   F.BEAT_STATUS_STATE, F.BEAT_COUNTS_REPLAYS, F.BEAT_COUNTS_STRETCHES, F.BEAT_CLAVE_CFG_MODE,
   F.BEAT_CLAVE_EDGE_EDGE, F.BEAT_CLAVE_STATUS_LAST_D, F.BEAT_CLAVE_STATUS_PEND, F.BEAT_CLAVE_COUNTS_DISCARDED,
   F.BEAT_CLAVE_COUNTS_ACCEPTED]

/-- Fields of block TOLL. -/
def fieldsToll : List Field :=
  [F.TOLL_COUNT_COUNT, F.TOLL_PRESET_VALUE, F.TOLL_STATUS_RATE_PPB, F.TOLL_STATUS_DEPTH,
   F.TOLL_STATUS_OFFSET, F.TOLL_STATUS_PRESET_REJ, F.TOLL_STATUS_STATE, F.TOLL_DELAY_DELAY,
   F.TOLL_EXCURSIONS_SLEWS]

/-- Fields of block GONG. -/
def fieldsGong : List Field :=
  [F.GONG_CFG_PARENT_PORT, F.GONG_CFG_ROOT, F.GONG_CHILD_LO_CHILD, F.GONG_CHILD_HI_CHILD,
   F.GONG_LAT_MAX_CK, F.GONG_LAT_MEAS_CK, F.GONG_SEAL_LO_SEAL, F.GONG_SEAL_HI_SEAL,
   F.GONG_WORD_LO_WORD, F.GONG_WORD_HI_WORD, F.GONG_VOUCH_BEAT, F.GONG_CAUSES_CAUSE_ACC,
   F.GONG_WAIT_SUBTREE_CK, F.GONG_WAIT_SEAL_WAIT]

/-- Fields of block CHIME. -/
def fieldsChime : List Field :=
  [F.CHIME_CFG_SCORE_CHIMES_D1, F.CHIME_CFG_SCORE_CHIMES_D0, F.CHIME_STATUS_OVF, F.CHIME_STATUS_OVF_INDEX,
   F.CHIME_STATUS_STALE, F.CHIME_STATUS_QMAX]

/-- Fields of block TALLY. -/
def fieldsTally : List Field :=
  [F.TALLY_CFG_TIMEOUT_K, F.TALLY_CFG_SCORE_RECORDS, F.TALLY_CFG_SCORE_PECKS, F.TALLY_PARK_PARK_SPILL,
   F.TALLY_PARK_PARKED_D1, F.TALLY_PARK_PARKED_D0, F.TALLY_DISCARD_A_FMT_BAD, F.TALLY_DISCARD_A_NODE_BAD,
   F.TALLY_DISCARD_A_SEQ_MISMATCH, F.TALLY_DISCARD_A_CSUM_BAD, F.TALLY_DISCARD_B_STALE_BEAT, F.TALLY_DISCARD_B_DUP,
   F.TALLY_DISCARD_B_REJECTED, F.TALLY_CLUSTER_ISAT, F.TALLY_CLUSTER_OVF, F.TALLY_CLUSTER_INV,
   F.TALLY_CLUSTER_NANIN, F.TALLY_CLUSTER_ACTIVE, F.TALLY_CLUSTER_LARGEST_RUN, F.TALLY_CLUSTER_FREE]

/-- Fields of block MXE. -/
def fieldsMxe : List Field :=
  [F.MXE_CFG_FIXED_LAT, F.MXE_CFG_SCORED_LAT, F.MXE_ENG_CHECK_FAIL, F.MXE_ENG_ISAT,
   F.MXE_ENG_OVF, F.MXE_ENG_INV, F.MXE_ENG_NANIN, F.MXE_ENG_EMPTY,
   F.MXE_ENG_STATE, F.MXE_ENG_STEP, F.MXE_ENG_LAT]

/-- Fields of block VXE. -/
def fieldsVxe : List Field :=
  [F.VXE_ENG_OVF, F.VXE_ENG_INV, F.VXE_ENG_NANIN, F.VXE_ENG_STATE,
   F.VXE_ENG_QDEPTH]

/-- Fields of block SEQ. -/
def fieldsSeq : List Field :=
  [F.SEQ_CFG_RING_LOG2, F.SEQ_CFG_RING_BASE, F.SEQ_SCORE_LAST_CODE, F.SEQ_SCORE_STATE,
   F.SEQ_DIGEST_DIGEST, F.SEQ_LAYOUT_DIGEST, F.SEQ_LOAD_CFG_STRICT, F.SEQ_PAUSE_PAUSE_BEAT,
   F.SEQ_UNDO_STALE, F.SEQ_UNDO_HWM, F.SEQ_UNDO_CAP, F.SEQ_CLUSTER_WAIT_CHIME,
   F.SEQ_CLUSTER_INDEX, F.SEQ_CLUSTER_CCOUNT, F.SEQ_CLUSTER_ILLEGAL, F.SEQ_CLUSTER_STATE,
   F.SEQ_CLUSTER_STALL]

/-- Fields of block COLL. -/
def fieldsColl : List Field :=
  [F.COLL_CFG_COLL_THRESH, F.COLL_STATUS_ACTIVE, F.COLL_STATUS_GROUPS, F.COLL_COUNTS_STARTED,
   F.COLL_COUNTS_FALLBACKS, F.COLL_COUNTS_EXPIRED, F.COLL_SEQ_SEL_HANDLE, F.COLL_SEQ_REG,
   F.COLL_SEQ_LATEST, F.COLL_SEQ_NEXT]

/-- Fields of block OPT. -/
def fieldsOpt : List Field :=
  [F.OPT_RIDE_CFG_PARTNER, F.OPT_RIDE_CFG_EN, F.OPT_HOLD_CFG_SOURCE, F.OPT_HOLD_CFG_HOLD,
   F.OPT_RIDE_STATUS_QHWM, F.OPT_RIDE_STATUS_FILLED, F.OPT_RIDE_STATUS_DRAINING, F.OPT_RIDE_STATUS_CONSISTENT,
   F.OPT_MIRROR_BEAT_VALID, F.OPT_MIRROR_BEAT_BEAT, F.OPT_RIDE_COUNTS_CELLS, F.OPT_RIDE_COUNTS_STALE,
   F.OPT_RIDE_COUNTS_REFUSED]

/-- Fields of block XBAR. -/
def fieldsXbar : List Field :=
  [F.XBAR_CFG_SPILL_GIB, F.XBAR_CFG_RESEQ_TO, F.XBAR_CFG_SPRAY_FIXED, F.XBAR_BUF_SPILL_MIB,
   F.XBAR_BUF_OPEN_D1, F.XBAR_BUF_OPEN_D0, F.XBAR_DROP_A_SC_DROP, F.XBAR_DROP_A_SC_STALE,
   F.XBAR_DROP_A_HDR_BAD, F.XBAR_DROP_A_PCRC_BAD, F.XBAR_DROP_B_PURGED, F.XBAR_DROP_B_RESEQ_FULL,
   F.XBAR_DROP_B_RESEQ_GAP, F.XBAR_DROP_B_RESEQ_LATE, F.XBAR_MIR_CFG_VC_MASK, F.XBAR_MIR_CFG_TYPE_MASK,
   F.XBAR_MIR_CFG_SAMPLE_LOG2, F.XBAR_MIR_CFG_DIR, F.XBAR_MIR_CFG_WRAP, F.XBAR_MIR_CFG_EN,
   F.XBAR_MIR_PORT_LO_PORTS, F.XBAR_MIR_PORT_HI_PORTS, F.XBAR_MIR_RING_SIZE_LOG2, F.XBAR_MIR_RING_BASE,
   F.XBAR_MIR_STATUS_FULL, F.XBAR_MIR_STATUS_WPTR, F.XBAR_MIR_DROP_MIR_DROP]

/-- Fields of block CAL. -/
def fieldsCal : List Field :=
  [F.CAL_PHASE_PAGES_D1, F.CAL_PHASE_PAGES_D0, F.CAL_TIME_CT, F.CAL_COUNTS_USED,
   F.CAL_COUNTS_IDLE]

/-- Fields of block ROUTE. -/
def fieldsRoute : List Field :=
  [F.ROUTE_TOPO_DEV_ACRE, F.ROUTE_TOPO_ACRE_V, F.ROUTE_TOPO_LEVEL, F.ROUTE_TOPO_ARR,
   F.ROUTE_TOPO_SZ, F.ROUTE_TOPO_SY, F.ROUTE_TOPO_SX, F.ROUTE_TOPO_COORD,
   F.ROUTE_BANK_WAVE, F.ROUTE_BANK_PREP_ACRE, F.ROUTE_BANK_GEN, F.ROUTE_BANK_STATE,
   F.ROUTE_BANK_ACTIVE, F.ROUTE_DROPS_GEN_STALE, F.ROUTE_DROPS_ACRE_DROP, F.ROUTE_DROPS_TRANSIT_OPEN,
   F.ROUTE_DROPS_ROUTE_MISS, F.ROUTE_PORT_TAG_V, F.ROUTE_PORT_TAG, F.ROUTE_PORT_G3_V,
   F.ROUTE_PORT_G3, F.ROUTE_PORT_G2_V, F.ROUTE_PORT_G2, F.ROUTE_PORT_G1_V,
   F.ROUTE_PORT_G1, F.ROUTE_PORT_G0_V, F.ROUTE_PORT_G0, F.ROUTE_NBR_KIND,
   F.ROUTE_NBR_PORT, F.ROUTE_NBR_COORD]

/-- Fields of block SHAPE. -/
def fieldsShape : List Field :=
  [F.SHAPE_CLASS_CKPT_HI, F.SHAPE_CLASS_CKPT_LO, F.SHAPE_CLASS_STOR_HI, F.SHAPE_CLASS_STOR_LO,
   F.SHAPE_TEL_CFG_VC_MASK, F.SHAPE_TEL_CFG_WRAP, F.SHAPE_TEL_CFG_EN, F.SHAPE_TEL_RING_SIZE_LOG2,
   F.SHAPE_TEL_RING_BASE, F.SHAPE_TEL_PORT_LO_PORTS, F.SHAPE_TEL_PORT_HI_PORTS, F.SHAPE_TEL_STATUS_FULL,
   F.SHAPE_TEL_STATUS_WPTR, F.SHAPE_PORT_CMAX, F.SHAPE_PORT_FALL, F.SHAPE_PORT_RISE,
   F.SHAPE_STOR_TOKENS, F.SHAPE_STOR_BURST, F.SHAPE_STOR_RATE, F.SHAPE_CKPT_TOKENS,
   F.SHAPE_CKPT_BURST, F.SHAPE_CKPT_RATE, F.SHAPE_MGT_TOKENS, F.SHAPE_MGT_BURST,
   F.SHAPE_MGT_RATE]

/-- Fields of block POOL. -/
def fieldsPool : List Field :=
  [F.POOL_CFG_COUNT, F.POOL_CFG_BASE, F.POOL_STATE_BUILDING, F.POOL_STATE_FREE,
   F.POOL_STATE_HEAD, F.POOL_EMPTY_COUNTS_HOGSHEAD, F.POOL_EMPTY_COUNTS_GALLON, F.POOL_EMPTY_COUNTS_QUART,
   F.POOL_EMPTY_COUNTS_PINT, F.POOL_EMPTY_COUNTS_GILL]

/-- Fields of block MEM. -/
def fieldsMem : List Field :=
  [F.MEM_CFG_SCRUB_EN, F.MEM_UE_FIRST_VALID, F.MEM_UE_FIRST_READER, F.MEM_UE_FIRST_ADDR,
   F.MEM_SCRUB_PASSES, F.MEM_STACK_UE, F.MEM_STACK_CE, F.MEM_STACK_STATE]

/-- Fields of block PORT. -/
def fieldsPort : List Field :=
  [F.PORT_RETRAIN_LO_PORTS, F.PORT_RETRAIN_HI_PORTS, F.PORT_LASER_LOW, F.PORT_CFG_RETRY_LIMIT,
   F.PORT_CFG_ATTEMPTS, F.PORT_CFG_SPLIT, F.PORT_LINK_DELAY, F.PORT_LINK_VERSION,
   F.PORT_LINK_PEER_PORT, F.PORT_LINK_SKEW, F.PORT_LINK_PEER_EP, F.PORT_LINK_TRIES,
   F.PORT_LINK_QCAUSE, F.PORT_LINK_STATE, F.PORT_PEER_FEATURES, F.PORT_PEER_COORD,
   F.PORT_ERR_UCW, F.PORT_ERR_REPLAYS, F.PORT_ERR_CRC_BAD, F.PORT_ERR_DOWNS,
   F.PORT_FEC_CSYM]

/-- Fields of block ACV. -/
def fieldsAcv : List Field :=
  [F.ACV_EQ_STEPS, F.ACV_LINK_VERSION, F.ACV_LINK_SKEW_UI, F.ACV_LINK_STATE,
   F.ACV_ERR_NOROOM, F.ACV_ERR_REPLAYS, F.ACV_ERR_LCRC_BAD, F.ACV_ERR_CODE_ERR,
   F.ACV_CFG_DESC_VER, F.ACV_CFG_POLL_CK, F.ACV_DOORBELL_BASE, F.ACV_FRING_BASE,
   F.ACV_FRING_FLOG2, F.ACV_LIVE_CFG_ERR, F.ACV_LIVE_LIVE, F.ACV_LIVE_GO,
   F.ACV_COUNTS_POLL_SKIP, F.ACV_COUNTS_WR_REFUSED, F.ACV_COUNTS_FRING_LOST, F.ACV_SQ_BASE,
   F.ACV_SQ_LOG2, F.ACV_SQ_EN, F.ACV_CQ_BASE, F.ACV_RCONS_WRITTEN,
   F.ACV_RCONS_CONS, F.ACV_RSTAT_STOPPED, F.ACV_RSTAT_INFLIGHT]

/-- Fields of block FLT. -/
def fieldsFlt : List Field :=
  [F.FLT_CFG_DIAG_EN, F.FLT_CFG_TRANS_LIMIT, F.FLT_COUNTS_C2, F.FLT_COUNTS_C1,
   F.FLT_COUNTS_C0, F.FLT_CL_SEL_CLUSTER, F.FLT_CL_NEXT_TAKEN, F.FLT_CL_NEXT_NEXT,
   F.FLT_DIE_LOST_LOST_D1, F.FLT_DIE_LOST_LOST_D0, F.FLT_CL_HIST_MSG, F.FLT_RG_LO_MSG,
   F.FLT_RG_HI_MSG, F.FLT_RG_STAT_VALID, F.FLT_RG_STAT_KIND_OR, F.FLT_RG_STAT_MERGES,
   F.FLT_RG_STAT_LOST, F.FLT_FENCE0_VERSION, F.FLT_FENCE_MAP, F.FLT_DIAG_TRANSIENT,
   F.FLT_DIAG_PERMANENT, F.FLT_DIAG_UNRESOLVED, F.FLT_DIAG_BUSY_LOST, F.FLT_DIAG_SLOT,
   F.FLT_DIAG_STATE]

/-- Fields of block INJ. -/
def fieldsInj : List Field :=
  [F.INJ_ARM_KEY, F.INJ_TARGET_GO, F.INJ_TARGET_GRAVE, F.INJ_TARGET_MODE,
   F.INJ_TARGET_COUNT, F.INJ_TARGET_LEVEL, F.INJ_TARGET_UNIT, F.INJ_TARGET_KIND,
   F.INJ_TOLL_WHEN, F.INJ_STATUS_REJ, F.INJ_STATUS_ARMED, F.INJ_STATUS_PENDING,
   F.INJ_STATUS_FIRED]

/-- Fields of block CKPT. -/
def fieldsCkpt : List Field :=
  [F.CKPT_CFG_DRIVES, F.CKPT_CFG_TIMEOUT, F.CKPT_STATUS_OP, F.CKPT_STATUS_MIRROR_POISON,
   F.CKPT_STATUS_DIRTY, F.CKPT_STATUS_NEXT_V, F.CKPT_STATUS_NEXT_BEAT, F.CKPT_PROGRESS_SEGMENT,
   F.CKPT_PROGRESS_BYTES, F.CKPT_SLOT_VALID, F.CKPT_SLOT_SEQ, F.CKPT_SLOT_BEAT,
   F.CKPT_EPOCH_EPOCH, F.CKPT_COUNTS_EPOCH_STALE, F.CKPT_COUNTS_STRAY, F.CKPT_COUNTS_DIGEST_FAIL,
   F.CKPT_COUNTS_NVME_FAIL]

/-- Fields of block BOOT. -/
def fieldsBoot : List Field :=
  [F.BOOT_STATUS_BOOT_COUNT, F.BOOT_STATUS_FAIL, F.BOOT_STATUS_REVERTED, F.BOOT_STATUS_FALLBACK,
   F.BOOT_STATUS_BANK, F.BOOT_STATUS_IDENTITY_V, F.BOOT_STATUS_STAGE, F.BOOT_FW_SVN,
   F.BOOT_FW_FW_VERSION, F.BOOT_COUNTER_COUNTER, F.BOOT_STAGED_SVN, F.BOOT_STAGED_FW_VERSION,
   F.BOOT_UPDATE_STATE, F.BOOT_UPDATE_TOLL_TOLL, F.BOOT_REVERT_TOLL_TOLL, F.BOOT_DEVICE_ID_DIGEST,
   F.BOOT_DBG_CHAL_DIGEST, F.BOOT_DEBUG_TRIES, F.BOOT_DEBUG_OPEN]

/-- Fields of block ENG. -/
def fieldsEng : List Field :=
  [F.ENG_PWR_LIMIT_HYST_W, F.ENG_PWR_LIMIT_LIMIT_W, F.ENG_PWR_STATUS_AVG_W, F.ENG_PWR_STATUS_SAMPLE_W,
   F.ENG_PWR_STATUS_THERM_FLOOR, F.ENG_PWR_STATUS_THROTTLE, F.ENG_PWR_THROTTLE_US_THR_US, F.ENG_PWR_STATE_C4_CAUSE,
   F.ENG_PWR_STATE_GRP_OK, F.ENG_PWR_STATE_OFF_REQ, F.ENG_PWR_STATE_STATE, F.ENG_THERM_CFG_TRIP_MEM_C,
   F.ENG_THERM_CFG_TRIP_OE_C, F.ENG_THERM_CFG_TRIP_C, F.ENG_THERM_CFG_MEM_THROTTLE_C, F.ENG_THERM_CFG_THROTTLE_C,
   F.ENG_SENSE_REGION_VAUX_MV, F.ENG_SENSE_REGION_VMAIN_MV, F.ENG_SENSE_REGION_TEMP, F.ENG_SENSE_HUB_VAUX_MV,
   F.ENG_SENSE_HUB_VMAIN_MV, F.ENG_SENSE_HUB_TEMP, F.ENG_SENSE_MEM_VAUX_MV, F.ENG_SENSE_MEM_VMAIN_MV,
   F.ENG_SENSE_MEM_TEMP, F.ENG_SENSE_OE_VAUX_MV, F.ENG_SENSE_OE_VMAIN_MV, F.ENG_SENSE_OE_TEMP,
   F.ENG_REPAIR_COVER, F.ENG_REPAIR_REJ, F.ENG_REPAIR_LAT1, F.ENG_REPAIR_SUB3_V,
   F.ENG_REPAIR_SUB3_ROW, F.ENG_REPAIR_SUB2_V, F.ENG_REPAIR_SUB2_ROW, F.ENG_REPAIR_SUB1_V,
   F.ENG_REPAIR_SUB1_ROW, F.ENG_REPAIR_SUB0_V, F.ENG_REPAIR_SUB0_ROW]

/-- Every register field of the device. -/
def allFields : List Field :=
  fieldsBeat ++
  fieldsToll ++
  fieldsGong ++
  fieldsChime ++
  fieldsTally ++
  fieldsMxe ++
  fieldsVxe ++
  fieldsSeq ++
  fieldsColl ++
  fieldsOpt ++
  fieldsXbar ++
  fieldsCal ++
  fieldsRoute ++
  fieldsShape ++
  fieldsPool ++
  fieldsMem ++
  fieldsPort ++
  fieldsAcv ++
  fieldsFlt ++
  fieldsInj ++
  fieldsCkpt ++
  fieldsBoot ++
  fieldsEng

/-- The fields of the register at byte offset `a` of register space. -/
def fieldsAt (a : Nat) : List Field := allFields.filter (fun f => f.at a)

end Sys2Proof.Machine
end

