-- ==== Sys2Proof/Machine/Flags.lean ====
section
/-!
DEFINITION. Machine/Flags.lean: the sticky arithmetic flags of 03 R124 and how they combine.
-/
namespace Sys2Proof.Machine

/-- The four flags an operation reports (03 R124). -/
structure Flags where
  nanin : Bool := false
  inv : Bool := false
  ovf : Bool := false
  isat : Bool := false
  deriving DecidableEq, Repr

/-- No flag. -/
def flagsNone : Flags := {}

/-- Flags of two operations together: each is sticky (03 R124). -/
def flagsOr (a b : Flags) : Flags :=
  ⟨a.nanin || b.nanin, a.inv || b.inv, a.ovf || b.ovf, a.isat || b.isat⟩

/-- Only NANIN. -/
def flagsNanin : Flags := { nanin := true }

/-- Only INV. -/
def flagsInv : Flags := { inv := true }

/-- Only OVF. -/
def flagsOvf : Flags := { ovf := true }

/-- Only ISAT. -/
def flagsIsat : Flags := { isat := true }

/-- The flags of a list of operations. -/
def flagsAll (l : List Flags) : Flags := l.foldl flagsOr flagsNone

/-- FLAGS of a completion entry: ISAT, OVF, INV, NANIN from bit 3 down (06 R226). -/
def flagsBits (f : Flags) : Nat :=
  (if f.isat then 8 else 0) + (if f.ovf then 4 else 0) + (if f.inv then 2 else 0) + (if f.nanin then 1 else 0)

end Sys2Proof.Machine
end

