-- ==== Sys2Proof/Machine/Num.lean ====
section
/-!
DEFINITION. Machine/Num.lean: the number formats and exact arithmetic of spec/03. Values are exact dyadic numbers; the
common form (R120) is a dyadic number of at most 50 significand bits.
-/
namespace Sys2Proof.Machine

/-- A value: a NaN, an infinity, or the exact number `(-1)^s * m * 2^e`. `more` says that the true magnitude lies
strictly between `m` and `m + 1` units (a quotient or a root that does not end, R134). -/
inductive Val where
  | nan
  | inf (s : Bool)
  | fin (s : Bool) (m : Nat) (e : Int) (more : Bool)
  deriving DecidableEq, Repr

/-- Plus zero. -/
def valZero : Val := .fin false 0 0 false

/-- Whether a value is NaN. -/
def valNan : Val → Bool
  | .nan => true
  | _ => false

/-- Whether a value is an infinity. -/
def valInf : Val → Bool
  | .inf _ => true
  | _ => false

/-- Whether a value is a zero. -/
def valIsZero : Val → Bool
  | .fin _ m _ _ => decide (m = 0)
  | _ => false

/-- The sign of a value (NaN counts as positive, R123). -/
def valSign : Val → Bool
  | .nan => false
  | .inf s => s
  | .fin s _ _ _ => s

/-- The negation of a value. -/
def valNeg : Val → Val
  | .nan => .nan
  | .inf s => .inf (!s)
  | .fin s m e k => .fin (!s) m e k

/-- The magnitude of a value. -/
def valAbs : Val → Val
  | .nan => .nan
  | .inf _ => .inf false
  | .fin _ m e k => .fin false m e k

/-- The product (R122): an operand that is NaN sets NANIN. -/
def valMul (x y : Val) : Val × Flags :=
  match x, y with
  | .nan, _ => (.nan, flagsNanin)
  | _, .nan => (.nan, flagsNanin)
  | .inf s, .inf t => (.inf (s != t), flagsNone)
  | .inf s, .fin t m _ _ => if m = 0 then (.nan, flagsInv) else (.inf (s != t), flagsNone)
  | .fin s m _ _, .inf t => if m = 0 then (.nan, flagsInv) else (.inf (s != t), flagsNone)
  | .fin s m e _, .fin t n f _ => (.fin (s != t) (m * n) (e + f) false, flagsNone)

/-- A signed magnitude as an integer multiple of `2^g`, for `g` at most the exponent. -/
def signedAt (s : Bool) (m : Nat) (e g : Int) : Int :=
  let v : Int := ((m <<< (e - g).toNat : Nat) : Int)
  if s then -v else v

/-- The exact sum (R122): a zero sum is -0 only when both operands are -0. An operand that is NaN sets NANIN, at every adder,
whether it came from memory or was made inside the operation (DEDUCED, log entry 17). -/
def valAdd (x y : Val) : Val × Flags :=
  match x, y with
  | .nan, _ => (.nan, flagsNanin)
  | _, .nan => (.nan, flagsNanin)
  | .inf s, .inf t => if s = t then (.inf s, flagsNone) else (.nan, flagsInv)
  | .inf s, .fin _ _ _ _ => (.inf s, flagsNone)
  | .fin _ _ _ _, .inf t => (.inf t, flagsNone)
  | .fin s m e _, .fin t n f _ =>
    let g := min e f
    let v := signedAt s m e g + signedAt t n f g
    if v = 0 then (.fin (s && t && decide (m = 0) && decide (n = 0)) 0 0 false, flagsNone)
    else (.fin (decide (v < 0)) v.natAbs g false, flagsNone)

/-- Round a magnitude `m * 2^-d` (plus a part of a unit of `m` when `more`) to an integer, round to nearest even. -/
def roundRne (m : Nat) (d : Nat) (more : Bool) : Nat :=
  let n := m >>> d
  let r := m % 2 ^ d
  if d = 0 then n
  else if 2 * r > 2 ^ d || (2 * r = 2 ^ d && more) then n + 1
  else if 2 * r = 2 ^ d then n + n % 2
  else n

/-- The rounding of R134: RNE, RTZ, or SR against a draw. `d` is the number of fraction bits of `m`. -/
def roundBy (rm : Nat) (draw : Nat) (m : Nat) (d : Nat) (more : Bool) : Nat :=
  if rm = 0 then roundRne m d more
  else if rm = 2 then
    if draw % 65536 < ((m % 2 ^ d) * 65536) >>> d then (m >>> d) + 1 else m >>> d
  else m >>> d

/-- The common form of a value: one rounding to 50 significand bits, round to nearest even (R120, R127). -/
def rneCommon (v : Val) : Val :=
  match v with
  | .fin s m e k =>
    if m.log2 < 50 then .fin s m e k
    else
      let d := m.log2 - 49
      .fin s (roundRne m d k) (e + d) false
  | x => x

/-- A floating-point format: width, fraction bits, bias, largest finite encoding without sign, and how it writes
infinity and NaN (R115, R123). `inf` is 0 where there is no infinity; `nan` is 0 where there is no NaN. -/
structure FFmt where
  w : Nat
  fb : Nat
  bias : Nat
  maxFin : Nat
  inf : Nat
  nan : Nat
  deriving DecidableEq, Repr

/-- FP32 (R115). -/
def fFP32 : FFmt := ⟨32, 23, 127, 0x7F7FFFFF, 0x7F800000, 0x7FC00000⟩
/-- BF16 (R115). -/
def fBF16 : FFmt := ⟨16, 7, 127, 0x7F7F, 0x7F80, 0x7FC0⟩
/-- FP16 (R115). -/
def fFP16 : FFmt := ⟨16, 10, 15, 0x7BFF, 0x7C00, 0x7E00⟩
/-- E4M3 (R115): no infinity. -/
def fE4M3 : FFmt := ⟨8, 3, 7, 0x7E, 0, 0x7F⟩
/-- E5M2 (R115). -/
def fE5M2 : FFmt := ⟨8, 2, 15, 0x7B, 0x7C, 0x7E⟩
/-- E3M2 (R115): no infinity and no NaN. -/
def fE3M2 : FFmt := ⟨6, 2, 3, 0x1F, 0, 0⟩
/-- E2M3 (R115). -/
def fE2M3 : FFmt := ⟨6, 3, 1, 0x1F, 0, 0⟩
/-- E2M1 (R115). -/
def fE2M1 : FFmt := ⟨4, 1, 1, 0x7, 0, 0⟩

/-- What a format code names (04 R141; 06 R216): a float, an MX element kind, an integer of a width, or nothing. -/
inductive FmtKind where
  | flt (f : FFmt)
  | mx (f : FFmt) (emax : Nat)
  | int (w : Nat)
  | none
  deriving DecidableEq, Repr

/-- The format of a code: 0x0 to 0xA of R141 and 0xB INT8 (R216). -/
def fmtOf (code : Nat) : FmtKind :=
  match code with
  | 0 => .flt fFP32
  | 1 => .flt fBF16
  | 2 => .flt fFP16
  | 3 => .flt fE4M3
  | 4 => .flt fE5M2
  | 5 => .mx fE4M3 8
  | 6 => .mx fE5M2 15
  | 7 => .mx fE3M2 4
  | 8 => .mx fE2M3 2
  | 9 => .mx fE2M1 2
  | 10 => .int 32
  | 11 => .int 8
  | _ => .none

/-- Whether a code is one of the five plain floating-point formats ("F" of 06 R218). -/
def isF (code : Nat) : Bool := decide (code ≤ 4)

/-- Whether a code is an MX format. -/
def isMx (code : Nat) : Bool := decide (5 ≤ code) && decide (code ≤ 9)

/-- Bits of one element of a format code. -/
def fmtWidth (code : Nat) : Nat :=
  match fmtOf code with
  | .flt f => f.w
  | .mx f _ => f.w
  | .int w => w
  | .none => 32

/-- The value of a floating-point encoding (R116). -/
def decodeF (f : FFmt) (b : Nat) : Val :=
  let sgn := b.testBit (f.w - 1)
  let mag := b % 2 ^ (f.w - 1)
  if mag ≤ f.maxFin then
    let E := mag >>> f.fb
    let F := mag % 2 ^ f.fb
    if E = 0 then .fin sgn F (1 - (f.bias : Int) - f.fb) false
    else .fin sgn (2 ^ f.fb + F) ((E : Int) - f.bias - f.fb) false
  else if f.inf ≠ 0 ∧ mag = f.inf then .inf sgn
  else .nan

/-- The value of a two's complement encoding of `w` bits (R119). -/
def decodeI (w b : Nat) : Val :=
  let i := sxt w b
  .fin (decide (i < 0)) i.natAbs 0 false

/-- The value of an element of a plain format code; for an MX code, its element without the scale. -/
def decodeCode (code b : Nat) : Val :=
  match fmtOf code with
  | .flt f => decodeF f b
  | .mx f _ => decodeF f b
  | .int w => decodeI w b
  | .none => .nan

/-- An MX element with its scale byte (R139). -/
def decodeMx (code scale b : Nat) : Val :=
  if scale = 0xFF then .nan
  else match decodeCode code b with
    | .fin s m e k => .fin s m (e + ((scale : Int) - 127)) k
    | v => v

/-- The encoding of a value of a sign with magnitude bits. -/
def withSign (f : FFmt) (s : Bool) (mag : Nat) : Nat := (if s then 2 ^ (f.w - 1) else 0) + mag

/-- R135 for a finite value beyond the range of a floating-point target. -/
def overF (f : FFmt) (mx sat s : Bool) : Nat :=
  if mx then withSign f s f.maxFin
  else if sat then withSign f s f.maxFin
  else if f.inf = 0 then f.nan
  else withSign f s f.inf

/-- Encode into a floating-point target (R134, R135). `mx` says that the target is an MX element. -/
def encodeF (f : FFmt) (mx : Bool) (v : Val) (rm : Nat) (sat : Bool) (draw : Nat) : Nat × Flags :=
  match v with
  | .nan => (f.nan, flagsNone)
  | .inf s =>
    if f.inf = 0 then (if mx then withSign f s f.maxFin else f.nan, flagsOvf) else (withSign f s f.inf, flagsNone)
  | .fin s m e k =>
    if m = 0 then (withSign f s 0, flagsNone)
    else
      let e0 := max ((m.log2 : Int) + e) (1 - (f.bias : Int))
      let q := e0 - f.fb
      let n := if e ≥ q then m <<< (e - q).toNat else roundBy rm draw m (q - e).toNat k
      let bits := (e0 + f.bias - 1).toNat * 2 ^ f.fb + n
      if bits > f.maxFin then (overF f mx sat s, flagsOvf) else (withSign f s bits, flagsNone)

/-- Encode into a two's complement target of `w` bits (R134, R135). -/
def encodeI (w : Nat) (v : Val) (rm : Nat) (draw : Nat) : Nat × Flags :=
  let lim : Nat := 2 ^ (w - 1)
  match v with
  | .nan => (0, flagsInv)
  | .inf s => (if s then lim else lim - 1, flagsOvf)
  | .fin s m e k =>
    let n := if e ≥ 0 then m <<< e.toNat else roundBy rm draw m (-e).toNat k
    if s then (if n > lim then (lim, flagsOvf) else ((2 ^ w - n) % 2 ^ w, flagsNone))
    else (if n ≥ lim then (lim - 1, flagsOvf) else (n, flagsNone))

/-- Encode into a plain format code (R134, R135). -/
def encodeCode (code : Nat) (v : Val) (rm : Nat) (sat : Bool) (draw : Nat) : Nat × Flags :=
  match fmtOf code with
  | .flt f => encodeF f false v rm sat draw
  | .mx f _ => encodeF f true v rm sat draw
  | .int w => encodeI w v rm draw
  | .none => (0, flagsNone)

/-- The FP32 rounding of the accumulators: RNE, SAT clear (R128, R132). -/
def rneFp32 (v : Val) : Nat × Flags := encodeF fFP32 false v 0 false 0

/-- A conversion from one plain code to another: a same-format conversion returns its bits but for NaN (R134); NANIN
when the source is NaN (R124). -/
def convert (src dst : Nat) (b : Nat) (rm : Nat) (sat : Bool) (draw : Nat) : Nat × Flags :=
  let v := decodeCode src b
  let fn := if valNan v then flagsNanin else flagsNone
  if src = dst ∧ !valNan v then (b, flagsNone)
  else
    let r := encodeCode dst v rm sat draw
    (r.1, flagsOr fn r.2)

/-- 64-bit left rotation. -/
def rotl64 (v : BitVec 64) (n : Nat) : BitVec 64 := v.rotateLeft n

/-- The four rounds of the draw (R136). -/
def drawRounds : Nat → BitVec 64 → BitVec 64 → BitVec 64 → BitVec 64
  | 0, _, h, _ => h
  | n + 1, k, h, y =>
    let h1 := (h ^^^ y) * 0xA3B195E5C7D24F69
    let h2 := h1 ^^^ (h1 >>> 32)
    drawRounds n k h2 (rotl64 y 23 + k)

/-- The stochastic draw (R136). -/
def srDraw (seed stream beat lane idx : Nat) : Nat :=
  let k : BitVec 64 := BitVec.ofNat 64 seed
  let h : BitVec 64 := ((BitVec.ofNat 64 stream <<< 48) ||| BitVec.ofNat 64 beat) ^^^ rotl64 k 17
  let y : BitVec 64 := (BitVec.ofNat 64 lane <<< 32) ||| BitVec.ofNat 64 (idx % 2 ^ 32)
  (drawRounds 4 k h y).toNat

/-- floor(log2 |v|) of a finite nonzero value. -/
def valLog2 : Val → Int
  | .fin _ m e _ => (m.log2 : Int) + e
  | _ => 0

/-- Order of finite or infinite values; NaN is not compared. -/
def valLt (x y : Val) : Bool :=
  match x, y with
  | .nan, _ => false
  | _, .nan => false
  | .inf s, .inf t => s && !t
  | .inf s, .fin _ _ _ _ => s
  | .fin _ _ _ _, .inf t => !t
  | .fin s m e _, .fin t n f _ =>
    let g := min e f
    decide (signedAt s m e g < signedAt t n f g)

/-- Equality of values: -0 equals +0, NaN equals nothing. -/
def valEq (x y : Val) : Bool := !valNan x && !valNan y && !valLt x y && !valLt y x

/-- The larger magnitude of finite values. -/
def valMaxMag (x y : Val) : Val := if valLt (valAbs x) (valAbs y) then valAbs y else valAbs x

/-- Encode a block of 32 values to an MX format (R138): the scale byte, the element bits and the flags. -/
def encodeMx (code : Nat) (vs : List Val) (rm : Nat) (draws : List Nat) : Nat × List Nat × Flags :=
  match fmtOf code with
  | .mx f emax =>
    if vs.any (fun v => valNan v || valInf v) then
      (0xFF, vs.map (fun _ => 0), if vs.any valNan then flagsNanin else flagsNone)
    else
      let amax := vs.foldl valMaxMag valZero
      if valIsZero amax then (0x7F, vs.map (fun v => withSign f (valSign v) 0), flagsNone)
      else
        let X := max (-127) (min 127 (valLog2 amax - emax))
        let es := (vs.zip draws).map (fun p =>
          encodeF f true (match p.1 with | .fin s m e k => .fin s m (e - X) k | v => v) rm true p.2)
        ((X + 127).toNat, es.map (·.1), flagsAll (es.map (·.2)))
  | _ => (0, vs.map (fun _ => 0), flagsNone)

/-- The exact quotient, with enough bits and a mark for what follows (06 R219). -/
def valDiv (x y : Val) : Val × Flags :=
  match x, y with
  | .nan, _ => (.nan, flagsNone)
  | _, .nan => (.nan, flagsNone)
  | .inf s, .inf _ => let _ := s; (.nan, flagsInv)
  | .inf s, .fin t _ _ _ => (.inf (s != t), flagsNone)
  | .fin s _ _ _, .inf t => (.fin (s != t) 0 0 false, flagsNone)
  | .fin s m e _, .fin t n f _ =>
    if n = 0 then (if m = 0 then (.nan, flagsInv) else (.inf (s != t), flagsNone))
    else
      let a := m <<< 100
      (.fin (s != t) (a / n) (e - f - 100) (decide (a % n ≠ 0)), flagsNone)

/-- Integer square root by Newton steps from above. -/
def isqrtAux : Nat → Nat → Nat → Nat
  | 0, _, x => x
  | k + 1, n, x => if x * x ≤ n then x else isqrtAux k n ((x + n / x) / 2)

/-- The integer square root. -/
def isqrt (n : Nat) : Nat := if n = 0 then 0 else isqrtAux (n.log2 + 2) n (2 ^ (n.log2 / 2 + 1))

/-- The exact square root (06 R219). -/
def valSqrt (x : Val) : Val × Flags :=
  match x with
  | .nan => (.nan, flagsNone)
  | .inf s => if s then (.nan, flagsInv) else (.inf false, flagsNone)
  | .fin s m e _ =>
    if m = 0 then (.fin s 0 0 false, flagsNone)
    else if s then (.nan, flagsInv)
    else
      let m1 := if e % 2 = 0 then m else 2 * m
      let e1 := if e % 2 = 0 then e else e - 1
      let a := m1 <<< 120
      let r := isqrt a
      (.fin false r (e1 / 2 - 60) (decide (r * r ≠ a)), flagsNone)

/-- The exact reciprocal square root (06 R219). -/
def valRsqrt (x : Val) : Val × Flags :=
  match x with
  | .nan => (.nan, flagsNone)
  | .inf s => if s then (.nan, flagsInv) else (.fin false 0 0 false, flagsNone)
  | .fin s m e _ =>
    if m = 0 then (.inf s, flagsNone)
    else if s then (.nan, flagsInv)
    else
      let m1 := if e % 2 = 0 then m else 2 * m
      let e1 := if e % 2 = 0 then e else e - 1
      let a := 2 ^ 240
      let r := isqrt (a / m1)
      (.fin false r (-(e1 / 2) - 120) (decide (r * r * m1 ≠ a)), flagsNone)

/-- One level of the fixed binary tree: pairs (2i, 2i + 1), each sum rounded once to the common form (R127). -/
def treeLevel : List Val → List Val × Flags
  | x :: y :: t =>
    let r := valAdd x y
    let u := treeLevel t
    (rneCommon r.1 :: u.1, flagsOr r.2 u.2)
  | l => (l, flagsNone)

/-- `n` levels of the tree over `2^n` leaves (R127). -/
def treeSum : Nat → List Val → Val × Flags
  | 0, l => (l.headD valZero, flagsNone)
  | n + 1, l =>
    let r := treeLevel l
    let u := treeSum n r.1
    (u.1, flagsOr r.2 u.2)

/-- A list cut or padded with +0 to `n` leaves. -/
def leaves (n : Nat) (l : List Val) : List Val := (l ++ List.replicate n valZero).take n

/-- The pass sum of at most 128 products (R126, R127). -/
def passSum (ps : List Val) : Val × Flags := treeSum 7 (leaves 128 ps)

/-- An addition in FP32, RNE, SAT clear (R132): result bits and flags. -/
def addFp32 (a b : Val) : Nat × Flags :=
  let r := valAdd a b
  let q := rneFp32 r.1
  (q.1, flagsOr r.2 q.2)

/-- The integer of a value without a fraction (R119). -/
def valInt : Val → Int
  | .fin s m _ _ => signedAt s m 0 0
  | _ => 0

/-- A saturating INT32 sum (R129). -/
def addInt32 (a b : Int) : Nat × Flags :=
  let s := a + b
  if s > 2147483647 then (0x7FFFFFFF, flagsIsat)
  else if s < -2147483648 then (0x80000000, flagsIsat)
  else (toField 32 s, flagsNone)

/-- Elements of one chunk of a format (04 R141). -/
def chunkE (code : Nat) : Nat :=
  match code with
  | 0 => 120 | 1 => 240 | 2 => 240 | 3 => 480 | 4 => 480 | 5 => 448 | 6 => 448 | 7 => 608 | 8 => 608 | 9 => 896 | 10 => 120
  | _ => 0

/-- Payload bytes that one chunk of a format uses: for MX its scale bytes, then its elements (04 R141, R142). -/
def chunkBytes (code : Nat) : Nat := (chunkE code * fmtWidth code + 7) / 8 + if isMx code then chunkE code / 32 else 0

/-- Slot lines of a format (04 R141). -/
def slotLines (code : Nat) : Nat :=
  match code with
  | 0 => 1 | 1 => 2 | 2 => 2 | 3 => 4 | 4 => 4 | 5 => 4 | 6 => 4 | 7 => 5 | 8 => 5 | 9 => 7 | 10 => 1
  | _ => 0

/-- Element `i` of width `w` bits of a run of bytes, packed from bit 0 up (00 R8; 03 R118). -/
def elemAt (w : Nat) (l : List Byte) (i : Nat) : Nat := (leNat ((l.drop (w * i / 8)).take (w / 8 + 2)) >>> (w * i % 8)) % 2 ^ w

/-- Pack elements of `w` bits into bytes from bit 0 up (03 R118). -/
def packElems (w : Nat) (es : List Nat) : Nat := es.foldr (fun e acc => (e % 2 ^ w) + acc * 2 ^ w) 0

end Sys2Proof.Machine
end

