-- ==== Sys2Proof/Machine/Tab.lean ====
section
/-!
DEFINITION. Machine/Tab.lean: sparse tables in one canonical form. A table is a list of (key, value) pairs with
strictly rising keys and no entry equal to what an unlisted key reads as; memory, the register file, the
vector registers and every other large array of the block are such tables.
-/
namespace Sys2Proof.Machine

/-- A sparse table: strictly rising keys, no entry equal to the default. -/
abbrev Tab (α : Type) := List (Nat × α)

/-- The entry listed for a key, if any. -/
def tabFind {α : Type} : Tab α → Nat → Option α
  | [], _ => none
  | (j, v) :: t, k => if j = k then some v else tabFind t k

/-- The value of a key: the listed entry, or the default `d`. -/
def tabGet {α : Type} (d : α) (t : Tab α) (k : Nat) : α := (tabFind t k).getD d

/-- The table without an entry for the key. -/
def tabErase {α : Type} (t : Tab α) (k : Nat) : Tab α := t.filter (fun e => decide (e.1 ≠ k))

/-- The table with the entry of the key replaced or inserted in order. -/
def tabInsert {α : Type} : Tab α → Nat → α → Tab α
  | [], k, x => [(k, x)]
  | (j, v) :: t, k, x =>
    if j = k then (k, x) :: t else if k < j then (k, x) :: (j, v) :: t else (j, v) :: tabInsert t k x

/-- The table in which the key holds `x`: writing the default removes the entry, so equal tables are equal lists. -/
def tabSet {α : Type} [DecidableEq α] (d : α) (t : Tab α) (k : Nat) (x : α) : Tab α :=
  if x = d then tabErase t k else tabInsert t k x

/-- The table with `f` applied to the value of a key. -/
def tabMod {α : Type} [DecidableEq α] (d : α) (t : Tab α) (k : Nat) (f : α → α) : Tab α :=
  tabSet d t k (f (tabGet d t k))

/-- Keys strictly rising. -/
def tabSorted {α : Type} : Tab α → Bool
  | [] => true
  | [_] => true
  | (j, _) :: (k, w) :: t => decide (j < k) && tabSorted ((k, w) :: t)

/-- The canonical form: keys strictly rising and no entry equal to the default. -/
def tabWf {α : Type} [DecidableEq α] (d : α) (t : Tab α) : Bool :=
  tabSorted t && t.all (fun e => decide (e.2 ≠ d))

/-- The listed keys in `lo .. hi - 1`. -/
def tabKeys {α : Type} (t : Tab α) (lo hi : Nat) : List Nat :=
  (t.map (·.1)).filter (fun k => decide (lo ≤ k) && decide (k < hi))

/-- The table without the entries of keys `lo .. hi - 1`. -/
def tabClear {α : Type} (t : Tab α) (lo hi : Nat) : Tab α :=
  t.filter (fun e => decide (e.1 < lo) || decide (hi ≤ e.1))

/-- A sorted list of keys with one more. -/
def keyAdd : List Nat → Nat → List Nat
  | [], k => [k]
  | j :: t, k => if j = k then j :: t else if k < j then k :: j :: t else j :: keyAdd t k

/-- A sorted list of keys with one fewer. -/
def keyDel (t : List Nat) (k : Nat) : List Nat := t.filter (fun j => decide (j ≠ k))

/-- The keys `lo .. lo + n - 1`. -/
def span (lo n : Nat) : List Nat := (List.range n).map (fun i => lo + i)

/-- `f` run over the keys in order, threading the state. -/
def foldKeys {σ : Type} (ks : List Nat) (f : σ → Nat → σ) (s : σ) : σ := ks.foldl f s

end Sys2Proof.Machine
end

