-- ==== Sys2Proof/Machine/State.lean ====
section
/-!
DEFINITION. Machine/State.lean: all the state the spec gives the block, as plain data, and the state after reset. Register
fields live in `regs`, keyed as Machine/Fields.lean says, each unlisted field at its reset value; everything that is no
register field has a structure of its own. INVENTORY.md lists every piece with its rule.
-/
namespace Sys2Proof.Machine

/-- Reasons a step stops with a fault. No command of this block stops with one: every fault of the spec is a message, a
completion code or a seal effect, and so a next state (17 R510, R511). `none` is raised by nobody; it is safe. -/
inductive Fault where
  | none
  deriving DecidableEq, Repr

/-- Reasons a step is refused. -/
inductive Refusal where
  /-- Raised by Dispatch.lean for a command that has no meaning yet, by its mnemonic. Safe: the model stops. -/
  | notModelled (mnemonic : String)
  deriving DecidableEq, Repr

/-- Pins and latches of the always-on block (01 R48, R54, R65): FAULT_N and THERMTRIP_N asserted, the MGMT_SEL strap as
sampled, PORST_N high, every port stopped (01 R54, R52; 17 R514), JTAG open (19 R590); when C4_CAUSE was latched, as package
CK and Toll count (01 R54). -/
structure Pins where
  faultN : Bool
  thermtripN : Bool
  mgmtSel : Bool
  porstN : Bool
  portsStopped : Bool
  jtagOpen : Bool
  c4At : Option (Nat × Nat)
  deriving DecidableEq, Repr

/-- The governor (01 R30 to R32): the last samples, newest first, and how many samples ago T last changed (16 when a change
is allowed); the 16-CK window in which the effective level last changed and the level in force through it. -/
structure Governor where
  samples : List Nat
  sinceChange : Nat
  changed : Nat
  was : Nat
  deriving DecidableEq, Repr

/-- The Toll unit (02 R68, R72, R73): good marks in a row, package CK of the last mark, the offset still to remove in
1/16 CK, CK since the count last advanced by other than 1. -/
structure TollUnit where
  goodMarks : Nat
  lastMark : Nat
  corr : Int
  sinceStep : Nat
  deriving DecidableEq, Repr

/-- A seal round in progress (02 R81, R82, R84): its Acre, its Beat, the boundary it belongs to, combined FLAGS, CAUSE, ADJ and
ADJ_CNT, the ports whose seals are in, whether the device's own seal is in, and REPLAY_RUN and STRETCHES of the sealed Beat. -/
structure Round where
  acre : Nat
  beat : Nat
  boundary : Nat
  flags : Nat
  cause : Nat
  adj : Int
  adjCnt : Nat
  heard : List Nat
  own : Bool
  run : Nat
  k : Nat
  deriving DecidableEq, Repr

/-- What the root keeps of a Beat of another Acre (02 R81, R86, R95): how often the Beat has been replayed in a row, the stretches
granted to it, and whether its verdict is given. -/
structure TreeBeat where
  acre : Nat
  beat : Nat
  run : Nat
  k : Nat
  done : Bool
  deriving DecidableEq, Repr

/-- The Beat unit (02 R78 to R101): the start boundary of the running Beat, START_BEAT, the Clave adjustment of its end; the seal effects raised in
the running Beat (ERR with causes, R83) and the HALT_REQ owed to the next seal with causes (R90); the vouched Beats; the rounds in progress, of
every Acre; the Beats of other Acres that the root has in hand; the verdict of the Beat before (none while its word is awaited; `hasPrev` says there
is one); the running Beat is abandoned; a halt or a departure is due at the boundary; issue has stopped; HOLD rounds forwarded (Acre, Beat, HOLD_K);
rollback is due of the Beats named; the Clave mode in force and adjustments sent; the package CK of the last accepted edge (01 R61); a C3 reset is
owed; C2 fences due at the boundary; REPLAY_RUN of the sealed Beat; the first uncommitted Beat (18 R547); the last seal sent and when. -/
structure BeatUnit where
  start : Nat
  startBeat : Nat
  adj : Int
  err : Bool
  errCause : Nat
  haltReq : Bool
  haltCause : Nat
  vouched : List Nat
  rounds : List Round
  trees : List TreeBeat
  hasPrev : Bool
  prevVerdict : Nat
  abandoned : Bool
  haltDue : Bool
  leaveDue : Bool
  stopped : Bool
  drain : Bool
  holds : List (Nat × Nat × Nat)
  rollback : List Nat
  claveMode : Nat
  inflight : List (Nat × Int)
  edgeCk : Option Int
  resetDue : Bool
  fences : List (Nat × Nat)
  rootRun : Nat
  next : Nat
  sealed : Option (Nat × Nat)
  deriving DecidableEq, Repr

/-- The probe round (02 R88; 07 R260): joined, when, own round-trip time sent up, children heard with the largest value; at the root,
of each other Acre whose round is open the children heard and the largest value. -/
structure Probe where
  joined : Bool
  since : Nat
  heard : List Nat
  value : Nat
  up : Bool
  others : List (Nat × List Nat × Nat)
  deriving DecidableEq, Repr

/-- One Chime (02 R106). -/
structure Chime where
  count : Nat
  target : Nat
  deriving DecidableEq, Repr

/-- An operation waiting at a Chime unit (02 R107, R108): the Chime, RESET or ARRIVE, its argument and the Beat number at
its source. -/
structure ChimeOp where
  index : Nat
  reset : Bool
  arg : Nat
  beat : Nat
  deriving DecidableEq, Repr

/-- An entry of a matrix queue: an operation with its parameter block's address, list index and word, or a Chime operation joined
to the queue (06 R204, R230). -/
inductive QEntry where
  | op (addr index word : Nat)
  | chime (o : ChimeOp)
  deriving DecidableEq, Repr

/-- A matrix operation that has started (05 R174, R188): its list index and word, the code it completes with unless a check or its memory gives
another, its parameter block, the operand codes captured at issue row by row with a scale byte for each (A is M × K, B is K × N), and its Beat. -/
structure MxRun where
  index : Nat
  word : Nat
  code : Nat
  words : List Nat
  a : List Nat
  sa : List Nat
  b : List Nat
  sb : List Nat
  beat : Nat
  deriving DecidableEq, Repr

/-- A tile of the stationary operand (05 R171, R177): the rows and columns of cells it fills, its format, and the code and scale byte of
each cell, row by row. -/
structure Tile where
  rows : Nat
  cols : Nat
  fmt : Nat
  elems : List Nat
  scales : List Nat
  deriving DecidableEq, Repr

/-- The array of a matrix engine (05 R171, R194, R197): the tile in its working rows, and the values in the cells of spare rows 128 to
131, in that order. -/
structure MxArray where
  tile : Option Tile
  spares : List (List Val)
  deriving DecidableEq, Repr

/-- An instruction placed in the queue of a vector engine or of the tally engine (06 R204, R215): itself, its list index, and the values of
the S registers it names, read at issue. -/
structure UOp where
  insn : Instr
  index : Nat
  a : Nat
  b : Nat
  deriving DecidableEq, Repr

/-- An entry of such a queue: an instruction, or a Chime operation joined to the queue (06 R204, R230). -/
inductive UEntry where
  | op (o : UOp)
  | chime (o : ChimeOp)
  deriving DecidableEq, Repr

/-- An entry of the mover queue: an instruction by OP, with S(SA), list index and word, or a Chime operation joined to the queue
(06 R204, R229, R230). -/
inductive MvEntry where
  | op (kind sa index word : Nat)
  | chime (o : ChimeOp)
  deriving DecidableEq, Repr

/-- The mover instruction in progress (06 R226, R229): its list index and word, the code it will complete with, its Chime, its Beat, where
it writes and the bytes still to be written there, the AFMT it adds in (none: it copies), the cells still to be sent, and
whether it sends. -/
structure MvRun where
  index : Nat
  word : Nat
  code : Nat
  chime : Option Nat
  beat : Nat
  dst : Nat
  data : List Byte
  add : Option Nat
  cells : List Cell
  sends : Bool
  deriving DecidableEq, Repr

/-- An input of a tally engine (04 R148): its record as 64 c + r, range, chunk, the Beat it carries, whether it is a leaf in
the contribution format or a partial in FP32 or INT32, its element codes and MX scale bytes. -/
structure TallyIn where
  key : Nat
  lo : Nat
  hi : Nat
  chunk : Nat
  beat : Nat
  leaf : Bool
  data : List Nat
  scales : List Nat
  deriving DecidableEq, Repr

/-- A completed node on a chunk's stack (04 R148): its range and its accumulators. -/
structure Node where
  lo : Nat
  hi : Nat
  acc : List Nat
  deriving DecidableEq, Repr

/-- One chunk slot in use (04 R148, R151, R157): its chunk, turn, stack, ranks covered, highest Beat of its inputs, failed
under R151, Toll count of the last input taken. -/
structure Slot where
  chunk : Nat
  turn : Nat
  stack : List Node
  cover : Nat
  beat : Nat
  failed : Bool
  last : Nat
  deriving DecidableEq, Repr

/-- What a Bushel record's slots hold: chunks in progress, chunks delivered, and the Toll count of the last input taken or
parked (04 R157, R165, R168); whether any input was taken or parked; `any` is TALLY.ANY's ANY for the rest of the Beat
(06 R228). -/
structure Bushel where
  slots : List Slot
  done : List Nat
  last : Nat
  taken : Bool
  any : Bool
  deriving DecidableEq, Repr

/-- A parked cell or input (04 R166, R167): the die whose park area it takes, whether it is held outside it, when it was
parked; the cell, while it waits for a collective that has not started (09 R319); else which part of its input it is, of how
many, and the input with that part's data. Each takes one cell. -/
structure Parked where
  die : Nat
  held : Bool
  since : Nat
  cell : Option Cell
  part : Nat
  parts : Nat
  input : TallyIn
  deriving DecidableEq, Repr

/-- One cluster (06 R203 to R222, R226). The sequencer: S1 to S31, and the package CK from which each may be read (R205, R217); the
completion count; the CH.WAIT target and the package CK at which a satisfied wait resumes (02 R107). The vector engines: their V and P
registers keyed `64 ve + r` and `8 ve + p`, LANE_BASE and DRAW_IDX, queue, and the package CK from which each may start its next
instruction and by which all it started has completed (R204, R218). The matrix engine: its queue and its started operations; `feed`, the
tiles of these still to stream in order, each as the CK of its load and the permitted CK of its rows that are left (05 R189); the array,
the next tile in the shadow buffer, the accumulator file from entry 0 on (05 R171, R173); the tile left for REUSE (R178); the ramp's
filler time in 32-CK intervals (R191); a repair map pending, and whether it still waits for a Beat boundary (R199). The mover: its
queue and its instruction in progress. The tally engine: the queue of tally instructions, the package CK from which it may start the next,
and the inputs queued for its operations (04 R155). -/
structure Cluster where
  sregs : Tab Word
  sready : Tab Nat
  vregs : Tab VReg
  pregs : Tab PReg
  lane : Tab Nat
  draw : Tab Nat
  vq : Tab (List UEntry)
  vfree : Tab Nat
  vdone : Tab Nat
  ccount : Nat
  mxq : List QEntry
  mxRun : List MxRun
  feed : List (Nat × Nat)
  array : MxArray
  shadow : Option Tile
  accs : List Nat
  mvq : List MvEntry
  mvRun : Option MvRun
  tile : Option Tile
  tlq : List UEntry
  tlfree : Nat
  tallyq : List TallyIn
  wait : Option Nat
  resume : Option Nat
  filler : Nat
  repair : Option Nat
  repairWait : Bool
  deriving DecidableEq, Repr

/-- A registered group (09 R302, R318): its descriptor words and its next sequence number. -/
structure Grp where
  w0 : Nat
  origin : Nat
  extent : Nat
  next : Nat
  deriving DecidableEq, Repr

/-- An open collective at this device (09 R312 to R315): its descriptor, group and sequence number, the records of its
stripes (cluster, record) and those still held, what its cells get after a refused claim (04 R162): 0 none, 1 reject,
2 pass through to `dest`, 3 checked and passed nowhere (its result stays in working memory); its stripes and chunks; the
highest Beat its output cells carry (04 R153, R169). -/
structure Coll where
  desc : Desc
  group : Nat
  seq : Nat
  tag : Nat
  recs : List (Nat × Nat)
  live : List (Nat × Nat)
  mode : Nat
  dest : Nat
  nb : Nat
  chunks : Nat
  outBeat : Option Nat
  deriving DecidableEq, Repr

/-- A cell in a scored queue (10 R339): its die and input point, the cell, the exits still to be served (Machine/Lookup.lean
numbers them), the direction set (11 R369) it travels in since its last device link, the cell time it was queued and the one it entered the
device. -/
structure ScCell where
  die : Nat
  inp : Nat
  cell : Cell
  outs : List Nat
  came : Option Nat
  since : Nat
  born : Nat
  deriving DecidableEq, Repr

/-- A cell in the virtual output queues of an input point (10 R344, R345): as above, and whether it lies in spill (R348). -/
structure OpCell where
  die : Nat
  inp : Nat
  cell : Cell
  outs : List Nat
  came : Option Nat
  spilled : Bool
  born : Nat
  deriving DecidableEq, Repr

/-- A resequencer context (10 R350, R351): its die and the exit its flow leaves by, the flow, the next index; the cells it holds, each with
its index, the cell time it came and the one it entered the device. -/
structure Reseq where
  die : Nat
  out : Nat
  src : Nat
  route : Nat
  msg : Nat
  next : Nat
  held : List (Nat × Nat × Nat × Cell)
  last : Nat
  deriving DecidableEq, Repr

/-- The switch core (10 R339 to R355; 12 R393, R394): scored queues, virtual output queues, grant and accept pointers keyed
`141 d + point`, waiting credits of queues keyed by die, input, output and VC, token counts keyed `128 kind + port`,
resequencer contexts, mirror queue of each die, mirror sample counts keyed `2 port + direction`, cells that crossed to
each port and VC since the last telemetry sample, the count of cell times and its value at the start of the Beat (R337),
the queues of which a cell crossed in the cell time before (12 R393), the Toll count of the next sample; the cells that wait at cluster
points to enter (die and cell as `inp` 96 + j) and the points that have taken a cell in the present cell time (R334); of each die, in
1/25 CK, until when its spill path is taken (R349); the buffered cells that a bad word of the packet buffer lies in (13 R419), and whether
it is correctable. -/
structure Switch where
  scored : List ScCell
  voq : List OpCell
  grant : Tab Nat
  accept : Tab Nat
  credit : Tab Int
  tokens : Tab Nat
  shapers : List (Nat × Nat × Nat)
  reseq : List Reseq
  mirq : List (Nat × List Byte)
  mirCount : Tab Nat
  sent : Tab Nat
  time : Nat
  base : Nat
  crossed : List Nat
  telNext : Nat
  entry : List (Nat × Nat × Cell)
  took : List (Nat × Nat)
  spillT : Tab Nat
  bad : List (Cell × Bool)
  deriving DecidableEq, Repr

/-- One route bank (11 R365 to R377, R386, R389): unicast entries, set entries of four words keyed `4 i + w`, port sets,
port records and neighbour records as their register words, and the device's Acre. -/
structure Bank where
  unicast : Tab Nat
  sets : Tab Nat
  ports : Tab (List Nat)
  port : Tab Nat
  nbr : Tab Nat
  acre : Option Nat
  deriving DecidableEq, Repr

/-- A drain at the Gong root (11 R383): Acre, wave, last sums, start, and since when it waits between two waves. -/
structure Drain where
  acre : Nat
  wave : Nat
  prev : Option (Nat × Nat)
  t0 : Nat
  wait : Option Nat
  deriving DecidableEq, Repr

/-- Routing state (11 R379 to R385): the two banks, the Acre of the prepared image, generations and cell counters of each
Acre, the root's drain and its waiting requests, this device's wave (Acre, wave, children heard and their sums), the
ports that have delivered QUIET, the swap descriptor in progress (none while the loader swaps), the cells of the draining
Acre that units hold back, by cluster (R380), the markers that wait for their port (R375). -/
structure RouteUnit where
  bank0 : Bank
  bank1 : Bank
  gen : Tab Nat
  txc : Tab Nat
  rxc : Tab Nat
  drain : Option Drain
  requests : List Nat
  wave : Option (Nat × Nat)
  upHeard : List Nat
  upEmpty : Bool
  upTx : Nat
  upRx : Nat
  quiet : List Nat
  swap : Option Desc
  back : List (Nat × Cell)
  marks : List (Nat × Cell)
  deriving DecidableEq, Repr

/-- One link (14 R434 to R449): next LSEQ to send and unacknowledged slots, next LSEQ expected, discarding, NAKs answered in the interval and the
last answered; next CSEQ to send, unacknowledged sequenced blocks (CSEQ, type, body), the blocks that wait for one of 128 places among them (R436:
type, body), next CSEQ expected, a block missing; credits held for OP0, OP1, MGT, CTL, and credits to return once spill has room (10 R349); READY
sent and received; the start of the attempt's present part; delay exchanges done, their sum, t1 of the one in progress; the peer's last IDENT; the
version offered. -/
structure Link where
  lsend : Nat
  replay : List (Nat × Cell)
  lnext : Nat
  discard : Bool
  naks : Nat
  nakInt : Nat
  lastNak : Option Nat
  lastReplay : Nat
  csend : Nat
  blocks : List (Nat × Nat × Nat)
  waitq : List (Nat × Nat)
  cnext : Nat
  cmiss : Bool
  credit : List Nat
  owed : List Nat
  sentReady : Bool
  gotReady : Bool
  since : Nat
  exch : Nat
  sum : Int
  t1 : Option Nat
  ident : Option Nat
  deriving DecidableEq, Repr

/-- An Acvel packet as sent or kept for resending (15 R465). -/
structure AcvPkt where
  ty : Nat
  lseq : Nat
  addr : Nat
  rlen : Nat
  tag : Nat
  status : Nat
  data : List Byte
  deriving DecidableEq, Repr

/-- A read of host memory that is outstanding (15 R471, R479, R480): its tag, ring (16: the doorbell poll), address, bytes asked
for and bytes come so far, and when its MRD was first sent. -/
structure HostRead where
  tag : Nat
  ring : Nat
  addr : Nat
  len : Nat
  got : List Byte
  sent : Nat
  deriving DecidableEq, Repr

/-- A descriptor that the device has fetched and not accepted (15 R479, R481): its ring and slot, its 128 bytes, and the Toll count at
which the fetch completed. -/
structure Fetched where
  ring : Nat
  slot : Nat
  bytes : List Byte
  since : Nat
  deriving DecidableEq, Repr

/-- The Acvel link (15 R464 to R481): next LSEQ to send, packets not acknowledged and, for each of these that has been sent, oldest first,
how often it was resent and when it was last sent (R467); next LSEQ expected, FRESH since the last UP, HELLO sent, the peer's HELLO, when
the attempt began, outstanding reads, the next tag, the latest doorbell words, when the next poll is due, when the last NAK was sent, the
descriptors fetched and not accepted, oldest first, and the packets taken and not acted on, behind a Chime space write that waits (02 R107;
R468). -/
structure AcvLink where
  lsend : Nat
  unacked : List AcvPkt
  tries : List (Nat × Nat)
  lnext : Nat
  fresh : Bool
  sentHello : Bool
  hello : Option Nat
  since : Nat
  reads : List HostRead
  tag : Nat
  bell : List Nat
  nextPoll : Nat
  lastNak : Option Nat
  descs : List Fetched
  held : List AcvPkt
  deriving DecidableEq, Repr

/-- A completion that waits to be written to its ring (15 R484). -/
structure Comp where
  ring : Nat
  slot : Nat
  id : Nat
  code : Nat
  v0 : Nat
  v1 : Nat
  toll : Nat
  deriving DecidableEq, Repr

/-- A fault message (17 R505). -/
structure Msg where
  toll : Nat
  addr : Nat
  kind : Nat
  cls : Nat
  access : Nat
  level : Nat
  unit : Nat
  injected : Bool
  score : Bool
  addrV : Bool
  deriving DecidableEq, Repr

/-- A message on its way with the instruction in progress (17 R529): list index, unit code, word; and the ACTION bits of R533. -/
structure Rep where
  msg : Msg
  index : Nat
  unit : Nat
  word : Nat
  action : Nat
  deriving DecidableEq, Repr

/-- A diagnosis buffer's captured work (17 R520): the slot of the unit, the failing record. -/
structure Diag where
  slot : Nat
  rep : Rep
  deriving DecidableEq, Repr

/-- The fault system (17 R505 to R533): history of each cluster keyed `16 c + entry` with the messages taken, queues of the
region and die collectors, hub input, fault ring entries written, FCONS of the latest poll, the next RECID, the last 64 CPER records
that the Sexton keeps and those that wait for the ring, C3 messages whose record is not yet made, messages of counted-only kinds by
interval, diagnosis buffers, transient counts of each unit with their interval, a hub drop since the last entry; of each region record the
message that joined it last, with MERGES and KIND_OR before it (R527). -/
structure FaultUnit where
  hist : Tab Nat
  taken : Tab Nat
  region : List (Nat × Rep)
  die : List (Nat × Rep)
  hub : List Rep
  written : Nat
  fcons : Nat
  recid : Nat
  kept : List (List Byte)
  waiting : List (List Byte)
  owed : List Rep
  quiet : Tab Nat
  diag : List (Nat × Diag)
  trans : Tab Nat
  lost : Bool
  joined : List (Nat × Nat × Nat × Rep)
  deriving DecidableEq, Repr

/-- Injection (17 R531, R532): keys taken so far, by which party, when the first came, when the armed window ends; a firing pending,
with INJ_TARGET and WHEN as they stood at GO; corruptions still to make, one entry an event (kind, mode, level, unit). -/
structure Inject where
  keys : Nat
  host : Bool
  first : Nat
  limit : Nat
  fire : Bool
  target : Nat
  due : Nat
  corrupt : List (Nat × Nat × Nat × Nat)
  deriving DecidableEq, Repr

/-- The loaded Score's parameters (07 R237 to R264), as the loader keeps them. -/
structure ScoreParams where
  acre : Nat
  beats : Nat
  phases : Nat
  prologue : Nat
  clave : Bool
  seeds : List Nat
  layout : List Byte
  fence : List Nat
  phaseTab : List (Nat × Nat × Nat)
  starts : List (List Nat)
  state : List (Nat × Nat)
  listBase : Nat
  listBytes : Nat
  undoBytes : Nat
  undo0 : Nat
  undo1 : Nat
  chimes0 : List (Nat × Nat)
  chimes1 : List (Nat × Nat)
  records : List (Nat × List Nat)
  digest : List Byte
  deriving DecidableEq, Repr

/-- A load in progress (07 R258 to R262): its descriptor, the parsed parameters and the images still to be written,
SEQ_SCORE.STATE before it, and whether the writes of R262 have begun (17 R537). -/
structure Load where
  desc : Desc
  params : ScoreParams
  period : Nat
  stretch : Nat
  chimesD0 : Nat
  chimesD1 : Nat
  pecks : Nat
  recordsN : Nat
  ringLog2 : Nat
  ringBase : Nat
  lists : List (Nat × List Byte × List Byte)
  calendar : List Byte
  routes : List Byte
  nominal : List Nat
  back : Nat
  writing : Bool
  deriving DecidableEq, Repr

/-- The Score unit (07): the loaded Score, the load in progress, descriptors of the pending pause and launch, the record counts of the undo
logs (R251), and the blocks of log records, by address, whose content was poisoned in its line when it was logged (13 R421). -/
structure ScoreUnit where
  cur : Option ScoreParams
  load : Option Load
  pause : Option Desc
  launch : Option Desc
  calendar : Tab Nat
  logs : Tab Nat
  carried : List Nat
  deriving DecidableEq, Repr

/-- A ride cell in a die's ride queue (08 R294, R295): its first mirror offset, its blocks, its Beat, closed or open, the Toll
count at which a block last joined it. -/
structure RideCell where
  die : Nat
  offset : Nat
  blocks : List (List Byte)
  beat : Nat
  closed : Bool
  since : Nat
  deriving DecidableEq, Repr

/-- The riding copy (08 R293 to R299): the ride queues of both dies in order; the holder's buffers as (Beat, number of
entries), the entries standing in the reserved tier 1 area (R296); the Beat whose drain is in progress; the blocks whose writes wait for
room in a full queue (R295), as die, mirror offset, Beat and block. -/
structure RideUnit where
  queue : List RideCell
  bufs : List (Nat × Nat)
  drain : Option Nat
  waits : List (Nat × Nat × Nat × List Byte)
  deriving DecidableEq, Repr

/-- A checkpoint operation in progress (18 R546, R551, R552): the descriptor, the operation as CKPT_STATUS.OP shows it, MODE of a receive
window, the slot, SOURCE as SRC, START_BEAT or the image Beat, drive commands completed, blocks and head blocks taken, the Toll count of
the last restore cell, the image head, the digests of the segments moved so far. -/
structure CkptOp where
  desc : Desc
  op : Nat
  mode : Nat
  slot : Nat
  source : Nat
  start : Nat
  pos : Nat
  blocks : Nat
  headBlocks : Nat
  last : Nat
  head : List Byte
  digests : List Byte
  deriving DecidableEq, Repr

/-- The checkpoint unit (18 R541 to R563): the operation in progress. -/
structure CkptUnit where
  op : Option CkptOp
  deriving DecidableEq, Repr

/-- The boot unit (19 R564 to R590). `step` is the step of R564 that the start is in (0 before the first start and after one that found
no bank, 2 ROM, 3 first stage, 4 memory training, 5 after them); the banks that this start has rejected; the bank it started from; an
update image being written to the other bank, as its descriptor, its length and its bytes; the descriptor of an armed update; the firmware
restart in progress (0 none, 1 to the staged parts, 2 and 3 a revert by REVERT_TOLL and by descriptor); the descriptors of a revert; a revert
that waits for a load (as `restart`); the eight digests that ATTEST reports (R581); the counter records that the identity key has signed, with
their signatures (R582). -/
structure BootUnit where
  step : Nat
  tried : List Nat
  home : Nat
  stage : Option Desc
  imageLen : Nat
  image : List Host.Cell
  armed : Option Desc
  restart : Nat
  revert : List Desc
  revertDue : Nat
  measure : List (List Byte)
  signed : List (List Byte × List Byte)
  deriving DecidableEq, Repr

/-- An allocation (SIZE) or a release (handle) that the buffer pool manager has accepted and not yet served (12 R401, R405). -/
structure PoolReq where
  desc : Desc
  free : Bool
  arg : Nat
  deriving DecidableEq, Repr

/-- What left the device, newest first: the model's own record of what the outside sees. The 192 bits of a control block on a link (14 R434),
a cell in a slot of a link, the bytes of an Acvel packet (15 R465), a drive command, a cell taken by a cluster. -/
inductive Out where
  | block (link bits : Nat)
  | cell (link lseq : Nat) (c : Cell)
  | acv (bytes : List Byte)
  | drive (write : Bool) (slot off : Nat)
  | done (cluster : Nat) (c : Cell)
  deriving DecidableEq, Repr

/-- The state of the block. `fresh` holds, for each RC or W1C field that hardware has updated in the present CK, its value before that CK and what
this CK alone gives it (00 R17); `ck` is the package CK count (01 R32); `mgmt` the word the management target captured (01 R49); `mem` the 48-bit
address space of 13 R408 but for register space and Chime space, and `poison` the 8-byte words that are poisoned (R421) and `soft` those with one
bad symbol, which a read corrects (R419, R420), by address; `host`, `nvme` and `flash` the memories outside that the device reaches (15 R473; 18;
19); `draws` advances with every free value read; `pending` is the queue of commands that wait. -/
structure State where
  pending : List Instr
  regs : Tab Nat
  fresh : Tab (Nat × Nat)
  mem : List Host.Cell
  poison : List Nat
  soft : List Nat
  tags : Tab Nat
  host : List Host.Cell
  nvme : List Host.Cell
  flash : List Host.Cell
  ck : Nat
  mgmt : Nat
  draws : Nat
  pins : Pins
  gov : Governor
  tollU : TollUnit
  beatU : BeatUnit
  probe : Probe
  chimes : Tab Chime
  chimeq : List ChimeOp
  clusters : Tab Cluster
  bushels : Tab Bushel
  parked : List Parked
  groups : Tab (Option Grp)
  colls : List Coll
  sw : Switch
  route : RouteUnit
  links : Tab Link
  acv : AcvLink
  comps : List Comp
  poolq : List PoolReq
  faults : FaultUnit
  inj : Inject
  score : ScoreUnit
  ride : RideUnit
  ckpt : CkptUnit
  boot : BootUnit
  out : List Out
  delivered : List Cell
  deriving DecidableEq, Repr

/-! ### One update for each piece of state -/

/-- `pending` replaced. -/
def State.putPending (s : State) (x : List Instr) : State := { s with pending := x }

/-- `regs` replaced. -/
def State.putRegs (s : State) (x : Tab Nat) : State := { s with regs := x }

/-- `fresh` replaced. -/
def State.putFresh (s : State) (x : Tab (Nat × Nat)) : State := { s with fresh := x }

/-- `mem` replaced. -/
def State.putMem (s : State) (x : List Host.Cell) : State := { s with mem := x }

/-- `poison` replaced. -/
def State.putPoison (s : State) (x : List Nat) : State := { s with poison := x }

/-- `soft` replaced. -/
def State.putSoft (s : State) (x : List Nat) : State := { s with soft := x }

/-- `tags` replaced. -/
def State.putTags (s : State) (x : Tab Nat) : State := { s with tags := x }

/-- `host` replaced. -/
def State.putHost (s : State) (x : List Host.Cell) : State := { s with host := x }

/-- `nvme` replaced. -/
def State.putNvme (s : State) (x : List Host.Cell) : State := { s with nvme := x }

/-- `flash` replaced. -/
def State.putFlash (s : State) (x : List Host.Cell) : State := { s with flash := x }

/-- `ck` replaced. -/
def State.putCk (s : State) (x : Nat) : State := { s with ck := x }

/-- `mgmt` replaced. -/
def State.putMgmt (s : State) (x : Nat) : State := { s with mgmt := x }

/-- `draws` replaced. -/
def State.putDraws (s : State) (x : Nat) : State := { s with draws := x }

/-- `pins` replaced. -/
def State.putPins (s : State) (x : Pins) : State := { s with pins := x }

/-- `gov` replaced. -/
def State.putGov (s : State) (x : Governor) : State := { s with gov := x }

/-- `tollU` replaced. -/
def State.putTollU (s : State) (x : TollUnit) : State := { s with tollU := x }

/-- `beatU` replaced. -/
def State.putBeatU (s : State) (x : BeatUnit) : State := { s with beatU := x }

/-- `probe` replaced. -/
def State.putProbe (s : State) (x : Probe) : State := { s with probe := x }

/-- `chimes` replaced. -/
def State.putChimes (s : State) (x : Tab Chime) : State := { s with chimes := x }

/-- `chimeq` replaced. -/
def State.putChimeq (s : State) (x : List ChimeOp) : State := { s with chimeq := x }

/-- `clusters` replaced. -/
def State.putClusters (s : State) (x : Tab Cluster) : State := { s with clusters := x }

/-- `bushels` replaced. -/
def State.putBushels (s : State) (x : Tab Bushel) : State := { s with bushels := x }

/-- `parked` replaced. -/
def State.putParked (s : State) (x : List Parked) : State := { s with parked := x }

/-- `groups` replaced. -/
def State.putGroups (s : State) (x : Tab (Option Grp)) : State := { s with groups := x }

/-- `colls` replaced. -/
def State.putColls (s : State) (x : List Coll) : State := { s with colls := x }

/-- `sw` replaced. -/
def State.putSw (s : State) (x : Switch) : State := { s with sw := x }

/-- `route` replaced. -/
def State.putRoute (s : State) (x : RouteUnit) : State := { s with route := x }

/-- `links` replaced. -/
def State.putLinks (s : State) (x : Tab Link) : State := { s with links := x }

/-- `acv` replaced. -/
def State.putAcv (s : State) (x : AcvLink) : State := { s with acv := x }

/-- `comps` replaced. -/
def State.putComps (s : State) (x : List Comp) : State := { s with comps := x }

/-- `poolq` replaced. -/
def State.putPoolq (s : State) (x : List PoolReq) : State := { s with poolq := x }

/-- `faults` replaced. -/
def State.putFaults (s : State) (x : FaultUnit) : State := { s with faults := x }

/-- `inj` replaced. -/
def State.putInj (s : State) (x : Inject) : State := { s with inj := x }

/-- `score` replaced. -/
def State.putScore (s : State) (x : ScoreUnit) : State := { s with score := x }

/-- `ride` replaced. -/
def State.putRide (s : State) (x : RideUnit) : State := { s with ride := x }

/-- `ckpt` replaced. -/
def State.putCkpt (s : State) (x : CkptUnit) : State := { s with ckpt := x }

/-- `boot` replaced. -/
def State.putBoot (s : State) (x : BootUnit) : State := { s with boot := x }

/-- `out` replaced. -/
def State.putOut (s : State) (x : List Out) : State := { s with out := x }

/-- `delivered` replaced. -/
def State.putDelivered (s : State) (x : List Cell) : State := { s with delivered := x }

/-- A cluster after reset: S and V registers zero, every P register all ones (DESIGN CHOICE, log entry 3). -/
def Cluster.reset : Cluster :=
  ⟨[], [], [], [], [], [], [], [], [], 0, [], [], [], ⟨none, []⟩, none, [], [], none, none, [], 0, [], none, none, 0, none, false⟩

/-- A Chime after reset (02 R106). -/
def Chime.reset : Chime := ⟨0, 0⟩

/-- A Bushel record's slots after reset. -/
def Bushel.reset : Bushel := ⟨[], [], 0, false, false⟩

/-- A link after reset (14 R441, R447). -/
def Link.reset : Link :=
  ⟨0, [], 0, true, 0, 0, none, 0, 0, [], [], 0, false, [0, 0, 0, 0], [0, 0, 0, 0], false, false, 0, 0, 0, none, none⟩

/-- An empty route bank (14 R441; 19 R564). -/
def Bank.reset : Bank := ⟨[], [], [], [], [], none⟩

/-- The Acvel link after reset (15 R469, R470). -/
def AcvLink.reset : AcvLink :=
  ⟨0, [], [], 0, true, false, none, 0, [], 0, [], 0, none, [], []⟩

/-- The Beat unit after reset. -/
def BeatUnit.reset : BeatUnit :=
  ⟨0, 0, 0, false, 0, false, 0, [], [], [], false, 0, false, false, false, false, false, [], [], 0, [], none, false, [], 0, 0, none⟩

/-- The switch core after reset (12 R393, R394; pointers DESIGN CHOICE 0, log entry 3). -/
def Switch.reset : Switch := ⟨[], [], [], [], [], [], [], [], [], [], [], 0, 0, [], 0, [], [], [], []⟩

/-- Routing after reset (11 R379, R382). -/
def RouteUnit.reset : RouteUnit :=
  ⟨Bank.reset, Bank.reset, [], [], [], none, [], none, [], true, 0, 0, [], none, [], []⟩

/-- The fault system after reset. -/
def FaultUnit.reset : FaultUnit := ⟨[], [], [], [], [], 0, 0, 0, [], [], [], [], [], [], false, []⟩

/-- Injection after reset. -/
def Inject.reset : Inject := ⟨0, false, 0, 0, false, 0, 0, []⟩

/-- The Score unit after reset. -/
def ScoreUnit.reset : ScoreUnit := ⟨none, none, none, none, [], [], []⟩

/-- The boot unit after reset. -/
def BootUnit.reset : BootUnit := ⟨0, [], 0, none, 0, [], none, 0, [], 0, [], []⟩

/-- The block right after reset: every register field at its reset value, every queue empty (00 R15). -/
def State.reset : State :=
  { pending := []
    regs := []
    fresh := []
    mem := []
    poison := []
    soft := []
    tags := []
    host := []
    nvme := []
    flash := []
    ck := 0
    mgmt := 0
    draws := 0
    pins := ⟨false, false, false, false, false, false, none⟩
    gov := ⟨[], 16, 0, 0⟩
    tollU := ⟨0, 0, 0, 1024⟩
    beatU := BeatUnit.reset
    probe := ⟨false, 0, [], 0, false, []⟩
    chimes := []
    chimeq := []
    clusters := []
    bushels := []
    parked := []
    groups := []
    colls := []
    sw := Switch.reset
    route := RouteUnit.reset
    links := []
    acv := AcvLink.reset
    comps := []
    poolq := []
    faults := FaultUnit.reset
    inj := Inject.reset
    score := ScoreUnit.reset
    ride := ⟨[], [], none, []⟩
    ckpt := ⟨none⟩
    boot := BootUnit.reset
    out := []
    delivered := [] }

end Sys2Proof.Machine
end

