-- ==== Sys2Proof/Machine/Ops.lean ====
section
/-!
DEFINITION. Machine/Ops.lean: the named operations over the block's state that every family uses: register fields, time,
bytes of memory, fault messages and their collectors (spec/17), seal effects (02 R82), and completions (15 R484).
-/
namespace Sys2Proof.Machine

/-! ### Register fields -/

/-- The value of instance `n` of a register field: always within its width. -/
def State.reg (s : State) (f : Field) (n : Nat := 0) : Nat := tabGet f.reset s.regs (f.key n) % 2 ^ f.width

/-- A register field set to a value, cut to its width. -/
def State.setReg (s : State) (f : Field) (v : Nat) (n : Nat := 0) : State :=
  (s.putRegs (tabSet f.reset s.regs (f.key n) (v % 2 ^ f.width)))

/-- The largest value of a field. -/
def Field.top (f : Field) : Nat := 2 ^ f.width - 1

/-- Hardware gives a field the value `v`; `u` adds to what this CK alone gives it. Of a field that a read or a write clears, the value
before this CK and this CK's own part are kept for the accesses of the same CK (00 R17). -/
def State.update (s : State) (f : Field) (v : Nat) (u : Nat → Nat) (n : Nat := 0) : State :=
  if f.acc = .rc ∨ f.acc = .w1c then
    let p := (tabFind s.fresh (f.key n)).getD (s.reg f n, 0)
    (s.setReg f v n).putFresh (tabInsert s.fresh (f.key n) (p.1, u p.2 % 2 ^ f.width))
  else s.setReg f v n

/-- A counter that holds at its largest value, `k` events on. -/
def State.count (s : State) (f : Field) (k : Nat := 1) (n : Nat := 0) : State :=
  s.update f (min (s.reg f n + k) f.top) (fun u => min (u + k) f.top) n

/-- A counter that wraps, `k` events on. -/
def State.tick (s : State) (f : Field) (k : Nat := 1) (n : Nat := 0) : State :=
  s.update f (s.reg f n + k) (fun u => u + k) n

/-- A running maximum (00 R17): in one CK the quantity measured in that CK. -/
def State.peak (s : State) (f : Field) (v : Nat) (n : Nat := 0) : State :=
  s.update f (max (s.reg f n) (min v f.top)) (fun u => max u (min v f.top)) n

/-- Bits that gather by OR, such as the events of a W1C field. -/
def State.mark (s : State) (f : Field) (v : Nat := 1) (n : Nat := 0) : State :=
  s.update f (s.reg f n ||| v) (fun u => u ||| v) n

/-- What hardware has given a field in this CK (00 R17). -/
def State.freshPart (s : State) (f : Field) (n : Nat) : Nat := ((tabFind s.fresh (f.key n)).map (·.2)).getD 0

/-! ### Time -/

/-- `n` CK pass on the package CK count, which runs while PORST_N is high (01 R32); what hardware updated in the CK before is no longer
new (00 R17). -/
def State.passCk (s : State) (n : Nat) : State :=
  (s.putCk (if s.pins.porstN then s.ck + n else s.ck)).putFresh (if n = 0 then s.fresh else [])

/-- The Toll count (02 R68). -/
def State.toll (s : State) : Nat := s.reg F.TOLL_COUNT_COUNT

/-- Time brought to at least a Toll count; the package CK count advances with it (log entry 1). -/
def State.advanceTo (s : State) (t : Nat) : State :=
  if s.toll < t then (s.setReg F.TOLL_COUNT_COUNT t).passCk (t - s.toll) else s

/-- `n` CK later. -/
def State.advance (s : State) (n : Nat) : State :=
  (s.setReg F.TOLL_COUNT_COUNT (s.toll + n)).passCk n

/-! ### States of the machine -/

/-- A Score runs (00 R601). -/
def State.running (s : State) : Bool := decide (s.reg F.BEAT_STATUS_STATE = 2)

/-- The Beat number now running (02 R113). -/
def State.beat (s : State) : Nat := s.reg F.BEAT_NUM_NUM

/-- SEQ_SCORE.STATE (07 R269). -/
def State.scoreState (s : State) : Nat := s.reg F.SEQ_SCORE_STATE

/-- A Score is loaded: LOADED, RUNNING, PAUSING, PAUSED, ENDED or STOPPED, or one of these until the load in progress begins to write (07
R259, R262, R269). -/
def State.scoreLoaded (s : State) : Bool :=
  s.score.cur.isSome && (decide (2 ≤ s.scoreState) || s.score.load.any (fun l => decide (2 ≤ l.back) && !l.writing))

/-! ### Bytes of memory -/

/-- A byte of the device address space, outside register space and Chime space. -/
def State.byte (s : State) (a : Nat) : Byte := tabGet 0 s.mem a

/-- `n` bytes from an address. -/
def State.bytes (s : State) (a n : Nat) : List Byte := (span a n).map s.byte

/-- A byte written. -/
def memPut (m : List Host.Cell) (a : Nat) (b : Byte) : List Host.Cell := tabSet 0 m a b

/-- Bytes written from an address on. -/
def memWrite (m : List Host.Cell) : Nat → List Byte → List Host.Cell
  | _, [] => m
  | a, b :: t => memWrite (memPut m a b) (a + 1) t

/-- Bytes of a memory. -/
def memBytes (m : List Host.Cell) (a n : Nat) : List Byte := (span a n).map (tabGet 0 m)

/-- The canonical form of a memory: addresses strictly rising, no entry equal to what an unlisted address reads as. -/
def Memory.wf (m : List Host.Cell) : Bool := tabWf 0 m

/-- Bytes written into the device's memory, with no rule but that. -/
def State.poke (s : State) (a : Nat) (l : List Byte) : State := (s.putMem (memWrite s.mem a l))

/-- The 64-bit little-endian word at an address. -/
def State.word (s : State) (a : Nat) : Nat := leNat (s.bytes a 8)

/-! ### The persistent copy in boot flash (19 R568, R577, R582) -/

/-- Where bank `b` of boot flash begins in the model's one space of flash addresses. -/
def bankBase (b : Nat) : Nat := b * 0x40000000

/-- Where the persistent copy of bank `b` lies (19 R568). -/
def copyBase (b : Nat) : Nat := bankBase b + 0x3F000000

/-- Bytes of boot flash. -/
def State.flashBytes (s : State) (a n : Nat) : List Byte := memBytes s.flash a n

/-- Bytes written to boot flash. -/
def State.flashPut (s : State) (a : Nat) (l : List Byte) : State := (s.putFlash (memWrite s.flash a l))

/-- The bytes of a text in ASCII. -/
def ascii (t : String) : List Byte := t.toList.map (fun c => BitVec.ofNat 8 c.toNat)

/-- A bank's persistent copy is valid: MAGIC, the CRC-32C and the counter record's signature (19 R577, R582). A
record that the device has signed itself verifies (log entry 38). One whose fence map record has a VERSION that a reader does not accept
is malformed, and so not valid (00 R18; 07 R255; no rule gives it a code: log entry 38). -/
def State.copyGood (s : State) (b : Nat) : Bool :=
  let a := copyBase b
  decide (s.flashBytes a 8 = ascii "UN9PERST") && decide (leNat (s.flashBytes (a + 0x20) 2) = 0x0100) &&
    decide (crc32c (s.flashBytes a 0x3FC) = leNat (s.flashBytes (a + 0x3FC) 4)) &&
    (let sgn := s.flashBytes (a + 0x180) 128
     let sig := s.flashBytes (a + 0x200) 384
     pssVerify (s.flashBytes (a + 0x4000) 388) sgn sig || decide ((sgn, sig) ∈ s.boot.signed))

/-- PSEQ of a bank's copy. -/
def State.copySeq (s : State) (b : Nat) : Nat := leNat (s.flashBytes (copyBase b + 8) 8)

/-- The bank of the valid copy with the higher PSEQ (19 R577). -/
def State.copyBank (s : State) : Option Nat :=
  if s.copyGood 0 then (if s.copyGood 1 && decide (s.copySeq 0 < s.copySeq 1) then some 1 else some 0)
  else if s.copyGood 1 then some 1 else none

/-- The cells of `n` bytes from `src` put in place of those from `dst`. -/
def memMove (m : List Host.Cell) (src dst n : Nat) : List Host.Cell :=
  (m.filter (fun e => decide (src ≤ e.1) && decide (e.1 < src + n))).foldl (fun t e => memPut t (dst + (e.1 - src)) e.2)
    (tabClear m dst (dst + n))

/-- An update of the persistent copy: the other bank's copy is written with the fields changed, PSEQ one higher, and its CRC-32C
(19 R577). Nothing is written while no copy is valid. -/
def State.writeCopy (s : State) (fields : List (Nat × List Byte)) : State :=
  match s.copyBank with
  | none => s
  | some b =>
    let dst := copyBase (1 - b)
    let s1 := (s.putFlash (memMove s.flash (copyBase b) dst 0x1000000))
    let s2 := fields.foldl (fun t f => t.flashPut (dst + f.1) f.2) s1
    let s3 := s2.flashPut (dst + 8) (leBytes 8 (s.copySeq b + 1))
    s3.flashPut (dst + 0x3FC) (leBytes 4 (crc32c (s3.flashBytes dst 0x3FC)))

/-! ### The fence map (07 R255; 17 R530) -/

/-- Word `j` of the device fence map. -/
def State.fenceWord (s : State) (j : Nat) : Nat := if 1 ≤ j ∧ j ≤ 10 then s.reg F.FLT_FENCE_MAP (j - 1) else 0

/-- Bit `b` of word `j` of the device fence map. -/
def State.fenced (s : State) (j b : Nat) : Bool := (s.fenceWord j).testBit b

/-- The fence map as a record of R255: word 0 the version, words 1 to 10, word 11 reserved. -/
def State.fenceRecord (s : State) : List Byte :=
  (List.range 12).flatMap (fun j => leBytes 8 (if j = 0 then 0x0100 else s.fenceWord j))

/-- A bit of the fence map set by a C2 fence; the persistent copy takes the map (17 R530; 19 R578). -/
def State.setFence (s : State) (j b : Nat) : State :=
  if 1 ≤ j ∧ j ≤ 10 then
    let s1 := s.setReg F.FLT_FENCE_MAP (s.fenceWord j ||| 2 ^ b) (j - 1)
    s1.writeCopy [(0x20, s1.fenceRecord)]
  else s

/-- Cluster `c` is fenced as a whole (07 R255). -/
def State.clFenced (s : State) (c : Nat) : Bool := s.fenced 1 c

/-- Matrix engine `c` is fenced (05 R200; 07 R255). -/
def State.mxFenced (s : State) (c : Nat) : Bool := s.clFenced c || s.fenced 2 c

/-- Vector engine `v` is fenced (06 R235). -/
def State.vxFenced (s : State) (v : Nat) : Bool := s.clFenced (v / 4) || s.fenced (3 + v / 64) (v % 64)

/-- Tally engine `c` is fenced. -/
def State.taFenced (s : State) (c : Nat) : Bool := s.clFenced c || s.fenced 7 c

/-- A C2 fence of a unit (17 R512): at once when no Score is RUNNING; else HALT_REQ with cause FENCE in the next seal, and
the bit at the end boundary of that Beat. -/
def State.fence (s : State) (j b : Nat) : State :=
  if s.running then
    (s.putBeatU { s.beatU with haltReq := true, haltCause := s.beatU.haltCause ||| 0x200,
                                     fences := s.beatU.fences ++ [(j, b)] })
  else s.setFence j b

/-! ### Seal effects (02 R82, R83, R90) -/

/-- ERR with a cause in the seal of the running Beat, while a Score runs. -/
def State.err (s : State) (cause : Nat) : State :=
  if s.running then (s.putBeatU { s.beatU with err := true, errCause := s.beatU.errCause ||| 2 ^ cause }) else s

/-- HALT_REQ with causes in the device's next seal, while a Score runs. -/
def State.halt (s : State) (causes : Nat) : State :=
  if s.running then
    (s.putBeatU { s.beatU with haltReq := true, haltCause := s.beatU.haltCause ||| causes })
  else s

/-! ### Completions (15 R484) -/

/-- A descriptor completes: its entry waits for its ring (15 R484), INFLIGHT falls (R480). -/
def State.complete (s : State) (d : Desc) (code : Nat) (v0 : Nat := 0) (v1 : Nat := 0) : State :=
  let s1 := (s.putComps (s.comps ++ [Comp.mk d.ring.val d.slot.toNat d.id.toNat code v0 v1 s.toll]))
  s1.setReg F.ACV_RSTAT_INFLIGHT (s1.reg F.ACV_RSTAT_INFLIGHT d.ring.val - 1) d.ring.val

/-- Whether the next completion entry of a ring may be written, by CCONS of the latest poll (15 R484). -/
def State.compRoom (s : State) (n : Nat) : Bool :=
  decide ((s.reg F.ACV_RCONS_WRITTEN n + 2 ^ 32 - s.acv.bell.getD n 0 / 2 ^ 32) % 2 ^ 32 < 2 ^ s.reg F.ACV_SQ_LOG2 n)

/-- A completion entry of a ring waits for room (15 R481, R484). -/
def State.compWaits (s : State) (n : Nat) : Bool := s.comps.any (fun c => decide (c.ring = n)) && !s.compRoom n

/-- The descriptors of a ring that are fetched and not accepted, in slot order (15 R480, R481). -/
def State.held (s : State) (n : Nat) : List Fetched := s.acv.descs.filter (fun f => decide (f.ring = n))

/-- Every descriptor of a ring that was accepted has its completion entry written (15 R481). -/
def State.allWritten (s : State) (n : Nat) : Bool :=
  !s.comps.any (fun c => decide (c.ring = n)) && decide (s.reg F.ACV_RSTAT_INFLIGHT n ≤ (s.held n).length)

/-- Neither a waiting completion entry of the ring nor FENCE holds a descriptor back (15 R481). -/
def State.ringOpen (s : State) (n : Nat) (fence : Bool) : Bool := !s.compWaits n && (!fence || s.allWritten n)

/-- The header of a fetched descriptor (15 R482). -/
def Fetched.header (f : Fetched) : Nat := leNat (f.bytes.take 8)

/-- The oldest descriptor of a ring is acceptable now (15 R481). -/
def State.ringReady (s : State) (n : Nat) : Bool :=
  match s.held n with
  | [] => false
  | f :: _ => decide (f.since + 8 ≤ s.toll) && s.ringOpen n (f.header.testBit 8)

/-- A fetched descriptor is the one a command names, by slot, ID and FENCE. -/
def Fetched.names (f : Fetched) (d : Desc) : Bool :=
  decide (f.slot = d.slot.toNat) && decide (bitsOf f.header 63 32 = d.id.toNat) && (f.header.testBit 8 == d.fence)

/-- A descriptor is accepted and handled (15 R481): the oldest of its ring, no sooner than 8 CK after its last byte came, while no completion
entry of the ring waits, with FENCE once every earlier one has its entry written, and no lower ring's is acceptable. A command that names
another one changes nothing, and with none fetched the descriptor comes with its command (DESIGN CHOICE, log entry 81). -/
def State.accept (s : State) (d : Desc) (act : State → State) : State :=
  let n := d.ring.val
  if !s.ringOpen n d.fence then s
  else match s.held n with
    | [] => act s
    | f :: _ =>
      let s1 := s.advanceTo (f.since + 8)
      if f.names d && !(List.range n).any s1.ringReady then act (s1.putAcv { s1.acv with descs := s1.acv.descs.erase f }) else s

/-- A descriptor is accepted and handled, or completes with START_FAILED after a start that failed (15 R481; 19 R567): every one but NOP,
ATTEST and the boot descriptors. -/
def State.serve (s : State) (d : Desc) (act : State → State) : State :=
  s.accept d (fun t => if t.reg F.BOOT_STATUS_FAIL = 0 then act t else t.complete d 0x8B)

/-! ### Fault messages (17 R505 to R528) -/

/-- The message as 128 bits (17 R505). -/
def Msg.bits (m : Msg) : Nat :=
  (m.toll % 2 ^ 40) * 2 ^ 88 + (m.addr % 2 ^ 48) * 2 ^ 40 + (m.kind % 2 ^ 16) * 2 ^ 24 + (m.cls % 8) * 2 ^ 21 +
  (m.access % 8) * 2 ^ 18 + (m.level % 8) * 2 ^ 15 + (m.unit % 2 ^ 11) * 2 ^ 4 + b2n m.injected * 8 + b2n m.score * 4 +
  b2n m.addrV * 2

/-- The class of a kind (17 R516). -/
def kindClass (k : Nat) : Nat :=
  if k ∈ [0x0201, 0x0204, 0x0401, 0x4001, 0x8001, 0x8002] then 0
  else if k = 0x8003 then 2
  else if k ∈ [0x0203, 0x0206, 0x2001, 0x2005, 0x2006] then 3
  else if k ∈ [0x4002, 0x4003, 0x4004, 0x4005, 0x4006] then 4
  else 1

/-- Whether a code names a kind (17 R516). -/
def kindKnown (k : Nat) : Bool :=
  decide (k ∈ [0x0101, 0x0102, 0x0103, 0x0104, 0x0201, 0x0202, 0x0203, 0x0204, 0x0205, 0x0206, 0x0207, 0x0401, 0x0402,
    0x0403, 0x0404, 0x0405, 0x0406, 0x0407, 0x0408, 0x0801, 0x0802, 0x0803, 0x0804, 0x1001, 0x1002, 0x1003, 0x1004,
    0x1005, 0x1006, 0x2001, 0x2002, 0x2003, 0x2004, 0x2005, 0x2006, 0x4001, 0x4002, 0x4003, 0x4004, 0x4005, 0x4006,
    0x8001, 0x8002, 0x8003, 0x8004])

/-- The package region of a region-level unit (17 R506, R507; 01 R24, R25): link, crossbar slice, laser, optical engine or
collector. -/
def regionOf (unit : Nat) : Nat :=
  if unit < 256 then unit / 32
  else if unit < 264 then unit - 256
  else if unit < 280 then (unit - 264) / 2
  else if unit < 288 then unit - 280
  else unit - 288

/-- The die of a die-level unit (17 R506). -/
def dieOf (unit : Nat) : Nat :=
  if unit < 8 then unit % 2
  else if unit < 24 then (unit - 16) / 4
  else (unit - 24) / 4 % 2

/-- A message joins a region collector's queue of 64, or is dropped and counted (17 R525). -/
def State.toRegion (s : State) (n : Nat) (r : Rep) : State :=
  if (s.faults.region.filter (fun e => decide (e.1 = n))).length < 64 then
    (s.putFaults { s.faults with region := s.faults.region ++ [(n, r)] })
  else s.count F.FLT_RG_STAT_LOST 1 n

/-- A message joins a die collector's queue of 64, or is dropped and counted (17 R525). -/
def State.toDie (s : State) (d : Nat) (r : Rep) : State :=
  if (s.faults.die.filter (fun e => decide (e.1 = d))).length < 64 then
    (s.putFaults { s.faults with die := s.faults.die ++ [(d, r)] })
  else s.count (if d = 0 then F.FLT_DIE_LOST_LOST_D0 else F.FLT_DIE_LOST_LOST_D1) 1

/-- A message reaches the hub aggregator, which counts it by class (17 R528, R538). -/
def State.toHub (s : State) (r : Rep) : State :=
  let s1 := (s.putFaults { s.faults with hub := s.faults.hub ++ [r] })
  if r.msg.cls = 0 then s1.count F.FLT_COUNTS_C0
  else if r.msg.cls = 1 then s1.count F.FLT_COUNTS_C1
  else if r.msg.cls = 2 then s1.count F.FLT_COUNTS_C2
  else s1

/-- A cluster collector takes a message, keeps it in its history and forwards it (17 R524). -/
def State.toCluster (s : State) (c : Nat) (r : Rep) : State :=
  let n := tabGet 0 s.faults.taken c
  let f := { s.faults with hist := tabSet 0 s.faults.hist (16 * c + n % 16) r.msg.bits
                           taken := tabSet 0 s.faults.taken c (n + 1) }
  (s.putFaults f).toRegion (c / 8) r

/-- A C1 or C2 fault during the writes of a load ends it with LOAD_FAULT; no Score is loaded (17 R537). -/
def State.loadHit (s : State) (cls : Nat) : State :=
  match s.score.load with
  | some l =>
    if l.writing && (decide (cls = 1) || decide (cls = 2)) then
      ((((s.putScore { s.score with load := none, cur := none }).setReg F.SEQ_SCORE_STATE 0).setReg F.MXE_CFG_FIXED_LAT 0).setReg
        F.SEQ_SCORE_LAST_CODE 0x90).complete l.desc 0x90
    else s
  | none => s

/-- A detector's message goes to the lowest collector of its level (17 R507). -/
def State.send (s0 : State) (r : Rep) : State :=
  let s := s0.loadHit r.msg.cls
  match r.msg.level with
  | 0 => s.toCluster (r.msg.unit / 8) r
  | 1 => s.toCluster r.msg.unit r
  | 2 => s.toRegion (regionOf r.msg.unit) r
  | 3 => s.toDie (dieOf r.msg.unit) r
  | _ => s.toHub r

/-- A message made here and now (17 R505). -/
def State.msg (s : State) (kind cls level unit access : Nat) (addr : Option Nat) : Msg :=
  { toll := s.toll, addr := addr.getD 0, kind := kind, cls := cls, access := access, level := level, unit := unit,
    injected := false, score := s.running, addrV := addr.isSome }

/-- A message with no instruction in progress. -/
def repOf (m : Msg) : Rep := ⟨m, 0, 0, 0, 0⟩

/-- A C3 fault (17 R510, R514; 02 R93): HALT_REQ with DEVICE_STOP in the next seal, and the reset after it. -/
def State.c3 (s : State) (causes : Nat) : State :=
  let s1 := s.halt (causes ||| 0x400)
  (s1.putBeatU { s1.beatU with resetDue := true, leaveDue := s1.beatU.leaveDue || s.running })

/-- What C4_CAUSE holds after a cause is detected (01 R54): the first cause, and of two detected in the same sample, which is the same
CK, the lower code. -/
def State.c4Cause (s : State) (cause : Nat) : Nat :=
  let old := s.reg F.ENG_PWR_STATE_C4_CAUSE
  if old = 0 then cause else if s.pins.c4At = some (s.ck, s.toll) then min old cause else old

/-- A C4 fault at the pins (01 R54): FAULTED, FAULT_N, THERMTRIP_N for a thermal trip, the cause latched, every port stopped. -/
def State.c4 (s : State) (cause : Nat) : State :=
  let at_ := if s.reg F.ENG_PWR_STATE_C4_CAUSE = 0 then some (s.ck, s.toll) else s.pins.c4At
  let s1 := (s.setReg F.ENG_PWR_STATE_STATE 0xF).setReg F.ENG_PWR_STATE_C4_CAUSE (s.c4Cause cause)
  (s1.putPins { s1.pins with faultN := true, thermtripN := s1.pins.thermtripN || decide (cause = 1),
                                   portsStopped := true, c4At := at_ })

/-- The seal effect of a kind (17 R516), for the kinds whose row gives one to every message. Bits as in 02 R83: ARITH_CHECK 0,
CHECKSUM 1, LINK 2, MEM 3, SEQ 7, TOLL 8, FENCE 9, DEVICE_STOP 10, MISSING 11, OTHER 15. -/
def State.sealOf (s : State) (kind : Nat) : State :=
  if kind ∈ [0x0101, 0x0102, 0x0103] then s.err 0
  else if kind ∈ [0x0202, 0x0205] then s.err 3
  else if kind ∈ [0x0203, 0x0206, 0x2005, 0x2006] then s.c3 0
  else if kind ∈ [0x0207, 0x0803, 0x0804, 0x1001] then s.err 15
  else if kind ∈ [0x0801, 0x0802] then s.err 1
  else if kind = 0x1002 then s.err 7
  else if kind = 0x1004 then s.err 9
  else if kind ∈ [0x1005, 0x1006] then s.halt 0x8
  else if kind = 0x2001 then s.c3 0x100
  else if kind = 0x2003 then s.halt 0x800
  else s

/-- A failed check captures its work in the diagnosis buffer of its cluster (17 R520): one that finds the buffer held counts in
BUSY_LOST. -/
def State.capture (s : State) (r : Rep) : State :=
  if r.msg.kind ∈ [0x0101, 0x0102, 0x0103] ∧ r.msg.level = 0 ∧ s.reg F.FLT_CFG_DIAG_EN = 1 then
    let c := r.msg.unit / 8
    if s.faults.diag.any (fun e => decide (e.1 = c)) then s.count F.FLT_DIAG_BUSY_LOST 1 c
    else
      (((s.putFaults { s.faults with diag := s.faults.diag ++ [(c, Diag.mk (r.msg.unit % 8) r)] }).setReg
        F.FLT_DIAG_STATE 1 c).setReg F.FLT_DIAG_SLOT (r.msg.unit % 8) c)
  else s

/-- The ACTION bits of a kind (17 R533): 0 replay requested, 1 halt requested, 2 unit fenced, 3 row repaired, 4 device reset, 5 power
cycle required; the first two while a Score runs. -/
def kindAction (k : Nat) (running : Bool) : Nat :=
  if k ∈ [0x0101, 0x0102, 0x0103, 0x0202, 0x0205, 0x0207, 0x0801, 0x0802, 0x0803, 0x0804, 0x1001, 0x1002, 0x1004] then b2n running
  else if k ∈ [0x0203, 0x0206, 0x2001, 0x2005, 0x2006] then 16 + 2 * b2n running
  else if k ∈ [0x1005, 0x1006, 0x2003] then 2 * b2n running
  else if k = 0x8003 then 4 + 2 * b2n running
  else if k = 0x0104 then 8
  else if kindClass k = 4 then 32
  else 0

/-- A message with its ACTION bits. -/
def Rep.acted (r : Rep) : Rep := { r with action := r.action ||| kindAction r.msg.kind r.msg.score }

/-- The record of a C3 fault, and of a C4 fault that the hub sees, is owed until it is made (17 R514, R533). -/
def State.owe (s : State) (r : Rep) : State :=
  if r.msg.cls = 3 ∨ (r.msg.cls = 4 ∧ s.pins.porstN) then (s.putFaults { s.faults with owed := s.faults.owed ++ [r] }) else s

/-- A fault detected: its message is sent, and its seal effect, class action and capture taken (17 R511, R516, R520). -/
def State.raise (s : State) (r : Rep) : State := (((s.owe r.acted).send r.acted).sealOf r.msg.kind).capture r

/-- A fault detected with no instruction in progress. -/
def State.detect (s : State) (kind level unit access : Nat) (addr : Option Nat) : State :=
  s.raise (repOf (s.msg kind (kindClass kind) level unit access addr))

/-- As `detect`, with the instruction in progress (17 R529): list index, unit code and word. -/
def State.detectIn (s : State) (kind level unit access : Nat) (addr : Option Nat) (index code word : Nat) : State :=
  s.raise (Rep.mk (s.msg kind (kindClass kind) level unit access addr) index code word 0)

/-! ### Injected corruption (17 R532) -/

/-- MODE of the next corruption due at a unit for a kind, if any. -/
def State.hitMode (s : State) (kind level unit : Nat) : Option Nat :=
  (s.inj.corrupt.find? (fun e => decide (e.1 = kind ∧ e.2.2.1 = level ∧ e.2.2.2 = unit))).map (fun e => e.2.1)

/-- That corruption is made: it counts in FIRED and leaves PENDING. -/
def State.takeHit (s : State) (kind level unit : Nat) : State :=
  match s.inj.corrupt.find? (fun e => decide (e.1 = kind ∧ e.2.2.1 = level ∧ e.2.2.2 = unit)) with
  | none => s
  | some e =>
    let s1 := (s.putInj { s.inj with corrupt := s.inj.corrupt.erase e })
    (s1.count F.INJ_STATUS_FIRED).setReg F.INJ_STATUS_PENDING (s1.reg F.INJ_STATUS_PENDING - 1)

/-- A fault that an injected corruption causes: its message carries INJECTED (17 R532). -/
def State.detectHit (s : State) (kind level unit access : Nat) (addr : Option Nat) (index code word : Nat) : State :=
  s.raise (Rep.mk { s.msg kind (kindClass kind) level unit access addr with injected := true } index code word 0)

/-- A message only, of a stated class, without a seal effect of its own; `act` names ACTION bits that hold beside the kind's. -/
def State.tell (s : State) (kind cls level unit access : Nat) (addr : Option Nat) (act : Nat := 0) : State :=
  s.send { (repOf (s.msg kind cls level unit access addr)).acted with
    action := (if s.running then act else act / 4 * 4) ||| kindAction kind s.running }

/-- A counted-only event (17 R508): a message for the first of its kind and unit in each interval of 2^28 CK. -/
def State.tellOnce (s : State) (kind level unit access : Nat) (addr : Option Nat) : State :=
  let key := (kind * 8 + level) * 2048 + unit
  let now := s.toll / 2 ^ 28 + 1
  if tabGet 0 s.faults.quiet key = now then s
  else
    let s1 := (s.putFaults { s.faults with quiet := tabSet 0 s.faults.quiet key now })
    s1.tell kind (kindClass kind) level unit access addr

/-! ### Clusters -/

/-- Cluster `c`. -/
def State.cl (s : State) (c : Nat) : Cluster := tabGet Cluster.reset s.clusters c

/-- Cluster `c` replaced. -/
def State.setCl (s : State) (c : Nat) (x : Cluster) : State :=
  (s.putClusters (tabSet Cluster.reset s.clusters c x))

/-- The device address of byte 0 of cluster `c`'s working memory (13 R416). -/
def wmBase (c : Nat) : Nat := 0xFF0000000000 + c * 0x800000

/-- The device address of Bushel record `r` of cluster `c` (13 R416). -/
def recAddr (c r : Nat) : Nat := wmBase c + 0x600000 + 64 * r

/-- Word `w` of Bushel record `r` of cluster `c` (04 R164). -/
def State.recWord (s : State) (c r w : Nat) : Nat := s.word (recAddr c r + 8 * w)

/-! ### Links, Chimes and what leaves the device -/

/-- Link `k`. -/
def State.link (s : State) (k : Nat) : Link := tabGet Link.reset s.links k

/-- Link `k` replaced. -/
def State.setLink (s : State) (k : Nat) (x : Link) : State := (s.putLinks (tabSet Link.reset s.links k x))

/-- Chime `i` (02 R106). -/
def State.chime (s : State) (i : Nat) : Chime := tabGet Chime.reset s.chimes i

/-- Chime `i` replaced. -/
def State.setChime (s : State) (i : Nat) (x : Chime) : State := (s.putChimes (tabSet Chime.reset s.chimes i x))

/-- Something leaves the device. -/
def State.emit (s : State) (o : Out) : State := (s.putOut (o :: s.out))

/-- A fresh number for a free value. -/
def State.draw (s : State) : Nat × State := (s.draws, (s.putDraws (s.draws + 1)))

/-! ### Host memory (15 R473) -/

/-- Bytes of host memory. -/
def State.hostBytes (s : State) (a n : Nat) : List Byte := memBytes s.host a n

/-- Bytes written to host memory by the device. -/
def State.hostPut (s : State) (a : Nat) (l : List Byte) : State := (s.putHost (memWrite s.host a l))

end Sys2Proof.Machine
end

