-- ==== Sys2Proof/Machine/Power.lean ====
section
/-!
DEFINITION. Machine/Power.lean: power sequencing, the governor, the sensors and the management target (spec/01 R28 to R56).
-/
namespace Sys2Proof.Machine

/-- ENG_PWR_STATE.STATE (01 R50). -/
def State.power (s : State) : Nat := s.reg F.ENG_PWR_STATE_STATE

/-- The management target is powered: group 1 is in regulation (01 R48). -/
def State.mgmtUp (s : State) : Bool := (s.reg F.ENG_PWR_STATE_GRP_OK).testBit 0

/-- FAULTED is left only by loss of group 1 (01 R52): any other move of STATE is one of a machine that is not FAULTED. -/
def State.setPower (s : State) (v : Nat) : State := if s.power = 0xF then s else s.setReg F.ENG_PWR_STATE_STATE v

/-- A C4 fault with its message (01 R54; 17 R516): kind 0x4001 + cause. -/
def State.c4Fault (s : State) (cause : Nat) : State :=
  let s1 := s.c4 cause
  let r := (repOf (s1.msg (0x4001 + cause) 4 4 (if cause = 5 then 5 else if cause = 4 then 7 else 1) 7 none)).acted
  (s1.owe r).send r

/-- No sensor has been sampled since its rail group came up: every ENG_SENSE register reads zero (01 R38). -/
def State.clearSense (s : State) : State :=
  s.putRegs (tabClear s.regs (0x160440 * 64) (0x1605C0 * 64))

/-- Group 1 in regulation, with what it resets to (01 R38, R48, R50, R52): the always-on block starts, STATE becomes AON_UP, MGMT_SEL
is sampled, OFF_REQ is clear (cleared at power-on only). -/
def State.aonUp (s : State) (sel : Bool) : State :=
  let s1 := (s.clearSense.setReg F.ENG_PWR_STATE_STATE 0x1).setReg F.ENG_PWR_STATE_OFF_REQ 0
  let s2 := s1.setReg F.ENG_PWR_STATE_GRP_OK 0x1
  (s2.putPins { s2.pins with mgmtSel := sel })

/-- GROUP1_REGULATION (01 R44, R48, R52). -/
def execGroup1Regulation (sel : Bool) (s : State) : Host.Outcome State Fault Refusal := .next (s.aonUp sel)

/-- Loss of group 1 (01 R54): the latched pins and C4_CAUSE clear and FAULTED is left; no group is in regulation. What STATE shows until
group 1 is back, when nothing can read it (R48), is no matter of R52: the model puts its reset value AON_UP there at once (DESIGN
CHOICE, log entry 61). -/
def State.group1Loss (s : State) : State :=
  let s1 := (s.clearSense.setReg F.ENG_PWR_STATE_C4_CAUSE 0).setReg F.ENG_PWR_STATE_GRP_OK 0
  let s2 := s1.setReg F.ENG_PWR_STATE_STATE 0x1
  (s2.putPins { s2.pins with faultN := false, thermtripN := false, c4At := none })

/-- GROUP1_LOSS (01 R54). -/
def execGroup1Loss (s : State) : Host.Outcome State Fault Refusal := .next s.group1Loss

/-- A rail of group `n` (2 to 4) reaches 10 % of nominal (01 R46, R52): a violation before group n - 1 is in regulation;
otherwise AON_UP becomes POWERING with group 2. -/
def State.railRise (s : State) (n : Nat) : State :=
  if (s.reg F.ENG_PWR_STATE_GRP_OK).testBit (n - 2) then
    if n = 2 ∧ s.power = 0x1 then s.setPower 0x2 else s
  else s.c4Fault 3

/-- RAIL_RISE (01 R44, R46, R52, R54). -/
def execRailRise (g : Fin 3) (s : State) : Host.Outcome State Fault Refusal := .next (s.railRise (g.val + 2))

/-- GRP_OK takes a value; all four groups in regulation move POWERING to WAIT_RESET (01 R44, R52). -/
def State.groupsOk (s : State) (ok : Nat) : State :=
  let s1 := s.setReg F.ENG_PWR_STATE_GRP_OK ok
  if ok = 0xF ∧ s1.power = 0x2 then s1.setPower 0x3 else s1

/-- GROUPS_IN_REGULATION (01 R44, R52). -/
def execGroupsInRegulation (ok : BitVec 4) (s : State) : Host.Outcome State Fault Refusal := .next (s.groupsOk ok.toNat)

/-- Fields that outlive a device reset go with group 2 (20 R600): OPT_MIRROR_BEAT and MIRROR_POISON. -/
def State.dropGroup2 (s : State) : State :=
  ((s.setReg F.OPT_MIRROR_BEAT_VALID 0).setReg F.OPT_MIRROR_BEAT_BEAT 0).setReg F.CKPT_STATUS_MIRROR_POISON 0

/-- Every link that is not OFF drops without a message: its device has stopped (01 R52). -/
def State.dropLinks (s : State) : State :=
  foldKeys (List.range 256) (fun t k =>
    if t.reg F.PORT_LINK_STATE k = 0 then t
    else (t.setReg F.PORT_LINK_STATE 0 k).setLink k { Link.reset with lsend := 0 }) s

/-- PORST_N falls (01 R45, R52): RUNNING, OFF_PENDING or SAFE_OFF becomes WAIT_RESET; a running Score stops at once, no seal is
sent any more and the links drop. -/
def State.porstFall (s : State) : State :=
  let s1 := (s.putPins { s.pins with porstN := false })
  if s1.power = 0x4 ∨ s1.power = 0x5 ∨ s1.power = 0x6 then
    let s2 := (s1.setPower 0x3).dropLinks
    if s2.running then
      ((s2.setReg F.BEAT_STATUS_STATE 4).putBeatU { s2.beatU with stopped := true, rounds := [] })
    else s2
  else s1

/-- PORST_FALL (01 R45, R52). -/
def execPorstFall (s : State) : Host.Outcome State Fault Refusal := .next s.porstFall

/-- REGULATOR_FAULT (01 R43, R47, R53, R54): after PORST_N has risen it is a C4 fault; before, it is none. -/
def execRegulatorFault (s : State) : Host.Outcome State Fault Refusal :=
  .next (if s.pins.porstN then s.c4Fault 2 else s)

/-- T after a sample (01 R31). -/
def nextT (t sample limit hyst : Nat) : Nat :=
  if sample > limit ∧ t < 15 then t + 1
  else if sample + hyst < limit ∧ t > 0 then t - 1
  else t

/-- The effective throttle level (01 R32). -/
def State.level (s : State) : Nat := max (s.reg F.ENG_PWR_STATUS_THROTTLE) (s.reg F.ENG_PWR_STATUS_THERM_FLOOR)

/-- The level in force in the present 16-CK window: a change takes effect at the next window (01 R32). -/
def State.levelNow (s : State) : Nat := if s.gov.changed = s.ck / 16 + 1 then s.gov.was else s.level

/-- `t` is `s` with THROTTLE or THERM_FLOOR changed: the first change in a window keeps the level in force through it (01 R32). -/
def State.levelKept (s t : State) : State :=
  if t.level = s.level ∨ s.gov.changed = s.ck / 16 + 1 then t
  else t.putGov { t.gov with changed := s.ck / 16 + 1, was := s.level }

/-- Whether the governor lets the matrix and vector engines issue in the present CK: in the first 16 − L of each 16-CK window (01 R32; 05
R190). -/
def State.permitted (s : State) : Bool := decide (s.ck % 16 + s.levelNow < 16)

/-- The sum of the last 1,000 samples, those not yet taken as zero (01 R30, R36). -/
def sampleSum (l : List Nat) : Nat := l.foldl (· + ·) 0

/-- AVG_W of a sum of 1,000 samples: the whole watts below or above, as the implementation rounds (log entry 5). -/
def avgOf (sum : Nat) : Nat := if sum % 1000 = 0 then sum / 1000 else sum / 1000 + b2n (Config.avgUp sum)

/-- One sample of package power, 2,500 CK after the last (01 R30, R31, R36, R37). A sample counts in THR_US by the effective level as
this sample's own change of T leaves it: R37 does not say which of the two it means (DESIGN CHOICE, log entry 67). -/
def State.govern (s : State) (w : Nat) : State :=
  let l := (w :: s.gov.samples).take 1000
  let t := s.reg F.ENG_PWR_STATUS_THROTTLE
  let t1 := if s.gov.sinceChange ≥ 16 then
      nextT t w (s.reg F.ENG_PWR_LIMIT_LIMIT_W) (s.reg F.ENG_PWR_LIMIT_HYST_W) else t
  let since := if t1 = t then min (s.gov.sinceChange + 1) 16 else 1
  let s1 := (s.putGov { s.gov with samples := l, sinceChange := since })
  let s2 := (s1.setReg F.ENG_PWR_STATUS_SAMPLE_W w).setReg F.ENG_PWR_STATUS_AVG_W (avgOf (sampleSum l))
  let s3 := s2.levelKept (s2.setReg F.ENG_PWR_STATUS_THROTTLE t1)
  if s3.level > 0 then s3.count F.ENG_PWR_THROTTLE_US_THR_US else s3

/-- GOVERNOR_SAMPLE (01 R30 to R37). -/
def execGovernorSample (watts : BitVec 12) (s : State) : Host.Outcome State Fault Refusal := .next (s.govern watts.toNat)

/-- The three fields of one ENG_SENSE register. -/
def State.setSense (s : State) (ft fm fa : Field) (n : Nat) (r : Reading) : State :=
  ((s.setReg ft r.temp.toNat n).setReg fm r.vmain.toNat n).setReg fa r.vaux.toNat n

/-- The sensors in order: regions 0 to 7, hub, memory 0 to 15, optical engines 0 to 7 (01 R38). -/
def State.setSensor (s : State) (i : Nat) (r : Reading) : State :=
  if i < 8 then s.setSense F.ENG_SENSE_REGION_TEMP F.ENG_SENSE_REGION_VMAIN_MV F.ENG_SENSE_REGION_VAUX_MV i r
  else if i = 8 then s.setSense F.ENG_SENSE_HUB_TEMP F.ENG_SENSE_HUB_VMAIN_MV F.ENG_SENSE_HUB_VAUX_MV 0 r
  else if i < 25 then s.setSense F.ENG_SENSE_MEM_TEMP F.ENG_SENSE_MEM_VMAIN_MV F.ENG_SENSE_MEM_VAUX_MV (i - 9) r
  else s.setSense F.ENG_SENSE_OE_TEMP F.ENG_SENSE_OE_VMAIN_MV F.ENG_SENSE_OE_VAUX_MV (i - 25) r

/-- Temperature of sensor `i` in 0.25 degrees. -/
def State.temp (s : State) (i : Nat) : Int :=
  sxt 16 (if i < 8 then s.reg F.ENG_SENSE_REGION_TEMP i else if i = 8 then s.reg F.ENG_SENSE_HUB_TEMP
    else if i < 25 then s.reg F.ENG_SENSE_MEM_TEMP (i - 9) else s.reg F.ENG_SENSE_OE_TEMP (i - 25))

/-- Throttle threshold of sensor `i` in degrees: regions and hub, or memory stacks (01 R40). -/
def State.thrC (s : State) (i : Nat) : Int :=
  (if i < 9 then s.reg F.ENG_THERM_CFG_THROTTLE_C else s.reg F.ENG_THERM_CFG_MEM_THROTTLE_C : Nat)

/-- Trip value of sensor `i` in degrees (01 R39, R41). -/
def State.tripC (s : State) (i : Nat) : Int :=
  (if i < 9 then s.reg F.ENG_THERM_CFG_TRIP_C else if i < 25 then s.reg F.ENG_THERM_CFG_TRIP_MEM_C
    else s.reg F.ENG_THERM_CFG_TRIP_OE_C : Nat)

/-- Some region, hub or memory sensor is at its threshold (01 R40). -/
def State.hot (s : State) : Bool := (List.range 25).any (fun i => decide (s.temp i ≥ 4 * s.thrC i))

/-- Every region, hub and memory sensor is at least 5 degrees below its threshold (01 R40). -/
def State.cool (s : State) : Bool := (List.range 25).all (fun i => decide (s.temp i ≤ 4 * (s.thrC i - 5)))

/-- Some sensor is at its trip value (01 R41). -/
def State.trips (s : State) : Bool := (List.range 33).any (fun i => decide (s.temp i ≥ 4 * s.tripC i))

/-- THERM_FLOOR after a sample (01 R40), with the message on entry to floor 8 (17 R516). -/
def State.floor (s : State) : State :=
  if s.hot then
    if s.reg F.ENG_PWR_STATUS_THERM_FLOOR = 8 then s
    else (s.levelKept (s.setReg F.ENG_PWR_STATUS_THERM_FLOOR 8)).tell 0x4001 0 4 1 7 none
  else if s.cool then s.levelKept (s.setReg F.ENG_PWR_STATUS_THERM_FLOOR 0)
  else s

/-- The readings written to their registers, from sensor `i` on. -/
def State.setSensors (s : State) : Nat → List Reading → State
  | _, [] => s
  | i, r :: t => (s.setSensor i r).setSensors (i + 1) t

/-- One sample of every sensor (01 R38, R40, R41). -/
def State.senseAll (s : State) (rs : List Reading) : State :=
  let s1 := (s.setSensors 0 (rs.take 33)).floor
  if s1.trips then s1.c4Fault 1 else s1

/-- SENSOR_SAMPLE (01 R32, R38, R40, R41, R54). -/
def execSensorSample (rs : List Reading) (s : State) : Host.Outcome State Fault Refusal := .next (s.senseAll rs)

/-- A write of 1 to OFF_REQ (01 R50, R51, R56): nothing while FAULTED; the bit is set; RUNNING becomes SAFE_OFF with no Score
running, every port stopped, and OFF_PENDING with one. -/
def State.offReq (s : State) : State :=
  if s.power = 0xF then s
  else
    let s1 := s.setReg F.ENG_PWR_STATE_OFF_REQ 1
    if s1.power = 0x4 then
      if s1.running then
        let s2 := (s1.setPower 0x5).halt 0x400
        (s2.putBeatU { s2.beatU with leaveDue := true })
      else
        let s2 := s1.setPower 0x6
        (s2.putPins { s2.pins with portsStopped := true })
    else s1

/-- OFF_REQ (01 R49 to R52, R56; 02 R93). -/
def execOffReq (s : State) : Host.Outcome State Fault Refusal := .next s.offReq

/-- OFF_PENDING becomes SAFE_OFF once the device has left its Acre, every port stopped (01 R51, R52). -/
def State.safeOff (s : State) : State :=
  if s.power = 0x5 ∧ !s.running then
    let s1 := s.setPower 0x6
    (s1.putPins { s1.pins with portsStopped := true })
  else s

/-- SAFE_OFF_REACHED (01 R51, R52). -/
def execSafeOffReached (s : State) : Host.Outcome State Fault Refusal := .next s.safeOff

end Sys2Proof.Machine
end

