-- ==== Sys2Proof/Machine/Wire.lean ====
section
/-!
DEFINITION. Machine/Wire.lean: link control blocks: their bits and CRC, sending them, and taking sequenced ones once and in order
(spec/14 R434 to R437).
-/
namespace Sys2Proof.Machine

/-- Block types (14 R435). -/
def tySeal : Nat := 0x20
/-- GONG block type. -/
def tyGong : Nat := 0x21
/-- TICK block type. -/
def tyTick : Nat := 0x22
/-- HOLDR block type. -/
def tyHoldr : Nat := 0x23
/-- PROBE block type. -/
def tyProbe : Nat := 0x24
/-- ACK block type. -/
def tyAck : Nat := 0x01
/-- REPLAY block type. -/
def tyReplay : Nat := 0x02
/-- IDENT block type. -/
def tyIdent : Nat := 0x10
/-- READY block type. -/
def tyReady : Nat := 0x11
/-- DREQ block type. -/
def tyDreq : Nat := 0x12
/-- DRESP block type. -/
def tyDresp : Nat := 0x13
/-- CREDIT block type. -/
def tyCredit : Nat := 0x30

/-- PORT_LINKk.STATE (14 R454). -/
def State.linkState (s : State) (k : Nat) : Nat := s.reg F.PORT_LINK_STATE k

/-- A link that carries cells and sequenced blocks: READY, and its port not stopped (14 R441; 01 R54). -/
def State.ready (s : State) (k : Nat) : Bool := decide (s.linkState k = 6) && !s.pins.portsStopped

/-- The link a port's blocks use: its first half, or its second when only that is READY (14 R431). -/
def State.portLink (s : State) (p : Nat) : Nat := if s.ready (2 * p) then 2 * p else if s.ready (2 * p + 1) then 2 * p + 1 else 2 * p

/-- Bits 143:0 of a control block: TYPE, CSEQ and BODY (14 R434). -/
def blockHead (ty cseq body : Nat) : Nat := ty % 2 ^ 8 + cseq % 2 ^ 8 * 2 ^ 8 + body % 2 ^ 128 * 2 ^ 16

/-- The CRC of a control block: the CRC-32C of those bits as 18 bytes, least significant first (14 R434). -/
def blockCrc (ty cseq body : Nat) : Nat := crc32c (leBytes 18 (blockHead ty cseq body))

/-- A control block of 192 bits (14 R434). -/
def blockBits (ty cseq body : Nat) : Nat := blockHead ty cseq body + blockCrc ty cseq body * 2 ^ 144

/-- The body of a CREDIT block (14 R435). -/
def creditBody (op0 op1 mgt ctl : Nat) : Nat := op0 + op1 * 2 ^ 16 + mgt * 2 ^ 32 + ctl * 2 ^ 48

/-- A word's TICK stamped by this device (02 R71, R81, R82). -/
def State.stampWord (s : State) (w : Nat) : Nat := w - bitsOf w 25 4 * 2 ^ 4 + s.toll % 2 ^ 22 * 2 ^ 4

/-- The body of a sequenced block as it is sent, at first or again: the times in it are its send time (14 R437). -/
def State.restamp (s : State) (ty body : Nat) : Nat :=
  if ty = tyTick then s.toll + bitsOf body 71 64 * 2 ^ 64 else if ty = tyGong then s.stampWord body else body

/-- A sequenced block leaves with a CSEQ, its times stamped. -/
def State.emitSeq (s : State) (k cseq ty body : Nat) : State := s.emit (.block k (blockBits ty cseq (s.restamp ty body)))

/-- A sequenced block takes the next CSEQ, is kept until it is acknowledged, and leaves (14 R436). -/
def State.issueBlock (s : State) (k ty body : Nat) : State :=
  let l := s.link k
  (s.setLink k { l with csend := (l.csend + 1) % 256, blocks := l.blocks ++ [(l.csend, ty, body)] }).emitSeq k l.csend ty body

/-- A sequenced block for a link (14 R436): it leaves at once while fewer than 128 are unacknowledged, else it waits. A link that is not
READY sends none. -/
def State.sendBlock (s : State) (k ty body : Nat) : State :=
  if s.ready k then
    let l := s.link k
    if l.blocks.length < 128 then s.issueBlock k ty body else s.setLink k { l with waitq := l.waitq ++ [(ty, body)] }
  else s

/-- The order in which a round's blocks are chosen among sequenced types (14 R436): GONG, SEAL, HOLDR and PROBE, then TICK, then CREDIT. -/
def blockRank (ty : Nat) : Nat := if ty = tyTick then 1 else if ty = tyCredit then 2 else 0

/-- The waiting block that is sent next: of the first rank, the one that waits longest (14 R436). -/
def nextBlock (q : List (Nat × Nat)) : Option (Nat × Nat) :=
  (List.range 3).findSome? (fun r => q.find? (fun b => decide (blockRank b.1 = r)))

/-- Waiting blocks leave while fewer than 128 are unacknowledged (14 R436). -/
def State.fillBlocks : Nat → State → Nat → State
  | 0, s, _ => s
  | n + 1, s, k =>
    let l := s.link k
    match nextBlock l.waitq with
    | none => s
    | some b =>
      if l.blocks.length < 128 then
        ((s.setLink k { l with waitq := l.waitq.erase b }).issueBlock k b.1 b.2).fillBlocks n k
      else s

/-- An unsequenced block on a link that is not OFF (14 R436, R441). Its CSEQ is 0 (DESIGN CHOICE, log entry 71). -/
def State.sendPlain (s : State) (k ty body : Nat) : State :=
  if s.linkState k = 0 || s.pins.portsStopped then s else s.emit (.block k (blockBits ty 0 body))

/-- The body of an ACK block: LNEXT, CNEXT, NAK and CNAK as they stand (14 R435). -/
def Link.ackBody (l : Link) : Nat := l.lnext + l.cnext * 2 ^ 32 + b2n l.discard * 2 ^ 40 + b2n l.cmiss * 2 ^ 41

/-- An ACK block of a READY link (14 R436). -/
def State.sendAck (s : State) (k : Nat) : State := if s.ready k then s.sendPlain k tyAck (s.link k).ackBody else s

/-- A CSEQ lies beyond the one expected, and is no duplicate of the last 128 (14 R436). -/
def seqGap (cseq next : Nat) : Bool := decide (cseq ≠ next) && decide ((cseq + 256 - next % 256) % 256 < 128)

/-- A sequenced block arrives: taken only on a READY link and when its CSEQ is the one expected, and acknowledged; on a gap CNAK is set and
sent (14 R436). Answers whether it is taken. -/
def State.takeSeq (s : State) (k cseq : Nat) : Bool × State :=
  if s.ready k then
    let l := s.link k
    if cseq = l.cnext then (true, (s.setLink k { l with cnext := (l.cnext + 1) % 256, cmiss := false }).sendAck k)
    else if seqGap cseq l.cnext then (false, (s.setLink k { l with cmiss := true }).sendAck k)
    else (false, s)
  else (false, s)

/-- A control block that fails its CRC, or that has a reserved TYPE, is discarded and counted (14 R434). -/
def State.badBlock (s : State) (k : Nat) : State := s.count F.PORT_ERR_CRC_BAD 1 k

/-- A sequenced block arrives: discarded when its CRC fails, else taken in order (14 R434, R436). Answers whether it is taken. -/
def State.takeBlock (s : State) (k ty crc cseq body : Nat) : Bool × State :=
  if crc = blockCrc ty cseq body then s.takeSeq k cseq else (false, s.badBlock k)

/-- An unsequenced block arrives: discarded when its CRC fails (14 R434). -/
def State.takePlain (s : State) (k ty crc body : Nat) (act : State → State) : State :=
  if crc = blockCrc ty 0 body then act s else s.badBlock k

/-- FEC corrects symbols on a link: they are counted, with a message for the first in each interval (14 R456; 17 R508, R516). -/
def State.fecFixed (s : State) (k n : Nat) : State := if n = 0 then s else (s.count F.PORT_FEC_CSYM n k).tellOnce 0x0401 2 k 7 none

/-- A block on each port of a list. -/
def State.sendPorts (s : State) (ps : List Nat) (ty body : Nat) : State :=
  foldKeys ps (fun t p => t.sendBlock (t.portLink p) ty body) s

/-- The child ports of the Gong tree (02 R81, R114). -/
def State.childPorts (s : State) : List Nat :=
  (List.range 128).filter (fun p => (if p < 64 then s.reg F.GONG_CHILD_LO_CHILD else s.reg F.GONG_CHILD_HI_CHILD).testBit (p % 64))

/-- This device is the Gong root and Toll reference (02 R69, R114). -/
def State.isRoot (s : State) : Bool := decide (s.reg F.GONG_CFG_ROOT = 1)

/-- The parent port (02 R69). -/
def State.parentPort (s : State) : Nat := s.reg F.GONG_CFG_PARENT_PORT

/-- Whether a link belongs to the parent port of a device that has one (02 R69). -/
def State.fromParent (s : State) (k : Nat) : Bool := !s.isRoot && decide (k / 2 = s.parentPort)

/-- A block up the tree. -/
def State.sendUp (s : State) (ty body : Nat) : State :=
  if s.isRoot then s else s.sendBlock (s.portLink s.parentPort) ty body

/-! ### The active route bank's port records (11 R386, R389, R390) -/

/-- The active bank. -/
def State.bank (s : State) : Bank := if s.reg F.ROUTE_BANK_ACTIVE = 0 then s.route.bank0 else s.route.bank1

/-- The port record word of port `p` in the active bank. -/
def State.portRec (s : State) (p : Nat) : Nat := tabGet 0 s.bank.port p

/-- The neighbour record word of port `p` in the active bank. -/
def State.nbrRec (s : State) (p : Nat) : Nat := tabGet 0 s.bank.nbr p

/-- KIND of port `p`'s neighbour record: 0 unused, 1 device, 2 endpoint (11 R389). -/
def State.nbrKind (s : State) (p : Nat) : Nat := bitsOf (s.nbrRec p) 41 40

/-- The port carries an Acre (11 R386). -/
def portTagV (w : Nat) : Bool := w.testBit 54
/-- The port's Acre (11 R386). -/
def portTag (w : Nat) : Nat := bitsOf w 53 44
/-- Transit grant `i` of a port record: its Acre when valid (11 R386, R390). -/
def portGrant (w i : Nat) : Option Nat := if w.testBit (11 * i + 10) then some (bitsOf w (11 * i + 9) (11 * i)) else none

/-- A port record grants transit to an Acre (11 R386). -/
def portGrants (w a : Nat) : Bool := (List.range 4).any (fun i => decide (portGrant w i = some a))

/-- The device's Acre, from the active bank (11 R390). -/
def State.acre (s : State) : Nat := s.bank.acre.getD 0

/-- The Acre of the Score that runs here, or of the device. -/
def State.scoreAcre (s : State) : Nat :=
  match s.score.cur with
  | some p => p.acre
  | none => s.acre

/-- An Acre is the device's own: that of the loaded Score, or the one its active bank gives it (11 R390). -/
def State.ownAcre (s : State) (a : Nat) : Bool :=
  match s.score.cur with
  | some p => decide (p.acre = a)
  | none => decide (s.bank.acre = some a)

/-- Children of the root that lead to another Acre: child ports tagged with it or granting it transit (02 R81; log entry 8). -/
def State.treePorts (s : State) (a : Nat) : List Nat :=
  s.childPorts.filter (fun p => (portTagV (s.portRec p) && decide (portTag (s.portRec p) = a)) || portGrants (s.portRec p) a)

/-- Children of the tree that take part in an Acre: child ports tagged with it (02 R81; log entry 8). -/
def State.acreChildren (s : State) (a : Nat) : List Nat :=
  s.childPorts.filter (fun p => portTagV (s.portRec p) && decide (portTag (s.portRec p) = a))

end Sys2Proof.Machine
end

