-- ==== Sys2Proof/Machine/MemSys.lean ====
section
/-!
DEFINITION. Machine/MemSys.lean: the address map and who may reach what (spec/13 R408 to R416), poison (R419 to R421), state
lines with their undo logs (spec/07 R248 to R253), the riding copy of a write (spec/08 R293 to R295), refresh and scrub.
-/
namespace Sys2Proof.Machine

/-- Who accesses memory (13 R412 to R416, R421). -/
inductive Who where
  | unit | mover | tally | host | sexton | loader | memctl | switch | cell
  deriving DecidableEq, Repr

/-- First address of tier 2 (13 R408). -/
def tier2 : Nat := 0x9000000000
/-- First address past tier 2. -/
def tierEnd : Nat := 0x11000000000
/-- First address of the SRAM windows. -/
def sramBase : Nat := 0xFF0000000000
/-- First address of Chime space. -/
def chimeBase : Nat := 0xFF0040000000
/-- First address of register space. -/
def regBase : Nat := 0xFF0080000000

/-- An address of tier 1 or tier 2. -/
def inTier (a : Nat) : Bool := decide (a < tierEnd)
/-- An address of an SRAM window. -/
def inSram (a : Nat) : Bool := decide (sramBase ≤ a) && decide (a < sramBase + 0x20000000)
/-- An address of Chime space. -/
def inChime (a : Nat) : Bool := decide (chimeBase ≤ a) && decide (a < chimeBase + 0x100000)
/-- An address of the register blocks; the rest of register space is unmapped (20 R596). -/
def inReg (a : Nat) : Bool := decide (regBase ≤ a) && decide (a < regBase + 0x170000)
/-- An address of register space, blocks or not (20 R594, R596). -/
def inRegSpace (a : Nat) : Bool := decide (regBase ≤ a) && decide (a < regBase + 0x10000000)
/-- A mapped address (13 R408; 20 R596). -/
def mapped (a : Nat) : Bool := inTier a || inSram a || inChime a || inReg a
/-- An address in `lo .. hi - 1`. -/
def within (a lo hi : Nat) : Bool := decide (lo ≤ a) && decide (a < hi)

/-- Bytes of a die's spill area (13 R412). -/
def State.spillBytes (s : State) : Nat := s.reg F.XBAR_CFG_SPILL_GIB * 0x40000000

/-- An address of a spill area, at the extent of the present SPILL_GIB (13 R412). -/
def State.inSpill (s : State) (a : Nat) : Bool :=
  within a (0x4400000000 - s.spillBytes) 0x4400000000 || within a (0x8C00000000 - s.spillBytes) 0x8C00000000

/-- An address of Bushel memory (13 R416). -/
def inBushel (a : Nat) : Bool := inSram a && within (a % 0x800000) 0x400000 0x600000
/-- An address of a Bushel record table (13 R416). -/
def inRecords (a : Nat) : Bool := inSram a && within (a % 0x800000) 0x600000 0x601000
/-- An address of working memory (13 R416). -/
def inWm (a : Nat) : Bool := inSram a && decide (a % 0x800000 < 0x400000)

/-- Whether a party may read an address (13 R409, R412, R414, R416). -/
def State.mayRead (s : State) (w : Who) (a : Nat) : Bool :=
  if !mapped a then false
  else if within a 0x4400000000 0x4440000000 then decide (w = .loader)
  else if within a 0x4440000000 0x44C8000000 then decide (w = .memctl)
  else if within a 0x44C8000000 0x4500000000 then false
  else if within a 0x8C00000000 0x8F00000000 then decide (w = .memctl)
  else if within a 0x8F00000000 0x9000000000 then decide (w = .sexton) || decide (w = .loader)
  else if s.inSpill a then decide (w = .switch)
  else if inSram a && decide (a % 0x800000 ≥ 0x601000) then false
  else true

/-- Whether a party may write an address (13 R409, R412, R414, R416). -/
def State.mayWrite (s : State) (w : Who) (a : Nat) : Bool :=
  if !s.mayRead w a then false
  else if within a 0x9000000000 0x10000000000 then s.reg F.OPT_HOLD_CFG_HOLD = 0 || decide (w = .memctl)
  else if inWm a then
    decide (w = .unit) || decide (w = .mover) || decide (w = .tally) || decide (w = .loader) || decide (w = .sexton) ||
      decide (w = .host) || decide (w = .cell)
  else if inBushel a then decide (w = .tally)
  else if inRecords a then decide (w = .loader)
  else true

/-- A read of `n` bytes that is open whole (13 R409). -/
def State.openRead (s : State) (w : Who) (a n : Nat) : Bool := (span a n).all (s.mayRead w)
/-- A write of `n` bytes that is open whole (13 R409). -/
def State.openWrite (s : State) (w : Who) (a n : Nat) : Bool := (span a n).all (s.mayWrite w)

/-! ### Poison (13 R419 to R421) -/

/-- The code word an address lies in: a 64-byte block of a tier, an 8-byte word of an on-die store (13 R419). -/
def poisonUnit (a : Nat) : Nat := if inTier a then a / 64 * 64 else a / 8 * 8
/-- Bytes of that code word. -/
def poisonSize (a : Nat) : Nat := if inTier a then 64 else 8

/-- The first poisoned code word that a read of `n` bytes meets, by its first byte in the range. -/
def State.poisonRead (s : State) (a n : Nat) : Option Nat :=
  (span a n).find? (fun x => decide (poisonUnit x ∈ s.poison))

/-- The first poisoned code word that a write of `n` bytes covers only in part. -/
def State.poisonWrite (s : State) (a n : Nat) : Option Nat :=
  (span a n).find? (fun x => decide (poisonUnit x ∈ s.poison) &&
    (decide (poisonUnit x < a) || decide (a + n < poisonUnit x + poisonSize x)))

/-- A range covers a code word whole. -/
def covers (a n u : Nat) : Bool := decide (a ≤ u) && decide (u + poisonSize u ≤ a + n)

/-- A write of whole code words clears their poison, and any bad symbol. -/
def State.cleanse (s : State) (a n : Nat) : State :=
  (s.putPoison (s.poison.filter (fun u => !covers a n u))).putSoft (s.soft.filter (fun u => !covers a n u))

/-- A code word poisoned. -/
def State.poisonAt (s : State) (a : Nat) : State :=
  (s.putPoison (keyAdd s.poison (poisonUnit a))).putSoft (s.soft.filter (fun u => decide (u ≠ poisonUnit a)))

/-- The stack an address lies in: HBM0 to 7, LP0 to 7 as 8 to 15 (13 R410). -/
def stackOf (a : Nat) : Nat :=
  if a < 0x4800000000 then a / 4096 % 4
  else if a < tier2 then 4 + (a - 0x4800000000) / 4096 % 4
  else 8 + (a - tier2) / 4096 % 8

/-- The Chime unit of an address of Chime space: its die's (02 R106, R110). -/
def chimeUnitOf (a : Nat) : Nat := (a - chimeBase) / 32 / 16384

/-- A decoder corrects the bad symbol of a code word that is read (13 R420): the stack of a tier block counts it; the first in an interval
is reported, an SRAM word by its cluster, a Chime's by its Chime unit (17 R506, R508, R516). -/
def State.correctOne (s : State) (u : Nat) : State :=
  if inTier u then (s.count F.MEM_STACK_CE 1 (stackOf u)).tellOnce 0x0201 3 (16 + stackOf u) 1 (some u)
  else if inChime u then s.tellOnce 0x0204 3 (4 + chimeUnitOf u) 1 (some u)
  else s.tellOnce 0x0204 1 ((u - sramBase) / 0x800000) 1 (some u)

/-- The code words of a range that hold a bad symbol. -/
def State.softIn (s : State) (a n : Nat) : List Nat := s.soft.filter (fun u => decide (u < a + n) && decide (a < u + poisonSize u))

/-- The decoder of a read of `n` bytes (13 R420). What a read corrects stays in memory; scrub and a write mend it (R418). -/
def State.correct (s : State) (a n : Nat) : State := (s.softIn a n).foldl State.correctOne s

/-- A write of `n` bytes mends the code words it covers in part, whose rest it reads (13 R420, R421). -/
def State.mend (s : State) (a n : Nat) : State :=
  let part := (s.softIn a n).filter (fun u => !covers a n u)
  (part.foldl State.correctOne s).putSoft (s.soft.filter (fun u => decide (u ∉ part)))

/-- READER of MEM_UE_FIRST (13 R423). -/
def readerCode (w : Who) : Nat :=
  match w with
  | .unit => 0 | .mover => 0 | .tally => 0 | .switch => 1 | .memctl => 3 | .loader => 4 | .sexton => 4 | .host => 5 | .cell => 1

/-- A byte of the list area of a cluster (07 R242). -/
def State.inListArea (s : State) (a : Nat) : Bool :=
  match s.score.cur with
  | some q => inWm a && within (a % 0x800000) q.listBase (q.listBase + q.listBytes)
  | none => false

/-- What the device does when a reader or a partial writer meets a poisoned code word (13 R421): the first tier block is captured, the stack counts
it, and the fault message of its kind is sent; for cluster SRAM with the instruction in progress (17 R529), and as STATE_SRAM_UE in the list area,
the record tables and the Chime state (17 R516). `access` is 1 for a read, 2 for a write, 3 for an instruction fetch. -/
def State.meetPoisonIn (s : State) (reader a access index unit word : Nat) : State :=
  if inTier a then
    let u := poisonUnit a
    let s1 := if s.reg F.MEM_UE_FIRST_VALID = 0 then
        ((s.mark F.MEM_UE_FIRST_VALID).setReg F.MEM_UE_FIRST_READER reader).setReg F.MEM_UE_FIRST_ADDR u else s
    let s2 := s1.count F.MEM_STACK_UE 1 (stackOf a)
    s2.detect (if reader = 2 then 0x0203 else 0x0202) 3 (16 + stackOf a) access (some u)
  else if inChime a then s.detect 0x0206 3 (4 + chimeUnitOf a) access (some (poisonUnit a))
  else
    let c := (a - sramBase) / 0x800000
    s.detectIn (if inRecords a || s.inListArea a || access = 3 then 0x0206 else 0x0205) 1 c access (some (poisonUnit a)) index unit word

/-- As `meetPoisonIn`, with no instruction in progress. -/
def State.meetPoison (s : State) (reader a access : Nat) : State := s.meetPoisonIn reader a access 0 0 0

/-! ### Free bytes of Bushel memory (04 R156; log entry 6) -/

/-- Bytes as a reader finds them: a byte of Bushel memory is a free value, every other is the byte held; its decoders correct what they can
(13 R420). -/
def State.readBytes (s : State) (a n : Nat) : List Byte × State :=
  ((span a n).map (fun x => if inBushel x then Config.bushelByte (s.draws + (x - a)) else s.byte x),
   (if (span a n).any inBushel then (s.putDraws (s.draws + n)) else s).correct a n)

/-! ### State lines (07 R248 to R253) -/

/-- The mirror offset of an address within the Score's state areas, in STATE section order (08 R293). -/
def mirrorOff : List (Nat × Nat) → Nat → Nat → Option Nat
  | [], _, _ => none
  | (b, n) :: t, a, o => if within a b (b + n) then some (o + (a - b)) else mirrorOff t a (o + n)

/-- The mirror offset of a byte of a state line of the loaded Score. -/
def State.stateOff (s : State) (a : Nat) : Option Nat :=
  match s.score.cur with
  | some p => mirrorOff p.state a 0
  | none => none

/-- The line number of a tier address (13 R413). -/
def lineOf (a : Nat) : Nat := if a < tier2 then a / 4096 else (a - tier2) / 4096 + 150994944

/-- The die that logs a line: of its stack (13 R410; log entry 11). -/
def dieOfAddr (a : Nat) : Nat := stackOf a / 4 % 2

/-- Every bit set: the tag no Beat equals (07 R251; 13 R413). -/
def tagNone : Nat := 0xFFFFFFFFFFFFFFFF

/-- Where the tag of a line lies (13 R413). -/
def tagAddr (line : Nat) : Nat := 0x4440000000 + 8 * line

/-- The tag of a line last written in Beat `x`: LAST_BEAT in bits 47:0, 0xFFFF in bits 63:48 (13 R413). -/
def tagOf (x : Nat) : Nat := 0xFFFF * 2 ^ 48 + x % 2 ^ 48

/-- The 8-byte tag of a line as the tag table holds it (07 R251; 13 R413). Only memory controllers reach that area (R412): `tags` is its
content, each word under its line number. -/
def State.tag (s : State) (line : Nat) : Nat := tabGet tagNone s.tags line

/-- The tag of a line written, a part of its 64-byte block. -/
def State.putTag (s : State) (line v : Nat) : State :=
  let s1 := s.mend (tagAddr line) 8
  s1.putTags (tabSet tagNone s1.tags line v)

/-- The base of undo log `p` of die `d` (07 R251). -/
def undoBase (q : ScoreParams) (d p : Nat) : Nat := (if d = 0 then q.undo0 else q.undo1) + p * q.undoBytes

/-- Records in log `p` of die `d`. -/
def State.logCount (s : State) (d p : Nat) : Nat := tabGet 0 s.score.logs (2 * d + p)

/-- The record count of a log set. -/
def State.setLog (s : State) (d p n : Nat) : State :=
  (s.putScore { s.score with logs := tabSet 0 s.score.logs (2 * d + p) n })

/-- A log record: ADDR, BEAT, 48 reserved bytes and the line (07 R251). -/
def undoRecord (s : State) (line beat : Nat) : List Byte :=
  leBytes 8 line ++ leBytes 8 beat ++ List.replicate 48 0 ++ s.bytes line 4096

/-- A write attributed to Beat `x` may be performed: it is the current Beat or the one before, and no word received abandons it: SEAL_REPLAY
abandons both, SEAL_HALT those not decided good before (02 R90, R91; 07 R250). -/
def State.beatOpen (s : State) (x : Nat) : Bool :=
  (decide (x = s.beat) || decide (x + 1 = s.beat)) && !s.beatU.abandoned &&
  (!s.beatU.haltDue || (decide (x + 1 = s.beat) && (!s.beatU.hasPrev || decide (s.beatU.prevVerdict = 1))))

/-- Blocks of the record at `at0` remember which blocks of the line they hold were poisoned (13 R421). -/
def State.carry (s : State) (at0 line : Nat) : State :=
  (s.putScore { s.score with carried := s.score.carried.filter (fun u => !within u at0 (at0 + 4160)) ++
    ((List.range 64).filter (fun i => decide (line + 64 * i ∈ s.poison))).map (fun i => at0 + 64 + 64 * i) })

/-- Every LAST_BEAT tag is written all ones (07 R262; 13 R413): what was poisoned of the table is so no longer. -/
def State.freshTags (s : State) : State := (s.putTags []).cleanse 0x4440000000 0x88000000

/-- The first write of Beat `x` to a line appends its old content to the log (07 R251); answers whether the write may land: a
full log stops it with HALT_REQ (07 R253), and so does a poisoned tag, which cannot be read (13 R421; the reader is the writing unit:
DESIGN CHOICE, log entry 74). -/
def State.logLine (s0 : State) (q : ScoreParams) (line x : Nat) : Bool × State :=
  match s0.poisonRead (tagAddr (lineOf line)) 8 with
  | some u => (false, s0.meetPoison 0 u 1)
  | none =>
    let s := s0.correct (tagAddr (lineOf line)) 8
    if s.tag (lineOf line) = tagOf x then (true, s)
    else
      let d := dieOfAddr line
      let n := s.logCount d (x % 2)
      if n ≥ s.reg F.SEQ_UNDO_CAP then (false, s.detect 0x1005 3 (6 + d) 2 (some line))
      else
        let at0 := undoBase q d (x % 2) + 4160 * n
        let s1 := ((s.poke at0 (undoRecord s line x)).cleanse at0 4160).carry at0 line
        (true, ((s1.putTag (lineOf line) (tagOf x)).setLog d (x % 2) (n + 1)).peak F.SEQ_UNDO_HWM (n + 1))

/-! ### The riding copy (08 R293 to R295) -/

/-- The open ride cell of a die closed. -/
def closeRide (d : Nat) (q : List RideCell) : List RideCell :=
  q.map (fun c => if c.die = d then { c with closed := true } else c)

/-- Cells of a die in the ride queue. -/
def State.rideDepth (s : State) (d : Nat) : Nat := (s.ride.queue.filter (fun c => decide (c.die = d))).length

/-- A block joins the open cell of its die when it follows it, or starts a new cell; seven blocks close a cell (08 R295). -/
def rideJoin (q : List RideCell) (d off beat now : Nat) (blk : List Byte) : List RideCell :=
  match q.find? (fun c => decide (c.die = d) && !c.closed) with
  | some c =>
    if c.offset + 64 * c.blocks.length = off ∧ c.beat = beat then
      q.map (fun e => if e.die = d ∧ !e.closed then
        { e with blocks := e.blocks ++ [blk], closed := decide (e.blocks.length + 1 ≥ 7), since := now } else e)
    else closeRide d q ++ [RideCell.mk d off [blk] beat false now]
  | none => q ++ [RideCell.mk d off [blk] beat false now]

/-- A block can join the ride queue of its die, which holds 16,384 cells (08 R295; 10 R347): one has room, or it joins the open cell. -/
def State.rideRoom (s : State) (d off beat : Nat) : Bool :=
  decide (s.rideDepth d < 16384) || s.ride.queue.any (fun c =>
    decide (c.die = d) && !c.closed && decide (c.offset + 64 * c.blocks.length = off) && decide (c.beat = beat))

/-- A block joins the ride queue of its die (08 R295). -/
def State.ridePut (s : State) (d off beat : Nat) (blk : List Byte) : State :=
  let s1 := (s.putRide { s.ride with queue := rideJoin s.ride.queue d off beat s.toll blk })
  s1.peak F.OPT_RIDE_STATUS_QHWM ((s1.rideDepth d + 1) / 2)

/-- Copy one 64-byte block of a state line to the die's ride queue (08 R293). A write whose copy does not fit waits: that changes timing
only, so here the write lands and its copy waits (R295; DEDUCED, log entry 75). -/
def State.rideBlock (s : State) (beat a : Nat) : State :=
  match s.stateOff a with
  | some off =>
    let d := dieOfAddr a
    if s.ride.waits.any (fun w => decide (w.1 = d)) || !s.rideRoom d off beat then
      s.putRide { s.ride with waits := s.ride.waits ++ [(d, off, beat, s.bytes a 64)] }
    else s.ridePut d off beat (s.bytes a 64)
  | none => s

/-- Copies that wait join their queue, in order, while they fit (08 R295), with fuel. -/
def State.rideRefill : Nat → State → Nat → State
  | 0, s, _ => s
  | n + 1, s, d =>
    match s.ride.waits.find? (fun w => decide (w.1 = d)) with
    | none => s
    | some w =>
      if s.rideRoom d w.2.1 w.2.2.1 then
        State.rideRefill n ((s.putRide { s.ride with waits := s.ride.waits.erase w }).ridePut d w.2.1 w.2.2.1 w.2.2.2) d
      else s

/-- Every 64-byte block that a write touches is copied, with its content after the write, while a Score runs and OPT_RIDE_CFG.EN
is set (08 R293). -/
def State.rideCopy (s : State) (beat a n : Nat) : State :=
  if s.running && decide (s.reg F.OPT_RIDE_CFG_EN = 1) && decide (n > 0) then
    foldKeys (List.range ((a + n - 1) / 64 + 1 - a / 64)) (fun t i => t.rideBlock beat ((a / 64 + i) * 64)) s
  else s

/-! ### Writing device memory -/

/-- A code word takes one bad symbol, which its decoder corrects (13 R419). -/
def State.softAt (s : State) (a : Nat) : State := s.putSoft (keyAdd s.soft (poisonUnit a))

/-- Injected bad symbols or bits take effect in a block or word just written (17 R532): one bad symbol stays until it is mended, two
poison it. A tier block belongs to its stack, an SRAM word to its cluster, the word of a Chime to its Chime unit. -/
def State.spoil (s : State) (a n : Nat) : State :=
  if n = 0 then s
  else if inTier a then
    let u := 16 + stackOf a
    if (s.hitMode 0x0202 3 u).isSome then (s.takeHit 0x0202 3 u).poisonAt a
    else if (s.hitMode 0x0201 3 u).isSome then (s.takeHit 0x0201 3 u).softAt a
    else s
  else if inSram a then
    let c := (a - sramBase) / 0x800000
    if (s.hitMode 0x0205 1 c).isSome then (s.takeHit 0x0205 1 c).poisonAt a
    else if (s.hitMode 0x0204 1 c).isSome then (s.takeHit 0x0204 1 c).softAt a
    else s
  else if inChime a then
    let u := 4 + chimeUnitOf a
    if (s.hitMode 0x0206 3 u).isSome then (s.takeHit 0x0206 3 u).poisonAt a
    else if (s.hitMode 0x0204 3 u).isSome then (s.takeHit 0x0204 3 u).softAt a
    else s
  else s

/-- Bytes put into memory: a code word covered in part is mended, one covered whole loses its poison, injected errors take effect. -/
def State.putBytes (s : State) (a : Nat) (l : List Byte) : State :=
  (((s.mend a l.length).poke a l).cleanse a l.length).spoil a l.length

/-- A write within one 4 KiB line, access already judged: a state line is attributed, logged and copied while a Score runs
(07 R250, R251, R253; 08 R293); any other line just takes the bytes. -/
def State.writeLine (s : State) (beat a : Nat) (l : List Byte) : State :=
  match s.score.cur with
  | some q =>
    if s.running && (mirrorOff q.state a 0).isSome then
      if s.beatOpen beat then
        let p := s.logLine q (a / 4096 * 4096) beat
        if p.1 then (p.2.putBytes a l).rideCopy beat a l.length else p.2
      else s.count F.SEQ_UNDO_STALE
    else s.putBytes a l
  | none => s.putBytes a l

/-- A write split at 4 KiB lines, with fuel. -/
def State.writeLines : Nat → State → Nat → Nat → List Byte → State
  | 0, s, _, _, _ => s
  | n + 1, s, beat, a, l =>
    let k := 4096 - a % 4096
    if l.length ≤ k then (if l.isEmpty then s else s.writeLine beat a l)
    else State.writeLines n (s.writeLine beat a (l.take k)) beat (a + k) (l.drop k)

/-- A write of bytes to device memory, access already judged, attributed to a Beat. -/
def State.writeMem (s : State) (beat a : Nat) (l : List Byte) : State :=
  State.writeLines (l.length / 4096 + 2) s beat a l

/-! ### Sums of MOV.AADD (06 R229) -/

/-- One sum of MOV.AADD: FP32 rounded once (03 R131), INT32 exact; a sum beyond INT32 is a free value (log entry 5). -/
def aaddOne (fmt n x y : Nat) : Nat × Flags :=
  if fmt = 10 then
    let z := sxt 32 x + sxt 32 y
    (if -2147483648 ≤ z ∧ z ≤ 2147483647 then toField 32 z else (Config.aaddSum n).toNat, flagsNone)
  else addFp32 (decodeF fFP32 x) (decodeF fFP32 y)

/-- The bytes that MOV.AADD leaves at a place that held `old`, and the flags of its sums. -/
def aaddBytes (fmt n : Nat) (l old : List Byte) : List Byte × Flags :=
  let rs := (List.range (l.length / 4)).map (fun i => aaddOne fmt (n + i) (elemAt 32 old i) (elemAt 32 l i))
  (rs.flatMap (fun r => leBytes 4 r.1), flagsAll (rs.map (·.2)))

/-! ### Rollback (07 R252) -/

/-- Copy record `k` of a log back to its line and set the line's tag to all ones (07 R252). A poisoned record is not copied: the device
cannot reach its committed state; nor can it when the tag lies in a poisoned block. A poisoned line stays poisoned through the replay, and
so do the blocks that were poisoned when the line was logged (13 R421). -/
def State.undoOne (s : State) (base k : Nat) : State :=
  let a := base + 4160 * k
  let line := s.word a
  match s.poisonRead a 4160 with
  | some x => s.meetPoison 2 x 1
  | none =>
    let s1 := (s.correct a 4160).poke line (s.bytes (a + 64) 4096)
    let bad := (List.range 64).filter (fun i => decide (a + 64 + 64 * i ∈ s.score.carried))
    let s2 := s1.putPoison (bad.foldl (fun p i => keyAdd p (line + 64 * i)) s1.poison)
    match s2.poisonRead (tagAddr (lineOf line)) 8 with
    | some x => s2.meetPoison 2 x 2
    | none => s2.putTag (lineOf line) tagNone

/-- A log copied back, newest record first, and emptied (07 R252). -/
def State.undoLog (s : State) (q : ScoreParams) (d p : Nat) : State :=
  let n := s.logCount d p
  (foldKeys (List.range n) (fun t i => t.undoOne (undoBase q d p) (n - 1 - i)) s).setLog d p 0

/-- Both dies' logs of a Beat copied back. -/
def State.undoBeat (s : State) (b : Nat) : State :=
  match s.score.cur with
  | some q => (s.undoLog q 0 (b % 2)).undoLog q 1 (b % 2)
  | none => s

/-- NEXT_BEAT and NEXT_V after a stop (18 R547). -/
def State.setNext (s : State) : State :=
  (s.setReg F.CKPT_STATUS_NEXT_BEAT s.beatU.next).setReg F.CKPT_STATUS_NEXT_V 1

/-- After a halt or a departure, once rollback is complete and the holder's drains have ended, STATE becomes STOPPED, no pause is
pending and NEXT_BEAT is set (07 R268; 08 R299; 18 R547). -/
def State.settle (s : State) : State :=
  if (s.reg F.BEAT_STATUS_STATE = 3 ∨ s.reg F.BEAT_STATUS_STATE = 4) ∧ (s.scoreState = 3 ∨ s.scoreState = 4) ∧
      s.beatU.rollback.isEmpty ∧ s.ride.drain = none then
    ((s.setReg F.SEQ_SCORE_STATE 7).setReg F.SEQ_PAUSE_PAUSE_BEAT 0).setNext
  else s

/-- Every Beat due is rolled back, newest first (07 R252). -/
def State.rollback (s : State) : State :=
  let s1 := s.beatU.rollback.foldl State.undoBeat s
  (s1.putBeatU { s1.beatU with rollback := [] }).settle

/-- Every started operation has completed: no matrix operation and no mover instruction is in progress in any cluster (07 R252; 06 R209). -/
def State.opsDone (s : State) : Bool := s.clusters.all (fun e => e.2.mxRun.isEmpty && e.2.mvRun.isNone)

/-- ROLLBACK (07 R252, R268; 13 R421; 17 R514): once every started operation has completed. -/
def execRollback (s : State) : Host.Outcome State Fault Refusal := .next (if s.opsDone then s.rollback else s)

/-! ### Refresh and scrub (13 R417, R418, R420) -/

/-- The next Toll count at which a refresh window opens, or now within one (13 R417). -/
def windowStart (t : Nat) (second : Bool) : Nat :=
  let lo := if second then 4096 else 0
  let len := if second then 720 else 416
  let p := (t + 8192 - lo) % 8192
  if p < len then t else t + (8192 - p)

/-- What patrol scrub meets in one block (13 R418 to R421): a corrected error counts and is rewritten; an uncorrectable one is
poisoned, counted and reported. -/
def State.scrubOne (s : State) (e : ScrubErr) : State :=
  let a := e.addr.toNat
  if !inTier a then s
  else if e.bad then
    let s1 := (s.poisonAt a).count F.MEM_STACK_UE 1 (stackOf a)
    s1.detect 0x0202 3 (16 + stackOf a) 1 (some (poisonUnit a))
  else (s.correctOne (poisonUnit a)).putSoft (s.soft.filter (fun u => decide (u ≠ poisonUnit a)))

/-- A refresh window of a tier opens (13 R417, R418; 17 R508): scrub meets blocks of the tier's own stacks only. -/
def State.refresh (s : State) (second : Bool) (errs : List ScrubErr) (pass : Bool) : State :=
  let s1 := s.advanceTo (windowStart s.toll second)
  if s1.reg F.MEM_CFG_SCRUB_EN = 1 then
    let s2 := (errs.filter (fun e => decide (tier2 ≤ e.addr.toNat) == second)).foldl State.scrubOne s1
    if pass then s2.count F.MEM_SCRUB_PASSES else s2
  else s1

/-- REFRESH_WINDOW (13 R417, R418; 17 R508). -/
def execRefreshWindow (tier2 : Bool) (errs : List ScrubErr) (pass : Bool) (s : State) : Host.Outcome State Fault Refusal :=
  .next (s.refresh tier2 errs pass)

end Sys2Proof.Machine
end

