-- ==== Sys2Proof/Machine/Chime.lean ====
section
/-!
DEFINITION. Machine/Chime.lean: Chimes, their units and Chime space (spec/02 R106 to R112).
-/
namespace Sys2Proof.Machine

/-- The die of a Chime: bit 14 of its index (02 R106). -/
def chimeDie (i : Nat) : Nat := i / 16384 % 2

/-- Whether index `i` is a Score Chime (02 R108). -/
def State.scoreChime (s : State) (i : Nat) : Bool :=
  decide (i % 16384 < if chimeDie i = 0 then s.reg F.CHIME_CFG_SCORE_CHIMES_D0 else s.reg F.CHIME_CFG_SCORE_CHIMES_D1)

/-- Operations waiting at the unit of a die. -/
def State.chimeDepth (s : State) (d : Nat) : Nat := (s.chimeq.filter (fun o => decide (chimeDie o.index = d))).length

/-- The depth of a die's queue: what waits beyond the four operations of a CK, at most 256 (02 R107, R112). -/
def State.chimeQueue (s : State) (d : Nat) : Nat := min (s.chimeDepth d - 4) 256

/-- The queue of a die is full: a source with one more operation for it waits (02 R107). -/
def State.chimeFull (s : State) (d : Nat) : Bool := decide (260 ≤ s.chimeDepth d)

/-- An operation joins the queue of the die whose Chime it names, in arrival order; QMAX follows the deepest queue (02 R107, R112). -/
def State.queueChime (s : State) (o : ChimeOp) : State :=
  let s1 := (s.putChimeq (s.chimeq ++ [o]))
  s1.peak F.CHIME_STATUS_QMAX (s1.chimeQueue (chimeDie o.index))

/-- An ARRIVE(n) issued now (02 R106, R108). -/
def State.arrive (s : State) (i n : Nat) : State := s.queueChime ⟨i % 32768, false, n, s.beat⟩

/-- The device address of a Chime's word (02 R110; 13 R408). -/
def chimeAddr (i : Nat) : Nat := chimeBase + 32 * i

/-- A Chime's word written in the Chime state: its code is formed anew, and takes an injected bad bit (13 R419; 17 R532). -/
def State.chimePut (s : State) (i : Nat) (x : Chime) : State := ((s.setChime i x).cleanse (chimeAddr i) 8).spoil (chimeAddr i) 8

/-- One operation applied (02 R106, R108, R109): ARRIVE(0) has no effect; discarded and counted in STALE when the Chime is a Score Chime, a Score
runs and the Beat differs; RESET clears COUNT and sets TARGET; ARRIVE adds, saturating with OVF, OVF_INDEX and a message, and not where the word is
poisoned (13 R421). -/
def State.applyChime (s : State) (o : ChimeOp) : State :=
  if !o.reset && decide (o.arg = 0) then s
  else if s.running && s.scoreChime o.index && decide (o.beat ≠ s.beat) then s.count F.CHIME_STATUS_STALE
  else if o.reset then s.chimePut o.index ⟨0, o.arg⟩
  else if (s.poisonRead (chimeAddr o.index) 8).isSome then s.meetPoison 0 (chimeAddr o.index) 1
  else
    let s0 := s.correct (chimeAddr o.index) 8
    let c := s0.chime o.index
    let sum := c.count + o.arg
    if sum ≤ 0xFFFFFFFF then s0.chimePut o.index ⟨sum, c.target⟩
    else
      let s1 := s0.chimePut o.index ⟨0xFFFFFFFF, c.target⟩
      let s2 := if s1.reg F.CHIME_STATUS_OVF = 0 then s1.setReg F.CHIME_STATUS_OVF_INDEX o.index else s1
      let s3 := (s2.mark F.CHIME_STATUS_OVF).tell 0x1003 1 3 (4 + chimeDie o.index) 7 none (b2n (s.scoreChime o.index))
      if s3.scoreChime o.index then s3.err 15 else s3

/-- The operations of one CK: up to four of the die's queue, RESET before ARRIVE (02 R107). -/
def chimeBatch (q : List ChimeOp) (d : Nat) : List ChimeOp :=
  let l := (q.filter (fun o => decide (chimeDie o.index = d))).take 4
  l.filter (·.reset) ++ l.filter (fun o => !o.reset)

/-- A queue without the first `n` operations of a die. -/
def chimeRest : Nat → Nat → List ChimeOp → List ChimeOp
  | _, _, [] => []
  | d, n, o :: t => if chimeDie o.index = d ∧ n > 0 then chimeRest d (n - 1) t else o :: chimeRest d n t

/-- A CH.WAIT is satisfied: COUNT has reached TARGET (02 R106). -/
def State.chimeMet (s : State) (i : Nat) : Bool := decide ((s.chime i).target ≤ (s.chime i).count)

/-- A sequencer stalled on a Chime of die `d` that the operations of this CK satisfy resumes 3 CK later, or 43 CK later when the Chime
lies on the other die (02 R107). -/
def State.meetWait (s : State) (d c : Nat) : State :=
  let x := s.cl c
  match x.wait with
  | some i =>
    if x.resume.isNone && decide (chimeDie i = d) && s.chimeMet i then
      s.setCl c { x with resume := some (s.ck + if d = c / 32 then 3 else 43) }
    else s
  | none => s

/-- A Chime unit's work of one CK. -/
def State.chimeUnit (s : State) (d : Nat) : State :=
  let s1 := (chimeBatch s.chimeq d).foldl State.applyChime (s.putChimeq (chimeRest d 4 s.chimeq))
  foldKeys (List.range 64) (fun t c => t.meetWait d c) s1

/-- CHIME_OP_APPLY (02 R106 to R109, R112; 06 R230). -/
def execChimeOpApply (d : Bool) (s : State) : Host.Outcome State Fault Refusal := .next (s.chimeUnit (b2n d))

/-- A stalled WAIT that an operation has satisfied resumes when its 3 or 43 CK have passed, whatever the Chime holds by then (02 R106,
R107). -/
def State.resumeWait (s0 : State) (c : Nat) : State :=
  match (s0.cl c).resume with
  | none => s0
  | some t =>
    let s := s0.advance (t - s0.ck)
    let s1 := s.setCl c { s.cl c with wait := none, resume := none }
    (s1.setReg F.SEQ_CLUSTER_STALL 0 c).setReg F.SEQ_CLUSTER_WAIT_CHIME 0 c

/-- CHIME_WAIT_RESUME (02 R107). -/
def execChimeWaitResume (c : Fin 64) (s : State) : Host.Outcome State Fault Refusal := .next (s.resumeWait c.val)

/-- A word of Chime space as read: word 0 of a Chime holds COUNT and TARGET, the others read zero (02 R110; 00 R16). -/
def State.chimeSpaceRead (s : State) (off : Nat) : Nat :=
  if off % 32 = 0 then (s.chime (off / 32)).count + (s.chime (off / 32)).target * 2 ^ 32 else 0

/-- A word of Chime space as written: ARRIVE at +8, RESET at +16, nothing elsewhere (02 R110). -/
def State.chimeSpaceWrite (s : State) (off v : Nat) : State :=
  if off % 32 = 8 then s.arrive (off / 32) (v % 65536)
  else if off % 32 = 16 then s.queueChime ⟨off / 32, true, v % 65536, s.beat⟩
  else s

/-- A write of words of Chime space from an offset on has an operation for a die whose queue is full (02 R107). -/
def State.chimeShut (s : State) (off words : Nat) : Bool :=
  (List.range words).any (fun i =>
    (decide ((off + 8 * i) % 32 = 8) || decide ((off + 8 * i) % 32 = 16)) && s.chimeFull (chimeDie ((off + 8 * i) / 32)))

/-- One word of Chime space written by the host as a command of its own: it waits, as a packet of the host, while its die's queue is full or
an earlier access of the host waits (02 R107; 15 R468). -/
def State.chimeHostWrite (s : State) (off v : Nat) : State :=
  if s.chimeShut off 1 || !s.acv.held.isEmpty then
    s.putAcv { s.acv with held := s.acv.held ++ [⟨1, 0, chimeBase + off, 0, 0, 0, leBytes 8 v⟩] }
  else s.chimeSpaceWrite off v

/-- CHIME_SPACE_ARRIVE (02 R106, R107, R110): the write names the whole aligned word (00 R14). -/
def execChimeSpaceArrive (i : BitVec 15) (n : BitVec 16) (s : State) : Host.Outcome State Fault Refusal :=
  .next (s.chimeHostWrite (32 * i.toNat + 8) n.toNat)

/-- CHIME_SPACE_RESET (02 R106, R107, R110). -/
def execChimeSpaceReset (i : BitVec 15) (t : BitVec 16) (s : State) : Host.Outcome State Fault Refusal :=
  .next (s.chimeHostWrite (32 * i.toNat + 16) t.toNat)

/-- At a boundary each Score Chime takes the COUNT and TARGET its Score gives (02 R108; 07 R246). -/
def State.restoreChimes (s : State) (l : List (Nat × Nat)) (base : Nat) : State :=
  (l.foldl (fun (p : State × Nat) e => (p.1.setChime p.2 ⟨e.1, e.2⟩, p.2 + 1)) (s, base)).1

end Sys2Proof.Machine
end

