-- ==== Sys2Proof/Machine/Cells.lean ====
section
/-!
DEFINITION. Machine/Cells.lean: the fields of a cell (spec/10 R327 to R332; spec/04 R140 to R144) and cells built from them.
-/
namespace Sys2Proof.Machine

/-! ### The common header (10 R328) -/

/-- Bits of the common header. -/
def cHdr (c : Cell) (hi lo : Nat) : Nat := bitsOf c.hdr.toNat hi lo
/-- Bits of header bytes 16 to 31. -/
def cExt (c : Cell) (hi lo : Nat) : Nat := bitsOf c.ext.toNat hi lo
/-- BEAT. -/
def cBeat (c : Cell) : Nat := cHdr c 127 80
/-- ROUTE. -/
def cRoute (c : Cell) : Nat := cHdr c 79 64
/-- ACRE. -/
def cAcre (c : Cell) : Nat := cHdr c 63 54
/-- GEN. -/
def cGen (c : Cell) : Nat := cHdr c 53 50
/-- VC. -/
def cVc (c : Cell) : Nat := cHdr c 49 47
/-- TYPE. -/
def cType (c : Cell) : Nat := cHdr c 46 44
/-- MCAST. -/
def cMcast (c : Cell) : Bool := c.hdr.toNat.testBit 43
/-- FIRST. -/
def cFirst (c : Cell) : Bool := c.hdr.toNat.testBit 42
/-- LAST. -/
def cLast (c : Cell) : Bool := c.hdr.toNat.testBit 41
/-- LEN. -/
def cLen (c : Cell) : Nat := cHdr c 40 32
/-- The payload bytes in order. -/
def cPay (c : Cell) : List Byte := leBytes 480 c.payload.toNat
/-- The scored class: SC0 and SC1 (10 R329). -/
def cScored (c : Cell) : Bool := decide (cVc c < 2)

/-- A common header from its fields, reserved bits zero (10 R328). -/
def hdrOf (beat route acre gen vc ty : Nat) (mcast first last : Bool) (len : Nat) : BitVec 128 :=
  BitVec.ofNat 128 (beat % 2 ^ 48 * 2 ^ 80 + route % 65536 * 2 ^ 64 + acre % 1024 * 2 ^ 54 + gen % 16 * 2 ^ 50 +
    vc % 8 * 2 ^ 47 + ty % 8 * 2 ^ 44 + b2n mcast * 2 ^ 43 + b2n first * 2 ^ 42 + b2n last * 2 ^ 41 + len % 512 * 2 ^ 32)

/-- 480 payload bytes: cut, or padded with zeros (10 R329). -/
def payOf (l : List Byte) : BitVec 3840 := BitVec.ofNat 3840 (leNat (fitBytes 480 l))

/-- A header with VC replaced. -/
def withVc (c : Cell) (vc : Nat) : Cell :=
  { c with hdr := BitVec.ofNat 128 (c.hdr.toNat - cVc c * 2 ^ 47 + vc % 8 * 2 ^ 47) }

/-- The combinations of VC and TYPE that may occur, and the lengths (10 R329). -/
def hdrGood (c : Cell) : Bool :=
  (match cType c with
   | 0 => decide (cVc c ∈ [0, 1, 2, 3, 5])
   | 1 => decide (cVc c ≤ 3) && decide (cLen c = 480)
   | 2 => decide (cVc c ≤ 1) && decide (cLen c = 480)
   | 3 => decide (cVc c = 4) && decide (cLen c = 0)
   | _ => false) &&
  decide (cLen c ≤ 480) && decide (cHdr c 31 0 = 0)

/-! ### The data header (10 R330, R331) -/

/-- SRC. -/
def dSrc (c : Cell) : Nat := cExt c 127 88
/-- MSG. -/
def dMsg (c : Cell) : Nat := cExt c 87 72
/-- CIDX. -/
def dCidx (c : Cell) : Nat := cExt c 71 48
/-- EPOCH. -/
def dEpoch (c : Cell) : Nat := cExt c 47 40
/-- PCRC of a data header's upper bits and a payload (10 R330). -/
def pcrcOf (ext : Nat) (pay : List Byte) : Nat := crc32c (leBytes 12 (bitsOf ext 127 32) ++ pay)
/-- PCRC holds. -/
def pcrcGood (c : Cell) : Bool := decide (cExt c 31 0 = pcrcOf c.ext.toNat (cPay c))

/-- The SRC of this device's member `e` (10 R330; COORD holds pod, x, y, z from byte 0, 11 R386). -/
def State.srcOf (s : State) (e : Nat) : Nat :=
  let co := s.reg F.ROUTE_TOPO_COORD
  e % 256 + bitsOf co 15 8 * 2 ^ 8 + bitsOf co 23 16 * 2 ^ 16 + bitsOf co 31 24 * 2 ^ 24 + bitsOf co 7 0 * 2 ^ 32

/-- A data header with its PCRC (10 R330, R331). -/
def dataExt (src msg cidx epoch : Nat) (pay : BitVec 3840) : BitVec 128 :=
  let up := src % 2 ^ 40 * 2 ^ 88 + msg % 65536 * 2 ^ 72 + cidx % 2 ^ 24 * 2 ^ 48 + epoch % 256 * 2 ^ 40
  BitVec.ofNat 128 (up + pcrcOf up (leBytes 480 pay.toNat))

/-! ### The tally field (04 R140, R144) -/

/-- GROUP. -/
def tGroup (c : Cell) : Nat := cExt c 127 112
/-- SEQ. -/
def tSeq (c : Cell) : Nat := cExt c 111 96
/-- LO. -/
def tLo (c : Cell) : Nat := cExt c 95 80
/-- HI. -/
def tHi (c : Cell) : Nat := cExt c 79 64
/-- CHUNK. -/
def tChunk (c : Cell) : Nat := cExt c 63 41
/-- FMT. -/
def tFmt (c : Cell) : Nat := cExt c 40 37
/-- PART. -/
def tPart (c : Cell) : Nat := cExt c 36 34
/-- KIND. -/
def tKind (c : Cell) : Nat := cExt c 33 32
/-- CSUM of a tally field's upper bits and a payload (04 R144). -/
def csumOf (ext : Nat) (pay : List Byte) : Nat := crc32c (leBytes 12 (bitsOf ext 127 32) ++ pay)
/-- CSUM holds. -/
def csumGood (c : Cell) : Bool := decide (cExt c 31 0 = csumOf c.ext.toNat (cPay c))

/-- A tally field with its CSUM (04 R140, R144). -/
def tallyExt (group seq lo hi chunk fmt part kind : Nat) (pay : BitVec 3840) : BitVec 128 :=
  let up := group % 65536 * 2 ^ 112 + seq % 65536 * 2 ^ 96 + lo % 65536 * 2 ^ 80 + hi % 65536 * 2 ^ 64 +
    chunk % 2 ^ 23 * 2 ^ 41 + fmt % 16 * 2 ^ 37 + part % 8 * 2 ^ 34 + kind % 4 * 2 ^ 32
  BitVec.ofNat 128 (up + csumOf up (leBytes 480 pay.toNat))

/-! ### The control field (10 R332; 11 R382) -/

/-- CTYPE. -/
def kType (c : Cell) : Nat := cExt c 127 124
/-- CHIME. -/
def kChime (c : Cell) : Nat := cExt c 30 16
/-- ARG. -/
def kArg (c : Cell) : Nat := cExt c 15 0

end Sys2Proof.Machine
end

