-- ==== Sys2Proof/Machine/Record.lean ====
section
/-!
DEFINITION. Machine/Record.lean: the logical tree (spec/04 R146), Bushel records (R156 to R165) groups (spec/09 R302, R303, R318), and the
end of an open collective at this device.
-/
namespace Sys2Proof.Machine

/-! ### The logical tree (04 R146) -/

/-- The least k with 2^k at least m. -/
def ceilLog2 (m : Nat) : Nat := if m ≤ 1 then 0 else (m - 1).log2 + 1

/-- Ranks of the left child of a node of m ranks. -/
def leftSize (m : Nat) : Nat := 2 ^ (ceilLog2 m - 1)

/-- Whether a to b is a node of the tree over lo to lo + m - 1, with fuel. -/
def nodeIn : Nat → Nat → Nat → Nat → Nat → Bool
  | 0, _, _, _, _ => false
  | f + 1, lo, m, a, b =>
    (decide (a = lo) && decide (b + 1 = lo + m)) ||
    (decide (m > 1) && (if b < lo + leftSize m then nodeIn f lo (leftSize m) a b
      else nodeIn f (lo + leftSize m) (m - leftSize m) a b))

/-- Whether a to b is a node of the tree of a group of n ranks (04 R146). -/
def isNode (n a b : Nat) : Bool := decide (a ≤ b) && decide (b < n) && nodeIn 18 0 n a b

/-- Whether a to b is the left sibling of b + 1 to c in the tree of n ranks. -/
def isLeftSibling (n a b c : Nat) : Bool := isNode n a c && decide (b + 1 - a = leftSize (c + 1 - a)) && decide (b < c)

/-- LEVELS for m ranks (04 R150). -/
def levelsOf (m : Nat) : Nat := ceilLog2 m + 1

/-- PECKS of a Bushel (04 R156). -/
def pecksOf (w levels fmt : Nat) : Nat := (w * levels * slotLines fmt + 7) / 8

/-! ### Bushel records (04 R164) -/

/-- Bits of a word of record `r` of cluster `c`. -/
def State.recBits (s : State) (c r w hi lo : Nat) : Nat := bitsOf (s.recWord c r w) hi lo
/-- VALID. -/
def State.rValid (s : State) (c r : Nat) : Bool := (s.recWord c r 0).testBit 63
/-- SCORED. -/
def State.rScored (s : State) (c r : Nat) : Bool := (s.recWord c r 0).testBit 61
/-- N. -/
def State.rN (s : State) (c r : Nat) : Nat := s.recBits c r 0 48 32
/-- SEQ. -/
def State.rSeq (s : State) (c r : Nat) : Nat := s.recBits c r 0 31 16
/-- GROUP. -/
def State.rGroup (s : State) (c r : Nat) : Nat := s.recBits c r 0 15 0
/-- ROOT. -/
def State.rRoot (s : State) (c r : Nat) : Bool := (s.recWord c r 1).testBit 43
/-- SAT. -/
def State.rSat (s : State) (c r : Nat) : Bool := (s.recWord c r 1).testBit 42
/-- RM. -/
def State.rRm (s : State) (c r : Nat) : Nat := s.recBits c r 1 41 40
/-- OUTFMT. -/
def State.rOutfmt (s : State) (c r : Nat) : Nat := s.recBits c r 1 39 36
/-- CFMT. -/
def State.rCfmt (s : State) (c r : Nat) : Nat := s.recBits c r 1 35 32
/-- NODE_HI. -/
def State.rHi (s : State) (c r : Nat) : Nat := s.recBits c r 1 31 16
/-- NODE_LO. -/
def State.rLo (s : State) (c r : Nat) : Nat := s.recBits c r 1 15 0
/-- W. -/
def State.rW (s : State) (c r : Nat) : Nat := s.recBits c r 2 47 32
/-- PECKS; the value 0 encodes 512. -/
def State.rPecks (s : State) (c r : Nat) : Nat := if s.recBits c r 2 24 16 = 0 then 512 else s.recBits c r 2 24 16
/-- BASE. -/
def State.rBase (s : State) (c r : Nat) : Nat := s.recBits c r 2 8 0
/-- K. -/
def State.rK (s : State) (c r : Nat) : Nat := s.recBits c r 3 37 32
/-- NB. -/
def State.rNb (s : State) (c r : Nat) : Nat := s.recBits c r 3 28 23
/-- CHUNKS. -/
def State.rChunks (s : State) (c r : Nat) : Nat := s.recBits c r 3 22 0
/-- DKIND. -/
def State.rDkind (s : State) (c r : Nat) : Nat := s.recBits c r 4 49 48
/-- DEST. -/
def State.rDest (s : State) (c r : Nat) : Nat := s.recBits c r 4 47 0
/-- CHIME. -/
def State.rChime (s : State) (c r : Nat) : Nat := s.recBits c r 5 14 0
/-- STREAM. -/
def State.rStream (s : State) (c r : Nat) : Nat := s.recBits c r 6 47 32
/-- LANE_BASE. -/
def State.rLane (s : State) (c r : Nat) : Nat := s.recBits c r 6 31 0

/-- The dynamic part of a record. -/
def State.bushel (s : State) (c r : Nat) : Bushel := tabGet Bushel.reset s.bushels (64 * c + r)

/-- The dynamic part of a record replaced. -/
def State.setBushel (s : State) (c r : Nat) (b : Bushel) : State :=
  (s.putBushels (tabSet Bushel.reset s.bushels (64 * c + r) b))

/-- ANY in force: of the record, or set by TALLY.ANY for the rest of the Beat (04 R151; 06 R228). -/
def State.rAny (s : State) (c r : Nat) : Bool := (s.recWord c r 0).testBit 62 || (s.bushel c r).any

/-- The valid records, as 64 c + r in order. A valid record has bit 7 of its byte 7 set, so only listed bytes need a look. -/
def State.activeRecs (s : State) : List Nat :=
  s.mem.filterMap (fun e =>
    if inRecords e.1 && decide (e.1 % 64 = 7) && decide (e.2.toNat ≥ 128) then
      some (64 * ((e.1 - sramBase) / 0x800000) + (e.1 % 0x800000 - 0x600000) / 64)
    else none)

/-- Valid records of a cluster. -/
def State.recsOf (s : State) (c : Nat) : List Nat := (s.activeRecs.filter (fun k => decide (k / 64 = c))).map (· % 64)

/-- Free Pecks of a cluster for the open allocator, in order (04 R158). -/
def State.freePecks (s : State) (c : Nat) : List Nat :=
  let used := (s.recsOf c).map (fun r => (s.rBase c r, s.rPecks c r))
  (List.range 512).filter (fun p => !used.any (fun u => decide (u.1 ≤ p) && decide (p < u.1 + u.2)))

/-- The lengths of runs of consecutive numbers in a rising list, with where each starts. -/
def runsOf : List Nat → List (Nat × Nat)
  | [] => []
  | p :: t =>
    match runsOf t with
    | (b, n) :: r => if b = p + 1 then (p, n + 1) :: r else (p, 1) :: (b, n) :: r
    | [] => [(p, 1)]

/-- A record written: 64 bytes (04 R164). -/
def State.writeRecord (s : State) (c r : Nat) (ws : List Nat) : State :=
  (s.poke (recAddr c r) ((fitBytes 64 (ws.flatMap (leBytes 8))))).cleanse (recAddr c r) 64

/-! ### Groups (09 R302, R303, R318) -/

/-- A registered group. -/
def State.group (s : State) (h : Nat) : Option Grp := tabGet none s.groups h

/-- An entry of the group table replaced (09 R301). -/
def State.setGroup (s : State) (h : Nat) (g : Option Grp) : State :=
  let s1 := (s.putGroups (tabSet none s.groups h g))
  s1.setReg F.COLL_STATUS_GROUPS s1.groups.length

/-- One byte of a packed axis vector: 0 e, 1 x, 2 y, 3 z, 4 p (09 R302). -/
def axis (v i : Nat) : Nat := bitsOf v (8 * i + 7) (8 * i)

/-- The arrangement in force: 3 is treated as 0 (11 R390). -/
def State.arr (s : State) : Nat := if s.reg F.ROUTE_TOPO_ARR = 3 then 0 else s.reg F.ROUTE_TOPO_ARR

/-- SIZE of an axis (09 R303). -/
def State.axisSize (s : State) (i : Nat) : Nat :=
  match i with
  | 0 => 128
  | 1 => if s.arr = 2 then 4 else min (s.reg F.ROUTE_TOPO_SX) 4
  | 2 => if s.arr = 2 then 4 else min (s.reg F.ROUTE_TOPO_SY) 4
  | 3 => if s.arr = 2 then 2 else min (s.reg F.ROUTE_TOPO_SZ) 2
  | _ => 32

/-- Whether an axis is a ring (11 R364). -/
def State.axisRing (s : State) (i : Nat) : Bool :=
  decide (s.arr = 0) &&
  ((decide (i = 1) && (decide (s.reg F.ROUTE_TOPO_SX = 3) || decide (s.reg F.ROUTE_TOPO_SX = 4))) ||
   (decide (i = 2) && (decide (s.reg F.ROUTE_TOPO_SY = 3) || decide (s.reg F.ROUTE_TOPO_SY = 4))))

/-- The size n of a group (09 R303). -/
def grpSize (g : Grp) : Nat := (List.range 5).foldl (fun a i => a * axis g.extent i) 1

/-- The coordinates of rank r of a group, as packed bytes e, x, y, z, p (09 R303). -/
def State.rankCoord (s : State) (g : Grp) (r : Nat) : Nat :=
  ((List.range 5).foldl (fun (p : Nat × Nat) i =>
    let x := axis g.extent i
    let o := p.2 % x
    let v := axis g.origin i + o
    (p.1 + (if s.axisRing i then v % s.axisSize i else v) * 2 ^ (8 * i), p.2 / x)) (0, r)).1

/-- Whether a group holds a device member: a member index of 64 or more (09 R303). -/
def grpDeviceMember (g : Grp) : Bool := decide (axis g.origin 0 + axis g.extent 0 > 64)

/-- Whether the loaded Score names a group: some Score record does (09 R304, R318). -/
def State.scoreNames (s : State) (h : Nat) : Bool :=
  s.score.cur.isSome && s.activeRecs.any (fun k => s.rScored (k / 64) (k % 64) && decide (s.rGroup (k / 64) (k % 64) = h))

/-- The latest sequence started for a group (09 R318): the largest SEQ of its Score records, or the next number minus 1. -/
def State.latestSeq (s : State) (h : Nat) : Nat :=
  if s.scoreNames h then
    ((s.activeRecs.filter (fun k => s.rScored (k / 64) (k % 64) && decide (s.rGroup (k / 64) (k % 64) = h))).map
      (fun k => s.rSeq (k / 64) (k % 64))).foldl max 0
  else match s.group h with
    | some g => (g.next + 65535) % 65536
    | none => 65535

/-! ### The end of a collective (04 R161; 09 R314) -/

/-- Open collectives with a Bushel here. -/
def State.openColls (s : State) : List Coll := s.colls.filter (fun c => decide (c.mode = 0))

/-- Open collectives now active: until their first stripe ends or is released (09 R315, R326). -/
def State.activeColls (s : State) : List Coll := s.openColls.filter (fun c => decide (c.live.length = c.recs.length))

/-- COLL_STATUS.ACTIVE follows the active collectives. -/
def State.showColls (s : State) : State := s.setReg F.COLL_STATUS_ACTIVE s.activeColls.length

/-- Cells parked in a die's park area (04 R166). -/
def State.parkedOn (s : State) (d : Nat) : Nat := (s.parked.filter (fun p => decide (p.die = d) && !p.held)).length

/-- PARKED_Dd follows the park areas. -/
def State.showPark (s : State) : State :=
  (s.setReg F.TALLY_PARK_PARKED_D0 (s.parkedOn 0)).setReg F.TALLY_PARK_PARKED_D1 (s.parkedOn 1)

/-- A record released: not valid, its slots empty, its parked and queued inputs discarded (04 R161). -/
def State.releaseRec (s : State) (c r : Nat) : State :=
  let key := 64 * c + r
  let s1 := (s.writeRecord c r []).setBushel c r Bushel.reset
  let s2 := (s1.putParked (s1.parked.filter (fun p => p.cell.isSome || decide (p.input.key ≠ key)))).showPark
  s2.setCl c { s2.cl c with tallyq := (s2.cl c).tallyq.filter (fun i => decide (i.key ≠ key)) }

/-- A collective ends at this device with a code: every stripe is released and its start descriptor completes with TAG and SEQ
(09 R314; 15 R484). -/
def State.endColl (s : State) (x : Coll) (code : Nat) : State :=
  let s1 := x.live.foldl (fun t k => t.releaseRec k.1 k.2) s
  let s2 := (s1.putColls (s1.colls.erase x))
  (s2.complete x.desc code x.tag (x.seq + 2 ^ 16)).showColls

/-- Every open collective of a condition ends with a code. -/
def State.endColls (s : State) (p : Coll → Bool) (code : Nat) : State :=
  (s.openColls.filter p).foldl (fun t x => t.endColl x code) s

/-- What follows a cell that was discarded for its bytes, with no Score running (04 R145; 10 R331): the collective it belongs to ends with
CHECKSUM_BAD. A tally cell names it; another names none, and then those end that have a stripe at the cluster whose point the cell reached
(DESIGN CHOICE, log entry 78). -/
def State.endBad (s : State) (x : Cell) (c : Option Nat) : State :=
  if s.running then s
  else if cType x = 1 then
    (if s.ownAcre (cAcre x) then s.endColls (fun y => decide (y.group = tGroup x) && decide (y.seq = tSeq x)) 0x32 else s)
  else s.endColls (fun y => y.live.any (fun k => decide (c = some k.1))) 0x32

end Sys2Proof.Machine
end

