-- ==== Sys2Proof/Machine/Lookup.lean ====
section
/-!
DEFINITION. Machine/Lookup.lean: the route lookup (spec/11 R360 to R374; spec/04 R152; spec/10 R333 to R335, R346). An exit is
where a cell leaves the crossbar: port `p` is exit `p` (its second half `p + 512`), cluster `c` is exit `128 + c`, and the
memory controllers behind cluster point `c` are exit `1152 + c`.
-/
namespace Sys2Proof.Machine

/-- The die of an exit (10 R333). -/
def exitDie (e : Nat) : Nat := if e % 512 < 128 then e % 512 / 64 else (e % 512 - 128) / 32

/-- The crossbar point of an exit on its die (10 R333; both halves of a port share a point, 11 R370). -/
def exitPoint (e : Nat) : Nat := if e % 512 < 128 then e % 64 else 64 + (e % 512 - 128) % 32

/-- An exit to a port. -/
def exitIsPort (e : Nat) : Bool := decide (e % 512 < 128)
/-- The port of an exit. -/
def exitPort (e : Nat) : Nat := e % 128
/-- The link an exit to a port uses: bit 7 of its port byte names the half (11 R370; 14 R431, R454). -/
def exitLink (e : Nat) : Nat := if e < 512 then 2 * e else 2 * (e % 512) + 1

/-- Two exits share an output point of die `d`, and so a virtual output queue (10 R333, R344): one point of the die, or both on the other die,
which any crossing lane serves. -/
def sameOut (d e f : Nat) : Bool :=
  if exitDie e = d then decide (exitDie f = d) && decide (exitPoint f = exitPoint e) else decide (exitDie f ≠ d)

/-! ### Positions (11 R361) -/

/-- Size of dimension 0 X, 1 Y, 2 Z. -/
def State.dimSize (s : State) (d : Nat) : Nat :=
  if d = 0 then s.reg F.ROUTE_TOPO_SX else if d = 1 then s.reg F.ROUTE_TOPO_SY else s.reg F.ROUTE_TOPO_SZ

/-- A coordinate's global position along a dimension; a coordinate is pod, x, y, z from byte 0 (07 R238). -/
def coordPos (co d : Nat) : Nat :=
  let p := bitsOf co 7 0
  if d = 0 then bitsOf co 15 8 + 4 * (p % 2)
  else if d = 1 then bitsOf co 23 16 + 4 * (p / 2 % 2)
  else bitsOf co 31 24 + 2 * (p / 4)

/-- The coordinate named by a SRC (10 R330): bytes e, x, y, z, p. -/
def srcCoord (src : Nat) : Nat := axis src 4 + axis src 1 * 2 ^ 8 + axis src 2 * 2 ^ 16 + axis src 3 * 2 ^ 24

/-- The device's own coordinate. -/
def State.coord (s : State) : Nat := s.reg F.ROUTE_TOPO_COORD

/-- Whether a dimension is a ring: a torus dimension of size 3 or more (11 R361). -/
def State.dimRing (s : State) (d : Nat) : Bool := decide (s.arr = 0) && decide (3 ≤ s.dimSize d)

/-- The direction set of a hop along a dimension (11 R367, R369): 2 d for +, 2 d + 1 for −. -/
def State.dirSet (s : State) (d own dst : Nat) : Nat :=
  let n := max (s.dimSize d) 1
  let delta := (dst + n - own % n) % n
  let plus := if s.dimRing d then decide (2 * delta ≤ n) else decide (dst > own)
  if plus then 2 * d else 2 * d + 1

/-- The set on which a cell for another device leaves (11 R367, R368). -/
def State.nextSet (s : State) (co : Nat) : Option Nat :=
  if s.arr = 2 then
    match s.reg F.ROUTE_TOPO_LEVEL with
    | 0 => some 0
    | 1 => if bitsOf co 7 0 = bitsOf s.coord 7 0 then
        some (1 + (bitsOf co 15 8 + 4 * bitsOf co 23 16 + 16 * bitsOf co 31 24)) else some 0
    | _ => some (1 + bitsOf co 7 0)
  else
    (([0, 1, 2] : List Nat).find? (fun d => decide (coordPos co d ≠ coordPos s.coord d))).map
      (fun d => s.dirSet d (coordPos s.coord d) (coordPos co d))

/-- The port bytes of a set in the active bank (11 R369). -/
def State.portSet (s : State) (i : Nat) : List Nat := tabGet [] s.bank.ports i

/-- The exit of a port byte (11 R370). -/
def exitOfByte (b : Nat) : Nat := b % 128 + (if b ≥ 128 then 512 else 0)

/-- The dimension to which the port set table binds a port, in a torus or mesh (11 R362, R371). -/
def State.portDim (s : State) (p : Nat) : Option Nat :=
  if s.arr = 2 then none
  else (([0, 1, 2, 3, 4, 5] : List Nat).find? (fun i => (s.portSet i).any (fun b => decide (b % 128 = p)))).map (· / 2)

/-- The port of local endpoint index e (11 R362). -/
def endpointPort (e : Nat) : Nat := 16 * (e / 8) + e % 8

/-- The lowest-numbered unfenced cluster of a die (11 R366). -/
def State.mcCluster (s : State) (d : Nat) : Option Nat :=
  ((List.range 32).map (fun j => 32 * d + j)).find? (fun c => !s.clFenced c)

/-! ### Unicast (11 R365, R366, R369) -/

/-- The entry of a route handle in the active bank. -/
def State.uni (s : State) (h : Nat) : Nat := tabGet 0 s.bank.unicast h

/-- A route handle is valid for an Acre and leads to this device (11 R366). -/
def State.uniHome (s : State) (acre h : Nat) : Bool :=
  (s.uni h).testBit 63 && decide (bitsOf (s.uni h) 61 52 = acre) && decide (bitsOf (s.uni h) 31 0 = s.coord)

/-- The exits to which a member of this device is delivered (11 R366). -/
def State.memberExit (s : State) (d m : Nat) : List Nat :=
  if m < 64 then [endpointPort m]
  else if m < 128 then [128 + (m - 64)]
  else if m = 255 then (match s.mcCluster d with | some c => [1152 + c] | none => [])
  else []

/-- The path set of a unicast handle, in table order; empty for a miss (11 R366 to R369). -/
def State.unicastPaths (s : State) (d acre h : Nat) : List Nat :=
  let e := s.uni h
  if !e.testBit 63 || decide (bitsOf e 61 52 ≠ acre) then []
  else if bitsOf e 31 0 = s.coord then s.memberExit d (bitsOf e 39 32)
  else match s.nextSet (bitsOf e 31 0) with
    | none => []
    | some i =>
      let set := (s.portSet i).map exitOfByte
      let path := bitsOf e 45 40
      if set.isEmpty then []
      else if path = 0x3F then set
      else if path < 32 then [set.getD (path % set.length) 0]
      else []

/-! ### Tally steering (04 R152) -/

/-- The active record that takes a tally cell's range and chunk, as 64 c + r. -/
def State.steer (s : State) (group seq lo hi chunk : Nat) : Option Nat :=
  s.activeRecs.find? (fun k =>
    let c := k / 64
    let r := k % 64
    decide (s.rGroup c r = group) && decide (s.rSeq c r = seq) && decide (s.rLo c r ≤ lo) && decide (hi ≤ s.rHi c r) &&
    decide (s.rNb c r ≠ 0) && decide (chunk % s.rNb c r = s.rK c r))

/-! ### Multicast (11 R372 to R374) -/

/-- Whether position `c` is covered by a set on a dimension (11 R373). -/
def State.lineCovers (s : State) (d lo len c : Nat) : Bool :=
  let n := max (s.dimSize d) 1
  if s.dimRing d then decide ((c + n - lo % n) % n < len) else decide (lo ≤ c) && decide (c < lo + len)

/-- Offset of a position within the covered interval. -/
def State.lineOff (s : State) (d lo c : Nat) : Nat :=
  let n := max (s.dimSize d) 1
  if s.dimRing d then (c + n - lo % n) % n else c - lo

/-- Whether the + copy of a source at `src` covers position `c` (11 R373). -/
def State.plusCovers (s : State) (d lo len src c : Nat) : Bool :=
  let n := max (s.dimSize d) 1
  if s.dimRing d && decide (len = n) then
    let o := (c + n - src % n) % n
    decide (1 ≤ o) && decide (o ≤ n / 2)
  else s.lineCovers d lo len c && decide (s.lineOff d lo src < s.lineOff d lo c)

/-- Whether the − copy covers position `c` (11 R373). -/
def State.minusCovers (s : State) (d lo len src c : Nat) : Bool :=
  let n := max (s.dimSize d) 1
  if s.dimRing d && decide (len = n) then
    let o := (c + n - src % n) % n
    decide (n / 2 < o)
  else s.lineCovers d lo len c && decide (s.lineOff d lo c < s.lineOff d lo src)

/-- The members of a set on this device, without the one that SRC names here (11 R373). -/
def State.setMembers (s : State) (d i src : Nat) : List Nat :=
  let m := tabGet 0 s.bank.sets (4 * i + 1) + tabGet 0 s.bank.sets (4 * i + 2) * 2 ^ 64
  let own := decide (srcCoord src = s.coord)
  ((List.range 128).filter (fun e => m.testBit e && !(own && decide (axis src 0 = e)))).flatMap (s.memberExit d)

/-- The exits of a multicast cell (11 R372 to R374): local members, and the next device in each direction the copy travels. A
copy that came in on a link of the set's dimension travels on in the same direction; `came` is that direction set. -/
def State.multicastExits (s : State) (d acre i src : Nat) (came : Option Nat) : List Nat :=
  let w := tabGet 0 s.bank.sets (4 * i)
  if !w.testBit 63 || decide (bitsOf w 61 52 ≠ acre) then []
  else
    let kind := bitsOf w 17 16
    if kind = 0 then s.setMembers d i src
    else if kind = 3 ∨ s.arr = 2 then []
    else
      let dm := kind - 1
      let lo := bitsOf w 7 0
      let len := bitsOf w 15 8
      let n := max (s.dimSize dm) 1
      let sp := coordPos (srcCoord src) dm
      let own := coordPos s.coord dm
      if !s.lineCovers dm lo len sp || (!s.dimRing dm && decide (lo + len > n)) then []
      else
        let first := fun (k : Nat) => ((s.portSet k).map exitOfByte).take 1
        let plus := if (came = none ∨ came = some (2 * dm)) ∧ s.plusCovers dm lo len sp ((own + 1) % n) then first (2 * dm) else []
        let minus := if (came = none ∨ came = some (2 * dm + 1)) ∧ s.minusCovers dm lo len sp ((own + n - 1) % n) then
          first (2 * dm + 1) else []
        s.setMembers d i src ++ plus ++ minus

/-- The source a multicast cell is judged by (11 R373): SRC of its data header; for another cell the device of the unit that sent it, this
one unless the cell came in on a device link. Then any device of the line gives the same answer, but for a set that goes round a whole ring:
there the sender is a free value (log entry 76). -/
def State.mcastSrc (s : State) (c : Cell) (came : Option Nat) : Nat :=
  let w := tabGet 0 s.bank.sets (4 * (cRoute c % 4096))
  let dm := bitsOf w 17 16 - 1
  if cType c = 0 ∨ cType c = 2 then dSrc c
  else if came.isSome && s.dimRing dm && decide (bitsOf w 15 8 = s.dimSize dm) then
    let co := (Config.sender c.hdr c.ext).toNat
    255 + bitsOf co 15 8 * 2 ^ 8 + bitsOf co 23 16 * 2 ^ 16 + bitsOf co 31 24 * 2 ^ 24 + bitsOf co 7 0 * 2 ^ 32
  else s.srcOf 255

/-! ### The lookup (10 R335, R346) -/

/-- A cell of an input point waits in the queue of an exit's output point and a VC (10 R344). -/
def inQueue (d inp e vc : Nat) (q : OpCell) : Bool :=
  decide (q.die = d) && decide (q.inp = inp) && q.outs.any (sameOut d e) && decide (cVc q.cell = vc)

/-- Cells of an input point queued for an exit's output point and VC (10 R344). -/
def State.queueLen (s : State) (d inp e vc : Nat) : Nat := (s.sw.voq.filter (inQueue d inp e vc)).length

/-- The path of fewest cells; a tie goes to the lowest point number (10 R346). -/
def State.sprayPick (s : State) (d inp vc : Nat) : List Nat → Option Nat
  | [] => none
  | e :: t =>
    match State.sprayPick s d inp vc t with
    | none => some e
    | some b =>
      let x := s.queueLen d inp e vc
      let y := s.queueLen d inp b vc
      if x < y ∨ (x = y ∧ exitPoint e ≤ exitPoint b) then some e else some b

/-- One path of a set (10 R346; 11 R369). -/
def State.pickPath (s : State) (d inp : Nat) (c : Cell) (set : List Nat) : List Nat :=
  if set.length ≤ 1 ∨ cScored c ∨ cType c ≠ 0 then set.take 1
  else if s.reg F.XBAR_CFG_SPRAY_FIXED = 1 then [set.getD (dCidx c % set.length) 0]
  else (s.sprayPick d inp (cVc c) set).toList

/-- The exits of a cell that stands at an input point of a die (10 R335); none for a miss. A TALLY cell of KIND 0 or 1 for this
device is steered by its record (04 R152; 11 R366); with no record to take it, it goes to the tally engines' check at once,
which `some []` says. -/
def State.lookup (s : State) (d inp : Nat) (c : Cell) (came : Option Nat) : Option (List Nat) :=
  if cMcast c then
    let l := s.multicastExits d (cAcre c) (cRoute c % 4096) (s.mcastSrc c came) came
    if l.isEmpty then none else some l
  else if cType c = 1 && decide (tKind c ≤ 1) && s.uniHome (cAcre c) (cRoute c) then
    match s.steer (tGroup c) (tSeq c) (tLo c) (tHi c) (tChunk c) with
    | some k => some [128 + k / 64]
    | none => some []
  else
    let set := s.unicastPaths d (cAcre c) (cRoute c)
    if set.isEmpty then none else some (s.pickPath d inp c set)

/-- The VC with which a cell leaves on a device link (11 R371): SC0 or OP0 in a mesh and a tree; in a torus that of a new dimension, of a
dateline, or its own. -/
def State.outVc (s : State) (c : Cell) (came : Option Nat) (e : Nat) : Nat :=
  let vc := cVc c
  if vc ≥ 4 ∨ s.nbrKind (exitPort e) ≠ 1 then vc
  else if s.arr ≠ 0 then vc / 2 * 2
  else match (([0, 1, 2, 3, 4, 5] : List Nat).find? (fun i => (s.portSet i).any (fun b => decide (exitOfByte b = e)))) with
    | none => vc
    | some k =>
      let dm := k / 2
      let v1 := if came = some dm then vc else vc / 2 * 2
      let own := coordPos s.coord dm
      let cross := s.dimRing dm && (if k % 2 = 0 then decide (own + 1 = s.dimSize dm) else decide (own = 0))
      if cross then vc / 2 * 2 + 1 else v1

end Sys2Proof.Machine
end

