-- ==== Sys2Proof/Machine/Switch.lean ====
section
/-!
DEFINITION. Machine/Switch.lean: the switch core: ingress, scored queues and the slot calendar, virtual output queues with
their matching, waiting credit and token buckets, spill, the resequencer, header mirroring (spec/10 R327 to R355; spec/12 R391
to R396; spec/11 R375, R379, R382, R386, R387; spec/14 R439).
-/
namespace Sys2Proof.Machine

/-! ### Header mirroring (10 R353 to R355) -/

/-- A mirror record (10 R353). -/
def State.mirrorRecord (s : State) (port : Nat) (egress : Bool) (age : Nat) (c : Cell) : List Byte :=
  leBytes 8 s.toll ++ leBytes 2 (port + if egress then 256 else 0) ++ leBytes 2 (if egress then min age 0xFFFF else 0) ++
    leBytes 4 0 ++ leBytes 16 c.hdr.toNat ++ leBytes 16 c.ext.toNat ++ leBytes 16 c.payload.toNat

/-- Records waiting in a die's mirror queue. -/
def State.mirrorDepth (s : State) (d : Nat) : Nat := (s.sw.mirq.filter (fun e => decide (e.1 = d))).length

/-- A cell passes the masks of the mirror unit (10 R354). -/
def State.mirrorMasks (s : State) (port : Nat) (egress : Bool) (c : Cell) : Bool :=
  decide (s.reg F.XBAR_MIR_CFG_EN = 1) &&
  (if port < 64 then s.reg F.XBAR_MIR_PORT_LO_PORTS else s.reg F.XBAR_MIR_PORT_HI_PORTS).testBit (port % 64) &&
  (s.reg F.XBAR_MIR_CFG_DIR).testBit (b2n egress) && decide (cVc c < 6) && (s.reg F.XBAR_MIR_CFG_VC_MASK).testBit (cVc c) &&
  decide (cType c < 4) && (s.reg F.XBAR_MIR_CFG_TYPE_MASK).testBit (cType c)

/-- A cell passes the mirror unit (10 R354, R355): the sample of its port and direction makes a record, unless the die's queue of
256 is full. -/
def State.mirror (s : State) (port : Nat) (egress : Bool) (age : Nat) (c : Cell) : State :=
  if s.mirrorMasks port egress c then
    let key := 2 * port + b2n egress
    let n := tabGet 0 s.sw.mirCount key
    let s1 := (s.putSw { s.sw with mirCount := tabSet 0 s.sw.mirCount key (n + 1) })
    if n % 2 ^ s.reg F.XBAR_MIR_CFG_SAMPLE_LOG2 = 0 then
      if s1.mirrorDepth (port / 64) < 256 ∧ s1.reg F.XBAR_MIR_STATUS_FULL = 0 then
        (s1.putSw { s1.sw with mirq := s1.sw.mirq ++ [(port / 64, s1.mirrorRecord port egress age c)] })
      else s1.count F.XBAR_MIR_DROP_MIR_DROP
    else s1
  else s

/-- A queued record leaves for the ring (10 R355): it stops when the ring is full and WRAP is clear. -/
def State.mirrorWrite (s : State) (d : Nat) : State :=
  match s.sw.mirq.find? (fun e => decide (e.1 = d)) with
  | none => s
  | some e =>
    let s1 := (s.putSw { s.sw with mirq := s.sw.mirq.erase e })
    let k := s1.reg F.XBAR_MIR_STATUS_WPTR
    let n := 2 ^ s1.reg F.XBAR_MIR_RING_SIZE_LOG2
    if s1.reg F.XBAR_MIR_STATUS_FULL = 1 then s1.count F.XBAR_MIR_DROP_MIR_DROP
    else
      let a := s1.reg F.XBAR_MIR_RING_BASE * 4096 + 64 * (k % n)
      let s2 := ((s1.poke a e.2).cleanse a 64).setReg F.XBAR_MIR_STATUS_WPTR (k + 1)
      if s2.reg F.XBAR_MIR_CFG_WRAP = 0 ∧ k + 1 ≥ n then s2.setReg F.XBAR_MIR_STATUS_FULL 1 else s2

/-- MIRROR_RECORD_WRITE (10 R353, R355). -/
def execMirrorRecordWrite (d : Bool) (s : State) : Host.Outcome State Fault Refusal := .next (s.mirrorWrite (b2n d))

/-- A write of XBAR_MIR_CFG (10 R354, R355, R358): EN from 0 to 1 restarts the sample counts, clears FULL and starts WPTR at 0. -/
def State.mirrorEn (s : State) (v : Nat) : State :=
  let was := s.reg F.XBAR_MIR_CFG_EN
  let s1 := (((((s.setReg F.XBAR_MIR_CFG_VC_MASK (bitsOf v 39 32)).setReg F.XBAR_MIR_CFG_TYPE_MASK (bitsOf v 31 24)).setReg
    F.XBAR_MIR_CFG_SAMPLE_LOG2 (bitsOf v 19 16)).setReg F.XBAR_MIR_CFG_DIR (bitsOf v 9 8)).setReg
    F.XBAR_MIR_CFG_WRAP (bitsOf v 1 1)).setReg F.XBAR_MIR_CFG_EN (bitsOf v 0 0)
  if was = 0 ∧ bitsOf v 0 0 = 1 then
    (((s1.putSw { s1.sw with mirCount := [] })).setReg F.XBAR_MIR_STATUS_FULL 0).setReg F.XBAR_MIR_STATUS_WPTR 0
  else s1

/-- MIRROR_EN_WRITE (10 R354, R355). -/
def execMirrorEnWrite (v : BitVec 64) (s : State) : Host.Outcome State Fault Refusal := .next (s.mirrorEn v.toNat)

/-! ### Links (11 R375; 14 R439) -/

/-- The credit index of an open VC: OP0, OP1, MGT, CTL (14 R435). -/
def credIdx (vc : Nat) : Nat := if vc = 2 then 0 else if vc = 3 then 1 else if vc = 5 then 2 else 3

/-- A cell takes the next slot of a link; it stays in the replay buffer until acknowledged, and leaves at once while fewer than
1,024 slots are unacknowledged (14 R438, R439). -/
def State.sendCell (s : State) (k : Nat) (c : Cell) : State :=
  if s.ready k then
    let l := s.link k
    let s1 := s.setLink k { l with lsend := (l.lsend + 1) % 2 ^ 32, replay := l.replay ++ [(l.lsend, c)] }
    if l.replay.length < 1024 then s1.emit (.cell k l.lsend c) else s1
  else s

/-- Bytes of spill a die uses (10 R349). -/
def State.spillUsed (s : State) (d : Nat) : Nat := 512 * (s.sw.voq.filter (fun q => decide (q.die = d) && q.spilled)).length

/-- Cells of a die's open pool: those of its virtual output queues on the die, and the inputs that a full park area holds there (04 R166; 10
R347 to R349). -/
def State.openPool (s : State) (d : Nat) : Nat :=
  (s.sw.voq.filter (fun q => decide (q.die = d) && !q.spilled)).length +
    (s.parked.filter (fun p => decide (p.die = d) && p.held)).length

/-- The spill path of a die moves a cell of 512 bytes in 16/25 CK, at 800 B/CK: whether one more move may start in this CK (10 R349). -/
def State.spillPath (s : State) (d : Nat) : Bool := decide (tabGet 0 s.sw.spillT d < 25 * (s.ck + 1))

/-- The spill path takes one move. -/
def State.useSpill (s : State) (d : Nat) : State :=
  s.putSw { s.sw with spillT := tabSet 0 s.sw.spillT d (max (tabGet 0 s.sw.spillT d) (25 * s.ck) + 16) }

/-- A die's spill area takes one more cell now: it has room, and the rate allows the write (10 R349). -/
def State.spillTakes (s : State) (d : Nat) : Bool := decide (s.spillUsed d + 512 ≤ s.spillBytes) && s.spillPath d

/-- Cells of the open pool that stand free for cells of the die's own units and of the other die: 163,840 less the 10,240 that its ports'
credit may bring and one cell time's crossings (10 R347; 11 R375; DESIGN CHOICE, log entry 79). -/
def poolShare : Nat := 163840 - 10240 - 45

/-- The open pool of a die takes a cell that came in on no port; CTL is not held back (10 R349). -/
def State.poolTakes (s : State) (d vc : Nat) : Bool := decide (vc = 4) || decide (s.openPool d < poolShare)

/-- Whether a die withholds OP0, OP1 and MGT credit (10 R349): from 75 % on while its spill area does not take a cell, and while only the
reserve of its ports is left (DESIGN CHOICE, log entry 79). -/
def State.withhold (s : State) (d : Nat) : Bool :=
  (decide (122880 ≤ s.openPool d) && !s.spillTakes d) || decide (163840 - 10240 ≤ s.openPool d)

/-- Credit that a link owes is returned in one CREDIT block (11 R375; 14 R435). -/
def State.payCredit (s : State) (k : Nat) : State :=
  let o := (s.link k).owed
  let held := s.withhold (k / 128)
  let now := (List.range 4).map (fun i => if held && decide (i ≠ 3) then 0 else o.getD i 0)
  if now.all (· = 0) then s
  else
    let left := (List.range 4).map (fun i => o.getD i 0 - now.getD i 0)
    let body := creditBody (now.getD 0 0) (now.getD 1 0) (now.getD 2 0) (now.getD 3 0)
    (s.setLink k { s.link k with owed := left }).sendBlock k tyCredit body

/-- Credit that was withheld is returned on every link, as far as it may be (10 R349; 11 R375). -/
def State.payAll (s : State) : State :=
  foldKeys ((s.links.filter (fun e => e.2.owed.any (fun n => decide (n ≠ 0)))).map (·.1)) State.payCredit s

/-- One credit of a VC owed to the peer of a link, and returned (11 R375). -/
def State.returnCredit (s : State) (k vc : Nat) : State :=
  let l := s.link k
  (s.setLink k { l with owed := l.owed.modify (credIdx vc) (· + 1) }).payCredit k

/-! ### Words of the packet buffer (13 R419 to R421) -/

/-- A cell is written to the packet buffer of die `d`: a word of it takes injected bad bits, one or two (17 R532). -/
def State.bufferHit (s : State) (d : Nat) (c : Cell) : State :=
  if (s.hitMode 0x0205 3 d).isSome then
    let s1 := s.takeHit 0x0205 3 d
    s1.putSw { s1.sw with bad := s1.sw.bad ++ [(c, false)] }
  else if (s.hitMode 0x0204 3 d).isSome then
    let s1 := s.takeHit 0x0204 3 d
    s1.putSw { s1.sw with bad := s1.sw.bad ++ [(c, true)] }
  else s

/-- The switch core reads a buffered cell of die `d` (13 R420, R421): a bad bit is corrected and reported; a cell with a poisoned word is
discarded, as on a checksum failure (04 R145). Answers whether the cell is good. -/
def State.readBuffer (s : State) (d : Nat) (c : Cell) : Bool × State :=
  match s.sw.bad.find? (fun b => decide (b.1 = c)) with
  | none => (true, s)
  | some b =>
    let s1 := s.putSw { s.sw with bad := s.sw.bad.erase b }
    if b.2 then (true, s1.tellOnce 0x0204 3 d 1 none)
    else (false, ((s1.detect 0x0205 3 d 1 none).err 1).endBad c none)

/-! ### Queues -/

/-- Cells in a scored queue (10 R339). -/
def State.scoredLen (s : State) (d inp : Nat) : Nat :=
  (s.sw.scored.filter (fun q => decide (q.die = d) && decide (q.inp = inp))).length

/-- The ADDR of a cell's fault message: the point and ROUTE (17 R505). -/
def cellAddr (point : Nat) (c : Cell) : Option Nat := some (point + cRoute c * 256)

/-- A scored cell joins its input point's queue (10 R339, R340): the Beat test applies to the device's own Acre (11 R387). -/
def State.queueScored (s : State) (d inp : Nat) (c : Cell) (outs : List Nat) (came : Option Nat) (born : Nat) : State :=
  let mine := s.ownAcre (cAcre c)
  if mine && decide (cBeat c ≠ s.beat) && decide (cBeat c + 1 ≠ s.beat) then s.count F.XBAR_DROP_A_SC_STALE
  else if s.scoredLen d inp ≥ 16 then
    let s1 := s.count F.XBAR_DROP_A_SC_DROP
    if mine then s1.detect 0x0803 3 d 4 (cellAddr inp c) else s1.tell 0x0803 1 3 d 4 (cellAddr inp c)
  else
    let s1 := s.bufferHit d c
    s1.putSw { s1.sw with scored := s1.sw.scored ++ [⟨d, inp, c, outs, came, s1.sw.time, born⟩] }

/-- Cells of the queues of some exits and a VC that lie on the die, of a list. -/
def onDie (d inp e vc : Nat) (l : List OpCell) : Nat := (l.filter (fun q => inQueue d inp e vc q && !q.spilled)).length

/-- An open cell is written to spill: its queue holds 64 cells on the die, the pool holds 122,880, and the spill area takes it (10 R348,
R349). -/
def State.spills (s : State) (d inp : Nat) (c : Cell) (outs : List Nat) : Bool :=
  outs.any (fun e => decide (64 ≤ onDie d inp e (cVc c) s.sw.voq)) && decide (122880 ≤ s.openPool d) && s.spillTakes d

/-- An open cell joins its virtual output queues, on the die or in spill (10 R344, R345, R348). -/
def State.queueOpen (s : State) (d inp : Nat) (c : Cell) (outs : List Nat) (came : Option Nat) (born : Nat) : State :=
  let sp := s.spills d inp c outs
  let s1 := (if sp then s.useSpill d else s).bufferHit d c
  s1.putSw { s1.sw with voq := s1.sw.voq ++ [⟨d, inp, c, outs, came, sp, born⟩] }

/-- A cell enters the crossbar at an input point (10 R335). -/
def State.enter (s : State) (d inp : Nat) (c : Cell) (outs : List Nat) (came : Option Nat) (born : Nat) : State :=
  if outs.isEmpty then (s.putDelivered (s.delivered ++ [c]))
  else if cScored c then s.queueScored d inp c outs came born
  else s.queueOpen d inp c outs came born

/-- A cell is looked up where it stands and enters the crossbar, or is counted as a miss (11 R366; 10 R335). -/
def State.forward (s : State) (d inp : Nat) (c : Cell) (came : Option Nat) : State :=
  match s.lookup d inp c came with
  | none => s.count F.ROUTE_DROPS_ROUTE_MISS
  | some outs => s.enter d inp c outs came s.sw.time

/-- GEN of an Acre (11 R379). -/
def State.genOf (s : State) (a : Nat) : Nat := tabGet 0 s.route.gen a

/-- A cell with its GEN stamped (11 R379). -/
def State.stampGen (s : State) (c : Cell) : Cell :=
  { c with hdr := BitVec.ofNat 128 (c.hdr.toNat - cGen c * 2 ^ 50 + s.genOf (cAcre c) * 2 ^ 50) }

/-- The device is DRAINING for an Acre (11 R380). -/
def State.draining (s : State) (a : Nat) : Bool :=
  decide (s.reg F.ROUTE_BANK_STATE = 2) && decide (s.reg F.ROUTE_BANK_PREP_ACRE = a)

/-- A cell at a cluster point enters, at most one in a cell time (10 R334), once the open pool takes it (R347); else it waits there. -/
def State.crossIn (s : State) (e : Nat × Nat × Cell) : State :=
  if (e.1, e.2.1) ∈ s.sw.took ∨ s.sw.entry.any (fun w => decide (w.1 = e.1) && decide (w.2.1 = e.2.1)) ∨
      !(cScored e.2.2 || s.poolTakes e.1 (cVc e.2.2)) then s.putSw { s.sw with entry := s.sw.entry ++ [e] }
  else (s.putSw { s.sw with took := s.sw.took ++ [(e.1, e.2.1)] }).forward e.1 e.2.1 e.2.2 none

/-- A cell time begins: the cells that wait at cluster points enter, one at each, in order (10 R334). -/
def State.entryOn (s : State) : State := s.sw.entry.foldl State.crossIn (s.putSw { s.sw with entry := [], took := [] })

/-- A cell that a unit of cluster `c` creates comes to its cluster point, its GEN stamped (10 R334; 11 R379); while the device drains its Acre
the unit does not start it (11 R380). -/
def State.inject (s : State) (c : Nat) (x : Cell) : State :=
  if s.draining (cAcre x) then (s.putRoute { s.route with back := s.route.back ++ [(c, x)] })
  else s.crossIn (c / 32, 64 + c % 32, s.stampGen x)

/-- Units resume: the cells they held back start (11 R380, R384). -/
def State.release (s : State) : State :=
  s.route.back.foldl (fun t e => t.inject e.1 e.2) (s.putRoute { s.route with back := [] })

/-! ### Ingress at a port (10 R329, R335; 11 R379, R382, R386, R387) -/

/-- A drain marker: a CONTROL cell of CTYPE 3 (11 R381). -/
def isMarker (c : Cell) : Bool := decide (cType c = 3) && decide (kType c = 3)

/-- The travel direction of a cell that came in on port p: away from the neighbour there (11 R373). -/
def State.travel (s : State) (p : Nat) : Option Nat :=
  if s.arr = 2 then none
  else (([0, 1, 2, 3, 4, 5] : List Nat).find? (fun i => (s.portSet i).any (fun b => decide (b % 128 = p)))).map
    (fun i => if i % 2 = 0 then i + 1 else i - 1)

/-- Counters of cells on device links; drain markers are not counted (11 R382). -/
def State.countRx (s : State) (p : Nat) (c : Cell) : State :=
  if s.nbrKind p = 1 && !isMarker c then
    (s.putRoute { s.route with rxc := tabMod 0 s.route.rxc (cAcre c) (fun n => (n + 1) % 2 ^ 39) })
  else s

/-- As `countRx`, for a cell sent. -/
def State.countTx (s : State) (p : Nat) (c : Cell) : State :=
  if s.nbrKind p = 1 && !isMarker c then
    (s.putRoute { s.route with txc := tabMod 0 s.route.txc (cAcre c) (fun n => (n + 1) % 2 ^ 39) })
  else s

/-- A port of the Gong tree (02 R69, R81): drain markers pass on it whatever its Acre is (11 R380 to R382; log entry 24). -/
def State.treePort (s : State) (p : Nat) : Bool := decide (p ∈ s.childPorts) || (!s.isRoot && decide (p = s.parentPort))

/-- A cell whose header is good stands at port p (11 R379, R386, R387): the Acre tests, the generation, then the lookup. A drain
marker is handed to the routing unit, a cell with a tally field no record takes to the tally check. -/
def State.letIn (s : State) (p k : Nat) (c : Cell) : State :=
  let w := s.portRec p
  let ep := decide (s.nbrKind p = 2)
  let own := portTagV w && decide (portTag w = cAcre c)
  let granted := !ep && portGrants w (cAcre c)
  if isMarker c && s.treePort p then ((s.returnCredit k (cVc c)).putDelivered (s.delivered ++ [c]))
  else if !portTagV w || (!own && !granted) then s.count F.ROUTE_DROPS_ACRE_DROP
  else if isMarker c then ((s.returnCredit k (cVc c)).putDelivered (s.delivered ++ [c]))
  else if !own && !(decide (cVc c ≤ 1) || decide (cVc c = 4)) then s.count F.ROUTE_DROPS_TRANSIT_OPEN
  else if !ep && decide (cGen c ≠ s.genOf (cAcre c)) then s.count F.ROUTE_DROPS_GEN_STALE
  else
    let c1 := if ep then s.stampGen c else c
    let s1 := if cScored c then s else s.returnCredit k (cVc c)
    s1.forward (p / 64) (p % 64) c1 (if ep then none else s.travel p)

/-- An empty slot: bytes 0 to 15 are all ones (14 R430). -/
def slotEmpty (c : Cell) : Bool := decide (c.hdr = BitVec.allOnes 128)

/-- An idle slot: bytes 0 to 31 are all ones (14 R430). It takes no LSEQ (R438). -/
def slotIdle (c : Cell) : Bool := slotEmpty c && decide (c.ext = BitVec.allOnes 128)

/-- A slot of link k (10 R329; 14 R430, R438): an idle one is removed; it is taken when it is not below LNEXT and nothing is being discarded;
an empty one only takes its number. -/
def State.ingress (s : State) (k lseq : Nat) (c : Cell) : State :=
  let l := s.link k
  if !s.ready k || l.discard || slotIdle c || decide ((lseq + 2 ^ 32 - l.lnext) % 2 ^ 32 ≥ 2 ^ 31) then s
  else
    let s1 := (s.setLink k { l with lnext := (lseq + 1) % 2 ^ 32 }).sendAck k
    if slotEmpty c then s1
    else
      let s2 := s1.mirror (k / 2) false 0 c
      if hdrGood c then (s2.countRx (k / 2) c).letIn (k / 2) k c else s2.count F.XBAR_DROP_A_HDR_BAD

/-- CELL_INGRESS (07 R250; 10 R328, R329, R335, R340, R346, R348, R349, R354, R355; 11 R366 to R369, R372 to R374, R379, R386,
R387; 14 R430, R456; 16 R501; 17 R508, R509). -/
def execCellIngress (k : Fin 256) (lseq : SlotNo) (cell : Cell) (s : State) : Host.Outcome State Fault Refusal :=
  .next ((s.fecFixed k lseq.csym.toNat).ingress k.val lseq.lseq.toNat cell)

/-! ### Resequencing (10 R350, R351) -/

/-- RESEQ_TO in force: 0 is treated as 1 (10 R358). -/
def State.reseqTo (s : State) : Nat := max (s.reg F.XBAR_CFG_RESEQ_TO) 1

/-- Whether a context is the flow of a cell that leaves by an exit. -/
def reseqIs (d out : Nat) (c : Cell) (x : Reseq) : Bool :=
  decide (x.die = d) && decide (x.out = out) && decide (x.src = dSrc c) && decide (x.route = cRoute c) && decide (x.msg = dMsg c)

/-- Cells held on a die. -/
def State.reseqHeld (s : State) (d : Nat) : Nat := ((s.sw.reseq.filter (fun x => decide (x.die = d))).map (fun x => x.held.length)).sum

/-- The cells of a context that now follow without a gap, each with the cell time it entered the device, and what stays (10 R350), with
fuel. -/
def reseqRun : Nat → Reseq → List (Nat × Cell) × Reseq × Bool
  | 0, x => ([], x, false)
  | n + 1, x =>
    match x.held.find? (fun h => decide (h.1 = x.next)) with
    | none => ([], x, false)
    | some h =>
      let r := reseqRun n { x with next := x.next + 1, held := x.held.filter (fun g => decide (g.1 ≠ x.next)) }
      (h.2.2 :: r.1, r.2.1, r.2.2 || cLast h.2.2.2)

/-- The contexts with one replaced, or freed. -/
def State.putReseq (s : State) (d out : Nat) (c : Cell) (x : Option Reseq) : State :=
  let rest := s.sw.reseq.filter (fun y => !reseqIs d out c y)
  (s.putSw { s.sw with reseq := match x with | some y => rest ++ [y] | none => rest })

/-- An open DATA cell at its delivering point (10 R350, R351): the cells delivered now, in order, each with the cell time it entered the
device. -/
def State.resequence (s : State) (d out born : Nat) (c : Cell) : List (Nat × Cell) × State :=
  match s.sw.reseq.find? (reseqIs d out c) with
  | some x =>
    if dCidx c < x.next then ([], s.count F.XBAR_DROP_B_RESEQ_LATE)
    else if dCidx c = x.next then
      let r := reseqRun x.held.length { x with next := x.next + 1, last := s.sw.time }
      ((born, c) :: r.1, s.putReseq d out c (if r.2.2 || cLast c then none else some r.2.1))
    else if s.reseqHeld d ≥ 8192 then ([], s.count F.XBAR_DROP_B_RESEQ_FULL)
    else ([], s.putReseq d out c (some { x with held := x.held ++ [(dCidx c, s.sw.time, born, c)], last := s.sw.time }))
  | none =>
    if dCidx c = 0 ∧ cLast c then ([(born, c)], s)
    else if (s.sw.reseq.filter (fun x => decide (x.die = d))).length ≥ 1024 then ([], s.count F.XBAR_DROP_B_RESEQ_FULL)
    else if dCidx c = 0 then ([(born, c)], s.putReseq d out c (some ⟨d, out, dSrc c, cRoute c, dMsg c, 1, [], s.sw.time⟩))
    else if s.reseqHeld d ≥ 8192 then ([], s.count F.XBAR_DROP_B_RESEQ_FULL)
    else ([], s.putReseq d out c (some ⟨d, out, dSrc c, cRoute c, dMsg c, 0, [(dCidx c, s.sw.time, born, c)], s.sw.time⟩))

/-! ### Egress and delivery (10 R331, R350, R353; 18 R548, R551, R559) -/

/-- A cell sent on a port (10 R354; 11 R371, R382): TXC counts what is sent on a link that is READY. -/
def State.toPort (s : State) (e born : Nat) (came : Option Nat) (c : Cell) : State :=
  let p := exitPort e
  let c1 := withVc c (s.outVc c (came.map (· / 2)) e)
  let k := exitLink e
  let s1 := s.mirror p true (s.sw.time - born) c1
  let s2 := if s1.ready k then s1.countTx p c1 else s1
  let s3 := if cScored c1 then s2 else
    let l := s2.link k
    s2.setLink k { l with credit := l.credit.modify (credIdx (cVc c1)) (· - 1) }
  s3.sendCell k c1

/-- The list area of a loaded Score, closed to a cell's write (07 R243), or space that no cluster point reaches (10 R334). -/
def State.cellShut (s : State) (a n : Nat) : Bool := (span a n).any (fun x => s.inListArea x || decide (chimeBase ≤ x))

/-- The payload of a DATA cell reaches memory (06 R229; 07 R250; 10 R334; 13 R409, R421), at a place that the header does not carry and is free,
stored or added (log entry 52). A write that is closed to a cell is discarded and reported, and so is one that would cover a poisoned word
in part. -/
def State.cellWrite (s : State) (d point : Nat) (c : Cell) : State :=
  let a := (Config.cellPlace c.hdr c.ext).toNat
  let add := Config.cellAdd c.hdr c.ext
  let n := if add.isSome then cLen c / 4 * 4 else cLen c
  let l := (cPay c).take n
  if n = 0 then s
  else if !s.openWrite .cell a n || s.cellShut a n then s.detect 0x0207 3 d 4 (cellAddr point c)
  else match (if add.isSome then s.poisonRead a n else s.poisonWrite a n) with
    | some x => s.meetPoison (readerCode .cell) x 2
    | none =>
      match add with
      | some f =>
        let p := aaddBytes f.toNat s.draws l (s.bytes a n)
        ((s.correct a n).putDraws (s.draws + n / 4)).writeMem (cBeat c) a p.1
      | none => s.writeMem (cBeat c) a l

/-- A DATA cell at a cluster point (04 R145; 10 R331, R334; 18 R551, R559; 17 R532): PCRC, then the epoch; a cell for the memory controllers
waits for them, any other has reached its cluster, whose point feeds memory. -/
def State.toCluster2 (s : State) (d e : Nat) (c : Cell) : State :=
  let at_ := cellAddr (exitPoint e) c
  let cl := some ((e - 128) % 1024)
  if (s.hitMode 0x0802 3 d).isSome then
    (((s.takeHit 0x0802 3 d).count F.XBAR_DROP_A_PCRC_BAD).detectHit 0x0802 3 d 4 at_ 0 0 0).endBad c cl
  else if !pcrcGood c then ((s.count F.XBAR_DROP_A_PCRC_BAD).detect 0x0802 3 d 4 at_).endBad c cl
  else if e ≥ 1152 then (s.putDelivered (s.delivered ++ [c]))
  else if !cScored c && decide (dEpoch c ≠ 0) && decide (dEpoch c ≠ s.reg F.CKPT_EPOCH_EPOCH) then
    s.count F.CKPT_COUNTS_EPOCH_STALE
  else (s.cellWrite d (exitPoint e) c).emit (.done (e - 128) c)

/-- A cell of a flow that is delivered in order: to an endpoint port or to a cluster point. -/
def State.deliverOne (s : State) (e born : Nat) (came : Option Nat) (c : Cell) : State :=
  if exitIsPort e then s.toPort e born came c else s.toCluster2 (exitDie e) e c

/-- A cell at the point that delivers it: to a device link as it is; open DATA in order (10 R350); TALLY, RIDE and CONTROL cells
wait for the unit that takes them. -/
def State.deliver (s : State) (e born : Nat) (came : Option Nat) (c : Cell) : State :=
  let d := exitDie e
  if exitIsPort e && decide (s.nbrKind (exitPort e) ≠ 2) then s.toPort e born came c
  else
    let r := if cType c = 0 && !cScored c then s.resequence d e born c else ([(born, c)], s)
    r.1.foldl (fun t x =>
      if exitIsPort e || decide (cType x.2 = 0) then t.deliverOne e x.1 came x.2
      else (t.putDelivered (t.delivered ++ [x.2]))) r.2

/-! ### The slot calendar (10 R336, R337, R339) -/

/-- What an unlisted calendar entry reads as: PER 15, unused (10 R336; log entry 3). -/
def calNone : Nat := 0xF0000000

/-- The reservations of a die in force at cell time n of the Beat, as (IN, OUT) (10 R337): none with no Score running. -/
def State.reservations (s : State) (d n : Nat) : List (Nat × Nat) :=
  let pages := if !s.running then 0 else if d = 0 then s.reg F.CAL_PHASE_PAGES_D0 else s.reg F.CAL_PHASE_PAGES_D1
  s.score.calendar.filterMap (fun e =>
    let pg := e.1 / 4096
    let per := bitsOf e.2 31 28
    if decide (pg / 16 = d) && pages.testBit (pg % 16) && decide (per ≤ 12) && decide (n % 4096 % 2 ^ per = bitsOf e.2 11 0) then
      some (bitsOf e.2 19 12, bitsOf e.2 27 20)
    else none)

/-- Whether an exit is served at an output point of die d: its own point, or a crossing lane for the other die (10 R334). -/
def exitAt (d out e : Nat) : Bool := if exitDie e = d then decide (exitPoint e = out) else decide (96 ≤ out)

/-- The cell a reservation takes (10 R339): the oldest in IN's queue by the start of the cell time before that has OUT among its
output points. -/
def State.reserved (s : State) (d : Nat) (r : Nat × Nat) : Option ScCell :=
  s.sw.scored.find? (fun q => decide (q.die = d) && decide (q.inp = r.1) && decide (q.since < s.sw.time) &&
    q.outs.any (exitAt d r.2))

/-- The first cell of a list equal to `q` replaced or removed. -/
def swapScored (q : ScCell) (n : Option ScCell) : List ScCell → List ScCell
  | [] => []
  | x :: t => if x = q then n.toList ++ t else x :: swapScored q n t

/-- A reservation carries its scored cell across (10 R339), unless a word of it is poisoned (13 R421). -/
def State.carryScored (s0 : State) (d : Nat) (r : Nat × Nat) (q : ScCell) : State :=
  let p := s0.readBuffer d q.cell
  let s := p.2
  let now := q.outs.filter (exitAt d r.2)
  let left := q.outs.filter (fun e => !exitAt d r.2 e)
  let rest := if left.isEmpty || !p.1 then none else some { q with outs := left }
  let s1 := (s.putSw { s.sw with scored := swapScored q rest s.sw.scored })
  let s2 := s1.count F.CAL_COUNTS_USED
  if !p.1 then s2
  else if r.2 < 96 then foldKeys now (fun t e => t.deliver e q.born q.came q.cell) s2
  else s2.queueScored (1 - d) r.2 q.cell now q.came q.born

/-- Every reservation of a die at this cell time (10 R339, R342): the points it uses, where it carried a cell. -/
def State.runReservations (s : State) (d : Nat) : List (Nat × Nat) × State :=
  (s.reservations d (s.sw.time - s.sw.base)).foldl (fun (p : List (Nat × Nat) × State) r =>
    match p.2.reserved d r with
    | some q => (p.1 ++ [r], p.2.carryScored d r q)
    | none => (p.1, p.2.count F.CAL_COUNTS_IDLE)) ([], s)

/-! ### Shapers (12 R391 to R396) -/

/-- The class of an open cell: 1 STORAGE, 2 CHECKPOINT, 0 none (12 R392). -/
def State.shapeClass (s : State) (c : Cell) : Nat :=
  let h := cRoute c
  if cMcast c ∨ ¬ (cVc c = 2 ∨ cVc c = 3) then 0
  else if s.reg F.SHAPE_CLASS_STOR_LO ≤ h ∧ h ≤ s.reg F.SHAPE_CLASS_STOR_HI then 1
  else if s.reg F.SHAPE_CLASS_CKPT_LO ≤ h ∧ h ≤ s.reg F.SHAPE_CLASS_CKPT_HI then 2
  else 0

/-- The key of a queue toward a port in the credit table (10 R344; 12 R393). -/
def voqKey (inp port vc : Nat) : Nat := (inp * 128 + port) * 8 + vc

/-- Tokens of a bucket: kind 1 STORAGE, 2 CHECKPOINT, 3 MANAGEMENT. -/
def State.tokens (s : State) (kind p : Nat) : Nat := tabGet 0 s.sw.tokens (128 * kind + p)

/-- RATE of a bucket. -/
def State.rate (s : State) (kind p : Nat) : Nat :=
  if kind = 1 then s.reg F.SHAPE_STOR_RATE p else if kind = 2 then s.reg F.SHAPE_CKPT_RATE p else s.reg F.SHAPE_MGT_RATE p
/-- BURST of a bucket in 1/65,536 cell; 0 is treated as 1 (12 R406). -/
def State.burst (s : State) (kind p : Nat) : Nat :=
  65536 * max (if kind = 1 then s.reg F.SHAPE_STOR_BURST p else if kind = 2 then s.reg F.SHAPE_CKPT_BURST p
    else s.reg F.SHAPE_MGT_BURST p) 1

/-- A shaper write takes effect (12 R396): kind 0 SHAPE_PORTn, 1 to 3 the buckets. -/
def State.applyShaper (s : State) (w : Nat × Nat × Nat) : State :=
  let n := w.2.1
  let v := w.2.2
  let rate := min (bitsOf v 16 0) 65536
  let burst := max (bitsOf v 43 32) 1
  match w.1 with
  | 0 =>
    let s1 := ((s.setReg F.SHAPE_PORT_CMAX (bitsOf v 39 28) n).setReg F.SHAPE_PORT_FALL (bitsOf v 23 12) n).setReg
      F.SHAPE_PORT_RISE (bitsOf v 11 0) n
    (s1.putSw { s1.sw with credit := s1.sw.credit.filterMap (fun e =>
        let c := if e.1 / 8 % 128 = n then min e.2 ((bitsOf v 39 28 : Nat) : Int) else e.2
        if c = 0 then none else some (e.1, c)) })
  | k + 1 =>
    let s1 := match k with
      | 0 => (s.setReg F.SHAPE_STOR_RATE rate n).setReg F.SHAPE_STOR_BURST burst n
      | 1 => (s.setReg F.SHAPE_CKPT_RATE rate n).setReg F.SHAPE_CKPT_BURST burst n
      | _ => (s.setReg F.SHAPE_MGT_RATE rate n).setReg F.SHAPE_MGT_BURST burst n
    (s1.putSw { s1.sw with tokens := tabSet 0 s1.sw.tokens (128 * (k + 1) + n) (min (s1.tokens (k + 1) n) (burst * 65536)) })

/-- SHAPER_CONFIG_WRITE (12 R396, R406): the write waits for the next cell time. -/
def execShaperConfigWrite (kind : BitVec 2) (n : Fin 128) (v : BitVec 64) (s : State) : Host.Outcome State Fault Refusal :=
  .next (s.putSw { s.sw with shapers := s.sw.shapers ++ [(kind.toNat, n.val, v.toNat)] })

/-- The queues of OP0 and OP1 toward port points that hold a cell. -/
def State.waitingKeys (s : State) : List Nat :=
  s.sw.voq.foldl (fun a q =>
    if cVc q.cell = 2 ∨ cVc q.cell = 3 then
      q.outs.foldl (fun b e => if exitIsPort e && decide (exitDie e = q.die) then keyAdd b (voqKey q.inp (exitPort e) (cVc q.cell)) else b) a
    else a) []

/-- Waiting credit for the cell time before (12 R393). -/
def State.updateCredit (s : State) : State :=
  let wait := s.waitingKeys
  let keys := s.sw.crossed.foldl keyAdd (wait.foldl keyAdd (s.sw.credit.map (·.1)))
  let upd := keys.filterMap (fun k =>
    let p := k / 8 % 128
    let c := tabGet 0 s.sw.credit k
    let rise := (s.reg F.SHAPE_PORT_RISE p : Int)
    let n := if k ∈ s.sw.crossed then c - s.reg F.SHAPE_PORT_FALL p
      else if k ∈ wait then min (c + rise) (s.reg F.SHAPE_PORT_CMAX p)
      else min (c + rise) 0
    if n = 0 then none else some (k, n))
  (s.putSw { s.sw with credit := upd, crossed := [] })

/-- Token accrual (12 R394). -/
def State.accrue (s : State) : State :=
  let upd := (span 128 384).filterMap (fun k =>
    let t := min (tabGet 0 s.sw.tokens k + s.rate (k / 128) (k % 128)) (s.burst (k / 128) (k % 128))
    if t = 0 then none else some (k, t))
  (s.putSw { s.sw with tokens := upd })

/-- A control cell waits while the queue of the Chime unit that it is for is full, and holds back CTL behind it (02 R107). -/
def State.chimeHolds (s : State) (c : Cell) : Bool :=
  decide (cType c = 3) && (decide (kType c = 1) || decide (kType c = 2)) && s.chimeFull (chimeDie (kChime c))

/-- Whether every shaper and the link permit a cell at the head of its queue (12 R391; 10 R343, R347; 11 R375; 14 R439; 02 R107). -/
def State.permits (s : State) (q : OpCell) (e : Nat) : Bool :=
  if exitDie e ≠ q.die then s.poolTakes (1 - q.die) (cVc q.cell)
  else if !exitIsPort e then !s.chimeHolds q.cell
  else
    let p := exitPort e
    let vc := cVc q.cell
    let k := exitLink e
    let out := s.outVc q.cell (q.came.map (· / 2)) e
    let link := s.ready k && decide (0 < (s.link k).credit.getD (credIdx out) 0) && decide ((s.link k).replay.length < 1024)
    if vc = 4 then link
    else if vc = 5 then link && decide (65536 ≤ s.tokens 3 p)
    else
      let cls := s.shapeClass q.cell
      link && decide (0 ≤ tabGet (0 : Int) s.sw.credit (voqKey q.inp p vc)) && (decide (cls = 0) || decide (65536 ≤ s.tokens cls p))

/-! ### Open matching (10 R342 to R345) -/

/-- The rank of a VC in a grant: CTL, MGT, then OP0 and OP1 (10 R343). -/
def vcRank (vc : Nat) : Nat := if vc = 4 then 0 else if vc = 5 then 1 else 2

/-- The output points of an open cell's exit on its die: its point, or the crossing lanes; CTL cells use lane 44 only (10 R344). -/
def exitPoints (d : Nat) (c : Cell) (e : Nat) : List Nat :=
  if exitDie e = d then [exitPoint e] else if cVc c = 4 then [140] else span 96 45

/-- A request: input, output, rank, the cell, the exit. -/
structure Req where
  inp : Nat
  out : Nat
  rank : Nat
  cell : OpCell
  exit : Nat

/-- Whether a cell is at the head of its queue for an exit: no earlier cell waits there for the exit's output point on its VC, on the die or in
spill (10 R344, R348). -/
def headOf (voq : List OpCell) (q : OpCell) (e : Nat) : Bool :=
  match voq.find? (inQueue q.die q.inp e (cVc q.cell)) with
  | some x => decide (x = q)
  | none => false

/-- Every request of an iteration on a die (10 R343). -/
def State.requests (s : State) (d : Nat) (busyIn busyOut : List Nat) : List Req :=
  s.sw.voq.flatMap (fun q =>
    if decide (q.die = d) && !q.spilled && decide (q.inp ∉ busyIn) then
      q.outs.flatMap (fun e =>
        if headOf s.sw.voq q e && s.permits q e then
          ((exitPoints d q.cell e).filter (fun o => decide (o ∉ busyOut))).map (fun o => ⟨q.inp, o, vcRank (cVc q.cell), q, e⟩)
        else [])
    else [])

/-- The better of two requests, lower rank first, then nearer at or after a pointer; the earlier request on a tie. -/
def better (key : Req → Nat) (ptr : Nat) (a b : Req) : Req :=
  let da := (key a + 141 - ptr) % 141
  let db := (key b + 141 - ptr) % 141
  if b.rank < a.rank ∨ (b.rank = a.rank ∧ db < da) then b else a

/-- The best of a list of requests. -/
def bestReq (key : Req → Nat) (ptr : Nat) : List Req → Option Req
  | [] => none
  | r :: t => some (t.foldl (better key ptr) r)

/-- Distinct values in rising order. -/
def distinct (l : List Nat) : List Nat := l.foldl keyAdd []

/-- The matches of one iteration (10 R343): each output grants one request, each input accepts one grant. -/
def State.iterate (s : State) (d : Nat) (busyIn busyOut : List Nat) : List Req :=
  let rs := s.requests d busyIn busyOut
  let grants := (distinct (rs.map (·.out))).filterMap (fun o =>
    bestReq (·.inp) (tabGet 0 s.sw.grant (141 * d + o)) (rs.filter (fun r => decide (r.out = o))))
  (distinct (grants.map (·.inp))).filterMap (fun i =>
    bestReq (·.out) (tabGet 0 s.sw.accept (141 * d + i)) (grants.filter (fun r => decide (r.inp = i))))

/-- The pointers move after the first iteration (10 R343). -/
def State.movePointers (s : State) (d : Nat) (ms : List Req) : State :=
  ms.foldl (fun t r => (t.putSw { t.sw with
    grant := tabSet 0 t.sw.grant (141 * d + r.out) ((r.inp + 1) % 141)
    accept := tabSet 0 t.sw.accept (141 * d + r.inp) ((r.out + 1) % 141) })) s

/-- Tokens fall at accept (12 R394). -/
def State.payTokens (s : State) (d : Nat) (ms : List Req) : State :=
  ms.foldl (fun t r =>
    if exitDie r.exit = d && exitIsPort r.exit then
      let kind := if cVc r.cell.cell = 5 then 3 else t.shapeClass r.cell.cell
      if kind = 0 then t
      else
        let tk := tabSet 0 t.sw.tokens (128 * kind + exitPort r.exit) (t.tokens kind (exitPort r.exit) - 65536)
        (t.putSw { t.sw with tokens := tk })
    else t) s

/-- The first cell of a list equal to `q` replaced or removed. -/
def swapOpen (q : OpCell) (n : Option OpCell) : List OpCell → List OpCell
  | [] => []
  | x :: t => if x = q then n.toList ++ t else x :: swapOpen q n t

/-- A cell crosses to a port point (12 R393, R398): SENT counts it by its VC, OP0, OP1, CTL, MGT, and the queues of OP0 and OP1 are noted. -/
def State.noteCrossed (s : State) (e : Nat) (q : OpCell) : State :=
  if exitIsPort e then
    let vc := cVc q.cell
    let s1 := s.putSw { s.sw with sent := tabMod 0 s.sw.sent (4 * exitPort e + (vc - 2)) (· + 1) }
    if vc = 2 ∨ vc = 3 then s1.putSw { s1.sw with crossed := keyAdd s1.sw.crossed (voqKey q.inp (exitPort e) vc) } else s1
  else s

/-- A matched cell crosses (10 R343 to R345), unless a word of it is poisoned (13 R421). -/
def State.carryOpen (s : State) (d : Nat) (r : Req) : State :=
  let far := decide (exitDie r.exit ≠ d)
  match s.sw.voq.find? (fun x => decide (x.die = r.cell.die) && decide (x.inp = r.inp) && decide (x.cell = r.cell.cell) &&
      decide (r.exit ∈ x.outs)) with
  | none => s
  | some q =>
    let p := s.readBuffer d q.cell
    let now := if far then q.outs.filter (fun e => decide (exitDie e ≠ d)) else [r.exit]
    let left := q.outs.filter (fun e => decide (e ∉ now))
    let rest := if left.isEmpty || !p.1 then none else some { q with outs := left }
    let s1 := (p.2.putSw { p.2.sw with voq := swapOpen q rest p.2.sw.voq })
    if !p.1 then s1
    else if far then s1.queueOpen (1 - d) r.out q.cell now q.came q.born
    else (s1.noteCrossed r.exit q).deliver r.exit q.born q.came q.cell

/-- The match of a die for this cell time: two iterations, then the crossings (10 R342, R343). -/
def State.matchDie (s : State) (d : Nat) (used : List (Nat × Nat)) : List Req × State :=
  let m1 := s.iterate d (used.map (·.1)) (used.map (·.2))
  let s1 := (s.movePointers d m1).payTokens d m1
  let m2 := s1.iterate d (used.map (·.1) ++ m1.map (·.inp)) (used.map (·.2) ++ m1.map (·.out))
  (m1 ++ m2, s1.payTokens d m2)

/-- One cell time (10 R337, R339, R342, R343; 12 R395): shaper writes, waiting credit, accrual, then each die's reservations,
match and crossings; 4 CK pass, the cluster points take their next cells (R334), and credit that was withheld is returned (R349). -/
def State.cellTime (s : State) : State :=
  let s1 := s.sw.shapers.foldl State.applyShaper (s.putSw { s.sw with shapers := [] })
  let s2 := s1.updateCredit.accrue
  let r0 := s2.runReservations 0
  let r1 := r0.2.runReservations 1
  let m0 := r1.2.matchDie 0 r0.1
  let m1 := m0.2.matchDie 1 r1.1
  let s3 := m1.1.foldl (fun t r => t.carryOpen 1 r) (m0.1.foldl (fun t r => t.carryOpen 0 r) m1.2)
  ((s3.putSw { s3.sw with time := s3.sw.time + 1 }).advance 4).entryOn.payAll

/-! ### Spill and the resequencer's time limits (10 R348, R351) -/

/-- Of the cells still to be looked at, after those `seen`, the first of a die that comes back from spill: fewer than 32 cells of each of its
queues lie on the die before it (10 R348). -/
def spillNext (d : Nat) : List OpCell → List OpCell → Option OpCell
  | _, [] => none
  | seen, q :: t =>
    if q.die = d ∧ q.spilled ∧ q.outs.all (fun e => decide (onDie d q.inp e (cVc q.cell) seen < 32)) then some q
    else spillNext d (seen ++ [q]) t

/-- Spilled cells of a die come back, oldest first, at the rate of its spill path (10 R348, R349), with fuel. -/
def State.spillBack : Nat → State → Nat → State
  | 0, s, _ => s
  | n + 1, s, d =>
    match spillNext d [] s.sw.voq with
    | none => s
    | some q =>
      if s.spillPath d then
        State.spillBack n ((s.putSw { s.sw with voq := swapOpen q (some { q with spilled := false }) s.sw.voq }).useSpill d) d
      else s

/-- Spilled cells return, as many as the spill path moves in this CK; credit withheld for want of room is then returned (10 R348, R349). -/
def State.spillReturn (s : State) (d : Nat) : State := (s.spillBack 2 d).payAll

/-- SPILL_RETURN (10 R348). -/
def execSpillReturn (d : Bool) (s : State) : Host.Outcome State Fault Refusal := .next (s.spillReturn (b2n d))

/-- The lowest held index of a context. -/
def reseqLow (x : Reseq) : Nat := x.held.foldl (fun a h => min a h.1) (2 ^ 24)

/-- A gap skipped (10 R351): the expected index moves to the lowest held CIDX and the run that follows is delivered. -/
def State.reseqSkip (s : State) (x : Reseq) : State :=
  let r := reseqRun (x.held.length + 1) { x with next := reseqLow x, last := s.sw.time }
  let rest := s.sw.reseq.filter (fun y => decide (y ≠ x))
  let s1 := (s.putSw { s.sw with reseq := if r.2.2 then rest else rest ++ [r.2.1] })
  r.1.foldl (fun t c => t.deliverOne x.out c.1 none c.2) (s1.count F.XBAR_DROP_B_RESEQ_GAP)

/-- The oldest held cell of a context has waited RESEQ_TO cell times (10 R351). -/
def State.reseqDue (s : State) (x : Reseq) : Bool := x.held.any (fun h => decide (s.sw.time ≥ h.2.1 + s.reseqTo))

/-- RESEQ_TIMEOUT (10 R351): every context of the die whose oldest held cell is due. -/
def execReseqTimeout (d : Bool) (s : State) : Host.Outcome State Fault Refusal :=
  .next ((s.sw.reseq.filter (fun x => decide (x.die = b2n d) && s.reseqDue x)).foldl State.reseqSkip s)

/-- RESEQ_IDLE_FREE (10 R351): contexts of the die that hold no cell and took none for 4 RESEQ_TO cell times. -/
def execReseqIdleFree (d : Bool) (s : State) : Host.Outcome State Fault Refusal :=
  .next (s.putSw { s.sw with reseq := s.sw.reseq.filter (fun x =>
    !(decide (x.die = b2n d) && x.held.isEmpty && decide (s.sw.time ≥ x.last + 4 * s.reseqTo))) })

/-! ### Purging (10 R340, R341) -/

/-- Scored cells of the device's Acre that carry one of some Beats are discarded and counted (10 R341). -/
def State.purge (s : State) (beats : List Nat) : State :=
  let bad := fun (q : ScCell) => s.ownAcre (cAcre q.cell) && decide (cBeat q.cell ∈ beats)
  let n := (s.sw.scored.filter bad).length
  ((s.count F.XBAR_DROP_B_PURGED n).putSw { s.sw with scored := s.sw.scored.filter (fun q => !bad q) })

/-- At a boundary, queued scored cells of the device's Acre of neither the new Beat nor the one before are discarded (10 R340). -/
def State.dropStale (s : State) : State :=
  let bad := fun (q : ScCell) => s.ownAcre (cAcre q.cell) && decide (cBeat q.cell ≠ s.beat) && decide (cBeat q.cell + 1 ≠ s.beat)
  let n := (s.sw.scored.filter bad).length
  ((s.count F.XBAR_DROP_A_SC_STALE n).putSw { s.sw with scored := s.sw.scored.filter (fun q => !bad q) })

/-! ### Control cells (10 R332; 02 R106 to R108) -/

/-- A cell taken from those delivered to the device. -/
def State.taken (s : State) (c : Cell) : State := (s.putDelivered (s.delivered.erase c))

/-! ### Drain markers on their way out (11 R375, R381) -/

/-- A CTL cell may leave on a link: it is READY, holds a credit for CTL, and its replay buffer has room (11 R375; 14 R439). -/
def State.ctlGoes (s : State) (k : Nat) : Bool :=
  s.ready k && decide (0 < (s.link k).credit.getD 3 0) && decide ((s.link k).replay.length < 1024)

/-- A marker leaves on a port, on CTL, against its credit; until it may it waits, behind those that wait there (11 R375, R381). -/
def State.sendMarker (s : State) (p : Nat) (c : Cell) : State :=
  let k := s.portLink p
  if s.route.marks.any (fun m => decide (m.1 = p)) || !s.ctlGoes k then
    s.putRoute { s.route with marks := s.route.marks ++ [(p, c)] }
  else
    let l := s.link k
    (s.setLink k { l with credit := l.credit.modify 3 (· - 1) }).sendCell k c

/-- A marker on each port of a list. -/
def State.sendMarkers (s : State) (ps : List Nat) (c : Cell) : State := foldKeys ps (fun t p => t.sendMarker p c) s

/-- The markers that wait leave, as far as they may. -/
def State.marksOn (s : State) : State :=
  s.route.marks.foldl (fun t m => t.sendMarker m.1 m.2) (s.putRoute { s.route with marks := [] })

end Sys2Proof.Machine
end

