-- ==== Sys2Proof/Machine/Tally.lean ====
section
/-!
DEFINITION. Machine/Tally.lean: the tally engines: inputs, turns, parking, arrival order and delivery (spec/04 R140 to R169; spec/09 R307, R309,
R314, R318, R319; spec/06 R228).
-/
namespace Sys2Proof.Machine

/-! ### Slots, turns and parking (04 R148, R149, R157, R166) -/

/-- The open collective that holds a record. -/
def State.collOf (s : State) (key : Nat) : Option Coll := s.openColls.find? (fun x => decide ((key / 64, key % 64) ∈ x.live))

/-- The slot of a chunk, if it has one. -/
def slotFor (b : Bushel) (ch : Nat) : Option Slot := b.slots.find? (fun x => decide (x.chunk = ch))

/-- Whether another chunk holds the slot that a chunk uses (04 R157). -/
def State.slotBusy (s : State) (c r ch : Nat) : Bool :=
  let nb := max (s.rNb c r) 1
  let w := max (s.rW c r) 1
  (s.bushel c r).slots.any (fun x => decide (x.chunk ≠ ch) && decide (x.chunk / nb % w = ch / nb % w))

/-- The turn of a chunk (04 R148). -/
def State.turnOf (s : State) (c r ch : Nat) : Nat :=
  match slotFor (s.bushel c r) ch with
  | some x => x.turn
  | none => s.rLo c r

/-- A part of an input, or a waiting cell, parked, or held outside a full park area and counted (04 R166). -/
def State.park (s : State) (d : Nat) (cell : Option Cell) (part parts : Nat) (x : TallyIn) : State :=
  let held := decide (s.parkedOn d ≥ 4096)
  let s1 := (s.putParked (s.parked ++ [Parked.mk d held s.toll cell part parts x]))
  (if held then s1.count F.TALLY_PARK_PARK_SPILL else s1).showPark

/-- A record has taken or parked an input now (04 R168; 06 R228). -/
def State.touchRec (s : State) (c r : Nat) : State :=
  s.setBushel c r { s.bushel c r with last := s.toll, taken := true }

/-- Whether two inputs are parts of one: the same range, chunk and kind, for the same record. -/
def sameInput (x y : TallyIn) : Bool :=
  decide (x.key = y.key) && decide (x.chunk = y.chunk) && decide (x.lo = y.lo) && decide (x.hi = y.hi) && decide (x.leaf = y.leaf)

/-- The parked parts of an input that has `parts`, one of each but part `but`; none while one is missing. -/
def State.gather (s : State) (x : TallyIn) (parts : Nat) (but : Option Nat) : Option (List Parked) :=
  let need := (List.range parts).filter (fun i => decide (but ≠ some i))
  let got := need.filterMap (fun i => s.parked.find? (fun p => p.cell.isNone && decide (p.part = i) && sameInput p.input x))
  if got.length = need.length then some got else none

/-- Parked parts leave the park area. -/
def State.unpark (s : State) (ps : List Parked) : State := (s.putParked (ps.foldl List.erase s.parked)).showPark

/-- Whether an input with this LO is parked or queued for its chunk; other parts of this same input do not count (04 R149). -/
def State.haveLo (s : State) (c : Nat) (x : TallyIn) (part : Nat) : Bool :=
  let same := fun (y : TallyIn) => decide (y.key = x.key) && decide (y.chunk = x.chunk) && decide (y.lo = x.lo)
  s.parked.any (fun p => p.cell.isNone && same p.input && !(sameInput p.input x && decide (p.part ≠ part))) || (s.cl c).tallyq.any same

/-- The chunk's slot taken for a chunk that has none. -/
def State.openSlot (s : State) (c r : Nat) (x : TallyIn) : State :=
  let b := s.bushel c r
  if (slotFor b x.chunk).isSome then s
  else s.setBushel c r { b with slots := b.slots ++ [Slot.mk x.chunk (s.rLo c r) [] 0 x.beat false s.toll] }

/-- An input goes to its engine's queue. -/
def State.queueInput (s : State) (c r : Nat) (x : TallyIn) : State :=
  let s1 := (s.openSlot c r x).touchRec c r
  s1.setCl c { s1.cl c with tallyq := (s1.cl c).tallyq ++ [x] }

/-- ADDR of a tally engine's message about a cell: the cluster's point. -/
def tallyAddr (c route : Nat) : Option Nat := some (64 + c % 32 + route * 256)

/-- A discard under 04 R147 or 06 R228: NODE_BAD counts, ERR with OTHER, TALLY_ORDER. -/
def State.nodeBad (s : State) (c access : Nat) (addr : Option Nat) : State :=
  (s.count F.TALLY_DISCARD_A_NODE_BAD).detect 0x0804 0 (8 * c + 5) access addr

/-- A duplicate (04 R149): DUP counts, ERR with SEQ, TALLY_ORDER. -/
def State.dup (s : State) (c access : Nat) (addr : Option Nat) : State :=
  ((s.count F.TALLY_DISCARD_B_DUP).tell 0x0804 1 0 (8 * c + 5) access addr).err 7

/-- The parts of an input put together, by part number. -/
def joinParts (ps : List (Nat × TallyIn)) (parts : Nat) (x : TallyIn) : TallyIn :=
  { x with data := (List.range parts).flatMap (fun i => match ps.find? (fun p => decide (p.1 = i)) with | some p => p.2.data | none => [])
           beat := ps.foldl (fun a p => max a p.2.beat) x.beat }

/-- A part of an input whose chunk it may join: with every other part there and its slot free it joins them and queues, else it
waits in the park area (04 R151, R157, R166). -/
def State.joinOrPark (s : State) (x : TallyIn) (part parts : Nat) : State :=
  let c := x.key / 64
  let r := x.key % 64
  match if s.slotBusy c r x.chunk then none else s.gather x parts (some part) with
  | some got => (s.unpark got).queueInput c r (joinParts ((part, x) :: got.map (fun p => (p.part, p.input))) parts x)
  | none => (s.park (c / 32) none part parts x).touchRec c r

/-- A part of an input (04 R148, R149, R151, R157, R166): in turn, or any in arrival order, it queues with the rest of its input;
out of turn it parks. Answers the completion code: 0 taken or parked, 0x22 NODE_BAD, 0x23 DUP. -/
def State.offer (s : State) (x : TallyIn) (part parts access : Nat) (addr : Option Nat) : Nat × State :=
  let c := x.key / 64
  let r := x.key % 64
  let b := s.bushel c r
  if s.rAny c r then
    if (slotFor b x.chunk).any (·.failed) || decide (x.chunk ∈ b.done) then
      (0x22, (s.count F.TALLY_DISCARD_A_NODE_BAD).err 15)
    else (0, s.joinOrPark x part parts)
  else if decide (x.chunk ∈ b.done) || decide (x.lo < s.turnOf c r x.chunk) || s.haveLo c x part then (0x23, s.dup c access addr)
  else if x.lo = s.turnOf c r x.chunk then (0, s.joinOrPark x part parts)
  else (0, (s.park (c / 32) none part parts x).touchRec c r)

/-! ### Cells in (04 R143 to R145, R152, R153, R162, R167) -/

/-- How many parts a partial of a contribution format has (04 R143). -/
def partialParts (cfmt : Nat) : Nat := (chunkE cfmt + 119) / 120

/-- The elements of a leaf payload in a contribution format, and its MX scales (04 R141, R142; 03 R118). -/
def leafData (cfmt : Nat) (pay : List Byte) : List Nat × List Nat :=
  let n := chunkE cfmt
  let w := fmtWidth cfmt
  if isMx cfmt then
    let sc := n / 32
    ((List.range n).map (elemAt w (pay.drop sc)), (pay.take sc).map (·.toNat))
  else ((List.range n).map (elemAt w pay), [])

/-- The elements of part p of a partial of a contribution format. -/
def partData (cfmt part : Nat) (pay : List Byte) : List Nat :=
  (List.range (min 120 (chunkE cfmt - 120 * part))).map (elemAt 32 pay)

/-- Whether KIND, FMT and PART combine as 04 R143 requires. -/
def State.kindGood (s : State) (c r : Nat) (x : Cell) : Bool :=
  let cf := s.rCfmt c r
  if tKind x = 0 then decide (tFmt x = cf) && decide (tPart x = 0) && decide (cf ≤ 10)
  else decide (tFmt x = if cf = 10 then 10 else 0) && decide (tPart x < partialParts cf)

/-- The CSUM of a cell fails (04 R145): counted; with no Score running it ends the collective. `inj` says that an injected
corruption inverted a payload bit (17 R532). -/
def State.csumBad (s : State) (c : Nat) (key : Option Nat) (x : Cell) (inj : Bool := false) : State :=
  let s0 := s.count F.TALLY_DISCARD_A_CSUM_BAD
  let s1 := if inj then s0.detectHit 0x0801 0 (8 * c + 5) 4 (tallyAddr c (cRoute x)) 0 0 0
    else s0.detect 0x0801 0 (8 * c + 5) 4 (tallyAddr c (cRoute x))
  if s.running then s1
  else match key with
    | some k => s1.endColls (fun y => decide ((k / 64, k % 64) ∈ y.live)) 0x32
    | none => s1

/-- A cell at its record's tally engine (04 R143 to R149, R153). -/
def State.tallyTake (s : State) (key : Nat) (x : Cell) : State :=
  let c := key / 64
  let r := key % 64
  let addr := tallyAddr c (cRoute x)
  if (s.hitMode 0x0801 0 (8 * c + 5)).isSome then (s.takeHit 0x0801 0 (8 * c + 5)).csumBad c (some key) x true
  else if !csumGood x then s.csumBad c (some key) x
  else if s.rScored c r && decide (cBeat x ≠ s.beat) then s.count F.TALLY_DISCARD_B_STALE_BEAT
  else if !s.kindGood c r x then s.count F.TALLY_DISCARD_A_FMT_BAD
  else if !isNode (s.rN c r) (tLo x) (tHi x) || decide (s.rChunks c r ≤ tChunk x) then s.nodeBad c 4 addr
  else if tKind x = 0 then
    let d := leafData (s.rCfmt c r) (cPay x)
    (s.offer ⟨key, tLo x, tHi x, tChunk x, cBeat x, true, d.1, d.2⟩ 0 1 4 addr).2
  else
    (s.offer ⟨key, tLo x, tHi x, tChunk x, cBeat x, false, partData (s.rCfmt c r) (tPart x) (cPay x), []⟩
      (tPart x) (partialParts (s.rCfmt c r)) 4 addr).2

/-- The lowest route handle of the active bank that leads to a member (09 R307). -/
def State.handleTo (s : State) (acre coord member : Nat) : Option Nat :=
  (s.bank.unicast.find? (fun e => e.2.testBit 63 && decide (bitsOf e.2 61 52 = acre) && decide (bitsOf e.2 39 32 = member) &&
    decide (bitsOf e.2 31 0 = coord))).map (·.1)

/-- Where results of a DEST go: route handle or destination set, and which (09 R307, R309); none when the chunk's owner has no
handle here. -/
def State.destOf (s : State) (dest group chunk chunks : Nat) : Option (Bool × Nat) :=
  if bitsOf dest 47 46 = 1 then some (true, bitsOf dest 15 0)
  else if bitsOf dest 47 46 = 2 then
    match s.group group with
    | none => none
    | some g =>
      let co := s.rankCoord g (chunk * grpSize g / max chunks 1)
      (s.handleTo s.acre (srcCoord co) (axis co 0)).map (fun h => (false, h))
  else some (false, bitsOf dest 15 0)

/-- DEST of stripe k: a route handle or destination set rises by k (09 R312). -/
def stripeDest (dest k : Nat) : Nat := dest / 65536 * 65536 + (dest + k) % 65536

/-- A cell of a collective whose claim was refused (04 R162): rejected, or passed through to the result destinations of its stripe. -/
def State.refusedCell (s : State) (d : Nat) (y : Coll) (x : Cell) : State :=
  if y.mode = 1 then s.count F.TALLY_DISCARD_B_REJECTED
  else if !csumGood x then
    (s.count F.TALLY_DISCARD_A_CSUM_BAD).detect 0x0801 0 (8 * (32 * d) + 5) 4 (tallyAddr (32 * d) (cRoute x))
  else if y.mode = 3 then s
  else
    match s.destOf (stripeDest y.dest (tChunk x % max y.nb 1)) y.group (tChunk x) y.chunks with
    | none => s.count F.ROUTE_DROPS_ROUTE_MISS
    | some q =>
      let hdr := hdrOf (cBeat x) q.2 (cAcre x) 0 (if cScored x then 0 else 2) 1 q.1 (cFirst x) (cLast x) 480
      let ext := tallyExt (tGroup x) (tSeq x) (tLo x) (tHi x) (tChunk x) (tFmt x) (tPart x) 3 x.payload
      s.inject (32 * d) ⟨hdr, ext, x.payload⟩

/-- A sequence mismatch (04 R167): counted; ERR with SEQ while a Score runs; the group's open collectives end here; the message
carries C2 when one ends, else C1. -/
def State.seqMismatch (s : State) (d group : Nat) (x : Cell) : State :=
  let hit := s.activeColls.any (fun y => decide (y.group = group))
  let cl := match s.activeRecs.find? (fun k => decide (s.rGroup (k / 64) (k % 64) = group)) with | some k => k / 64 | none => 32 * d
  let s1 := ((s.count F.TALLY_DISCARD_A_SEQ_MISMATCH).tell 0x1002 (if hit then 2 else 1) 0 (8 * cl + 5) 4
    (tallyAddr cl (cRoute x))).err 7
  s1.endColls (fun y => decide (y.group = group) && decide (y.live.length = y.recs.length)) 0x31

/-- A tally cell of KIND 0 or 1 at a die (04 R152, R162, R167; 09 R318). -/
def State.tallyCell (s : State) (d : Nat) (x : Cell) : State :=
  let g := tGroup x
  match s.steer g (tSeq x) (tLo x) (tHi x) (tChunk x) with
  | some key => s.tallyTake key x
  | none =>
    match s.colls.find? (fun y => decide (y.group = g) && decide (y.seq = tSeq x) && decide (y.mode ≠ 0)) with
    | some y => s.refusedCell d y x
    | none =>
      match s.activeRecs.find? (fun k => decide (s.rGroup (k / 64) (k % 64) = g) && decide (s.rSeq (k / 64) (k % 64) = tSeq x)) with
      | some k => if csumGood x then s.nodeBad (k / 64) 4 (tallyAddr (k / 64) (cRoute x)) else s.csumBad (k / 64) (some k) x
      | none =>
        let ahead := (tSeq x + 65536 - s.latestSeq g) % 65536
        if (s.group g).isSome ∧ 1 ≤ ahead ∧ ahead ≤ 15 then
          s.park d (some x) 0 1 ⟨0, tLo x, tHi x, tChunk x, cBeat x, true, [], []⟩
        else s.seqMismatch d g x

/-- TALLY_CELL_IN (04 R140, R143 to R145, R147, R149, R151 to R153, R157, R161, R162, R166, R167; 09 R314, R318). A cell of KIND 2
or 3 is never steered here (R152). -/
def execTallyCellIn (d : Bool) (cell : Cell) (s : State) : Host.Outcome State Fault Refusal :=
  .next (if tKind cell ≤ 1 then (s.taken cell).tallyCell (b2n d) cell else s)

/-! ### Arithmetic on chunks (04 R148, R151; 03 R132, R134, R138, R139) -/

/-- The exact values of an input (03 R132, R139). -/
def inputVals (cfmt : Nat) (x : TallyIn) : List Val :=
  if cfmt = 10 then x.data.map (decodeI 32)
  else if x.leaf && isMx cfmt then
    (x.data.zip (List.range x.data.length)).map (fun p => decodeMx cfmt (x.scales.getD (p.2 / 32) 0) p.1)
  else x.data.map (decodeCode (if x.leaf then cfmt else 0))

/-- The values of accumulators: FP32, or INT32 for an INT32 collective. -/
def accVals (cfmt : Nat) (acc : List Nat) : List Val := acc.map (if cfmt = 10 then decodeI 32 else decodeF fFP32)

/-- An input pushed alone: its values as accumulators, leaves encoded to FP32 (04 R148). -/
def pushAcc (cfmt : Nat) (vs : List Val) : List Nat × Flags :=
  let rs := vs.map (fun v => if cfmt = 10 then encodeI 32 v 0 0 else rneFp32 v)
  (rs.map (·.1), flagsOr (if vs.any valNan then flagsNanin else flagsNone) (flagsAll (rs.map (·.2))))

/-- Values added to accumulators element by element, each exact sum rounded once (03 R129, R132). -/
def addAcc (cfmt : Nat) (acc : List Nat) (vs : List Val) : List Nat × Flags :=
  let rs := ((accVals cfmt acc).zip vs).map (fun p => if cfmt = 10 then addInt32 (valInt p.1) (valInt p.2) else addFp32 p.1 p.2)
  (rs.map (·.1), flagsAll (rs.map (·.2)))

/-- Merge siblings at the top of a stack (top first), with fuel (04 R148). -/
def mergeTop (cfmt n : Nat) : Nat → List Node → List Node × Flags
  | 0, st => (st, flagsNone)
  | f + 1, r :: l :: t =>
    if r.lo = l.hi + 1 ∧ isLeftSibling n l.lo l.hi r.hi then
      let a := addAcc cfmt l.acc (accVals cfmt r.acc)
      let m := mergeTop cfmt n f (⟨l.lo, r.hi, a.1⟩ :: t)
      (m.1, flagsOr a.2 m.2)
    else (r :: l :: t, flagsNone)
  | _ + 1, st => (st, flagsNone)

/-- `take` of 04 R148 on a stack, top first: fused with its left sibling on top, or pushed; then the merges. -/
def takeInput (cfmt n : Nat) (st : List Node) (x : TallyIn) : List Node × Flags :=
  let vs := inputVals cfmt x
  let z := match st with
    | t :: rest =>
      if x.lo = t.hi + 1 ∧ isLeftSibling n t.lo t.hi x.hi then
        let a := addAcc cfmt t.acc vs
        ((⟨t.lo, x.hi, a.1⟩ : Node) :: rest, a.2)
      else
        let a := pushAcc cfmt vs
        (⟨x.lo, x.hi, a.1⟩ :: st, a.2)
    | [] =>
      let a := pushAcc cfmt vs
      ([⟨x.lo, x.hi, a.1⟩], a.2)
  let m := mergeTop cfmt n 18 z.1
  (m.1, flagsOr z.2 m.2)

/-- Sticky flags of a cluster's tally engine (04 R170; 03 R124). -/
def State.tallyFlags (s : State) (c : Nat) (f : Flags) : State :=
  let set := fun (t : State) (b : Bool) (fl : Field) => if b then t.mark fl 1 c else t
  set (set (set (set s f.nanin F.TALLY_CLUSTER_NANIN) f.inv F.TALLY_CLUSTER_INV) f.ovf F.TALLY_CLUSTER_OVF) f.isat F.TALLY_CLUSTER_ISAT

/-! ### Delivery (04 R165; 09 R307, R309) -/

/-- The seed of a stream (07 R247). -/
def State.seed (s : State) (stream : Nat) : Nat :=
  match s.score.cur with
  | some p => if s.scoreState = 0 then 0 else p.seeds.getD (stream / 256 % max p.seeds.length 1) 0
  | none => 0

/-- An accumulator, FP32 or INT32, converted to an output format, by element (03 R134, R135, R138; 04 R165): the elements, the MX
scales, the flags. NANIN is of the inputs (04 R170) and of an MX block (03 R138). -/
def State.outConvert (s : State) (c r : Nat) (x : Slot) (acc : List Nat) : List Nat × List Nat × Flags :=
  let cf := s.rCfmt c r
  let ofm := s.rOutfmt c r
  let rm := s.rRm c r
  let vals := accVals cf acc
  let first := x.chunk * chunkE cf
  let draws := (List.range vals.length).map (fun i =>
    if rm = 2 then srDraw (s.seed (s.rStream c r)) (s.rStream c r) x.beat ((s.rLane c r + first + i) % 2 ^ 32) 0 else 0)
  if isMx ofm then
    let bs := (List.range ((vals.length + 31) / 32)).map (fun j =>
      encodeMx ofm ((vals.drop (32 * j)).take 32) rm ((draws.drop (32 * j)).take 32))
    (bs.flatMap (fun b => b.2.1), bs.map (·.1), flagsAll (bs.map (·.2.2)))
  else
    let es := (vals.zip draws).map (fun p => encodeCode ofm p.1 rm (s.rSat c r) p.2)
    (es.map (·.1), [], flagsAll (es.map (·.2)))

/-- Where results of a record's chunk go (09 R307, R309). -/
def State.resultDest (s : State) (c r chunk : Nat) : Option (Bool × Nat) :=
  s.destOf (s.rDest c r) (s.rGroup c r) chunk (s.rChunks c r)

/-- One output cell of a record (04 R143, R144, R153). -/
def State.sendTally (s : State) (c r : Nat) (x : Slot) (kind fmt part parts : Nat) (dest : Bool × Nat) (pay : List Byte) : State :=
  let vc := if s.rScored c r then 0 else 2
  let p := payOf pay
  let hdr := hdrOf x.beat dest.2 s.acre 0 vc 1 dest.1 (decide (part = 0)) (decide (part + 1 = parts)) 480
  s.inject c ⟨hdr, tallyExt (s.rGroup c r) (s.rSeq c r) (s.rLo c r) (s.rHi c r) x.chunk fmt part kind p, p⟩

/-- The bytes of elements of a width, packed (03 R118). -/
def elemBytes (w : Nat) (es : List Nat) : List Byte := leBytes ((w * es.length + 7) / 8) (packElems w es)

/-- Whether an address range of cluster memory meets the read-only list area of the loaded Score (07 R243). -/
def State.inList (s : State) (off n : Nat) : Bool :=
  match s.score.cur with
  | some p => s.scoreLoaded && decide (off < p.listBase + p.listBytes) && decide (p.listBase < off + n)
  | none => false

/-- A device address range lies in the list area of a cluster, closed to every write while a Score is loaded (07 R243). -/
def State.listClosed (s : State) (a n : Nat) : Bool := inSram a && s.inList (a % 0x800000) n

/-- A delivery to working memory that R409 or R243 closes is not performed. It has no completion entry: a Score's result is lost and its seal
carries ERR, an open collective ends with ADDR_BAD (DESIGN CHOICE, log entry 80). -/
def State.deliveryShut (s : State) (c r : Nat) : State :=
  if s.rScored c r then s.err 15 else s.endColls (fun y => decide ((c, r) ∈ y.live)) 0x12

/-- A completed chunk goes where DKIND says (04 R165; 07 R243; 13 R409, R421). -/
def State.deliverChunk (s : State) (c r : Nat) (x : Slot) (acc : List Nat) : State :=
  let cf := s.rCfmt c r
  match s.rDkind c r with
  | 0 =>
    let parts := partialParts cf
    let mc := decide (bitsOf (s.rDest c r) 47 46 = 1)
    foldKeys (List.range parts) (fun t p => t.sendTally c r x 1 (if cf = 10 then 10 else 0) p parts
      (mc, bitsOf (s.rDest c r) 15 0) (elemBytes 32 ((acc.drop (120 * p)).take 120))) s
  | 1 =>
    let o := s.outConvert c r x acc
    let s1 := s.tallyFlags c o.2.2
    let ofm := s.rOutfmt c r
    let eo := max (chunkE ofm) 1
    let parts := (chunkE cf + eo - 1) / eo
    match s1.resultDest c r x.chunk with
    | none => s1.count F.ROUTE_DROPS_ROUTE_MISS parts
    | some d => foldKeys (List.range parts) (fun t p => t.sendTally c r x 2 ofm p parts d
        ((o.2.1.map (fun v => BitVec.ofNat 8 v)) ++ elemBytes (fmtWidth ofm) ((o.1.drop (eo * p)).take eo))) s1
  | _ =>
    let off := s.rDest c r + x.chunk * chunkE cf * 4
    let bytes := elemBytes 32 acc
    if s.openWrite .tally (wmBase c + off) bytes.length && decide (off + bytes.length ≤ 0x400000) && !s.inList off bytes.length then
      match s.poisonWrite (wmBase c + off) bytes.length with
      | some a => s.meetPoison 0 a 2
      | none => s.writeMem s.beat (wmBase c + off) bytes
    else s.deliveryShut c r

/-- Chunks of a record (04 R152; 09 R313). -/
def State.recChunks (s : State) (c r : Nat) : Nat := (s.rChunks c r + max (s.rNb c r) 1 - 1 - s.rK c r) / max (s.rNb c r) 1

/-- Output cells that carry a Beat leave an open record; working memory gets none (04 R153, R169). -/
def State.noteSent (s : State) (c r beat : Nat) : State :=
  match s.rDkind c r, s.collOf (64 * c + r) with
  | 2, _ => s
  | _, some y => s.putColls (s.colls.map (fun z => if z = y then { y with outBeat := some (max (y.outBeat.getD 0) beat) } else z))
  | _, none => s

/-- A record's Chime receives ARRIVE(1); while its queue is full the ARRIVE waits at the head of the tally queue (04 R165; 02 R107). -/
def State.recArrive (s : State) (c i : Nat) : State :=
  if s.chimeFull (chimeDie i) then
    let x := s.cl c
    s.setCl c { x with tlq := .chime ⟨i % 32768, false, 1, s.beat⟩ :: x.tlq }
  else s.arrive i 1

/-- After a chunk: its slot is free; the last chunk arrives the record's Chime and releases an open record (04 R157, R161, R165;
09 R314). -/
def State.chunkDone (s : State) (c r : Nat) (x : Slot) : State :=
  let b := s.bushel c r
  let s1 := s.setBushel c r { b with slots := b.slots.filter (fun y => decide (y.chunk ≠ x.chunk)), done := keyAdd b.done x.chunk }
  let s2 := s1.noteSent c r x.beat
  if (s2.bushel c r).done.length ≥ s2.recChunks c r then
    let s3 := s2.recArrive c (s2.rChime c r)
    match s3.collOf (64 * c + r) with
    | none => s3
    | some y =>
      let left := y.live.filter (fun k => decide (k ≠ (c, r)))
      if left.isEmpty then s3.endColl y 0
      else
        let s4 := s3.releaseRec c r
        (s4.putColls (s4.colls.map (fun z => if z = y then { y with live := left } else z))).showColls
  else s2

/-- A completed chunk is delivered, and is done unless its collective has ended with that. -/
def State.chunkOut (s : State) (c r : Nat) (x : Slot) (acc : List Nat) : State :=
  let s1 := s.deliverChunk c r x acc
  if s1.rValid c r then s1.chunkDone c r x else s1

/-! ### The engine's operation (04 R148, R151) -/

/-- The slot of a chunk replaced. -/
def State.putSlot (s : State) (c r : Nat) (x : Slot) : State :=
  let b := s.bushel c r
  s.setBushel c r { b with slots := b.slots.map (fun y => if y.chunk = x.chunk then x else y), last := s.toll }

/-- A chunk fails in arrival order (04 R151). -/
def State.failChunk (s : State) (c r : Nat) (x : Slot) : State :=
  ((s.putSlot c r { x with failed := true, stack := [] }).count F.TALLY_DISCARD_A_NODE_BAD).err 15

/-- The position of an engine's shadow: (Beat + n) mod 64, by the Toll count with no Score running (17 R517). -/
def State.shadowPos (s : State) (n : Nat) : Nat := ((if s.running then s.beat else s.toll / 1250000) + n) % 64

/-- Element i of a list with bit 0 inverted. -/
def flipAt (i : Nat) (l : List Nat) : List Nat := l.modify i (fun v => v ^^^ 1)

/-- The shadow compares an operation's result (17 R519): a corruption injected into it (R532) raises TALLY_SHADOW, and with no
Score running ends the collective. Answers the result as it leaves. -/
def State.tallyShadow (s : State) (c r : Nat) (acc : List Nat) : List Nat × State :=
  let u := 8 * c + 5
  if (s.hitMode 0x0103 0 u).isSome && decide (s.shadowPos c < acc.length) then
    let s1 := (s.takeHit 0x0103 0 u).detectHit 0x0103 0 u 6 none 0 0 0
    let s2 := if s1.running then s1 else s1.endColls (fun y => decide ((c, r) ∈ y.live)) 0x32
    (flipAt (s.shadowPos c) acc, s2)
  else (acc, s)

/-- One input taken (04 R148, R151, R153): the stack and turn advance; a completed node is delivered. The single accumulator of
arrival order starts as its first input, encoded as a pushed leaf is (03 R132 gives no start value: DESIGN CHOICE, log entry 70). -/
def State.takeNow (s : State) (x : TallyIn) : State :=
  let c := x.key / 64
  let r := x.key % 64
  match slotFor (s.bushel c r) x.chunk with
  | none => s
  | some sl =>
    let cf := s.rCfmt c r
    if s.rAny c r then
      if sl.failed then (s.count F.TALLY_DISCARD_A_NODE_BAD).err 15
      else
        let m := s.rHi c r + 1 - s.rLo c r
        let cov := sl.cover + (x.hi + 1 - x.lo)
        if cov > m then s.failChunk c r sl
        else
          let vs := inputVals cf x
          let a := match sl.stack with | t :: _ => addAcc cf t.acc vs | [] => pushAcc cf vs
          let z := s.tallyShadow c r a.1
          let sl2 := { sl with stack := [⟨s.rLo c r, s.rHi c r, z.1⟩], cover := cov, beat := max sl.beat x.beat, last := s.toll }
          let s1 := (z.2.putSlot c r sl2).tallyFlags c a.2
          if !z.2.rValid c r then z.2 else if cov = m then s1.chunkOut c r sl2 z.1 else s1
    else
      let t := takeInput cf (s.rN c r) sl.stack x
      let z := s.tallyShadow c r ((t.1.map (·.acc)).headD [])
      let st := match t.1 with | nd :: rest => { nd with acc := z.1 } :: rest | [] => []
      let sl2 := { sl with stack := st, turn := x.hi + 1, beat := max sl.beat x.beat, last := s.toll }
      let s1 := (z.2.putSlot c r sl2).tallyFlags c t.2
      if !z.2.rValid c r then z.2
      else match st with
      | [nd] => if nd.lo = s.rLo c r ∧ nd.hi = s.rHi c r then s1.chunkOut c r sl2 nd.acc else s1
      | _ => s1

/-- The first queued input of a cluster's engine. -/
def State.tallyStep (s : State) (c : Nat) : State :=
  match (s.cl c).tallyq with
  | [] => s
  | x :: t => (s.setCl c { s.cl c with tallyq := t }).takeNow x

/-- TALLY_OPERATION (03 R122 to R139; 04 R141, R142, R144, R146, R148, R151, R153 to R155, R157, R161, R165; 06 R231; 09 R307, R309,
R314; 17 R517, R519, R520). -/
def execTallyOperation (c : Fin 64) (s : State) : Host.Outcome State Fault Refusal := .next (s.tallyStep c.val)

/-! ### Release, time limits (04 R166, R168; 09 R319) -/

/-- A parked input of a cluster that may go to its engine now: every part there, in turn or in arrival order, its slot free. -/
def State.releasable (s : State) (c : Nat) (p : Parked) : Bool :=
  let r := p.input.key % 64
  p.cell.isNone && (s.gather p.input p.parts none).isSome && decide (p.input.key / 64 = c) && !s.slotBusy c r p.input.chunk &&
  (s.rAny c r || decide (p.input.lo = s.turnOf c r p.input.chunk))

/-- The first such input is released (04 R148, R166). -/
def State.parkRelease (s : State) (c : Nat) : State :=
  match s.parked.find? (s.releasable c) with
  | none => s
  | some p =>
    let got := (s.gather p.input p.parts none).getD []
    (s.unpark got).queueInput c (p.input.key % 64) (joinParts (got.map (fun q => (q.part, q.input))) p.parts p.input)

/-- PARKED_RELEASE (04 R148, R166). -/
def execParkedRelease (c : Fin 64) (s : State) : Host.Outcome State Fault Refusal := .next (s.parkRelease c.val)

/-- The time limit of an open Bushel and of a waiting cell: TIMEOUT_K × 1,024 CK, 0 treated as 1 (04 R168, R170; 09 R319). -/
def State.tallyLimit (s : State) : Nat := 1024 * max (s.reg F.TALLY_CFG_TIMEOUT_K) 1

/-- When a chunk in progress of a record last took or parked an input; of the record when none is in progress (04 R168). -/
def State.oldestChunk (s : State) (c r : Nat) : Nat :=
  let b := s.bushel c r
  let park := s.parked.filter (fun p => p.cell.isNone && decide (p.input.key = 64 * c + r))
  let chunks := (b.slots.map (·.chunk) ++ park.map (fun p => p.input.chunk)).foldl keyAdd []
  let lastOf := fun ch => (((b.slots.filter (fun x => decide (x.chunk = ch))).map (·.last)) ++
    ((park.filter (fun p => decide (p.input.chunk = ch))).map (·.since))).foldl max 0
  match chunks with
  | [] => b.last
  | ch :: t => t.foldl (fun a x => min a (lastOf x)) (lastOf ch)

/-- An open Bushel's chunk has waited its limit: its collective ends with TALLY_TIMEOUT (04 R168). -/
def State.bushelTimeout (s : State) (c r : Nat) : State :=
  match s.collOf (64 * c + r) with
  | none => s
  | some y => (s.advanceTo (s.oldestChunk c r + s.tallyLimit)).endColl y 0x33

/-- TALLY_TIMEOUT (04 R161, R168; 09 R314). -/
def execTallyTimeout (c : Fin 64) (r : BitVec 6) (s : State) : Host.Outcome State Fault Refusal :=
  .next (s.bushelTimeout c.val r.toNat)

/-- Waiting cells past their limit are discarded and counted (09 R319); time reaches the limit of the oldest. -/
def State.parkExpiry (s : State) : State :=
  match s.parked.find? (fun p => p.cell.isSome) with
  | none => s
  | some p =>
    let s1 := s.advanceTo (p.since + s.tallyLimit)
    let due := fun (q : Parked) => q.cell.isSome && decide (q.since + s1.tallyLimit ≤ s1.toll)
    let n := (s1.parked.filter due).length
    ((s1.putParked (s1.parked.filter (fun q => !due q))).count F.COLL_COUNTS_EXPIRED n).showPark

/-- PARKED_CELL_EXPIRY (09 R319). -/
def execParkedCellExpiry (s : State) : Host.Outcome State Fault Refusal := .next s.parkExpiry

end Sys2Proof.Machine
end

