-- ==== Sys2Proof/Machine/Ride.lean ====
section
/-!
DEFINITION. Machine/Ride.lean: the riding copy: cells that leave a source, buffers and drains of a holder (spec/08 R293 to R300),
and the cell time as a whole.
-/
namespace Sys2Proof.Machine

/-! ### The source -/

/-- The payload of a ride or restore cell (08 R294). -/
def ridePay (off : Nat) (blocks : List (List Byte)) : List Byte :=
  leBytes 8 off ++ leBytes 1 blocks.length ++ List.replicate 23 0 ++ blocks.flatten

/-- A ride cell leaves for the partner (08 R294, R295; 10 R330): MEMBER 0xFF of PARTNER, by the lowest handle that leads there. -/
def State.sendRide (s : State) (c : Nat) (r : RideCell) : State :=
  let s1 := s.count F.OPT_RIDE_COUNTS_CELLS
  match s.handleTo s.acre (s.reg F.OPT_RIDE_CFG_PARTNER) 255 with
  | none => s1.count F.ROUTE_DROPS_ROUTE_MISS
  | some h =>
    let p := payOf (ridePay r.offset r.blocks)
    let d := s1.draw
    d.2.inject c ⟨hdrOf r.beat h s.acre 0 0 2 false true true 480,
      dataExt (s.srcOf 255) (Config.message d.1).toNat 0 0 p, p⟩

/-- Closed cells of a die leave in order while its input point has room, and copies that wait take their places (08 R295), with fuel. -/
def State.rideLeave : Nat → State → Nat → State
  | 0, s, _ => s
  | n + 1, s, d =>
    match s.ride.queue.find? (fun q => decide (q.die = d)), s.mcCluster d with
    | some q, some c =>
      if q.closed ∧ s.scoredLen d (64 + c % 32) < 16 then
        State.rideLeave n (((s.putRide { s.ride with queue := s.ride.queue.erase q }).sendRide c q).rideRefill 7 d) d
      else s
    | _, _ => s

/-- An open cell not joined for 64 CK closes (08 R295). -/
def State.rideTimeout (s : State) (d : Nat) : State :=
  match s.ride.queue.find? (fun q => decide (q.die = d) && !q.closed) with
  | none => s
  | some q =>
    let s1 := s.advanceTo (q.since + 64)
    State.rideLeave 16 (s1.putRide { s1.ride with queue := closeRide d s1.ride.queue }) d

/-- RIDE_CELL_TIMEOUT (08 R295). -/
def execRideCellTimeout (d : Bool) (s : State) : Host.Outcome State Fault Refusal := .next (s.rideTimeout (b2n d))

/-- A mover sends its next cell, one in a cell time: a scored one once its input point's queue has room (06 R229; 10 R327, R339);
none while the device drains the cell's Acre (11 R380). -/
def State.moverFeed (s : State) (c : Nat) : State :=
  match (s.cl c).mvRun with
  | none => s
  | some r =>
    match r.cells with
    | [] => s
    | x :: t =>
      if s.draining (cAcre x) || (cScored x && decide (s.scoredLen (c / 32) (64 + c % 32) ≥ 16)) then s
      else (s.setCl c { s.cl c with mvRun := some { r with cells := t } }).inject c x

/-- CELL_TIME (07 R245; 08 R295; 10 R330, R331, R334, R336, R337, R339, R342 to R345, R349 to R351, R354, R359; 11 R371, R375;
12 R391 to R395; 14 R439; 18 R559). -/
def execCellTime (s : State) : Host.Outcome State Fault Refusal :=
  .next (foldKeys (List.range 64) State.moverFeed (State.rideLeave 16 (State.rideLeave 16 s 0) 1)).cellTime.marksOn

/-! ### The holder -/

/-- Where an entry of a ride buffer stands (08 R296; 13 R412). -/
def rideEntry (beat k : Nat) : Nat := 0x8C00000000 + beat % 3 * 0x100000000 + 512 * k

/-- Entries in the buffer of a Beat. -/
def State.rideCount (s : State) (beat : Nat) : Nat :=
  match s.ride.bufs.find? (fun b => decide (b.1 = beat)) with | some b => b.2 | none => 0

/-- FILLED follows the buffers (08 R300). -/
def State.showRide (s : State) : State := s.setReg F.OPT_RIDE_STATUS_FILLED s.ride.bufs.length

/-- The buffers of some Beats emptied without draining (08 R299). -/
def State.dropRide (s : State) (p : Nat → Bool) : State :=
  (s.putRide { s.ride with bufs := s.ride.bufs.filter (fun (b : Nat × Nat) => !p b.1) }).showRide

/-- A cell refused, and counted (08 R298). -/
def State.refuseRide (s : State) : State := s.count F.OPT_RIDE_COUNTS_REFUSED

/-- An entry appended to the buffer of its Beat (08 R296). -/
def State.rideAppend (s : State) (beat : Nat) (c : Cell) : State :=
  let n := s.rideCount beat
  let a := rideEntry beat n
  let s1 := (s.poke a (cPay c ++ leBytes 8 beat ++ List.replicate 24 0)).cleanse a 512
  (s1.putRide { s1.ride with bufs := s1.ride.bufs.filter (fun (b : Nat × Nat) => decide (b.1 ≠ beat)) ++ [(beat, n + 1)] }).showRide

/-- HALT_REQ with causes in this device's seal for Beat b (08 R298): that of the running Beat is still to be sent; that of the Beat before is
marked while its round is in progress; once it has gone up, the next seal carries it (02 R90; DEDUCED, log entry 82). -/
def State.haltIn (s : State) (b causes : Nat) : State :=
  let mine := fun (r : Round) => decide (r.acre = s.scoreAcre ∧ r.beat = b)
  if b ≠ s.beat && s.beatU.rounds.any mine then
    s.putBeatU { s.beatU with rounds := s.beatU.rounds.map (fun r =>
      if mine r then { r with flags := r.flags ||| 8, cause := r.cause ||| causes } else r) }
  else s.halt causes

/-- A ride cell at the holder (08 R296, R298; 10 R331). -/
def State.rideIn (s : State) (d : Nat) (c : Cell) : State :=
  let pay := cPay c
  let off := leNat (pay.take 8)
  let n := leNat ((pay.drop 8).take 1)
  let x := cBeat c
  if s.reg F.OPT_HOLD_CFG_HOLD = 0 ∨ srcCoord (dSrc c) ≠ s.reg F.OPT_HOLD_CFG_SOURCE then s.refuseRide
  else if !pcrcGood c then ((s.count F.XBAR_DROP_A_PCRC_BAD).detect 0x0802 3 d 4 (cellAddr 0 c)).endBad c (s.mcCluster d)
  else if x ≠ s.beat ∧ x + 1 ≠ s.beat then s.count F.OPT_RIDE_COUNTS_STALE
  else if off % 64 ≠ 0 ∨ n = 0 ∨ 7 < n ∨ off + 64 * n > 448 * 0x40000000 ∨ s.rideCount x ≥ 8388608 ∨
      s.ride.bufs.any (fun b => decide (b.1 % 3 = x % 3) && decide (b.1 ≠ x)) then
    (s.refuseRide.tell 0x1006 (kindClass 0x1006) 3 (6 + d) 4 (cellAddr 0 c)).haltIn x 0x8
  else s.rideAppend x c

/-- RIDE_CELL_IN (08 R296, R298; 10 R331). -/
def execRideCellIn (d : Bool) (cell : Cell) (s : State) : Host.Outcome State Fault Refusal :=
  .next ((s.taken cell).rideIn (b2n d) cell)

/-- Block j of entry k of a Beat's buffer reaches the mirror (08 R297); a poisoned entry poisons the mirror block (13 R421). -/
def State.drainBlock (s : State) (beat k j : Nat) : State :=
  let a := rideEntry beat k
  let off := leNat (s.bytes a 8)
  let m := tier2 + off + 64 * j
  match s.poisonRead (a + 32 + 64 * j) 64 with
  | some x => ((s.meetPoison 3 x 1).poisonAt m).setReg F.CKPT_STATUS_MIRROR_POISON 1
  | none => ((s.correct (a + 32 + 64 * j) 64).poke m (s.bytes (a + 32 + 64 * j) 64)).cleanse m 64

/-- An entry drained. -/
def State.drainEntry (s : State) (beat k : Nat) : State :=
  foldKeys (List.range (leNat (s.bytes (rideEntry beat k + 8) 1))) (fun t j => t.drainBlock beat k j) s

/-- A drain ends (08 R297, R300): MIRROR_BEAT is its Beat; the mirror is consistent unless a block was poisoned. -/
def State.drainDone (s : State) : State :=
  match s.ride.drain with
  | none => s
  | some b =>
    let s1 := foldKeys (List.range (s.rideCount b)) (fun t k => t.drainEntry b k) s
    let s2 := ((s1.putRide { s1.ride with drain := none }).dropRide (fun x => decide (x = b)))
    let s3 := ((s2.setReg F.OPT_MIRROR_BEAT_BEAT b).setReg F.OPT_MIRROR_BEAT_VALID 1).setReg F.OPT_RIDE_STATUS_DRAINING 0
    (if s3.reg F.CKPT_STATUS_MIRROR_POISON = 1 then s3 else s3.setReg F.OPT_RIDE_STATUS_CONSISTENT 1).settle

/-- At a stop the mirror of a holder with no drain under way is consistent at once, if it holds a drained Beat and no poisoned block (08
R299, R300). -/
def State.showConsistent (s : State) : State :=
  if s.reg F.OPT_HOLD_CFG_HOLD = 1 ∧ s.ride.drain = none ∧ s.reg F.OPT_MIRROR_BEAT_VALID = 1 ∧
      s.reg F.CKPT_STATUS_MIRROR_POISON = 0 then s.setReg F.OPT_RIDE_STATUS_CONSISTENT 1 else s

/-- RIDE_DRAIN_DONE (08 R297, R299, R300; 13 R414, R421). -/
def execRideDrainDone (s : State) : Host.Outcome State Fault Refusal := .next s.drainDone

/-- A committed Beat's drain starts at a holder (08 R297); a drain still under way ends first. -/
def State.drainStart (s : State) (b : Nat) : State :=
  if s.reg F.OPT_HOLD_CFG_HOLD = 1 then
    let s1 := s.drainDone
    (((s1.putRide { s1.ride with drain := some b }).setReg F.OPT_RIDE_STATUS_DRAINING 1).setReg
      F.OPT_RIDE_STATUS_CONSISTENT 0)
  else s

/-- The source's queued cells of some Beats, and the copies of theirs that wait, are discarded with the work they copy (02 R90; 08 R297). -/
def State.dropQueued (s : State) (beats : List Nat) : State :=
  (s.putRide { s.ride with queue := s.ride.queue.filter (fun q => decide (q.beat ∉ beats)),
                           waits := s.ride.waits.filter (fun w => decide (w.2.2.1 ∉ beats)) })

end Sys2Proof.Machine
end

