-- ==== Sys2Proof/Machine/Toll.lean ====
section
/-!
DEFINITION. Machine/Toll.lean: the Toll count, tick marks and Clave edges (spec/01 R60, R61; spec/02 R68 to R75, R98, R99).
-/
namespace Sys2Proof.Machine

/-- TOLL_STATUS.STATE: 0 FREE, 1 COARSE, 2 LOCKED, 3 LOST (02 R75). -/
def State.tollState (s : State) : Nat := s.reg F.TOLL_STATUS_STATE

/-- An offset in 1/16 CK as the OFFSET field holds it: 0x7FFF or 0x8000 beyond its range (02 R75). -/
def offsetField (o : Int) : Nat := toField 16 (max (-32768) (min 32767 o))

/-- The device enters LOST (02 R73, R75; 17 R516): a C3 fault with causes TOLL and DEVICE_STOP; it makes no correction any more. -/
def State.tollLost (s : State) : State :=
  let s1 := (s.setReg F.TOLL_STATUS_STATE 3).setReg F.TOLL_STATUS_RATE_PPB 0
  (s1.putTollU { s1.tollU with corr := 0 }).detect 0x2001 4 2 7 none

/-- RATE_PPB is published anew: a free value (02 R72; log entry 5). -/
def State.publishRate (s : State) : State :=
  let p := s.draw
  p.2.setReg F.TOLL_STATUS_RATE_PPB (Config.ratePpb p.1).toNat

/-- An offset measured in COARSE or LOCKED (02 R72, R73). A mark beyond ±16 CK that loses a locked device is not counted in SLEWS: R73
counts those within ±16 CK, R75 all beyond ±4 CK (DESIGN CHOICE, log entry 68). -/
def State.takeOffset (s : State) (off : Int) : State :=
  let near := decide (off.natAbs ≤ 64)
  let good := if near then s.tollU.goodMarks + 1 else 0
  let s1 := (s.setReg F.TOLL_STATUS_OFFSET (offsetField off)).publishRate
  let s2 := (s1.putTollU { s1.tollU with goodMarks := good, lastMark := s1.ck, corr := off })
  if s2.tollState = 2 then
    if off.natAbs > 256 then s2.tollLost
    else if near then s2 else s2.count F.TOLL_EXCURSIONS_SLEWS
  else if good ≥ 16 then s2.setReg F.TOLL_STATUS_STATE 2
  else s2

/-- A tick mark from the parent port, its count read as the sender's Toll count at sending (02 R71 to R73). -/
def State.tickMark (s : State) (count : Nat) : State :=
  let delay := s.reg F.TOLL_DELAY_DELAY
  if s.tollState = 3 then s
  else if s.tollState = 0 then
    if s.running then s
    else
      let s1 := s.setReg F.TOLL_COUNT_COUNT ((16 * count + delay + 8) / 16)
      let s2 := (s1.setReg F.TOLL_STATUS_STATE 1).setReg F.TOLL_STATUS_OFFSET (offsetField (16 * (count : Int) + delay - 16 * s.toll))
      (s2.putTollU { s2.tollU with lastMark := s2.ck, goodMarks := 0, corr := 0 })
  else s.takeOffset (16 * (count : Int) + delay - 16 * s.toll)

/-- The count a Gong word's TICK stands for: the value with those low 22 bits nearest the device's own count (02 R82; log entry
9). -/
def tickNear (own low : Nat) : Nat :=
  let base := own / 2 ^ 22 * 2 ^ 22 + low
  if base > own + 2 ^ 21 ∧ base ≥ 2 ^ 22 then base - 2 ^ 22
  else if base + 2 ^ 21 < own then base + 2 ^ 22
  else base

/-- A mark in a Gong word: only a device that has its count takes it (02 R71; log entry 9). -/
def State.wordMark (s : State) (low : Nat) : State :=
  if s.tollState = 0 then s else s.tickMark (tickNear s.toll low)

/-- A TICK block (02 R69, R71 to R75; 14 R435): taken in order from the parent port; DEPTH is the block's plus one, also of a block
whose mark the device does not take, in LOST or in FREE while a Score runs (DESIGN CHOICE, log entry 68). -/
def State.tickBlock (s : State) (k crc cseq count depth : Nat) : State :=
  let p := s.takeBlock k tyTick crc cseq (count + depth * 2 ^ 64)
  if p.1 && p.2.fromParent k then (p.2.setReg F.TOLL_STATUS_DEPTH (min (depth + 1) 255)).tickMark count
  else p.2

/-- TICK_MARK (02 R68 to R75, R93, R102; 14 R434 to R437; 17 R514). -/
def execTickMark (k : Came) (cseq : BitVec 8) (count : BitVec 64) (depth : BitVec 8) (s : State) : Host.Outcome State Fault Refusal :=
  .next (s.tickBlock k.link k.crc.toNat cseq.toNat count.toNat depth.toNat)

/-- No mark for 1,048,576 CK while LOCKED: LOST (02 R73). The Toll reference, which takes no mark, waits for none (02 R69; log
entry 9). -/
def State.markTimeout (s : State) : State :=
  if s.tollState = 2 ∧ !s.isRoot then (s.advance (s.tollU.lastMark + 1048576 - s.ck)).tollLost else s

/-- TOLL_MARK_TIMEOUT (02 R73, R93; 17 R514). -/
def execTollMarkTimeout (s : State) : Host.Outcome State Fault Refusal := .next s.markTimeout

/-- The body of a TICK block: Toll count and DEPTH (14 R435). -/
def State.tickBody (s : State) : Nat := s.toll + s.reg F.TOLL_STATUS_DEPTH * 2 ^ 64

/-- TICK_SEND (02 R71): a TICK block to each child port. -/
def execTickSend (s : State) : Host.Outcome State Fault Refusal := .next (s.sendPorts s.childPorts tyTick s.tickBody)

/-- A write to TOLL_PRESET (02 R68, R75). -/
def State.preset (s : State) (v : Nat) : State :=
  if s.isRoot && decide (s.tollState = 0) && !s.running then
    (s.setReg F.TOLL_COUNT_COUNT v).setReg F.TOLL_STATUS_STATE 2
  else s.mark F.TOLL_STATUS_PRESET_REJ

/-- TOLL_PRESET (02 R68, R75). -/
def execTollPreset (v : BitVec 64) (s : State) : Host.Outcome State Fault Refusal := .next (s.preset v.toNat)

/-- The Clave mode in effect (02 R98, R113): while a Score runs a new MODE waits for the boundary. -/
def State.clave (s : State) : Nat := if s.running then s.beatU.claveMode else s.reg F.BEAT_CLAVE_CFG_MODE

/-- The device is its Acre's Clave master (02 R98): FOLLOW, with a loaded Score that follows Clave. -/
def State.claveMaster (s : State) : Bool :=
  decide (s.clave = 2) && (match s.score.cur with | some p => p.clave | none => false)

/-- The boundary an edge is measured against: the nearer of the running Beat's two, the earlier on a tie (02 R99). -/
def State.nearBoundary (s : State) (edge : Nat) : Nat :=
  let a := s.beatU.start
  let b := s.reg F.BEAT_NEXT_BOUNDARY
  if ((edge : Int) - a).natAbs ≤ ((edge : Int) - b).natAbs then a else b

/-- INFLIGHT for an edge: adjustments sent that apply to later boundaries (02 R99). -/
def State.inflightAt (s : State) (edge : Nat) : Int :=
  let from_ := if s.nearBoundary edge = s.beatU.start then s.beat else s.beat + 1
  (s.beatU.inflight.filter (fun e => decide (e.1 ≥ from_))).foldl (fun a e => a + e.2) 0

/-- An accepted edge at the Clave master (02 R99). -/
def State.claveMeasure (s : State) (edge : Nat) : State :=
  if s.claveMaster && s.running then
    let d := (edge : Int) - s.nearBoundary edge
    (s.setReg F.BEAT_CLAVE_STATUS_LAST_D (toField 24 d)).setReg F.BEAT_CLAVE_STATUS_PEND (toField 24 (d - s.inflightAt edge))
  else if s.running then s else s.setReg F.BEAT_CLAVE_STATUS_PEND 0

/-- The package CK of an edge whose Toll count is `edge` (01 R60). -/
def State.edgeAt (s : State) (edge : Nat) : Int := (s.ck : Int) + edge - s.toll

/-- The edge comes less than 32,768 CK after the last accepted one (01 R61). -/
def State.edgeClose (s : State) (edge : Nat) : Bool :=
  match s.beatU.edgeCk with
  | some e => decide (s.edgeAt edge < e + 32768)
  | none => false

/-- An active edge (01 R61; 02 R98, R99): with MODE OFF none is taken; one less than 32,768 CK after the last accepted is
discarded and counted. -/
def State.claveEdge (s : State) (edge : Nat) : State :=
  if s.clave = 0 ∨ s.clave = 3 then s
  else if s.edgeClose edge then s.tick F.BEAT_CLAVE_COUNTS_DISCARDED
  else
    let s1 := (s.setReg F.BEAT_CLAVE_EDGE_EDGE edge).tick F.BEAT_CLAVE_COUNTS_ACCEPTED
    (s1.putBeatU { s1.beatU with edgeCk := some (s.edgeAt edge) }).claveMeasure edge

/-- CLAVE_EDGE (01 R60, R61; 02 R98, R99). -/
def execClaveEdge (edge : BitVec 64) (s : State) : Host.Outcome State Fault Refusal := .next (s.claveEdge edge.toNat)

end Sys2Proof.Machine
end

