-- ==== Sys2Proof/Machine/Beat.lean ====
section
/-!
DEFINITION. Machine/Beat.lean: Beats, seals and Gong words, HOLD rounds, commit, replay and halt, the probe round (spec/02 R76 to
R101; spec/07 R241 to R252, R264 to R268; spec/06 R206 to R209; spec/18 R547).
-/
namespace Sys2Proof.Machine

/-! ### What the Score says of a Beat (07 R241, R242) -/

/-- Whether Beat b is a drain Beat: Beat BEATS, or the Beat of a pending pause (07 R241, R266, R267). -/
def State.drainBeat (s : State) (b : Nat) : Bool :=
  match s.score.cur with
  | some p => (decide (p.beats ≠ 0) && decide (p.beats ≤ b)) ||
      (decide (s.reg F.SEQ_PAUSE_PAUSE_BEAT ≠ 0) && decide (s.reg F.SEQ_PAUSE_PAUSE_BEAT = b))
  | none => false

/-- The phase of a Beat that is no drain Beat (07 R241). -/
def phaseOf (p : ScoreParams) (b : Nat) : Nat :=
  if b < p.prologue then b else p.prologue + (b - p.prologue) % (p.phases - p.prologue)

/-- Cluster c is fenced in the Score (07 R242). -/
def State.scoreFenced (s : State) (c : Nat) : Bool :=
  match s.score.cur with
  | some p => (p.fence.getD 1 0).testBit c
  | none => false

/-- The cluster has passed its hold mark (06 R207, R208). -/
def State.pastHold (s : State) (c : Nat) : Bool :=
  s.scoreFenced c || decide (s.reg F.SEQ_CLUSTER_STATE c = 2) || decide (s.reg F.SEQ_CLUSTER_STATE c = 3)

/-- The cluster has ended its phase (06 R208). -/
def State.phaseEnded (s : State) (c : Nat) : Bool := s.scoreFenced c || decide (s.reg F.SEQ_CLUSTER_STATE c = 3)

/-! ### The start of a Beat -/

/-- A cluster at a boundary: registers as 06 R206 says, no instruction queued (log entry 12). Tally inputs stay, and what the matrix array
holds; an operation cut short leaves no tile for REUSE (05 R178). A pending repair map has waited for its boundary (05 R199). -/
def Cluster.restart (x : Cluster) : Cluster :=
  { Cluster.reset with tile := if x.mxRun.isEmpty then x.tile else none, array := x.array, accs := x.accs, filler := x.filler,
                       repair := x.repair, tallyq := x.tallyq }

/-- The Chime operations that wait in a cluster's queues, in order (06 R230). -/
def Cluster.chimeOps (x : Cluster) : List ChimeOp :=
  x.mxq.filterMap (fun e => match e with | .chime o => some o | _ => none) ++
    ((x.vq.flatMap (·.2)) ++ x.tlq).filterMap (fun e => match e with | .chime o => some o | _ => none) ++
    x.mvq.filterMap (fun e => match e with | .chime o => some o | _ => none)

/-- Chime operations that still wait at a unit when their Beat ends go to their dies, with the number of that Beat: one on a Score Chime
is then discarded and counted, one on another Chime is applied (02 R108). -/
def State.flushChimes (s : State) : State :=
  (s.clusters.flatMap (fun e => e.2.chimeOps)).foldl State.queueChime s

/-- Where cluster c's list of Beat b begins: the START of its phase (07 R242), or behind the two instructions of a drain Beat's list (R241). -/
def State.listStart (s : State) (b c : Nat) : Nat :=
  match s.score.cur with
  | some p => if s.drainBeat b then (if s.scoreFenced c then 0 else 2) else (p.starts.getD c []).getD (phaseOf p b) 0
  | none => 0

/-- SEQ_CLUSTER.STATE as Beat b starts: OFF where fenced; RUN; in a drain Beat the device itself supplies SEQ.HOLD then SEQ.END, which wait for
nothing at its start, so that the phase has ended (06 R207, R208, R234; 07 R241). -/
def State.startState (s : State) (b c : Nat) : Nat := if s.scoreFenced c then 0 else if s.drainBeat b then 3 else 1

/-- Every sequencer starts the list of its phase at its first instruction (06 R206). -/
def State.startSequencers (s : State) (b : Nat) : State :=
  let s1 := (s.putClusters ((s.clusters.map (fun e => (e.1, e.2.restart))).filter (fun e => decide (e.2 ≠ Cluster.reset))))
  foldKeys (List.range 64) (fun t c =>
    let t1 := (t.setReg F.SEQ_CLUSTER_STATE (t.startState b c) c).setReg F.SEQ_CLUSTER_INDEX (t.listStart b c) c
    ((t1.setReg F.SEQ_CLUSTER_CCOUNT 0 c).setReg F.SEQ_CLUSTER_STALL 0 c).setReg F.SEQ_CLUSTER_WAIT_CHIME 0 c) s1

/-- Whether a byte of working memory lies outside the list area (07 R244). -/
def State.clearable (s : State) (a : Nat) : Bool :=
  inWm a && (match s.score.cur with
    | some p => !within (a % 0x800000) p.listBase (p.listBase + p.listBytes)
    | none => true)

/-- Working memory outside the list area reads as zero (07 R244). -/
def State.clearWm (s : State) : State :=
  ((s.putMem (s.mem.filter (fun e => !s.clearable e.1))).putPoison (s.poison.filter (fun a => !s.clearable a))).putSoft
    (s.soft.filter (fun a => !s.clearable a))

/-- Score Bushel records return to the state their Score gives them (04 R159): nothing parked for them and no input of theirs queued. -/
def State.clearScoreBushels (s : State) : State :=
  let keep := fun (k : Nat) => !s.rScored (k / 64) (k % 64)
  let cut := fun (x : Cluster) => { x with tallyq := x.tallyq.filter (fun i => keep i.key) }
  let s1 := s.putClusters ((s.clusters.map (fun e => (e.1, cut e.2))).filter (fun e => decide (e.2 ≠ Cluster.reset)))
  ((s1.putBushels (s.bushels.filter (fun e => keep e.1))).putParked (s.parked.filter (fun p => p.cell.isSome || keep p.input.key))).showPark

/-- Score Chimes take the COUNT and TARGET of the Score (02 R108). -/
def State.scoreChimes (s : State) : State :=
  match s.score.cur with
  | some p => (s.restoreChimes p.chimes0 0).restoreChimes p.chimes1 16384
  | none => s

/-- Operations on Score Chimes that still wait when the last Beat ends are discarded and counted (02 R108). -/
def State.dropChimes (s : State) : State :=
  let gone := s.chimeq.filter (fun o => s.scoreChime o.index)
  if gone.isEmpty then s
  else (s.putChimeq (s.chimeq.filter (fun o => !s.scoreChime o.index))).count F.CHIME_STATUS_STALE gone.length

/-- What every Beat boundary brings, also one at which the device stops or a drain Beat ends (02 R108; 04 R159; 06 R206; 07 R244): working
memory outside the list area reads zero, Score Bushels and Score Chimes are as the Score gives them. -/
def State.freshBeat (s : State) : State := s.clearWm.clearScoreBushels.scoreChimes

/-- A boundary after which no Beat runs (06 R206; 10 R337, R359): registers of the clusters as at every boundary, what has started going on,
and no page selected. -/
def State.lastBoundary (s : State) : State :=
  let cut := fun (x : Cluster) => { x.restart with mxRun := x.mxRun, feed := x.feed, shadow := x.shadow, tile := x.tile, mvRun := x.mvRun }
  let s1 := (s.putClusters ((s.clusters.map (fun e => (e.1, cut e.2))).filter (fun e => decide (e.2 ≠ Cluster.reset)))).dropChimes.freshBeat
  let s2 := foldKeys (List.range 64) (fun t c => t.setReg F.SEQ_CLUSTER_CCOUNT 0 c) s1
  ((s2.setReg F.CAL_PHASE_PAGES_D0 0).setReg F.CAL_PHASE_PAGES_D1 0)

/-- CAL_PHASE shows the pages the running phase selects; a drain Beat selects none (07 R241, R242; 10 R337, R359). -/
def State.selectPages (s : State) (b : Nat) : State :=
  let pg := match s.score.cur with
    | some p => if s.drainBeat b then (0, 0, 0) else p.phaseTab.getD (phaseOf p b) (0, 0, 0)
    | none => (0, 0, 0)
  (s.setReg F.CAL_PHASE_PAGES_D0 pg.2.1).setReg F.CAL_PHASE_PAGES_D1 pg.2.2

/-- Beat b starts at boundary t (02 R78, R79, R108, R113; 04 R159; 06 R206; 07 R244; 10 R337, R340). -/
def State.startBeat (s : State) (b t : Nat) (hasPrev : Bool) : State :=
  let u := { s.beatU with
    start := t, adj := 0, err := false, errCause := 0, hasPrev := hasPrev, prevVerdict := 0, abandoned := false, stopped := false,
    drain := s.drainBeat b, holds := s.beatU.holds.filter (fun h => !s.ownAcre h.1), claveMode := s.reg F.BEAT_CLAVE_CFG_MODE,
    inflight := s.beatU.inflight.filter (fun e => decide (e.1 = b)) }
  let s1 := ((s.putBeatU u).putSw { s.sw with base := s.sw.time })
  let s2 := ((s1.setReg F.BEAT_NUM_NUM b).setReg F.BEAT_NEXT_BOUNDARY (t + s1.reg F.BEAT_PERIOD_PERIOD)).setReg F.BEAT_STATUS_STRETCHES 0
  ((s2.flushChimes.startSequencers b).freshBeat.selectPages b).dropStale

/-! ### Launch (02 R80; 07 R264) -/

/-- An ARMED device reaches LAUNCH_TOLL: STATE becomes RUNNING, Beat START_BEAT begins, its launch completes DONE. A device in SAFE_OFF
runs no Score (01 R52), so an ARMED one does not start there: its launch stays as it is (DEDUCED, log entry 69). -/
def State.launchNow (s : State) : State :=
  if s.reg F.BEAT_STATUS_STATE = 1 ∧ s.reg F.ENG_PWR_STATE_STATE ≠ 6 then
    let s1 := s.advanceTo (s.reg F.BEAT_LAUNCH_LAUNCH_TOLL)
    let b := s1.beatU.startBeat
    let u := { BeatUnit.reset with startBeat := b, next := b, vouched := s1.beatU.vouched, edgeCk := s1.beatU.edgeCk,
                                   rounds := s1.beatU.rounds.filter (fun r => !s1.ownAcre r.acre), trees := s1.beatU.trees,
                                   holds := s1.beatU.holds, resetDue := s1.beatU.resetDue, leaveDue := s1.beatU.resetDue }
    let s2 := ((s1.putBeatU u).setReg F.BEAT_STATUS_STATE 2).setReg F.BEAT_STATUS_REPLAY_RUN 0
    let s3 := s2.startBeat b (s1.reg F.BEAT_LAUNCH_LAUNCH_TOLL) false
    match s3.score.launch with
    | some d => (s3.putScore { s3.score with launch := none }).complete d 0
    | none => s3
  else s

/-- LAUNCH_TOLL_REACHED (02 R78, R80; 07 R264). -/
def execLaunchTollReached (s : State) : Host.Outcome State Fault Refusal := .next s.launchNow

/-! ### Commit, discard and stop (02 R89 to R93; 06 R209; 07 R252; 08 R297, R299; 10 R341) -/

/-- Issue of the Beat's work stops: waiting instructions are discarded, sequencers that have not ended are STOPPED (06 R209,
R234). -/
def State.stopIssue (s : State) : State :=
  let cut := fun (x : Cluster) => { x with mxq := [], mvq := [], vq := [], tlq := [], wait := none, resume := none }
  let left := (s.clusters.map (fun e => (e.1, cut e.2))).filter (fun e => decide (e.2 ≠ Cluster.reset))
  let s1 := (s.putBeatU { s.beatU with stopped := true }).putClusters left
  foldKeys (List.range 64) (fun t c =>
    if t.reg F.SEQ_CLUSTER_STATE c = 1 ∨ t.reg F.SEQ_CLUSTER_STATE c = 2 then
      ((t.setReg F.SEQ_CLUSTER_STATE 4 c).setReg F.SEQ_CLUSTER_STALL 0 c).setReg F.SEQ_CLUSTER_WAIT_CHIME 0 c
    else t) s1

/-- Beat b commits: its undo log empties (07 R252), a holder's drain of it starts (08 R297). -/
def State.commit (s : State) (b : Nat) : State :=
  let s1 := (s.putBeatU { s.beatU with next := b + 1 })
  ((s1.setLog 0 (b % 2) 0).setLog 1 (b % 2) 0).drainStart b

/-- Provisional results of Beats are discarded: scored cells purged, ride buffers emptied, rollback due, newest first (02 R90, R91;
07 R252; 08 R299; 10 R341). -/
def State.discardBeats (s : State) (bs : List Nat) : State :=
  let s1 := ((s.purge bs).dropQueued bs).dropRide (fun x => decide (x ∈ bs))
  (s1.putBeatU { s1.beatU with rollback := bs })

/-- C2 fences due at this boundary take effect (17 R512). -/
def State.setFences (s : State) : State :=
  s.beatU.fences.foldl (fun t e => t.setFence e.1 e.2) (s.putBeatU { s.beatU with fences := [] })

/-- The pending pause, if any, is aborted (07 R268). -/
def State.abortPause (s : State) : State :=
  match s.score.pause with
  | some d => (s.putScore { s.score with pause := none }).complete d 0x53
  | none => s

/-- The device stops at a boundary as HALTED (3) or LEFT (4): the Beat before commits when its word was SEAL_OK, everything later
is discarded (02 R91, R93). -/
def State.stopAt (s : State) (how : Nat) (mayCommit : Bool) : State :=
  let b := s.beat
  let ok := mayCommit && s.beatU.hasPrev && decide (s.beatU.prevVerdict = 1)
  let s1 := if ok then s.commit (b - 1) else s
  let s2 := s1.stopIssue
  let bs := if s.beatU.abandoned then s.beatU.rollback else b :: (if s.beatU.hasPrev && !ok then [b - 1] else [])
  let s3 := ((s2.discardBeats bs).dropRide (fun x => decide (s2.ride.drain ≠ some x))).showConsistent
  let s4 := (s3.setReg F.BEAT_STATUS_STATE how).setReg F.BEAT_CLAVE_STATUS_PEND 0
  let s5 := s4.putBeatU { s4.beatU with
    haltDue := false, leaveDue := false, abandoned := false, hasPrev := false, err := false, errCause := 0, haltReq := false, haltCause := 0,
    holds := s4.beatU.holds.filter (fun h => !s4.ownAcre h.1) }
  s5.lastBoundary.setFences.abortPause

/-! ### Seals and words (02 R82 to R86) -/

/-- A seal or HOLD round as its 128 bits (02 R82, R94). -/
def sealBits (beat cause : Nat) (adj : Int) (cnt acre holdK flags : Nat) : Nat :=
  beat % 2 ^ 48 * 2 ^ 80 + cause % 65536 * 2 ^ 64 + toField 24 adj * 2 ^ 40 + cnt % 4 * 2 ^ 38 + acre % 1024 * 2 ^ 26 +
    holdK % 16 * 2 ^ 8 + flags % 256

/-- A Gong word as its 128 bits (02 R82). -/
def gongBits (beat cause : Nat) (adj : Int) (k acre tick verdict : Nat) : Nat :=
  beat % 2 ^ 48 * 2 ^ 80 + cause % 65536 * 2 ^ 64 + toField 24 adj * 2 ^ 40 + k % 16 * 2 ^ 36 + acre % 1024 * 2 ^ 26 +
    tick % 2 ^ 22 * 2 ^ 4 + verdict % 16

/-- The verdict of a round, the cause bits it adds and the ADJ it grants (02 R86). -/
def verdictOf (flags run cnt : Nat) (adj : Int) : Nat × Nat × Int :=
  let extra := if cnt ≥ 2 then 2 ^ 12 else 0
  let a := if cnt ≥ 2 then 0 else adj
  if flags.testBit 2 || flags.testBit 3 || flags.testBit 5 then (4, extra, a)
  else if flags.testBit 0 || flags.testBit 4 then (if run < 3 then (2, extra, a) else (4, extra + 2 ^ 13, a))
  else (1, extra, a)

/-- A round with nothing in it. -/
def Round.empty (acre beat : Nat) : Round := ⟨acre, beat, 0, 0, 0, 0, 0, [], false, 0, 0⟩

/-- Whether a round is that of Beat `b` of Acre `a`. -/
def Round.isOf (r : Round) (a b : Nat) : Bool := decide (r.acre = a ∧ r.beat = b)

/-- The round of a Beat of an Acre that is in progress (02 R81, R84). -/
def State.roundOf (s : State) (a b : Nat) : Option Round := s.beatU.rounds.find? (fun r => r.isOf a b)

/-- The same, or an empty one. -/
def State.roundFor (s : State) (a b : Nat) : Round := (s.roundOf a b).getD (Round.empty a b)

/-- A round takes its place among those in progress: each Beat of each Acre has its own (02 R81, R84). -/
def State.putRound (s : State) (r : Round) : State :=
  s.putBeatU { s.beatU with rounds := s.beatU.rounds.filter (fun x => !x.isOf r.acre r.beat) ++ [r] }

/-- A round is over. -/
def State.dropRound (s : State) (r : Round) : State :=
  s.putBeatU { s.beatU with rounds := s.beatU.rounds.filter (fun x => !x.isOf r.acre r.beat) }

/-- A round with a seal combined into it (02 R82, R84). -/
def Round.merge (r : Round) (w : Nat) : Round :=
  { r with flags := r.flags ||| bitsOf w 7 0, cause := r.cause ||| bitsOf w 79 64, adj := r.adj + sxt 24 (bitsOf w 63 40),
           adjCnt := min 2 (r.adjCnt + bitsOf w 39 38) }

/-- The master's adjustment: PEND clamped to ±PERIOD/16, and PEND less it (02 R100). -/
def State.claveAdj (s : State) : Int × Nat × State :=
  if s.claveMaster then
    let p := sxt 24 (s.reg F.BEAT_CLAVE_STATUS_PEND)
    let lim : Int := s.reg F.BEAT_PERIOD_PERIOD / 16
    let a := max (-lim) (min lim p)
    (a, 1, s.setReg F.BEAT_CLAVE_STATUS_PEND (toField 24 (p - a)))
  else (0, 0, s)

/-- OVERRUN: a phase unfinished, or the ride queue still holding the Beat's cells (02 R96; 06 R208; 08 R295). -/
def State.overrun (s : State) : Bool :=
  (List.range 64).any (fun c => !s.phaseEnded c) ||
    s.ride.queue.any (fun q => decide (q.beat = s.beat)) || s.ride.waits.any (fun w => decide (w.2.2.1 = s.beat))

/-- The device's own seal for the running Beat goes into its round (02 R83 to R85, R90, R93, R96, R100). A vouch of Beat b counts in
every run of Beat b, of a replay or of a later launch, until the device is reset: R85 asks for a write of b before the end
boundary and says nothing of an earlier one (DESIGN CHOICE, log entry 66). -/
def State.ownSeal (s : State) : State :=
  let b := s.beat
  let nov := decide (b ∉ s.beatU.vouched)
  let s1 := if nov then s.tell 0x2004 1 4 2 7 none else s
  let a := s1.claveAdj
  let s2 := a.2.2
  let u := s2.beatU
  let ov := !u.drain && s2.overrun
  let cause := (if u.err then u.errCause else 0) ||| (if u.haltReq then u.haltCause else 0) ||| (if nov then 64 else 0) |||
    (if ov then 16 else 0)
  let flags := b2n u.err + 4 * b2n nov + 8 * b2n u.haltReq + 16 * b2n ov
  let r := (s2.roundFor s2.scoreAcre b).merge (sealBits b cause a.1 a.2.1 0 0 flags)
  let r2 := { r with boundary := s2.reg F.BEAT_NEXT_BOUNDARY, own := true, run := s2.reg F.BEAT_STATUS_REPLAY_RUN,
                     k := s2.reg F.BEAT_STATUS_STRETCHES }
  let infl := if a.2.1 = 1 then s2.beatU.inflight ++ [(b + 1, a.1)] else s2.beatU.inflight
  let s3 := s2.putRound r2
  (s3.putBeatU { s3.beatU with haltReq := false, haltCause := 0, err := false, errCause := 0,
                                     inflight := infl, rootRun := r2.run })

/-- SEAL_REPLAY for Beat b (02 R90; 06 R209; 07 R252; 08 R299; 10 R341). -/
def State.replayWord (s : State) (b : Nat) : State :=
  let s1 := s.stopIssue.discardBeats [b + 1, b]
  (s1.putBeatU { s1.beatU with prevVerdict := 2, abandoned := true, err := false, errCause := 0 })

/-- The end boundary moves (02 R79, R95, R101). -/
def State.moveEnd (s : State) (k : Nat) (adj : Int) : State :=
  let n : Int := (s.beatU.start + s.reg F.BEAT_PERIOD_PERIOD + k * s.reg F.BEAT_PERIOD_STRETCH : Nat)
  ((s.setReg F.BEAT_NEXT_BOUNDARY (n + adj).toNat).putBeatU { s.beatU with adj := adj })

/-- SEAL_HOLD with k stretches (02 R95). -/
def State.holdWord (s : State) (k : Nat) : State :=
  let was := s.reg F.BEAT_STATUS_STRETCHES
  if was < k then
    ((s.tick F.BEAT_COUNTS_STRETCHES (k - was)).setReg F.BEAT_STATUS_STRETCHES k).moveEnd k s.beatU.adj
  else s

/-- SEAL_OK for the Beat before the running one. -/
def State.okWord (s : State) (b v : Nat) : Bool :=
  s.beatU.hasPrev && decide (b + 1 = s.beat) && decide (s.beatU.prevVerdict = 0) && decide (v = 1)

/-- A Gong word of the device's Acre while a Score runs (02 R90, R91, R95, R97, R101). After SEAL_HALT every other word before the
boundary is passed over, but that a Beat whose SEAL_OK comes then is still committed, as it is when the two come in the other order
(R91; log entry 68). -/
def State.actOnWord (s : State) (w : Nat) : State :=
  let b := bitsOf w 127 80
  let v := bitsOf w 3 0
  let u := s.beatU
  if v = 4 then (s.putBeatU { u with haltDue := true })
  else if u.haltDue then (if s.okWord b v then s.putBeatU { u with prevVerdict := 1 } else s)
  else if v = 3 then (if b = s.beat && !u.abandoned then s.holdWord (bitsOf w 39 36) else s)
  else if u.hasPrev && decide (b + 1 = s.beat) && decide (u.prevVerdict = 0) && (decide (v = 1) || decide (v = 2)) then
    let s1 := if v = 1 then (s.putBeatU { u with prevVerdict := 1 }) else s.replayWord b
    let a := sxt 24 (bitsOf w 63 40)
    if a = 0 then s1 else s1.moveEnd (s1.reg F.BEAT_STATUS_STRETCHES) (s1.beatU.adj + a)
  else s

/-- A verdict for a Beat of another Acre passes: HOLD rounds of what it decides are no longer remembered (02 R81, R94). -/
def State.forgetHolds (s : State) (a b v : Nat) : State :=
  if v = 3 then s
  else s.putBeatU { s.beatU with holds := s.beatU.holds.filter (fun h => !decide (h.1 = a ∧ (h.2.1 ≤ b ∨ v ≠ 1))) }

/-- A Gong word at this device (02 R81, R114). -/
def State.applyWord (s : State) (w : Nat) : State :=
  let s1 := (s.setReg F.GONG_WORD_LO_WORD (w % 2 ^ 64)).setReg F.GONG_WORD_HI_WORD (w / 2 ^ 64)
  let s2 := s1.mark F.GONG_CAUSES_CAUSE_ACC (bitsOf w 79 64)
  if !s2.ownAcre (bitsOf w 35 26) then s2.forgetHolds (bitsOf w 35 26) (bitsOf w 127 80) (bitsOf w 3 0)
  else
    let s3 := match s2.beatU.sealed with
      | some (b, t) => if b = bitsOf w 127 80 ∧ bitsOf w 3 0 ≠ 3 then
          ((s2.peak F.GONG_LAT_MAX_CK (s2.toll - t)).putBeatU { s2.beatU with sealed := none }) else s2
      | none => s2
    if s3.running then s3.actOnWord w else s3

/-- What the root has in hand of a Beat of another Acre (02 R86, R95). -/
def State.treeBeat (s : State) (a b : Nat) : TreeBeat :=
  (s.beatU.trees.find? (fun x => decide (x.acre = a ∧ x.beat = b))).getD ⟨a, b, 0, 0, false⟩

/-- That record replaced. -/
def State.putTree (s : State) (x : TreeBeat) : State :=
  s.putBeatU { s.beatU with trees := s.beatU.trees.filter (fun y => !decide (y.acre = x.acre ∧ y.beat = x.beat)) ++ [x] }

/-- The root's records of another Acre after its verdict (02 R86, R90, R91): a replay counts and begins with no stretch, a good Beat is
done, a halt leaves nothing. -/
def State.treeVerdict (s : State) (a b v : Nat) : State :=
  let x := s.treeBeat a b
  let rest := s.beatU.trees.filter (fun y => decide (y.acre ≠ a))
  if v = 2 then s.putBeatU { s.beatU with trees := rest ++ [{ x with run := x.run + 1, k := 0 }] }
  else if v = 1 then
    let later := s.beatU.trees.filter (fun y => decide (y.acre = a ∧ b < y.beat))
    s.putBeatU { s.beatU with trees := rest ++ later ++ [{ x with run := 0, done := true }] }
  else s.putBeatU { s.beatU with trees := rest }

/-- The children whose seals a round waits for: the device's own Acre's, or at the root those that lead to another Acre (02 R81, R84). -/
def State.roundPorts (s : State) (r : Round) : List Nat :=
  if s.ownAcre r.acre then s.acreChildren r.acre else s.treePorts r.acre

/-- The root's word for a round: down the tree, and taken by the root itself (02 R86). -/
def State.giveVerdict (s : State) (r : Round) (cause flags : Nat) : State :=
  let v := verdictOf flags r.run r.adjCnt r.adj
  let w := gongBits r.beat (cause ||| v.2.1) v.2.2 r.k r.acre (s.toll % 2 ^ 22) v.1
  let s1 := if s.ownAcre r.acre then s else s.treeVerdict r.acre r.beat v.1
  (s1.sendPorts s1.childPorts tyGong w).applyWord w

/-- The combined seal leaves: up the tree, or at the root as the verdict down it (02 R84, R86). -/
def State.closeRound (s : State) (r : Round) : State :=
  let miss := !(s.roundPorts r).all (fun p => decide (p ∈ r.heard))
  let s1 := if miss then s.tell 0x2002 1 5 r.acre 7 none else s
  let flags := r.flags ||| (if miss then 32 else 0)
  let cause := r.cause ||| (if miss then 0x800 else 0)
  let s2 := s1.dropRound r
  if s2.ownAcre r.acre then
    let sl := sealBits r.beat cause r.adj r.adjCnt r.acre 0 flags
    let s3 := (s2.setReg F.GONG_SEAL_LO_SEAL (sl % 2 ^ 64)).setReg F.GONG_SEAL_HI_SEAL (sl / 2 ^ 64)
    let s4 := (s3.putBeatU { s3.beatU with sealed := some (r.beat, s3.toll) })
    if s4.isRoot then s4.giveVerdict r cause flags else s4.sendUp tySeal sl
  else s2.giveVerdict r cause flags

/-- A round for which every seal is in is closed (02 R84). -/
def State.tryRound (s : State) (r : Round) : State :=
  if r.own && (s.roundPorts r).all (fun p => decide (p ∈ r.heard)) then s.closeRound r else s

/-- Every round for which every seal is in is closed (02 R84). -/
def State.tryClose (s : State) : State := s.beatU.rounds.foldl State.tryRound s

/-! ### The boundary (02 R79) -/

/-- The abandoned Beat ends: its predecessor begins again (02 R90); open collectives whose output carries an abandoned Beat end
(04 R169). -/
def State.replayBegin (s : State) : State :=
  let b := s.beat - 1
  let s1 := (s.rollback).endColls (fun y => y.outBeat.any (fun x => decide (b ≤ x))) 0x34
  let s2 := (s1.setReg F.BEAT_STATUS_REPLAY_RUN (min 3 (s1.beatU.rootRun + 1))).tick F.BEAT_COUNTS_REPLAYS
  s2.startBeat b (s.reg F.BEAT_NEXT_BOUNDARY) false

/-- A drain Beat ends: the Beat before commits, no seal is sent, the Score has ended or paused (07 R266, R267; 18 R547). -/
def State.drainEnd (s : State) : State :=
  let b := s.beat
  let s1 := if s.beatU.hasPrev then s.commit (b - 1) else s
  let paused := decide (s1.reg F.SEQ_PAUSE_PAUSE_BEAT = b) &&
    (match s1.score.cur with | some p => decide (p.beats = 0) || decide (b < p.beats) | none => true)
  let s2 := (s1.stopIssue.undoBeat b).lastBoundary.setFences
  let s3 := ((s2.setReg F.BEAT_STATUS_STATE 0).setReg F.SEQ_SCORE_STATE (if paused then 5 else 6)).setReg F.SEQ_PAUSE_PAUSE_BEAT 0
  let s4 := s3.setReg F.BEAT_CLAVE_STATUS_PEND 0
  let s5 := (s4.putBeatU { s4.beatU with hasPrev := false, haltReq := false, haltCause := 0, err := false, errCause := 0 }).setNext
  match s5.score.pause with
  | some d => (s5.putScore { s5.score with pause := none }).complete d 0
  | none => s5

/-- An ordinary Beat ends: the seal is formed, the Beat before commits, the next begins (02 R84, R89). -/
def State.beatEnd (s : State) : State :=
  let b := s.beat
  let t := s.reg F.BEAT_NEXT_BOUNDARY
  let s1 := s.ownSeal.setFences
  let s2 := if s1.beatU.hasPrev then s1.commit (b - 1) else s1
  let s3 := (s2.putRide { s2.ride with queue := closeRide 1 (closeRide 0 s2.ride.queue) })
  ((s3.startBeat (b + 1) t true).setReg F.BEAT_STATUS_REPLAY_RUN 0).tryClose

/-- A device that leaves at the end of a drain Beat: the drain Beat ends as R266 says, with no seal, and BEAT_STATUS.STATE is LEFT (02 R93;
07 R266; log entry 68). -/
def State.drainLeave (s : State) : State :=
  let s1 := s.drainEnd
  if s.beatU.leaveDue then (s1.setReg F.BEAT_STATUS_STATE 4).putBeatU { s1.beatU with leaveDue := false } else s1

/-- The end boundary of the running Beat (02 R79, R89 to R93; 07 R266). -/
def State.boundary (s0 : State) : State :=
  if !s0.running then s0
  else
    let s := s0.advanceTo (s0.reg F.BEAT_NEXT_BOUNDARY)
    let u := s.beatU
    if u.haltDue then (if u.leaveDue then s.stopAt 4 true else s.stopAt 3 true)
    else if u.hasPrev && decide (u.prevVerdict = 0) then
      let s1 := s.detect 0x2003 5 s.scoreAcre 7 none
      ((if u.drain then s1 else s1.ownSeal).stopAt (if u.leaveDue then 4 else 3) false).tryClose
    else if u.abandoned then s.replayBegin
    else if u.drain then s.drainLeave
    else if u.leaveDue then ((s.ownSeal).stopAt 4 true).tryClose
    else s.beatEnd

/-- BEAT_BOUNDARY (01 R51; 02 R78, R79, R82, R84, R85, R89 to R93, R96, R100, R108, R113; 04 R159; 06 R206, R208, R209; 07 R241,
R242, R244, R246, R252, R266 to R268; 08 R295, R297, R299; 10 R340, R341, R359; 16 R497; 17 R512, R530; 18 R547). -/
def execBeatBoundary (s : State) : Host.Outcome State Fault Refusal := .next s.boundary

/-! ### Seal rounds (02 R81, R84, R86) -/

/-- A seal of another Acre at the root (02 R81, R86): it is combined with that Acre's others and the round is closed once every child
that leads to the Acre has sent one, or at SEAL_WAIT after the first; a seal for a Beat whose verdict is given is too late (DESIGN
CHOICE, log entry 8). -/
def State.rootSeal (s : State) (p w : Nat) : State :=
  let a := bitsOf w 35 26
  let b := bitsOf w 127 80
  let x := s.treeBeat a b
  if x.done then s
  else
    let r := if (s.roundOf a b).isSome then s.roundFor a b
      else { Round.empty a b with boundary := s.toll, own := true, run := x.run, k := x.k }
    let r1 := { r.merge w with heard := keyAdd r.heard p, k := x.k }
    let s1 := s.putBeatU { s.beatU with trees := s.beatU.trees.filter (fun y => !(decide (y.acre = a) && y.done)) }
    (s1.putRound r1).tryRound r1

/-- A child's seal (02 R81, R84; 14 R435, R436): of another Acre it goes on up unchanged, or into that Acre's round at the root; of this one
it is combined, once per child; a Beat with no round and not now running is too late (07 R266 for a drain Beat). -/
def State.sealIn (s : State) (k w : Nat) : State :=
  let p := k / 2
  let a := bitsOf w 35 26
  if !s.ownAcre a then
    (if p ∉ s.childPorts then s else if s.isRoot then s.rootSeal p w else s.sendUp tySeal w)
  else if p ∉ s.acreChildren a then s
  else
    let b := bitsOf w 127 80
    if (s.roundOf a b).isSome || (s.running && decide (b = s.beat) && !s.beatU.drain && !s.beatU.abandoned) then
      let r := s.roundFor a b
      if p ∈ r.heard then s
      else
        let r1 := { r.merge w with heard := keyAdd r.heard p }
        (s.putRound r1).tryRound r1
    else s

/-- SEAL_RECEIVED (02 R81, R82, R84, R86, R103; 14 R434 to R436). -/
def execSealReceived (k : Fin 256) (crc : BitVec 32) (cseq : BitVec 8) (w : BitVec 128) (s : State) :
    Host.Outcome State Fault Refusal :=
  let p := s.takeBlock k.val tySeal crc.toNat cseq.toNat w.toNat
  .next (if p.1 then p.2.sealIn k.val w.toNat else p.2)

/-- The round whose SEAL_WAIT ends first. -/
def State.firstRound (s : State) : Option Round :=
  (s.beatU.rounds.filter (·.own)).foldl (fun m r => match m with
    | some x => if r.boundary < x.boundary then some r else some x
    | none => some r) none

/-- SEAL_WAIT after the boundary the round closes with its missing children marked (02 R84). -/
def State.sealWait (s : State) : State :=
  match s.firstRound with
  | some r => (s.advanceTo (r.boundary + s.reg F.GONG_WAIT_SEAL_WAIT)).closeRound r
  | none => s

/-- SEAL_WAIT_EXPIRY (02 R84, R86). -/
def execSealWaitExpiry (s : State) : Host.Outcome State Fault Refusal := .next s.sealWait

/-- A Gong word from the parent: forwarded with this device's tick, its mark and its verdict taken (02 R69, R71, R81). -/
def State.gongIn (s : State) (k w : Nat) : State :=
  if s.fromParent k then
    ((s.sendPorts s.childPorts tyGong (s.stampWord w)).wordMark (bitsOf w 25 4)).applyWord w
  else s

/-- GONG_WORD (02 R69, R71, R79, R81, R82, R87, R90, R91, R95, R97, R101, R105, R114; 04 R169; 06 R209; 08 R299; 10 R341; 14 R434 to
R436). -/
def execGongWord (k : Fin 256) (crc : BitVec 32) (cseq : BitVec 8) (w : BitVec 128) (s : State) : Host.Outcome State Fault Refusal :=
  let p := s.takeBlock k.val tyGong crc.toNat cseq.toNat w.toNat
  .next (if p.1 then p.2.gongIn k.val w.toNat else p.2)

/-- GONG_VOUCH (02 R85, R114): the Sexton vouches for a Beat. -/
def execGongVouch (beat : BitVec 48) (s : State) : Host.Outcome State Fault Refusal :=
  .next (s.putBeatU { s.beatU with vouched := keyAdd s.beatU.vouched beat.toNat })

/-! ### HOLD (02 R94, R95, R97) -/

/-- The root's answer to a HOLD round of Beat b of Acre a that has `was` stretches so far (02 R95): the stretches after it, and the word. -/
def State.holdAnswer (s : State) (a b was hk : Nat) : Nat × Nat :=
  let k := if hk = was then was + 1 else was
  if k ≥ 9 then (was, gongBits b (2 ^ 14 + 2 ^ 5) 0 was a (s.toll % 2 ^ 22) 4)
  else (k, gongBits b (2 ^ 5) 0 k a (s.toll % 2 ^ 22) 3)

/-- A HOLD round reaches this device or starts here (02 R81, R94, R95): forwarded once for each pair, or answered by the root, for each Acre
its own. -/
def State.holdRound (s : State) (w : Nat) : State :=
  let a := bitsOf w 35 26
  let b := bitsOf w 127 80
  let hk := bitsOf w 11 8
  if s.isRoot then
    let x := s.treeBeat a b
    let own := s.ownAcre a
    let n := s.holdAnswer a b (if own then s.reg F.BEAT_STATUS_STRETCHES else x.k) hk
    let s1 := if own then s else if bitsOf n.2 3 0 = 4 then s.treeVerdict a b 4 else s.putTree { x with k := n.1 }
    (s1.sendPorts s1.childPorts tyGong n.2).applyWord n.2
  else if (a, b, hk) ∈ s.beatU.holds then s
  else (s.putBeatU { s.beatU with holds := s.beatU.holds ++ [(a, b, hk)] }).sendUp tyHoldr w

/-- HOLD rounds count only for the running Beat, not for an abandoned one (02 R97). -/
def State.holdOpen (s : State) (b : Nat) : Bool :=
  s.running && decide (b = s.beat) && !s.beatU.abandoned && !s.beatU.haltDue

/-- The HOLD check at HOLD_LEAD before the end boundary (02 R94). -/
def State.holdCheck (s0 : State) : State :=
  if s0.running then
    let s := s0.advanceTo (s0.reg F.BEAT_NEXT_BOUNDARY - s0.reg F.BEAT_LEAD_HOLD_LEAD)
    if s.holdOpen s.beat && (List.range 64).any (fun c => !s.pastHold c) then
      s.holdRound (sealBits s.beat (2 ^ 5) 0 0 s.scoreAcre (s.reg F.BEAT_STATUS_STRETCHES) 2)
    else s
  else s0

/-- HOLD_CHECK (01 R33; 02 R94, R97; 04 R168; 16 R495). -/
def execHoldCheck (s : State) : Host.Outcome State Fault Refusal := .next s.holdCheck

/-- A HOLDR block from a child (02 R81, R94, R95). -/
def State.holdIn (s : State) (k w : Nat) : State :=
  if k / 2 ∉ s.childPorts then s
  else if !s.ownAcre (bitsOf w 35 26) then s.holdRound w
  else if s.holdOpen (bitsOf w 127 80) then s.holdRound w
  else s

/-- HOLD_ROUND (02 R94, R95; 14 R434 to R436). -/
def execHoldRound (k : Came) (cseq : BitVec 8) (body : BitVec 128) (s : State) : Host.Outcome State Fault Refusal :=
  let p := s.takeBlock k.link tyHoldr k.crc.toNat cseq.toNat body.toNat
  .next (if p.1 then p.2.holdIn k.link body.toNat else p.2)

/-! ### The probe round (02 R88; 07 R260) -/

/-- The Acre of the load in progress. -/
def State.probeAcre (s : State) : Nat := match s.score.load with | some l => l.params.acre | none => s.acre

/-- The body of a PROBE block (14 R435): DIR, ACRE, VALUE. R435 lays ACRE at 35:26 and VALUE at 63:32: `both` is what the four bits that
both have hold (log entry 5), and the command that takes a block has it and the two fields as operands of their own. -/
def probeBody (down : Bool) (acre v both : Nat) : Nat :=
  b2n down + acre % 64 * 2 ^ 26 + both * 2 ^ 32 + v / 16 % 2 ^ 28 * 2 ^ 36

/-- A PROBE block as it is sent: the bits that both fields have are free (log entry 5). -/
def State.probeBlock (s : State) (down : Bool) (acre v : Nat) : Nat × State :=
  let d := s.draw
  (probeBody down acre v (Config.probeShared d.1).toNat, d.2)

/-- A PROBE block to every child. -/
def State.probeDown (s : State) (acre v : Nat) : State :=
  let b := s.probeBlock true acre v
  b.2.sendPorts b.2.childPorts tyProbe b.1

/-- A PROBE block to the parent. -/
def State.probeSendUp (s : State) (acre v : Nat) : State :=
  let b := s.probeBlock false acre v
  b.2.sendUp tyProbe b.1

/-- The round is complete here: MEAS_CK, and SEAL_WAIT at least SUBTREE_CK + 1,024 (02 R88, R114). -/
def State.probeDone (s : State) (v : Nat) : State :=
  let s1 := s.setReg F.GONG_LAT_MEAS_CK v
  let w := s1.reg F.GONG_WAIT_SUBTREE_CK + 1024
  let s2 := s1.setReg F.GONG_WAIT_SEAL_WAIT (min (max (s1.reg F.GONG_WAIT_SEAL_WAIT) w) 0xFFFFFF)
  (s2.putProbe { s2.probe with joined := false, up := false, heard := [] })

/-- Once this device has joined and every child of the Acre has reported, the largest value goes up; the root sends it down (02
R88). The device's own round trip is a free value of at most 60,000 CK (02 R87; log entry 5). -/
def State.probeUp (s : State) : State :=
  if s.probe.joined && !s.probe.up && (s.acreChildren s.probeAcre).all (fun p => decide (p ∈ s.probe.heard)) then
    let d := s.draw
    let v := max s.probe.value (Config.probeRtt d.1 % 60001)
    let s1 := (d.2.putProbe { d.2.probe with up := true, value := v })
    if s1.isRoot then (s1.probeDown s1.probeAcre v).probeDone v
    else s1.probeSendUp s1.probeAcre v
  else s

/-- The device joins the probe round of its Acre (07 R260). -/
def State.probeJoin (s : State) : State :=
  (s.putProbe { s.probe with joined := true, since := s.toll, up := false }).probeUp

/-- A report of another Acre's probe round at the root (02 R81, R88): the largest goes down once every child that leads to the Acre has
reported (DESIGN CHOICE, log entry 8). -/
def State.probeOther (s : State) (p acre v : Nat) : State :=
  let x := (s.probe.others.find? (fun e => decide (e.1 = acre))).getD (acre, [], 0)
  let rest := s.probe.others.filter (fun e => decide (e.1 ≠ acre))
  let heard := keyAdd x.2.1 p
  let top := max x.2.2 v
  if (s.treePorts acre).all (fun q => decide (q ∈ heard)) then (s.putProbe { s.probe with others := rest }).probeDown acre top
  else s.putProbe { s.probe with others := rest ++ [(acre, heard, top)] }

/-- A PROBE block (02 R88; 14 R435): a child's report, or the round's result from the parent, passed on to every child. SUBTREE_CK is the
time from this device's joining to the arrival of the last child's report, the latest a child's seal is seen to come (R88, R114; no
rule names the instant it is counted from: DESIGN CHOICE, log entry 68). -/
def State.probeIn (s : State) (k : Nat) (down : Bool) (acre v : Nat) : State :=
  if down then
    if s.fromParent k then
      let s1 := s.probeDown acre v
      if acre = s1.probeAcre && s1.probe.up then s1.probeDone v else s1
    else s
  else if k / 2 ∉ s.childPorts then s
  else if acre ≠ s.probeAcre then (if s.isRoot then s.probeOther (k / 2) acre v else s.probeSendUp acre v)
  else
    let came := if s.probe.joined then s.toll - s.probe.since else 0
    let s1 := s.setReg F.GONG_WAIT_SUBTREE_CK
      (min (max (if s.probe.heard.isEmpty then 0 else s.reg F.GONG_WAIT_SUBTREE_CK) came) 0xFFFFFF)
    (s1.putProbe { s1.probe with heard := keyAdd s1.probe.heard (k / 2),
                                       value := max (if s1.probe.heard.isEmpty then 0 else s1.probe.value) v }).probeUp

/-- PROBE_ROUND (02 R88, R114; 07 R260; 14 R434 to R436). -/
def execProbeRound (k : Came) (cseq : BitVec 8) (down : Bool) (acre : BitVec 10) (v : ProbeVal) (s : State) :
    Host.Outcome State Fault Refusal :=
  let p := s.takeBlock k.link tyProbe k.crc.toNat cseq.toNat (probeBody down acre.toNat v.ck.toNat v.both.toNat)
  .next (if p.1 then p.2.probeIn k.link down acre.toNat v.ck.toNat else p.2)

/-- A load ends with a code: LAST_CODE keeps it; a Score loaded before stays loaded (07 R259, R269). -/
def State.failLoad (s : State) (d : Desc) (code : Nat) : State :=
  let s1 := ((s.putScore { s.score with load := none }).putProbe { s.probe with joined := false, up := false, heard := [] })
  (s1.setReg F.SEQ_SCORE_LAST_CODE code).complete d code

/-- 2,500,000,000 CK after joining without a completed round the load ends with PROBE_TIMEOUT (07 R260). -/
def State.probeTimeout (s : State) : State :=
  match s.score.load with
  | some l => if s.probe.joined then
      let s1 := (s.advanceTo (s.probe.since + 2500000000)).failLoad l.desc 0x4A
      s1.setReg F.SEQ_SCORE_STATE l.back
    else s
  | none => s

/-- PROBE_TIMEOUT (07 R260). -/
def execProbeTimeout (s : State) : Host.Outcome State Fault Refusal := .next s.probeTimeout

end Sys2Proof.Machine
end

