-- ==== Sys2Proof/Machine/Operands.lean ====
section
/-!
DEFINITION. Machine/Operands.lean: the operands of the instructions of a list: S, V and P registers, elements of a vector
register, predicates, addresses in working memory (spec/06 R203, R210, R211, R215, R217, R218).
-/
namespace Sys2Proof.Machine

/-! ### S registers (06 R203) -/

/-- The value of Sn: S0 reads zero. -/
def State.sreg (s : State) (c : Nat) (r : BitVec 5) : Word := if r = 0 then 0 else tabGet 0 (s.cl c).sregs r.toNat

/-- Sn written: a write to S0 is ignored. -/
def State.setS (s : State) (c : Nat) (r : BitVec 5) (v : Word) : State :=
  if r = 0 then s else s.setCl c { s.cl c with sregs := tabSet 0 (s.cl c).sregs r.toNat v }

/-- The S registers that an instruction reads, in the order of its fields (06 R215, R217). -/
def sRegs : Instr → List (BitVec 5)
  | .add _ _ a b | .sub _ _ a b | .and _ _ a b | .or _ _ a b | .xor _ _ a b | .shl _ _ a b | .shr _ _ a b | .mul _ _ a b => [a, b]
  | .addi _ _ a _ | .ld _ _ a _ => [a]
  | .lui _ d _ => [d]
  | .st _ a b _ | .beq _ a b _ | .bne _ a b _ | .blt _ a b _ | .bge _ a b _ => [a, b]
  | .vld _ f | .vst _ f | .vbcast _ f | .vsetsr _ f => [f.imm.setWidth 5]
  | .mxeOp _ a => [a]
  | .tallyPut _ a b _ => [a, b]
  | .movCopy _ a | .movXpose _ a | .movSend _ a | .movSenda _ a | .movAadd _ a => [a]
  | .chArrive _ f | .chWait _ f | .chReset _ f => if f.indirect then [f.sa] else []
  | _ => []

/-- The value of the k-th S register that an instruction reads. -/
def State.sVal (s : State) (c : Nat) (i : Instr) (k : Nat) : Nat :=
  match (sRegs i)[k]? with
  | some r => (s.sreg c r).toNat
  | none => 0

/-- A register that an instruction reads is still to be written by an earlier one (06 R205, R217). -/
def State.sHeld (s : State) (c : Nat) (i : Instr) : Bool :=
  (sRegs i).any (fun r => decide (s.ck < tabGet 0 (s.cl c).sready r.toNat))

/-- A written register may be read only after the latency of the instruction that wrote it (06 R217). An instruction takes one CK of
issue, so a latency of 1 holds nothing back (log entry 13). -/
def State.lateS (s : State) (c : Nat) (r : BitVec 5) (lat : Nat) : State :=
  if r = 0 then s else
    s.setCl c { s.cl c with sready := tabSet 0 (s.cl c).sready r.toNat (max (tabGet 0 (s.cl c).sready r.toNat) (s.ck + lat - 1)) }

/-- An immediate, sign-extended (06 R215). -/
def immWord (imm : BitVec 32) : Word := imm.signExtend 64

/-- Bytes of working memory (13 R416). -/
def wmSize : Nat := 0x400000

/-! ### Units and their queues (06 R204) -/

/-- A unit holds nothing in its queue and has completed all it started; units as AFTER names them (06 R215, R230): 1 matrix, 2 to 5 VXE0
to 3, 6 tally, 7 mover, and the sequencer itself. -/
def State.unitQuiet (s : State) (c after : Nat) : Bool :=
  let x := s.cl c
  match after with
  | 1 => x.mxq.isEmpty && x.mxRun.isEmpty
  | 6 => x.tlq.isEmpty && decide (x.tlfree ≤ s.ck)
  | 7 => x.mvq.isEmpty && x.mvRun.isNone
  | n + 2 => decide (3 < n) || ((tabGet [] x.vq n).isEmpty && decide (tabGet 0 x.vdone n ≤ s.ck))
  | 0 => true

/-! ### V and P registers (06 R210) -/

/-- Register Vr of engine ve of a cluster, as a number: byte i at bits 8 i + 7 : 8 i. -/
def State.vreg (s : State) (c ve r : Nat) : Nat := (tabGet (0 : VReg) (s.cl c).vregs (64 * ve + r)).toNat

/-- Vr written. -/
def State.setV (s : State) (c ve r v : Nat) : State :=
  s.setCl c { s.cl c with vregs := tabSet 0 (s.cl c).vregs (64 * ve + r) (BitVec.ofNat 4096 v) }

/-- Every predicate bit set. -/
def predOnes : PReg := BitVec.allOnes 512

/-- Predicate register Pp: P0 reads all ones. -/
def State.preg (s : State) (c ve p : Nat) : Nat :=
  if p = 0 then predOnes.toNat else (tabGet predOnes (s.cl c).pregs (8 * ve + p)).toNat

/-- Pp written: a write to P0 is ignored. -/
def State.setP (s : State) (c ve p v : Nat) : State :=
  if p = 0 then s else s.setCl c { s.cl c with pregs := tabSet predOnes (s.cl c).pregs (8 * ve + p) (BitVec.ofNat 512 v) }

/-! ### Elements and predicates (06 R210, R211, R221) -/

/-- Elements of a whole register of a format code: as many as it holds, at most one for each predicate bit (log entry 13). -/
def elemCount (ty : Nat) : Nat := min 512 (4096 / tyWidth ty)

/-- Element i of a register, w bits wide. -/
def elemOf (w v i : Nat) : Nat := (v >>> (w * i)) % 2 ^ w

/-- The first n elements of a register from bit `at0` on. -/
def elemsFrom (w v at0 n : Nat) : List Nat := (List.range n).map (fun i => elemOf w (v >>> at0) i)

/-- The bits of the elements whose predicate bit is set; bits that belong to no element are not masked (log entry 13). -/
def predMask (ty p : Nat) : Nat :=
  let w := tyWidth ty
  let n := elemCount ty
  packElems w ((List.range n).map (fun i => if p.testBit i then 2 ^ w - 1 else 0)) + (2 ^ 4096 - 2 ^ (w * n))

/-- New bits where a mask is set, old bits elsewhere. -/
def maskBits (mask new old : Nat) : Nat := (new &&& mask) ||| (old &&& (2 ^ 4096 - 1 - mask))

/-- A predicate cut to an element count: bits at and above it read as 0 (06 R211). -/
def predCut (ty p : Nat) : Nat := p % 2 ^ elemCount ty

/-- The 512 bytes of a register. -/
def vBytes (v : Nat) : List Byte := leBytes 512 v

/-! ### Addresses (06 R215, R217, R218) -/

/-- The address of an LD or ST: SA + IMM, when it is a multiple of 8 within working memory. -/
def State.ldAddr (s : State) (c : Nat) (sa : BitVec 5) (imm : BitVec 32) : Option Nat :=
  let a := (s.sreg c sa + immWord imm).toNat
  if a % 8 = 0 ∧ a + 8 ≤ wmSize then some a else none

/-- The S register that IMM[4:0] names. -/
def vSreg (f : VF) : BitVec 5 := f.imm.setWidth 5

/-- The address of a VLD or VST: S(IMM[4:0]) + IMM[15:5] × 512, when it is a multiple of 512 within working memory. -/
def vAddrOf (v : Word) (f : VF) : Option Nat :=
  let a := (v + BitVec.ofNat 64 (f.imm.toNat / 32 * 512)).toNat
  if a % 512 = 0 ∧ a + 512 ≤ wmSize then some a else none

/-- The same, with the S register as it is now. -/
def State.vAddr (s : State) (c : Nat) (f : VF) : Option Nat := vAddrOf (s.sreg c (vSreg f)) f

/-- The Chime that a Chime instruction names (06 R215). -/
def State.chimeOf (s : State) (c : Nat) (f : CF) : Nat :=
  if f.indirect then (f.index.toNat + (s.sreg c f.sa).toNat % 32768) % 32768 else f.index.toNat

end Sys2Proof.Machine
end

