-- ==== Sys2Proof/Machine/Seq.lean ====
section
/-!
DEFINITION. Machine/Seq.lean: the cluster sequencer: issue, stalls and stops, scalar instructions, completions and the Chime
instructions (spec/06 R203 to R217, R226, R227, R230; spec/02 R106, R107).
-/
namespace Sys2Proof.Machine

/-! ### Issue (06 R203, R204, R209, R214) -/

/-- The sequencer of cluster c may issue: it runs a list, or no Score runs and it is idle (log entry 14); it does not wait for a
Chime; and issue has not stopped. -/
def State.mayIssue (s : State) (c : Nat) : Bool :=
  let st := s.reg F.SEQ_CLUSTER_STATE c
  (decide (st = 1) || decide (st = 2) || (decide (st = 0) && !s.running)) && (s.cl c).wait.isNone &&
  !(s.running && s.beatU.stopped)

/-- List index of the next instruction (06 R234). -/
def State.index (s : State) (c : Nat) : Nat := s.reg F.SEQ_CLUSTER_INDEX c

/-- The next instruction is at index i, and nothing stalls (06 R203, R234). -/
def State.goTo (s : State) (c i : Nat) : State := (s.setReg F.SEQ_CLUSTER_INDEX i c).setReg F.SEQ_CLUSTER_STALL 0 c

/-- The instruction has issued: the next in list order follows. -/
def State.goOn (s : State) (c : Nat) : State := s.goTo c (s.index c + 1)

/-- Issue stalls (06 R234): 1 queue full, 3 waiting for a drain, 4 register interlock. -/
def State.stall (s : State) (c k : Nat) : State := s.setReg F.SEQ_CLUSTER_STALL k c

/-- The sequencer stops until the next boundary (06 R214). -/
def State.halted (s : State) (c : Nat) : State := (s.setReg F.SEQ_CLUSTER_STATE 4 c).setReg F.SEQ_CLUSTER_STALL 0 c

/-- Where the instruction at the list's index lies in memory: the word of the loaded Score's list (07 R242). -/
def State.listAddr (s : State) (c : Nat) : Option Nat :=
  match s.score.cur with
  | some p => if s.running && !s.beatU.drain then some (wmBase c + p.listBase + 8 * s.index c) else none
  | none => none

/-- The sequencer meets an encoding that R213 forbids (06 R214). -/
def State.illegal (s : State) (c unit word : Nat) : State :=
  ((s.mark F.SEQ_CLUSTER_ILLEGAL 1 c).detectIn 0x1001 0 (8 * c + 6) 3 (s.listAddr c) (s.index c) unit word).halted c

/-- A fetch meets a poisoned word of the list (13 R421): STATE_SRAM_UE, and the sequencer stops as under R214, with ILLEGAL set. -/
def State.fetchPoison (s : State) (c : Nat) : Option Nat := (s.listAddr c).bind (fun a => s.poisonRead a 8)

/-- The list's word is fetched: its decoder corrects a bad symbol (13 R420). -/
def State.fetchWord (s : State) (c : Nat) : State :=
  match s.listAddr c with
  | some a => s.correct a 8
  | none => s

/-- An instruction of cluster c is met at the head of the list (06 R203, R212 to R214): nothing when the sequencer issues
nothing; a stop for a forbidden encoding; a stall while a register it reads is still to be written (R205); else what the instruction
does. -/
def State.issue (s : State) (c : Nat) (i : Instr) (unit : Nat) (act : State → State) : State :=
  if s.mayIssue c then
    match s.fetchPoison c with
    | some a => ((s.meetPoisonIn 0 a 3 (s.index c) unit (insnBits i)).mark F.SEQ_CLUSTER_ILLEGAL 1 c).halted c
    | none =>
      let t := s.fetchWord c
      if !i.wf then t.illegal c unit (insnBits i) else if t.sHeld c i then t.stall c 4 else act t
  else s

/-- Every queue of the cluster is empty and every started instruction has completed (06 R207, R208, R217). -/
def State.quiet (s : State) (c : Nat) : Bool := (List.range 8).all (s.unitQuiet c)

/-! ### Completions (06 R226, R227) -/

/-- Cause of the ERR that a completion code raises (06 R227; 04 R149; 13 R421; 17 R516). -/
def causeOf (code : Nat) : Nat := if code = 0x16 then 9 else if code = 0x15 then 3 else if code = 0x23 then 7 else 15

/-- A completion entry (06 R226). -/
def entryBits (index unit flags code : Nat) : Nat :=
  index % 2 ^ 24 * 2 ^ 40 + unit % 8 * 2 ^ 32 + flags % 16 * 2 ^ 16 + code % 65536

/-- Where entry k of a Beat lies in a cluster's working memory (06 R226, R233). -/
def State.entryOff (s : State) (k : Nat) : Nat :=
  s.reg F.SEQ_CFG_RING_BASE + 8 * (k % 2 ^ (s.reg F.SEQ_CFG_RING_LOG2 + 6))

/-- The completion count is n. -/
def State.setCount (s : State) (c n : Nat) : State :=
  (s.setCl c { s.cl c with ccount := n }).setReg F.SEQ_CLUSTER_CCOUNT (min n 0xFFFF) c

/-- An instruction completes: its entry is written, the count rises, a code that is no success sets ERR (06 R226, R227). -/
def State.entry (s : State) (c index unit flags code : Nat) : State :=
  let k := (s.cl c).ccount
  let s1 := (s.putBytes (wmBase c + s.entryOff k) (leBytes 8 (entryBits index unit flags code))).setCount c (k + 1)
  if code ≤ 3 then s1 else s1.err (causeOf code)

/-- Entries waiting in the queue of a unit. -/
def State.unitLen (s : State) (c after : Nat) : Nat :=
  let x := s.cl c
  match after with
  | 1 => x.mxq.length
  | 6 => x.tlq.length
  | 7 => x.mvq.length
  | n => (tabGet [] x.vq (n - 2)).length

/-- A Chime operation joined to the queue of a unit, at its end or, when it must be taken before anything else, at its head (02 R107; 06
R230). -/
def State.unitChime (s : State) (c after : Nat) (first : Bool) (o : ChimeOp) : State :=
  let x := s.cl c
  match after with
  | 1 => s.setCl c { x with mxq := if first then .chime o :: x.mxq else x.mxq ++ [.chime o] }
  | 6 => s.setCl c { x with tlq := if first then .chime o :: x.tlq else x.tlq ++ [.chime o] }
  | 7 => s.setCl c { x with mvq := if first then .chime o :: x.mvq else x.mvq ++ [.chime o] }
  | n =>
    let q := tabGet [] x.vq (n - 2)
    s.setCl c { x with vq := tabSet [] x.vq (n - 2) (if first then .chime o :: q else q ++ [.chime o]) }

/-- A completion's Chime, if any, receives ARRIVE(1) of the Beat of its instruction; while that Chime's queue is full the ARRIVE waits at
the unit, which starts nothing further (06 R226; 02 R107). -/
def State.arriveOpt (s : State) (c after : Nat) (ch : Option Nat) (beat : Nat) : State :=
  match ch with
  | some i =>
    let o : ChimeOp := ⟨i % 32768, false, 1, beat⟩
    if s.chimeFull (chimeDie o.index) then s.unitChime c after true o else s.queueChime o
  | none => s

/-! ### Sequencer instructions (06 R217) -/

/-- SD := a value. -/
def State.scalar (s : State) (c : Nat) (i : Instr) (sd : BitVec 5) (v : State → Word) : State :=
  s.issue c i 0 (fun t => (t.setS c sd (v t)).goOn c)

/-- ADD (06 R203, R205, R217). -/
def execAdd (c : Fin 64) (sd sa sb : BitVec 5) (s : State) : Host.Outcome State Fault Refusal :=
  .next (s.scalar c (.add c sd sa sb) sd (fun t => t.sreg c sa + t.sreg c sb))

/-- SUB (06 R217). -/
def execSub (c : Fin 64) (sd sa sb : BitVec 5) (s : State) : Host.Outcome State Fault Refusal :=
  .next (s.scalar c (.sub c sd sa sb) sd (fun t => t.sreg c sa - t.sreg c sb))

/-- AND (06 R217). -/
def execAnd (c : Fin 64) (sd sa sb : BitVec 5) (s : State) : Host.Outcome State Fault Refusal :=
  .next (s.scalar c (.and c sd sa sb) sd (fun t => t.sreg c sa &&& t.sreg c sb))

/-- OR (06 R217). -/
def execOr (c : Fin 64) (sd sa sb : BitVec 5) (s : State) : Host.Outcome State Fault Refusal :=
  .next (s.scalar c (.or c sd sa sb) sd (fun t => t.sreg c sa ||| t.sreg c sb))

/-- XOR (06 R217). -/
def execXor (c : Fin 64) (sd sa sb : BitVec 5) (s : State) : Host.Outcome State Fault Refusal :=
  .next (s.scalar c (.xor c sd sa sb) sd (fun t => t.sreg c sa ^^^ t.sreg c sb))

/-- SHL by SB[5:0] (06 R217). -/
def execShl (c : Fin 64) (sd sa sb : BitVec 5) (s : State) : Host.Outcome State Fault Refusal :=
  .next (s.scalar c (.shl c sd sa sb) sd (fun t => t.sreg c sa <<< ((t.sreg c sb).toNat % 64)))

/-- SHR, logical, by SB[5:0] (06 R217). -/
def execShr (c : Fin 64) (sd sa sb : BitVec 5) (s : State) : Host.Outcome State Fault Refusal :=
  .next (s.scalar c (.shr c sd sa sb) sd (fun t => t.sreg c sa >>> ((t.sreg c sb).toNat % 64)))

/-- MUL: the low 64 bits (06 R217). -/
def execMul (c : Fin 64) (sd sa sb : BitVec 5) (s : State) : Host.Outcome State Fault Refusal :=
  .next (s.issue c (.mul c sd sa sb) 0 (fun t => ((t.setS c sd (t.sreg c sa * t.sreg c sb)).lateS c sd 3).goOn c))

/-- ADDI (06 R215, R217). -/
def execAddi (c : Fin 64) (sd sa : BitVec 5) (imm : BitVec 32) (s : State) : Host.Outcome State Fault Refusal :=
  .next (s.scalar c (.addi c sd sa imm) sd (fun t => t.sreg c sa + immWord imm))

/-- LI (06 R215, R217). -/
def execLi (c : Fin 64) (sd : BitVec 5) (imm : BitVec 32) (s : State) : Host.Outcome State Fault Refusal :=
  .next (s.scalar c (.li c sd imm) sd (fun _ => immWord imm))

/-- LUI: SD[63:32] := IMM, SD[31:0] unchanged (06 R217). -/
def execLui (c : Fin 64) (sd : BitVec 5) (imm : BitVec 32) (s : State) : Host.Outcome State Fault Refusal :=
  .next (s.scalar c (.lui c sd imm) sd (fun t => imm ++ (t.sreg c sd).extractLsb' 0 32))

/-- LD: an address not a multiple of 8 or outside working memory is a forbidden encoding; a poisoned word writes nothing (06 R214,
R217; 13 R421). -/
def execLd (c : Fin 64) (sd sa : BitVec 5) (imm : BitVec 32) (s : State) : Host.Outcome State Fault Refusal :=
  .next (s.issue c (.ld c sd sa imm) 0 (fun t =>
    match t.ldAddr c sa imm with
    | none => t.illegal c 0 (insnBits (.ld c sd sa imm))
    | some off =>
      match t.poisonRead (wmBase c + off) 8 with
      | some a => (t.meetPoisonIn 0 a 1 (t.index c) 0 (insnBits (.ld c sd sa imm))).goOn c
      | none => (((t.correct (wmBase c + off) 8).setS c sd (BitVec.ofNat 64 (t.word (wmBase c + off)))).lateS c sd 12).goOn c))

/-- ST: as LD; the list area of a loaded Score is forbidden too (06 R214, R217; 07 R243). -/
def execSt (c : Fin 64) (sa sb : BitVec 5) (imm : BitVec 32) (s : State) : Host.Outcome State Fault Refusal :=
  .next (s.issue c (.st c sa sb imm) 0 (fun t =>
    match t.ldAddr c sa imm with
    | none => t.illegal c 0 (insnBits (.st c sa sb imm))
    | some off =>
      if t.inList off 8 then t.illegal c 0 (insnBits (.st c sa sb imm))
      else (t.writeMem t.beat (wmBase c + off) (leBytes 8 (t.sreg c sb).toNat)).goOn c))

/-- A branch: the target is the current index + IMM when taken (06 R217). -/
def State.branch (s : State) (c : Nat) (i : Instr) (imm : BitVec 32) (p : State → Bool) : State :=
  s.issue c i 0 (fun t => if p t then t.goTo c (toField 24 ((t.index c : Int) + imm.toInt)) else t.goOn c)

/-- BEQ (06 R217). -/
def execBeq (c : Fin 64) (sa sb : BitVec 5) (imm : BitVec 32) (s : State) : Host.Outcome State Fault Refusal :=
  .next (s.branch c (.beq c sa sb imm) imm (fun t => decide (t.sreg c sa = t.sreg c sb)))

/-- BNE (06 R217). -/
def execBne (c : Fin 64) (sa sb : BitVec 5) (imm : BitVec 32) (s : State) : Host.Outcome State Fault Refusal :=
  .next (s.branch c (.bne c sa sb imm) imm (fun t => decide (t.sreg c sa ≠ t.sreg c sb)))

/-- BLT, signed (06 R217). -/
def execBlt (c : Fin 64) (sa sb : BitVec 5) (imm : BitVec 32) (s : State) : Host.Outcome State Fault Refusal :=
  .next (s.branch c (.blt c sa sb imm) imm (fun t => (t.sreg c sa).slt (t.sreg c sb)))

/-- BGE, signed (06 R217). -/
def execBge (c : Fin 64) (sa sb : BitVec 5) (imm : BitVec 32) (s : State) : Host.Outcome State Fault Refusal :=
  .next (s.branch c (.bge c sa sb imm) imm (fun t => (t.sreg c sb).sle (t.sreg c sa)))

/-- An instruction that issues only once every earlier one has completed; until then it stalls (06 R207, R208, R217, R234). -/
def State.drained (s : State) (c : Nat) (i : Instr) (act : State → State) : State :=
  s.issue c i 0 (fun t => if t.quiet c then (act t).goOn c else t.stall c 3)

/-- SEQ.HOLD: the hold mark (06 R207, R217, R234). -/
def execSeqHold (c : Fin 64) (s : State) : Host.Outcome State Fault Refusal :=
  .next (s.drained c (.seqHold c) (fun t => t.setReg F.SEQ_CLUSTER_STATE 2 c))

/-- SEQ.END: the end of the phase (06 R208, R217, R234). -/
def execSeqEnd (c : Fin 64) (s : State) : Host.Outcome State Fault Refusal :=
  .next (s.drained c (.seqEnd c) (fun t => t.setReg F.SEQ_CLUSTER_STATE 3 c))

/-- SEQ.DRAIN (06 R217). -/
def execSeqDrain (c : Fin 64) (s : State) : Host.Outcome State Fault Refusal :=
  .next (s.drained c (.seqDrain c) id)

/-- SEQ.BEAT: SD := the current Beat number (06 R217; 02 R113). -/
def execSeqBeat (c : Fin 64) (sd : BitVec 5) (s : State) : Host.Outcome State Fault Refusal :=
  .next (s.scalar c (.seqBeat c sd) sd (fun t => BitVec.ofNat 64 t.beat))

/-- SEQ.CCOUNT: SD := the completion count (06 R217, R226). -/
def execSeqCcount (c : Fin 64) (sd : BitVec 5) (s : State) : Host.Outcome State Fault Refusal :=
  .next (s.scalar c (.seqCcount c sd) sd (fun t => BitVec.ofNat 64 (t.cl c).ccount))

/-! ### Chime instructions (06 R215, R230; 02 R106, R107) -/

/-- Chime operations at the head of a matrix queue are handed on once every earlier operation has completed and their Chime unit takes them
(06 R230; 02 R107), with fuel. -/
def State.flushMx : Nat → State → Nat → State
  | 0, s, _ => s
  | n + 1, s, c =>
    match (s.cl c).mxq with
    | .chime o :: t =>
      if (s.cl c).mxRun.isEmpty && !s.chimeFull (chimeDie o.index) then State.flushMx n ((s.setCl c { s.cl c with mxq := t }).queueChime o) c else s
    | _ => s

/-- A Chime operation issued (06 R230; 02 R107): with AFTER 0 it is handed to the Chime unit, or stalls issue while that unit's queue is
full; with AFTER naming a queue it waits there for the work in front of it, which may be none. -/
def State.chimeIssue (s : State) (c : Nat) (after : Nat) (o : ChimeOp) : State :=
  if s.unitQuiet c after && !s.chimeFull (chimeDie o.index) then (s.queueChime o).goOn c
  else if after = 0 ∨ 32 ≤ s.unitLen c after then s.stall c 1
  else (s.unitChime c after false o).goOn c

/-- CH.ARRIVE (06 R230; 02 R106, R107). -/
def execChArrive (c : Fin 64) (f : CF) (s : State) : Host.Outcome State Fault Refusal :=
  .next (s.issue c (.chArrive c f) 5 (fun t => t.chimeIssue c f.after.toNat ⟨t.chimeOf c f, false, f.arg.toNat, t.beat⟩))

/-- CH.RESET (06 R230; 02 R106, R107). -/
def execChReset (c : Fin 64) (f : CF) (s : State) : Host.Outcome State Fault Refusal :=
  .next (s.issue c (.chReset c f) 5 (fun t => t.chimeIssue c f.after.toNat ⟨t.chimeOf c f, true, f.arg.toNat, t.beat⟩))

/-- CH.WAIT: the sequencer stalls until COUNT has reached TARGET (06 R230, R234; 02 R106). -/
def State.chimeWait (s : State) (c i : Nat) : State :=
  let s1 := s.goOn c
  if s1.chimeMet i then s1
  else ((s1.setCl c { s1.cl c with wait := some i }).setReg F.SEQ_CLUSTER_STALL 2 c).setReg F.SEQ_CLUSTER_WAIT_CHIME i c

/-- CH.WAIT (06 R230; 02 R106). -/
def execChWait (c : Fin 64) (f : CF) (s : State) : Host.Outcome State Fault Refusal :=
  .next (s.issue c (.chWait c f) 5 (fun t => t.chimeWait c (t.chimeOf c f)))

end Sys2Proof.Machine
end

