-- ==== Sys2Proof/Machine/Vector.lean ====
section
/-!
DEFINITION. Machine/Vector.lean: the vector instructions, their engines' queues and timing (spec/06 R204, R205, R210, R211, R218 to R223,
R230, R235; spec/03 R122 to R139; spec/17 R517, R518).
-/
namespace Sys2Proof.Machine

/-- Sticky flags of a vector engine (06 R235; 03 R124). -/
def State.vFlags (s : State) (c ve : Nat) (x : Flags) : State :=
  let set := fun (t : State) (b : Bool) (fl : Field) => if b then t.mark fl 1 (4 * c + ve) else t
  set (set (set s x.nanin F.VXE_ENG_NANIN) x.inv F.VXE_ENG_INV) x.ovf F.VXE_ENG_OVF

/-- The draw of element i (06 R222; 03 R136). -/
def State.vDraw (s : State) (c : Nat) (f : VF) (i : Nat) : Nat :=
  if f.rm = 2 then
    let st := f.imm.toNat
    srDraw (s.seed st) st s.beat ((tabGet 0 (s.cl c).lane f.ve.toNat + i) % 2 ^ 32) (tabGet 0 (s.cl c).draw f.ve.toNat)
  else 0

/-- After an instruction with RM set to SR, whichever it is, DRAW_IDX rises by one (06 R222). -/
def State.vDrawn (s : State) (c : Nat) (f : VF) : State :=
  if f.rm = 2 then
    let x := s.cl c
    s.setCl c { x with draw := tabSet 0 x.draw f.ve.toNat ((tabGet 0 x.draw f.ve.toNat + 1) % 2 ^ 32) }
  else s

/-- The predicate of an instruction. -/
def State.vPred (s : State) (c : Nat) (f : VF) : Nat := s.preg c f.ve.toNat f.pred.toNat

/-- The unmasked element that the engine's shadow recomputes first, if any (17 R517, R518). -/
def State.vShadowed (s : State) (c : Nat) (f : VF) (n p : Nat) : Option Nat :=
  (List.range n).find? (fun i => p.testBit i && decide (i % 64 = s.shadowPos (4 * c + f.ve.toNat)))

/-- The shadow compares a result of n elements, w bits each as the result holds them (17 R518): an injected inversion of bit 0
(R532) raises VXE_SHADOW. Answers the result as the engine writes it. -/
def State.vShadow (s : State) (c : Nat) (o : UOp) (f : VF) (w at0 n p res : Nat) : Nat × State :=
  let u := 8 * c + 1 + f.ve.toNat
  match s.hitMode 0x0102 0 u, s.vShadowed c f n p with
  | some _, some e =>
    (res ^^^ 2 ^ (at0 + w * e), (s.takeHit 0x0102 0 u).detectHit 0x0102 0 u 6 none o.index 1 (insnBits o.insn))
  | _, _ => (res, s)

/-! ### Elementwise instructions (06 R211, R218, R219) -/

/-- Each unmasked element of VD takes the result for the elements of VA, VB and VC at its place; the flags of all are sticky. -/
def State.vElem (s : State) (c : Nat) (o : UOp) (f : VF) (g : State → Nat → Nat → Nat → Nat → Nat × Flags) : State :=
  let ve := f.ve.toNat
  let ty := f.ty.toNat
  let w := tyWidth ty
  let n := elemCount ty
  let p := s.vPred c f
  let a := s.vreg c ve f.va.toNat
  let b := s.vreg c ve f.vb.toNat
  let k := s.vreg c ve f.vc.toNat
  let old := s.vreg c ve f.vd.toNat
  let rs := (List.range n).map (fun j =>
    if p.testBit j then g s j (elemOf w a j) (elemOf w b j) (elemOf w k j) else (elemOf w old j, flagsNone))
  let z := s.vShadow c o f w 0 n p (packElems w (rs.map (·.1)))
  (z.2.setV c ve f.vd.toNat z.1).vFlags c ve (flagsAll (rs.map (·.2)))

/-- NANIN of operands. -/
def naninOf (xs : List Val) : Flags := if xs.any valNan then flagsNanin else flagsNone

/-- An exact result rounded once to TYPE (03 R131, R134, R135), with NANIN for its operands. -/
def State.vRound (s : State) (c : Nat) (f : VF) (j : Nat) (xs : List Val) (r : Val × Flags) : Nat × Flags :=
  let e := encodeCode f.ty.toNat r.1 f.rm.toNat f.sat (s.vDraw c f j)
  (e.1, flagsOr (naninOf xs) (flagsOr r.2 e.2))

/-- A rounding instruction of one operand. -/
def State.vOp1 (s : State) (c : Nat) (o : UOp) (f : VF) (op : Val → Val × Flags) : State :=
  s.vElem c o f (fun t j a _ _ => t.vRound c f j [decodeCode f.ty.toNat a] (op (decodeCode f.ty.toNat a)))

/-- A rounding instruction of two operands. -/
def State.vOp2 (s : State) (c : Nat) (o : UOp) (f : VF) (op : Val → Val → Val × Flags) : State :=
  s.vElem c o f (fun t j a b _ =>
    let x := decodeCode f.ty.toNat a
    let y := decodeCode f.ty.toNat b
    t.vRound c f j [x, y] (op x y))

/-- A fused multiply and add: both steps of 03 R122, one rounding. -/
def valFma (x y z : Val) : Val × Flags :=
  let m := valMul x y
  let r := valAdd m.1 z
  (r.1, flagsOr m.2 r.2)

/-- The canonical NaN of a format code (03 R123). -/
def nanOf (ty : Nat) : Nat := match fmtOf ty with | .flt x => x.nan | _ => 0

/-- The smaller or larger of two elements, -0 below +0; the canonical NaN for a NaN (06 R219). -/
def minMax (ty : Nat) (big : Bool) (a b : Nat) : Nat × Flags :=
  let x := decodeCode ty a
  let y := decodeCode ty b
  if valNan x || valNan y then (nanOf ty, flagsNanin)
  else
    let less := valLt x y || (valEq x y && valSign x && !valSign y)
    (if less != big then a else b, flagsNone)

/-- A change of the sign bit only; the canonical NaN for a NaN (06 R219). -/
def signOp (ty : Nat) (g : Nat → Nat) (a : Nat) : Nat × Flags :=
  if valNan (decodeCode ty a) then (nanOf ty, flagsNanin) else (g a, flagsNone)

/-- A bitwise instruction: the bits of unmasked elements (06 R211, R218). -/
def State.vBits (s : State) (c : Nat) (o : UOp) (f : VF) (g : Nat → Nat → Nat) : State :=
  let ve := f.ve.toNat
  let ty := f.ty.toNat
  let p := s.vPred c f
  let r := maskBits (predMask ty p) (g (s.vreg c ve f.va.toNat) (s.vreg c ve f.vb.toNat)) (s.vreg c ve f.vd.toNat)
  let z := s.vShadow c o f (tyWidth ty) 0 (elemCount ty) p r
  z.2.setV c ve f.vd.toNat z.1

/-- VSEL: every element, VA where PRED is set and VB elsewhere (06 R211, R218). -/
def State.vSel (s : State) (c : Nat) (o : UOp) (f : VF) : State :=
  let ve := f.ve.toNat
  let ty := f.ty.toNat
  let p := s.vPred c f
  let r := maskBits (predMask ty p) (s.vreg c ve f.va.toNat) (s.vreg c ve f.vb.toNat)
  let z := s.vShadow c o f (tyWidth ty) 0 (elemCount ty) p r
  z.2.setV c ve f.vd.toNat z.1

/-! ### Comparison and predicates (06 R211, R218, R219) -/

/-- A condition of IMM[2:0] (06 R218): EQ, NE, LT, LE, GT, GE. A NaN makes NE true and the others false. -/
def condHolds (k : Nat) (x y : Val) : Bool :=
  match k with
  | 0 => valEq x y
  | 1 => !valEq x y
  | 2 => valLt x y
  | 3 => valLt x y || valEq x y
  | 4 => valLt y x
  | _ => valLt y x || valEq x y

/-- VCMP: the condition where PRED is set, 0 elsewhere and above the element count (06 R211, R218, R219). -/
def State.vCmp (s : State) (c : Nat) (o : UOp) (f : VF) : State :=
  let ve := f.ve.toNat
  let ty := f.ty.toNat
  let w := tyWidth ty
  let n := elemCount ty
  let p := s.vPred c f
  let a := s.vreg c ve f.va.toNat
  let b := s.vreg c ve f.vb.toNat
  let rs := (List.range n).map (fun j =>
    if p.testBit j then
      let x := decodeCode ty (elemOf w a j)
      let y := decodeCode ty (elemOf w b j)
      (b2n (condHolds (f.imm.toNat % 8) x y), naninOf [x, y])
    else (0, flagsNone))
  let z := s.vShadow c o f 1 0 n p (packElems 1 (rs.map (·.1)))
  (z.2.setP c ve (f.vd.toNat % 8) z.1).vFlags c ve (flagsAll (rs.map (·.2)))

/-- A predicate instruction: the bits that PRED sets (06 R211, R218). -/
def State.predOp (s : State) (c : Nat) (f : VF) (g : Nat → Nat → Nat) : State :=
  let ve := f.ve.toNat
  let m := s.vPred c f
  let r := g (s.preg c ve (f.va.toNat % 8)) (s.preg c ve (f.vb.toNat % 8)) % 2 ^ 512
  s.setP c ve (f.vd.toNat % 8) ((r &&& m) ||| (s.preg c ve (f.vd.toNat % 8) &&& (2 ^ 512 - 1 - m)))

/-! ### Conversion (06 R221) -/

/-- Where the narrower operand's elements begin, in bits: segment SEG of its register; the wider begins at 0. -/
def cvtAt (f : VF) (own other n : Nat) : Nat := if own < other then f.vb.toNat / 16 * n * own else 0

/-- The values that a VCVT reads, one for each element. -/
def State.cvtVals (s : State) (c : Nat) (f : VF) (n : Nat) : List Val :=
  let ve := f.ve.toNat
  let src := f.ty.toNat
  let w := tyWidth src
  let codes := elemsFrom w (s.vreg c ve f.va.toNat) (cvtAt f w (tyWidth (f.vb.toNat % 16)) n) n
  if tyMx src then
    (codes.zip (List.range n)).map (fun q =>
      decodeMx src (elemOf 8 (s.vreg c ve f.vc.toNat) (4 * (f.vb.toNat / 16) + q.2 / 32)) q.1)
  else codes.map (decodeCode src)

/-- A number with `len` bits from `at0` on replaced. -/
def putBits (v at0 len x : Nat) : Nat := v % 2 ^ at0 + x % 2 ^ len * 2 ^ at0 + v >>> (at0 + len) * 2 ^ (at0 + len)

/-- A conversion to an MX format: elements to VD, block scales to VC (06 R221; 03 R138). -/
def State.cvtToMx (s : State) (c : Nat) (o : UOp) (f : VF) : State :=
  let ve := f.ve.toNat
  let dst := f.vb.toNat % 16
  let seg := f.vb.toNat / 16
  let w := tyWidth dst
  let vals := s.cvtVals c f 128
  let bs := (List.range 4).map (fun j =>
    encodeMx dst ((vals.drop (32 * j)).take 32) f.rm.toNat ((span (32 * j) 32).map (s.vDraw c f)))
  let at0 := cvtAt f w 32 128
  let r := putBits (s.vreg c ve f.vd.toNat) at0 (128 * w) (packElems w (bs.flatMap (fun b => b.2.1)))
  let z := s.vShadow c o f w at0 128 (2 ^ 128 - 1) r
  let s1 := z.2.setV c ve f.vd.toNat z.1
  (s1.setV c ve f.vc.toNat (putBits (s1.vreg c ve f.vc.toNat) (32 * seg) 32 (packElems 8 (bs.map (·.1))))).vFlags c ve
    (flagsAll (bs.map (fun b => b.2.2)))

/-- A conversion to any other format (06 R221; 03 R134, R135, R139). -/
def State.cvtPlain (s : State) (c : Nat) (o : UOp) (f : VF) : State :=
  let ve := f.ve.toNat
  let src := f.ty.toNat
  let dst := f.vb.toNat % 16
  let w := tyWidth dst
  let n := cvtCount (tyWidth src) w
  let p := s.vPred c f
  let codes := elemsFrom (tyWidth src) (s.vreg c ve f.va.toNat) (cvtAt f (tyWidth src) w n) n
  let at0 := cvtAt f w (tyWidth src) n
  let old := s.vreg c ve f.vd.toNat
  let rs := ((s.cvtVals c f n).zip (codes.zip (List.range n))).map (fun q =>
    let j := q.2.2
    if p.testBit j then
      if src = dst ∧ !valNan q.1 then (q.2.1, flagsNone)
      else
        let e := encodeCode dst q.1 f.rm.toNat f.sat (s.vDraw c f j)
        (e.1, flagsOr (naninOf [q.1]) e.2)
    else (elemOf w (old >>> at0) j, flagsNone))
  let r := putBits old at0 (n * w) (packElems w (rs.map (·.1)))
  let z := s.vShadow c o f w at0 n p r
  (z.2.setV c ve f.vd.toNat z.1).vFlags c ve (flagsAll (rs.map (·.2)))

/-! ### Reductions and VCRC (06 R220, R223) -/

/-- VRSUM: the fixed tree over every element position, a masked one +0 (06 R220; 03 R127). -/
def State.vSum (s : State) (c : Nat) (f : VF) : State :=
  let ve := f.ve.toNat
  let ty := f.ty.toNat
  let n := elemCount ty
  let p := s.vPred c f
  let a := s.vreg c ve f.va.toNat
  let xs := (List.range n).map (fun j => if p.testBit j then decodeCode ty (elemOf (tyWidth ty) a j) else valZero)
  let r := treeSum n.log2 xs
  let e := encodeCode ty r.1 f.rm.toNat f.sat (s.vDraw c f 0)
  (s.setV c ve f.vd.toNat e.1).vFlags c ve (flagsOr (naninOf xs) (flagsOr r.2 e.2))

/-- VRAMAX: the largest magnitude of unmasked elements; encodings without sign rise with magnitude (06 R220). -/
def State.vAmax (s : State) (c : Nat) (f : VF) : State :=
  let ve := f.ve.toNat
  let ty := f.ty.toNat
  let w := tyWidth ty
  let p := s.vPred c f
  let a := s.vreg c ve f.va.toNat
  let es := ((List.range (elemCount ty)).filter (fun j => p.testBit j)).map (elemOf w a)
  if es.any (fun e => valNan (decodeCode ty e)) then (s.setV c ve f.vd.toNat (nanOf ty)).vFlags c ve flagsNanin
  else s.setV c ve f.vd.toNat ((es.map (· % 2 ^ (w - 1))).foldl max 0)

/-- VCRC: element 0 of VD, where PRED sets its bit (06 R211, R223). -/
def State.vCrc (s : State) (c : Nat) (f : VF) : State :=
  let ve := f.ve.toNat
  let x := (crcRun (elemOf 32 (s.vreg c ve f.vb.toNat) 0 ^^^ 0xFFFFFFFF) (vBytes (s.vreg c ve f.va.toNat))) ^^^ 0xFFFFFFFF
  if (s.vPred c f).testBit 0 then s.setV c ve f.vd.toNat (putBits (s.vreg c ve f.vd.toNat) 0 32 x) else s

/-! ### Loads, stores, VBCAST, VSETSR (06 R218; 07 R243; 13 R421) -/

/-- VLD's load (06 R211, R218; 13 R421). -/
def State.vLoad (s : State) (c : Nat) (o : UOp) (f : VF) : State :=
  let a := wmBase c + (vAddrOf (BitVec.ofNat 64 o.a) f).getD 0
  match s.poisonRead a 512 with
  | some x => s.meetPoisonIn 0 x 1 o.index 1 (insnBits o.insn)
  | none => (s.correct a 512).setV c f.ve.toNat f.vd.toNat
      (maskBits (predMask f.ty.toNat (s.vPred c f)) (leNat (s.bytes a 512)) (s.vreg c f.ve.toNat f.vd.toNat))

/-- Runs of bytes to be written, each with its offset: the bytes of a list whose mark is set. -/
def markedRuns : Nat → List (Bool × Byte) → List (Nat × List Byte)
  | _, [] => []
  | o, (m, b) :: t =>
    let r := markedRuns (o + 1) t
    if m then
      match r with
      | (p, l) :: q => if p = o + 1 then (o, b :: l) :: q else (o, [b]) :: r
      | [] => [(o, [b])]
    else r

/-- The bytes that a VST writes: those of elements whose predicate bit is set (06 R218). -/
def State.vstRuns (s : State) (c : Nat) (f : VF) : List (Nat × List Byte) :=
  let m := predMask f.ty.toNat (s.vPred c f)
  markedRuns 0 (((List.range 512).map (fun j => decide (elemOf 8 m j ≠ 0))).zip (vBytes (s.vreg c f.ve.toNat f.va.toNat)))

/-- VST's store (06 R211, R218; 13 R421). -/
def State.vStore (s : State) (c : Nat) (o : UOp) (f : VF) : State :=
  let a := wmBase c + (vAddrOf (BitVec.ofNat 64 o.a) f).getD 0
  let rs := s.vstRuns c f
  match rs.findSome? (fun r => s.poisonWrite (a + r.1) r.2.length) with
  | some x => s.meetPoisonIn 0 x 2 o.index 1 (insnBits o.insn)
  | none => rs.foldl (fun t r => t.writeMem t.beat (a + r.1) r.2) s

/-- VBCAST: every element is the low bits of S(IMM[4:0]) (06 R211, R218). -/
def State.vBroad (s : State) (c : Nat) (o : UOp) (f : VF) : State :=
  let w := tyWidth f.ty.toNat
  let x := packElems w (List.replicate (4096 / w) (o.a % 2 ^ w))
  s.setV c f.ve.toNat f.vd.toNat (maskBits (predMask f.ty.toNat (s.vPred c f)) x (s.vreg c f.ve.toNat f.vd.toNat))

/-- VSETSR: LANE_BASE and DRAW_IDX (06 R218, R222). -/
def State.vSetSr (s : State) (c : Nat) (o : UOp) (f : VF) : State :=
  let x := s.cl c
  s.setCl c { x with lane := tabSet 0 x.lane f.ve.toNat (o.a % 2 ^ 32), draw := tabSet 0 x.draw f.ve.toNat (o.a / 2 ^ 32) }

/-! ### The engine (06 R204, R205, R218, R222, R230, R235; 01 R32) -/

/-- What a vector instruction does (06 R218 to R223). -/
def State.vEffect (s : State) (o : UOp) : State :=
  match o.insn with
  | .vadd c f => s.vOp2 c o f valAdd
  | .vsub c f => s.vOp2 c o f (fun x y => valAdd x (valNeg y))
  | .vmul c f => s.vOp2 c o f valMul
  | .vfma c f => (s.vElem c o f (fun u j a b k =>
      let x := decodeCode f.ty.toNat a
      let y := decodeCode f.ty.toNat b
      let z := decodeCode f.ty.toNat k
      u.vRound c f j [x, y, z] (valFma x y z)))
  | .vmin c f => s.vElem c o f (fun _ _ a b _ => minMax f.ty.toNat false a b)
  | .vmax c f => s.vElem c o f (fun _ _ a b _ => minMax f.ty.toNat true a b)
  | .vabs c f => s.vElem c o f (fun _ _ a _ _ =>
      signOp f.ty.toNat (fun v => v % 2 ^ (tyWidth f.ty.toNat - 1)) a)
  | .vneg c f => s.vElem c o f (fun _ _ a _ _ =>
      signOp f.ty.toNat (fun v => v ^^^ 2 ^ (tyWidth f.ty.toNat - 1)) a)
  | .vdiv c f => s.vOp2 c o f valDiv
  | .vsqrt c f => s.vOp1 c o f valSqrt
  | .vrsqrt c f => s.vOp1 c o f valRsqrt
  | .vcvt c f => if tyMx (f.vb.toNat % 16) then s.cvtToMx c o f else s.cvtPlain c o f
  | .vrsum c f => s.vSum c f
  | .vramax c f => s.vAmax c f
  | .vcmp c f => s.vCmp c o f
  | .vsel c f => s.vSel c o f
  | .viadd c f => s.vElem c o f (fun _ _ a b _ => ((a + b) % 2 ^ 32, flagsNone))
  | .vand c f => s.vBits c o f (· &&& ·)
  | .vor c f => s.vBits c o f (· ||| ·)
  | .vxor c f => s.vBits c o f (· ^^^ ·)
  | .vshl c f => s.vElem c o f (fun _ _ a _ _ =>
      ((a <<< (f.imm.toNat % 32)) % 2 ^ 32, flagsNone))
  | .vshr c f => s.vElem c o f (fun _ _ a _ _ => (a >>> (f.imm.toNat % 32), flagsNone))
  | .vld c f => s.vLoad c o f
  | .vst c f => s.vStore c o f
  | .vbcast c f => s.vBroad c o f
  | .vsetsr c f => s.vSetSr c o f
  | .pand c f => s.predOp c f (· &&& ·)
  | .por c f => s.predOp c f (· ||| ·)
  | .pnot c f => s.predOp c f (fun a _ => 2 ^ 512 - 1 - a)
  | .vcrc c f => s.vCrc c f
  | _ => s

/-- Latency and interval of a vector instruction, in CK (06 R218). -/
def vTiming : Instr → Nat × Nat
  | .vadd _ _ | .vsub _ _ | .vmul _ _ | .vfma _ _ => (6, 1)
  | .vmin _ _ | .vmax _ _ | .vabs _ _ | .vneg _ _ | .vcmp _ _ | .vsel _ _ | .viadd _ _ | .vbcast _ _ => (2, 1)
  | .vdiv _ _ | .vsqrt _ _ | .vrsqrt _ _ => (16, 4)
  | .vcvt _ f => (if tyMx f.ty.toNat || tyMx (f.vb.toNat % 16) then 10 else 6, 1)
  | .vrsum _ _ => (12, 2)
  | .vramax _ _ | .vcrc _ _ => (8, 1)
  | .vld _ _ => (12, 1)
  | .vst _ _ => (24, 1)
  | _ => (1, 1)

/-- When an engine may start again and when all it started has completed, after it starts an instruction now (06 R218). A start takes one CK,
so an interval or a latency of 1 holds nothing back (log entry 13). -/
def State.vBusy (s : State) (c ve : Nat) (t : Nat × Nat) : State :=
  let x := s.cl c
  let x1 := if t.2 ≤ 1 then x else { x with vfree := tabSet 0 x.vfree ve (s.ck + t.2 - 1) }
  if t.1 ≤ 1 then s.setCl c x1 else s.setCl c { x1 with vdone := tabSet 0 x1.vdone ve (max (tabGet 0 x1.vdone ve) (s.ck + t.1 - 1)) }

/-- An engine starts an instruction: its registers take what it does at once (log entry 13); with RM set to SR, DRAW_IDX rises by one. A fenced
engine discards it (06 R222, R235). -/
def State.vStart (s : State) (c : Nat) (f : VF) (o : UOp) : State :=
  let ve := f.ve.toNat
  if s.vxFenced (4 * c + ve) then s.detectIn 0x1004 0 (8 * c + 1 + ve) 7 none o.index 1 (insnBits o.insn)
  else ((s.vBusy c ve (vTiming o.insn)).vEffect o).vDrawn c f

/-- An engine may start an instruction in this CK: its interval has passed and the governor permits it (06 R218; 01 R32). -/
def State.vMayStart (s : State) (c ve : Nat) : Bool := decide (tabGet 0 (s.cl c).vfree ve ≤ s.ck) && s.permitted

/-- The fields of a vector instruction. -/
def vFields : Instr → Option VF
  | .vadd _ f => some f
  | .vsub _ f => some f
  | .vmul _ f => some f
  | .vfma _ f => some f
  | .vmin _ f => some f
  | .vmax _ f => some f
  | .vabs _ f => some f
  | .vneg _ f => some f
  | .vdiv _ f => some f
  | .vsqrt _ f => some f
  | .vrsqrt _ f => some f
  | .vcvt _ f => some f
  | .vrsum _ f => some f
  | .vramax _ f => some f
  | .vcmp _ f => some f
  | .vsel _ f => some f
  | .viadd _ f => some f
  | .vand _ f => some f
  | .vor _ f => some f
  | .vxor _ f => some f
  | .vshl _ f => some f
  | .vshr _ f => some f
  | .vld _ f => some f
  | .vst _ f => some f
  | .vbcast _ f => some f
  | .vsetsr _ f => some f
  | .pand _ f => some f
  | .por _ f => some f
  | .pnot _ f => some f
  | .vcrc _ f => some f
  | _ => none

/-- An engine's queue goes on: instructions start in order, Chime operations are handed on once all before them has completed (06 R204, R230;
02 R107), with fuel. -/
def State.vNext : Nat → State → Nat → Nat → State
  | 0, s, _, _ => s
  | n + 1, s, c, ve =>
    let x := s.cl c
    match tabGet [] x.vq ve with
    | [] => s
    | .chime o :: t =>
      if decide (tabGet 0 x.vdone ve ≤ s.ck) && !s.chimeFull (chimeDie o.index) then
        State.vNext n ((s.setCl c { x with vq := tabSet [] x.vq ve t }).queueChime o) c ve
      else s
    | .op o :: t =>
      match vFields o.insn with
      | some f =>
        if s.vMayStart c ve then State.vNext n ((s.setCl c { x with vq := tabSet [] x.vq ve t }).vStart c f o) c ve else s
      | none => s

/-- A vector instruction is placed in its engine's queue, or stalls issue while that holds 32 (06 R204, R235). An engine with nothing queued
that may start takes it at once. -/
def State.vPlace (s : State) (c : Nat) (i : Instr) (f : VF) : State :=
  let ve := f.ve.toNat
  let x := s.cl c
  let q := tabGet [] x.vq ve
  let o := UOp.mk i (s.index c) (s.sVal c i 0) 0
  if s.vxFenced (4 * c + ve) || (q.isEmpty && s.vMayStart c ve) then (s.vStart c f o).goOn c
  else if 32 ≤ q.length then s.stall c 1
  else (s.setCl c { x with vq := tabSet [] x.vq ve (q ++ [.op o]) }).goOn c

/-- A vector instruction met in the list. -/
def State.vec (s : State) (c : Nat) (i : Instr) (f : VF) : State := s.issue c i 1 (fun t => t.vPlace c i f)

/-! ### The instructions -/

/-- VADD (06 R218; 03 R122 to R124, R131, R134 to R136). -/
def execVadd (c : Fin 64) (f : VF) (s : State) : Host.Outcome State Fault Refusal := .next (s.vec c (.vadd c f) f)

/-- VSUB (06 R218; 03 R131). -/
def execVsub (c : Fin 64) (f : VF) (s : State) : Host.Outcome State Fault Refusal := .next (s.vec c (.vsub c f) f)

/-- VMUL (06 R218; 03 R131). -/
def execVmul (c : Fin 64) (f : VF) (s : State) : Host.Outcome State Fault Refusal := .next (s.vec c (.vmul c f) f)

/-- VFMA: one rounding (06 R218; 03 R131). -/
def execVfma (c : Fin 64) (f : VF) (s : State) : Host.Outcome State Fault Refusal := .next (s.vec c (.vfma c f) f)

/-- VMIN (06 R218, R219). -/
def execVmin (c : Fin 64) (f : VF) (s : State) : Host.Outcome State Fault Refusal := .next (s.vec c (.vmin c f) f)

/-- VMAX (06 R218, R219). -/
def execVmax (c : Fin 64) (f : VF) (s : State) : Host.Outcome State Fault Refusal := .next (s.vec c (.vmax c f) f)

/-- VABS (06 R218, R219). -/
def execVabs (c : Fin 64) (f : VF) (s : State) : Host.Outcome State Fault Refusal := .next (s.vec c (.vabs c f) f)

/-- VNEG (06 R218, R219). -/
def execVneg (c : Fin 64) (f : VF) (s : State) : Host.Outcome State Fault Refusal := .next (s.vec c (.vneg c f) f)

/-- VDIV (06 R218, R219). -/
def execVdiv (c : Fin 64) (f : VF) (s : State) : Host.Outcome State Fault Refusal := .next (s.vec c (.vdiv c f) f)

/-- VSQRT (06 R218, R219). -/
def execVsqrt (c : Fin 64) (f : VF) (s : State) : Host.Outcome State Fault Refusal := .next (s.vec c (.vsqrt c f) f)

/-- VRSQRT (06 R218, R219). -/
def execVrsqrt (c : Fin 64) (f : VF) (s : State) : Host.Outcome State Fault Refusal := .next (s.vec c (.vrsqrt c f) f)

/-- VCVT (06 R218, R221; 03 R134 to R139). -/
def execVcvt (c : Fin 64) (f : VF) (s : State) : Host.Outcome State Fault Refusal := .next (s.vec c (.vcvt c f) f)

/-- VRSUM (06 R218, R220). -/
def execVrsum (c : Fin 64) (f : VF) (s : State) : Host.Outcome State Fault Refusal := .next (s.vec c (.vrsum c f) f)

/-- VRAMAX (06 R218, R220). -/
def execVramax (c : Fin 64) (f : VF) (s : State) : Host.Outcome State Fault Refusal := .next (s.vec c (.vramax c f) f)

/-- VCMP (06 R211, R218, R219). -/
def execVcmp (c : Fin 64) (f : VF) (s : State) : Host.Outcome State Fault Refusal := .next (s.vec c (.vcmp c f) f)

/-- VSEL (06 R211, R218). -/
def execVsel (c : Fin 64) (f : VF) (s : State) : Host.Outcome State Fault Refusal := .next (s.vec c (.vsel c f) f)

/-- VIADD: modulo 2^32 (06 R218). -/
def execViadd (c : Fin 64) (f : VF) (s : State) : Host.Outcome State Fault Refusal := .next (s.vec c (.viadd c f) f)

/-- VAND (06 R218). -/
def execVand (c : Fin 64) (f : VF) (s : State) : Host.Outcome State Fault Refusal := .next (s.vec c (.vand c f) f)

/-- VOR (06 R218). -/
def execVor (c : Fin 64) (f : VF) (s : State) : Host.Outcome State Fault Refusal := .next (s.vec c (.vor c f) f)

/-- VXOR (06 R218). -/
def execVxor (c : Fin 64) (f : VF) (s : State) : Host.Outcome State Fault Refusal := .next (s.vec c (.vxor c f) f)

/-- VSHL by IMM[4:0] (06 R218). -/
def execVshl (c : Fin 64) (f : VF) (s : State) : Host.Outcome State Fault Refusal := .next (s.vec c (.vshl c f) f)

/-- VSHR, logical, by IMM[4:0] (06 R218). -/
def execVshr (c : Fin 64) (f : VF) (s : State) : Host.Outcome State Fault Refusal := .next (s.vec c (.vshr c f) f)

/-- VLD: an address not a multiple of 512 or outside working memory is a forbidden encoding (06 R211, R214, R218; 13 R421). -/
def execVld (c : Fin 64) (f : VF) (s : State) : Host.Outcome State Fault Refusal :=
  .next (s.issue c (.vld c f) 1 (fun t =>
    if (t.vAddr c f).isNone then t.illegal c 1 (insnBits (.vld c f)) else t.vPlace c (.vld c f) f))

/-- VST: as VLD; the list area of a loaded Score is forbidden too (06 R211, R214, R218; 07 R243; 13 R421). -/
def execVst (c : Fin 64) (f : VF) (s : State) : Host.Outcome State Fault Refusal :=
  .next (s.issue c (.vst c f) 1 (fun t =>
    match t.vAddr c f with
    | none => t.illegal c 1 (insnBits (.vst c f))
    | some off => if t.inList off 512 then t.illegal c 1 (insnBits (.vst c f)) else t.vPlace c (.vst c f) f))

/-- VBCAST (06 R211, R218). -/
def execVbcast (c : Fin 64) (f : VF) (s : State) : Host.Outcome State Fault Refusal := .next (s.vec c (.vbcast c f) f)

/-- VSETSR (06 R218, R222). -/
def execVsetsr (c : Fin 64) (f : VF) (s : State) : Host.Outcome State Fault Refusal := .next (s.vec c (.vsetsr c f) f)

/-- PAND (06 R218). -/
def execPand (c : Fin 64) (f : VF) (s : State) : Host.Outcome State Fault Refusal := .next (s.vec c (.pand c f) f)

/-- POR (06 R218). -/
def execPor (c : Fin 64) (f : VF) (s : State) : Host.Outcome State Fault Refusal := .next (s.vec c (.por c f) f)

/-- PNOT (06 R218). -/
def execPnot (c : Fin 64) (f : VF) (s : State) : Host.Outcome State Fault Refusal := .next (s.vec c (.pnot c f) f)

/-- VCRC (06 R218, R223). -/
def execVcrc (c : Fin 64) (f : VF) (s : State) : Host.Outcome State Fault Refusal := .next (s.vec c (.vcrc c f) f)

end Sys2Proof.Machine
end

