-- ==== Sys2Proof/Machine/Matrix.lean ====
section
/-!
DEFINITION. Machine/Matrix.lean: the matrix engines: operations, their checks, arithmetic and completion, the ramp, and the
repair map (spec/05; spec/06 R224, R225).
-/
namespace Sys2Proof.Machine

/-! ### The parameter block (06 R225) -/

/-- Bits of word w of a parameter block. -/
def mp (ws : List Nat) (w hi lo : Nat) : Nat := bitsOf (ws.getD w 0) hi lo
/-- M. -/
def mpM (ws : List Nat) : Nat := mp ws 0 9 0
/-- N. -/
def mpN (ws : List Nat) : Nat := mp ws 0 17 10
/-- K. -/
def mpK (ws : List Nat) : Nat := mp ws 0 32 18
/-- AXIS. -/
def mpAxis (ws : List Nat) : Nat := mp ws 0 33 33
/-- AFMT. -/
def mpAfmt (ws : List Nat) : Nat := mp ws 0 37 34
/-- BFMT. -/
def mpBfmt (ws : List Nat) : Nat := mp ws 0 41 38
/-- CFMT. -/
def mpCfmt (ws : List Nat) : Nat := mp ws 0 45 42
/-- OUTFMT. -/
def mpOutfmt (ws : List Nat) : Nat := mp ws 0 49 46
/-- RM. -/
def mpRm (ws : List Nat) : Nat := mp ws 0 51 50
/-- SAT. -/
def mpSat (ws : List Nat) : Bool := decide (mp ws 0 52 52 = 1)
/-- INIT. -/
def mpInit (ws : List Nat) : Bool := decide (mp ws 0 53 53 = 1)
/-- REUSE. -/
def mpReuse (ws : List Nat) : Bool := decide (mp ws 0 54 54 = 1)
/-- Address of A, B, C, D as operand 1 to 4. -/
def mpAddr (ws : List Nat) (i : Nat) : Nat := mp ws i 21 0
/-- Row stride of operand 1 to 4. -/
def mpStride (ws : List Nat) (i : Nat) : Nat := mp ws i 43 22
/-- Scale array address of A, B and D as operand 1, 2 and 4. -/
def mpScale (ws : List Nat) (i : Nat) : Nat := if i = 1 then mp ws 5 21 0 else if i = 2 then mp ws 5 43 22 else mp ws 6 21 0
/-- An operation whose operands are both INT8 (03 R129). -/
def mpInts (ws : List Nat) : Bool := decide (mpAfmt ws = 11) && decide (mpBfmt ws = 11)
/-- The Chime that receives ARRIVE(1), if any. -/
def mpChime (ws : List Nat) : Option Nat := if mp ws 6 53 53 = 1 then some (mp ws 6 36 22) else none

/-- A format that AFMT and BFMT allow (05 R174): any but E8M0 and INT32. -/
def mxOperand (t : Nat) : Bool := decide (t ≤ 9) || decide (t = 11)

/-- Blocks of 32 in a row of L elements. -/
def mxBlocks (l : Nat) : Nat := (l + 31) / 32

/-! ### Regions (05 R175, R176) -/

/-- Rows of an operand as (address, bytes): its element rows and, for MX, its scale array. -/
def operandRows (ws : List Nat) (i fmt rows cols : Nat) : List (Nat × Nat) :=
  let w := tyWidth fmt
  (List.range rows).map (fun r => (mpAddr ws i + r * mpStride ws i, (cols * w + 7) / 8)) ++
    (if tyMx fmt then [(mpScale ws i, rows * mxBlocks cols)] else [])

/-- Rows of A, read when K is not 0. -/
def rowsA (ws : List Nat) : List (Nat × Nat) := if mpK ws = 0 then [] else operandRows ws 1 (mpAfmt ws) (mpM ws) (mpK ws)
/-- Rows of B, read when K is not 0 and REUSE is clear. -/
def rowsB (ws : List Nat) : List (Nat × Nat) :=
  if mpK ws = 0 ∨ mpReuse ws then [] else operandRows ws 2 (mpBfmt ws) (mpK ws) (mpN ws)
/-- Rows of C, read when INIT is set. -/
def rowsC (ws : List Nat) : List (Nat × Nat) := if mpInit ws then operandRows ws 3 (mpCfmt ws) (mpM ws) (mpN ws) else []
/-- Rows of D: an MX result is written in whole blocks (05 R180). -/
def rowsD (ws : List Nat) : List (Nat × Nat) :=
  let n := if tyMx (mpOutfmt ws) then 32 * mxBlocks (mpN ws) else mpN ws
  (List.range (mpM ws)).map (fun r => (mpAddr ws 4 + r * mpStride ws 4, (n * tyWidth (mpOutfmt ws) + 7) / 8)) ++
    (if tyMx (mpOutfmt ws) then [(mpScale ws 4, mpM ws * mxBlocks (mpN ws))] else [])

/-- Whether two lists of rows share a byte. -/
def rowsMeet (x y : List (Nat × Nat)) : Bool :=
  x.any (fun a => y.any (fun b => decide (a.1 < b.1 + b.2) && decide (b.1 < a.1 + a.2) && decide (0 < a.2) && decide (0 < b.2)))

/-- Whether the rows lie in working memory. -/
def rowsIn (x : List (Nat × Nat)) : Bool := x.all (fun a => decide (a.1 + a.2 ≤ wmSize))

/-- Address, stride and scale address of an operand are multiples of 64 (06 R225). -/
def aligned64 (ws : List Nat) (i fmt : Nat) : Bool :=
  decide (mpAddr ws i % 64 = 0) && decide (mpStride ws i % 64 = 0) && (!tyMx fmt || decide (mpScale ws i % 64 = 0))

/-- Accumulators are INT32: of an INT8 pair, or with K 0 from an INT32 C (03 R129; 05 R186). -/
def mxInt (ws : List Nat) : Bool := if mpK ws = 0 then mpInit ws && decide (mpCfmt ws = 10) else mpInts ws

/-- CFMT goes with the operand formats (05 R174); with K 0 these are not used, and CFMT may be any format that C can have (05 R186; 06
R225). -/
def mxCfmt (ws : List Nat) : Bool :=
  if mpK ws = 0 then decide (mpCfmt ws ≤ 2) || decide (mpCfmt ws = 10)
  else if mpInts ws then decide (mpCfmt ws = 10) else decide (mpCfmt ws ≤ 2)

/-- Every parameter that the operation uses is in range (05 R174, R175; 06 R225; 07 R243). -/
def State.mxInRange (s : State) (ws : List Nat) : Bool :=
  let k := mpK ws
  decide (mpM ws ≤ 512) && decide (mpN ws ≤ if mpAxis ws = 0 then 64 else 128) && decide (k ≤ 16384) &&
  decide (mpM ws * mpN ws ≤ 32768) && decide (mpRm ws ≠ 3) && decide (mpOutfmt ws ≤ 11) &&
  (decide (k = 0) || (mxOperand (mpAfmt ws) && mxOperand (mpBfmt ws) && aligned64 ws 1 (mpAfmt ws))) &&
  (decide (k = 0) || mpReuse ws || aligned64 ws 2 (mpBfmt ws)) &&
  (!mpInit ws || (aligned64 ws 3 0 && mxCfmt ws)) &&
  aligned64 ws 4 (mpOutfmt ws) &&
  rowsIn (rowsA ws) && rowsIn (rowsB ws) && rowsIn (rowsC ws) && rowsIn (rowsD ws) &&
  !(rowsD ws).any (fun a => s.inList a.1 a.2)

/-- C and D coincide exactly (05 R176). -/
def mxSameCD (ws : List Nat) : Bool :=
  decide (mpAddr ws 3 = mpAddr ws 4) && decide (mpCfmt ws = mpOutfmt ws) && decide (mpStride ws 3 = mpStride ws 4)

/-- D overlaps an operand that the operation reads (05 R176). -/
def mxOverlap (ws : List Nat) : Bool :=
  rowsMeet (rowsD ws) (rowsA ws) || rowsMeet (rowsD ws) (rowsB ws) || (!mxSameCD ws && rowsMeet (rowsD ws) (rowsC ws))

/-- The tile fills exactly the cells that the operation uses, in its BFMT (05 R177, R178). -/
def tileFits (ws : List Nat) (t : Tile) : Bool :=
  let rc := if mpAxis ws = 0 then (mpK ws, mpN ws) else (mpN ws, mpK ws)
  decide (t.rows = rc.1) && decide (t.cols = rc.2) && decide (t.fmt = mpBfmt ws)

/-! ### Issue (05 R174 to R178, R185, R186, R200; 06 R224, R225) -/

/-- The codes of one operand, row by row, and a scale byte for each. -/
def State.mxRead (s : State) (c : Nat) (ws : List Nat) (i fmt rows cols : Nat) : List Nat × List Nat :=
  let w := tyWidth fmt
  ((List.range rows).flatMap (fun r =>
      let v := leNat (s.bytes (wmBase c + mpAddr ws i + r * mpStride ws i) ((cols * w + 7) / 8))
      (List.range cols).map (elemOf w v)),
   if tyMx fmt then
      (List.range rows).flatMap (fun r => (List.range cols).map (fun j =>
        (s.byte (wmBase c + mpScale ws i + r * mxBlocks cols + j / 32)).toNat))
    else [])

/-- The first poisoned word that a list of rows of working memory meets. -/
def State.rowsPoison (s : State) (c : Nat) (rows : List (Nat × Nat)) : Option Nat :=
  rows.findSome? (fun a => s.poisonRead (wmBase c + a.1) a.2)

/-- The decoders of a list of rows of working memory that are read (13 R420). -/
def State.rowsCorrect (s : State) (c : Nat) (rows : List (Nat × Nat)) : State :=
  rows.foldl (fun t a => t.correct (wmBase c + a.1) a.2) s

/-- A list of lists of the same length, rows and columns exchanged. -/
def transpose (rows cols : Nat) (l : List Nat) : List Nat :=
  (List.range cols).flatMap (fun j => (List.range rows).map (fun i => l.getD (i * cols + j) 0))

/-- B as K × N from the cells of a tile: cell (k, n) with AXIS 0, cell (n, k) with AXIS 1 (05 R177). -/
def tileToB (ws : List Nat) (t : Tile) (l : List Nat) : List Nat :=
  if mpAxis ws = 0 then l else transpose t.rows t.cols l

/-- The widest tile along K (05 R179). -/
def mxKt (ws : List Nat) : Nat := if mpAxis ws = 0 then 128 else 64

/-- Positions of pass t: its first k and how many (05 R179). -/
def passAt (ws : List Nat) (t : Nat) : Nat × Nat := (t * mxKt ws, min (mxKt ws) (mpK ws - t * mxKt ws))

/-- Passes of an operation, and so its tiles. -/
def mxPasses (ws : List Nat) : Nat := (mpK ws + mxKt ws - 1) / mxKt ws

/-- Tile t of an operation, from B as K × N (05 R177, R179). -/
def tileOf (ws : List Nat) (b sb : List Nat) (t : Nat) : Tile :=
  let q := passAt ws t
  let n := mpN ws
  let cut := fun (l : List Nat) => (l.drop (q.1 * n)).take (q.2 * n)
  if mpAxis ws = 0 then ⟨q.2, n, mpBfmt ws, cut b, cut sb⟩
  else ⟨n, q.2, mpBfmt ws, transpose q.2 n (cut b), if sb.isEmpty then [] else transpose q.2 n (cut sb)⟩

/-- The tile that an operation may leave for REUSE: the one it used, when it used exactly one (05 R178, R179). -/
def tileAfter (ws : List Nat) (b sb : List Nat) : Option Tile := if mxPasses ws = 1 then some (tileOf ws b sb 0) else none

/-! ### The array and its feed (05 R171, R173, R182, R189, R194, R197) -/

/-- The value of a code, with its scale byte for an MX format. -/
def mxVal (fmt : Nat) (code scale : Nat) : Val := if tyMx fmt then decodeMx fmt scale code else decodeCode fmt code

/-- An operand's values. -/
def mxVals (fmt : Nat) (codes scales : List Nat) : List Val :=
  if tyMx fmt then (codes.zip scales).map (fun p => mxVal fmt p.1 p.2) else codes.map (decodeCode fmt)

/-- A sum of at most 128 values in the common form with RNE, in the tree of 03 R127 (05 R194, R195 name no order: DESIGN CHOICE, log entry 15). -/
def sumCommon (l : List Val) : Val := (passSum l).1

/-- The values of row r of a tile's cells. -/
def tileRow (t : Tile) (r : Nat) : List Val :=
  mxVals t.fmt ((t.elems.drop (r * t.cols)).take t.cols) ((t.scales.drop (r * t.cols)).take t.cols)

/-- t[r]: the sum of the cells of row r (05 R194). -/
def tileRowSum (t : Tile) (r : Nat) : Val := sumCommon (tileRow t r)

/-- s[c]: the sum of the cells of column c (05 R194). -/
def tileColSum (t : Tile) (c : Nat) : Val := sumCommon ((List.range t.rows).map (fun r => (tileRow t r).getD c valZero))

/-- Entry i of a repair map: valid, and its working row. -/
def repEntry (v i : Nat) : Bool × Nat := (v.testBit (8 * i + 7), bitsOf v (8 * i + 6) (8 * i))

/-- The cells of spare row 128 + j under a repair map: of the working row it stands for, else a checksum row of the tile; row 131 holds none
(05 R194, R197). -/
def spareRow (m : Nat) (t : Tile) (j : Nat) : List Val :=
  let e := repEntry m (if j = 3 then 0 else j + 1)
  if e.1 then (if e.2 < t.rows then tileRow t e.2 else [])
  else match j with
    | 0 => (List.range t.cols).map (tileColSum t)
    | 1 => (List.range (min t.rows 64)).map (tileRowSum t)
    | 2 => (span 64 (t.rows - 64)).map (tileRowSum t)
    | _ => []

/-- The array with a tile loaded (05 R171, R194, R197). -/
def loadArray (m : Nat) (t : Tile) : MxArray := ⟨some t, (List.range 4).map (spareRow m t)⟩

/-- Width rank of a format (05 R182): 0 FP32, 1 16-bit, 2 8-bit, 3 FP6 and FP4. -/
def widthRank (fmt : Nat) : Nat := if tyWidth fmt = 32 then 0 else if tyWidth fmt = 16 then 1 else if tyWidth fmt = 8 then 2 else 3

/-- Permitted CK that the rows of one tile take (05 R182, R186): by the wider operand, or of K 1 when K is 0. -/
def tileUnits (ws : List Nat) : Nat :=
  let m := mpM ws
  match min (widthRank (mpAfmt ws)) (widthRank (mpBfmt ws)) with
  | 0 => 8 * m
  | 1 => m
  | 2 => (m + 1) / 2
  | _ => (m + 3) / 4

/-- The tiles of an operation as they will stream: load CK and permitted CK of each (05 R186, R189). -/
def mxFeed (ws : List Nat) : List (Nat × Nat) :=
  if mpK ws = 0 then [(0, tileUnits ws)] else List.replicate (mxPasses ws) (if mpReuse ws then 0 else 64, tileUnits ws)

/-- How many tiles a started operation streams: none when its operands could not be read. -/
def runTiles (r : MxRun) : Nat := if r.code = 0 ∨ r.code = 2 then (mxFeed r.words).length else 0

/-- One CK of the feed: the tile in front loads, or streams where a row may enter while the next tile loads (05 R189). -/
def feedCk (enter : Bool) : List (Nat × Nat) → List (Nat × Nat)
  | (l + 1, u) :: t => (l, u) :: t
  | (0, u) :: t =>
    let t1 := match t with | (l + 1, v) :: r => (l, v) :: r | r => r
    if enter then (if u ≤ 1 then t1 else (0, u - 1) :: t1) else (0, u) :: t1
  | [] => []

/-- Whether a row is ready to stream (05 R191). -/
def rowReady (feed : List (Nat × Nat)) : Bool :=
  match feed with
  | (0, _) :: _ => true
  | _ => false

/-- Started operations that have a streaming row still to enter: the last ones, whose tiles the feed still holds (06 R224). -/
def feeding : List MxRun → Nat → Nat
  | [], _ => 0
  | r :: t, n => feeding t n + (if (t.map runTiles).sum < n then b2n (decide (0 < runTiles r)) else 0)

/-- An operation completes at issue with a code: it streams nothing and leaves no tile (05 R175, R178, R185, R200). -/
def State.mxNow (s : State) (c index code : Nat) (ch : Option Nat) : State :=
  ((s.setCl c { s.cl c with tile := none }).entry c index 2 0 code).arriveOpt c 1 ch s.beat

/-- The map in effect, as its register word. -/
def State.repMap (s : State) (n : Nat) : Nat :=
  s.reg F.ENG_REPAIR_SUB0_ROW n + s.reg F.ENG_REPAIR_SUB0_V n * 2 ^ 7 + s.reg F.ENG_REPAIR_SUB1_ROW n * 2 ^ 8 +
  s.reg F.ENG_REPAIR_SUB1_V n * 2 ^ 15 + s.reg F.ENG_REPAIR_SUB2_ROW n * 2 ^ 16 + s.reg F.ENG_REPAIR_SUB2_V n * 2 ^ 23 +
  s.reg F.ENG_REPAIR_SUB3_ROW n * 2 ^ 24 + s.reg F.ENG_REPAIR_SUB3_V n * 2 ^ 31

/-- The first tile of an operation loads: into the array of an idle engine, with the next behind it, else into the shadow buffer (05 R173,
R189). With K 0 or under REUSE nothing loads. -/
def State.mxLoad (s : State) (c : Nat) (ws b sb : List Nat) : State :=
  let x := s.cl c
  if mpK ws = 0 || mpReuse ws then s
  else if x.mxRun.isEmpty then
    s.setCl c { x with array := loadArray (s.repMap c) (tileOf ws b sb 0)
                       shadow := if 1 < mxPasses ws then some (tileOf ws b sb 1) else none }
  else s.setCl c { x with shadow := some (tileOf ws b sb 0) }

/-- An operation starts: its operands A and B are captured, and the tile that it may leave is known. The tile is taken back when the
operation ends otherwise than with DONE or CHECK_FAIL (`mxFail`; 05 R178). -/
def State.mxStart (s : State) (c index word : Nat) (ws : List Nat) : State :=
  let a := if mpK ws = 0 then ([], []) else s.mxRead c ws 1 (mpAfmt ws) (mpM ws) (mpK ws)
  let b := if mpK ws = 0 then ([], [])
    else match mpReuse ws, (s.cl c).tile with
      | true, some t => (tileToB ws t t.elems, if t.scales.isEmpty then [] else tileToB ws t t.scales)
      | _, _ => s.mxRead c ws 2 (mpBfmt ws) (mpK ws) (mpN ws)
  let s1 := s.mxLoad c ws b.1 b.2
  let x := s1.cl c
  s1.setCl c { x with mxRun := x.mxRun ++ [MxRun.mk index word (if mpK ws = 0 then 2 else 0) ws a.1 a.2 b.1 b.2 s.beat]
                      feed := x.feed ++ mxFeed ws
                      tile := tileAfter ws b.1 b.2 }

/-- An operand read at issue meets poison: the operation will complete with MEM_UE and write nothing (13 R421). -/
def State.mxPoisoned (s : State) (c index word : Nat) (ws : List Nat) (a : Nat) : State :=
  let s1 := s.meetPoisonIn 0 a 1 index 2 word
  let x := s1.cl c
  s1.setCl c { x with mxRun := x.mxRun ++ [MxRun.mk index word 0x15 ws [] [] [] [] s.beat], tile := none }

/-- An operation leaves the head of its queue with its parameter block. -/
def State.mxIssueBlock (s : State) (c index word : Nat) (ws : List Nat) : State :=
  let ch := mpChime ws
  if mpM ws = 0 ∨ mpN ws = 0 then s.mxNow c index 1 ch
  else if !s.mxInRange ws then s.mxNow c index 0x12 ch
  else if mxOverlap ws then s.mxNow c index 0x13 ch
  else if mpReuse ws && decide (mpK ws ≠ 0) && !((s.cl c).tile.any (tileFits ws)) then s.mxNow c index 0x20 ch
  else match s.rowsPoison c (rowsA ws ++ rowsB ws) with
    | some a => s.mxPoisoned c index word ws a
    | none => (s.rowsCorrect c (rowsA ws ++ rowsB ws)).mxStart c index word ws

/-- MXE_OP_ISSUE at a cluster: Chime operations at the head are applied when due, then the operation at the head leaves it, unless two
earlier ones have a streaming row still to enter (06 R224). -/
def State.mxIssue (s0 : State) (c : Nat) : State :=
  let s := State.flushMx 33 s0 c
  match (s.cl c).mxq with
  | .op addr index word :: t =>
    if 2 ≤ feeding (s.cl c).mxRun (s.cl c).feed.length then s else
    let s1 := s.setCl c { s.cl c with mxq := t }
    let s2 :=
      if s1.mxFenced c then
        (s1.detectIn 0x1004 0 (8 * c) 7 none index 2 word).mxNow c index 0x16 none
      else if addr % 64 ≠ 0 ∨ addr + 64 > wmSize then s1.mxNow c index 0x12 none
      else match s1.poisonRead (wmBase c + addr) 64 with
        | some a => (s1.meetPoisonIn 0 a 1 index 2 word).mxNow c index 0x15 none
        | none => (s1.correct (wmBase c + addr) 64).mxIssueBlock c index word
            ((List.range 8).map (fun i => s1.word (wmBase c + addr + 8 * i)))
    State.flushMx 33 s2 c
  | _ => s

/-- MXE_OP_ISSUE (05 R172, R174 to R179, R182, R183, R185, R189, R194, R200; 06 R224, R225). -/
def execMxeOpIssue (c : Fin 64) (s : State) : Host.Outcome State Fault Refusal := .next (s.mxIssue c)

/-- MXE.OP: the operation joins the matrix queue, or stalls issue while it holds 32 (06 R204, R224). -/
def State.mxPlace (s : State) (c : Nat) (sa : BitVec 5) : State :=
  let x := s.cl c
  if x.mxq.length ≥ 32 then s.stall c 1
  else (s.setCl c { x with mxq := x.mxq ++ [.op (s.sreg c sa).toNat (s.index c) (mxWord sa).toNat] }).goOn c

/-- MXE_OP (06 R204, R224). -/
def execMxeOp (c : Fin 64) (sa : BitVec 5) (s : State) : Host.Outcome State Fault Refusal :=
  .next (s.issue c (.mxeOp c sa) 2 (fun t => t.mxPlace c sa))

/-! ### Arithmetic (03 R126 to R130; 05 R177, R179, R180, R186) -/

/-- The products of one pass, and their flags (03 R122, R126). -/
def passProducts (a b : List Val) : List Val × Flags :=
  let ps := (a.zip b).map (fun p => valMul p.1 p.2)
  (ps.map (·.1), flagsAll (ps.map (·.2)))

/-- What an injected fault adds to a pass sum (17 R532): 2^(e - 10), e of the largest product magnitude; with every product zero the
spec gives no e and the model takes 0 for it (DESIGN CHOICE, log entry 15). -/
def bumpOf (big : Val) : Val := .fin false 1 ((if valIsZero big then 0 else valLog2 big) - 10) false

/-- The sum of one pass, with the flags of its products and adders (03 R126, R127); `bump` is added to it. -/
def passOne (a b : List Val) (bump : Option Val) : Val × Flags :=
  let ps := passProducts a b
  let r := passSum ps.1
  (match bump with | some v => (valAdd r.1 v).1 | none => r.1, flagsOr ps.2 r.2)

/-- One pass applied to an FP32 accumulator (03 R127, R128). -/
def passFp (acc : Val) (a b : List Val) (bump : Option Val) : Val × Flags :=
  let r := passOne a b bump
  let q := addFp32 acc r.1
  (decodeF fFP32 q.1, flagsOr r.2 q.2)

/-- One pass applied to an INT32 accumulator (03 R129); a bump below 1 adds 1 (DESIGN CHOICE, log entry 15). -/
def passInt (acc : Int) (a b : List Val) (bump : Option Val) : Int × Flags :=
  let add : Int := match bump with | some (.fin _ _ e _) => ((2 ^ e.toNat : Nat) : Int) | _ => 0
  let q := addInt32 acc ((a.zip b).foldl (fun t p => t + valInt p.1 * valInt p.2) add)
  (sxt 32 q.1, q.2)

/-- All passes of one element in order of k (03 R128, R129); `hit` names a pass and what is added to its sum. -/
def elemAcc (ws : List Nat) (init : Val) (a b : List Val) (hit : Option (Nat × Val)) : Val × Flags :=
  (List.range (mxPasses ws)).foldl (fun (p : Val × Flags) t =>
    let q := passAt ws t
    let x := (a.drop q.1).take q.2
    let y := (b.drop q.1).take q.2
    let bump := hit.bind (fun h => if h.1 = t then some h.2 else none)
    if mpInts ws then
      let r := passInt (valInt p.1) x y bump
      (.fin (decide (r.1 < 0)) r.1.natAbs 0 false, flagsOr p.2 r.2)
    else
      let r := passFp p.1 x y bump
      (r.1, flagsOr p.2 r.2)) (init, flagsNone)

/-- Column j of B as K × N. -/
def colOf (ws : List Nat) (b : List Val) (j : Nat) : List Val := (List.range (mpK ws)).map (fun i => b.getD (i * mpN ws + j) valZero)

/-- The draw of element (m, n) (05 R174; 03 R136). -/
def State.mxDraw (s : State) (r : MxRun) (m n : Nat) : Nat :=
  let ws := r.words
  if mpRm ws = 2 then
    let st := mp ws 6 52 37
    srDraw (s.seed st) st r.beat ((mp ws 7 31 0 + m * mp ws 5 63 44 + n) % 2 ^ 32) (mp ws 7 63 32)
  else 0

/-- One row of D: element bytes, scale bytes, flags (05 R180). -/
def State.mxRow (s : State) (r : MxRun) (m : Nat) (vals : List Val) : List Byte × List Byte × Flags :=
  let ws := r.words
  let o := mpOutfmt ws
  let n := vals.length
  if tyMx o then
    let full := vals ++ List.replicate (32 * mxBlocks n - n) valZero
    let bs := (List.range (mxBlocks n)).map (fun j =>
      encodeMx o ((full.drop (32 * j)).take 32) (mpRm ws) ((span (32 * j) 32).map (s.mxDraw r m)))
    (elemBytes (tyWidth o) (bs.flatMap (fun b => b.2.1)), bs.map (fun b => BitVec.ofNat 8 b.1), flagsAll (bs.map (fun b => b.2.2)))
  else
    let es := (vals.zip (List.range n)).map (fun p => encodeCode o p.1 (mpRm ws) (mpSat ws) (s.mxDraw r m p.2))
    (elemBytes (tyWidth o) (es.map (·.1)), [], flagsAll (es.map (·.2)))

/-- The accumulators of an operation when all passes are applied, row by row, with their flags (03 R128, R129; 05 R173, R186): from C or
+0. `hit` names a row, a pass, and what is added to the sum of column 0. -/
def State.mxAccs (s : State) (c : Nat) (r : MxRun) (hit : Option (Nat × Nat × Val)) : List Val × Flags :=
  let ws := r.words
  let k := mpK ws
  let n := mpN ws
  let a := mxVals (mpAfmt ws) r.a r.sa
  let b := mxVals (mpBfmt ws) r.b r.sb
  let cv := if mpInit ws then (s.mxRead c ws 3 (mpCfmt ws) (mpM ws) n).1.map (decodeCode (mpCfmt ws)) else []
  let es := (List.range (mpM ws)).flatMap (fun m => (List.range n).map (fun j =>
    let init := cv.getD (m * n + j) valZero
    if k = 0 then (init, flagsNone)
    else elemAcc ws init ((a.drop (m * k)).take k) (colOf ws b j)
      (hit.bind (fun h => if h.1 = m ∧ j = 0 then some h.2 else none))))
  (es.map (·.1), flagsOr (naninOf (a ++ b ++ cv)) (flagsAll (es.map (·.2))))

/-- The rows of D, from the accumulators, with their flags (05 R180, R181, R186). -/
def State.mxResult (s : State) (r : MxRun) (accs : List Val) : List (List Byte × List Byte) × Flags :=
  let n := mpN r.words
  let rows := (List.range (mpM r.words)).map (fun m => s.mxRow r m ((accs.drop (m * n)).take n))
  (rows.map (fun x => (x.1, x.2.1)), flagsAll (rows.map (fun x => x.2.2)))

/-! ### Checks (05 R194 to R197) -/

/-- Whether passes of the operation are checked (05 R195, R197): not for a K of 0, not where repairs leave no check for its AXIS. -/
def State.mxChecks (s : State) (c : Nat) (ws : List Nat) : Bool :=
  let cover := s.reg F.ENG_REPAIR_COVER c
  decide (mpK ws ≠ 0) && (decide (cover = 0) || (decide (cover = 1) && decide (mpAxis ws = 0)))

/-- The checksum of position i of a tile along K: t[r] with AXIS 0, s[c] with AXIS 1 (05 R194). -/
def tileCheck (ws : List Nat) (t : Tile) (i : Nat) : Val := if mpAxis ws = 0 then tileRowSum t i else tileColSum t i

/-- The check of one streaming row in one pass (05 R195): `ps` are the products and `sums` the pass sum of each column, `a` the streaming row
and `ts` the checksums. None when a product or a pass sum is NaN or infinite; else whether it fails. -/
def rowCheck (ps sums a ts : List Val) : Option Bool :=
  if (ps ++ sums).any (fun v => valNan v || valInf v) then none
  else
    let big := ps.foldl valMaxMag valZero
    let x := sumCommon sums
    let y := sumCommon ((a.zip ts).map (fun p => rneCommon (valMul p.1 p.2).1))
    some (if valIsZero big then !valIsZero x || !valIsZero y
      else valLt (.fin false 1 (valLog2 big - 20) false) (valAbs (rneCommon (valAdd x (valNeg y)).1)))

/-- The check of streaming row m in pass t of an operation, with `bump` in column 0; and the largest product magnitude. -/
def passCheck (r : MxRun) (m t : Nat) (bump : Option Val) : Option Bool × Val :=
  let ws := r.words
  let q := passAt ws t
  let tile := tileOf ws r.b r.sb t
  let a := ((mxVals (mpAfmt ws) r.a r.sa).drop (m * mpK ws + q.1)).take q.2
  let b := mxVals (mpBfmt ws) r.b r.sb
  let cols := (List.range (mpN ws)).map (fun j => ((colOf ws b j).drop q.1).take q.2)
  let ps := cols.flatMap (fun y => (passProducts a y).1)
  let sums := (cols.zip (List.range (mpN ws))).map (fun p => (passOne a p.1 (if p.2 = 0 then bump else none)).1)
  (rowCheck ps sums a ((List.range q.2).map (tileCheck ws tile)), ps.foldl valMaxMag valZero)

/-- The streaming rows and passes of an operation in the order in which they stream: (row, pass). -/
def rowPasses (ws : List Nat) : List (Nat × Nat) :=
  (List.range (mxPasses ws)).flatMap (fun t => (List.range (mpM ws)).map (fun m => (m, t)))

/-- Where an injected fault strikes: column 0 of the next checked pass (17 R532). -/
def State.mxHit (s : State) (c : Nat) (r : MxRun) : Option (Nat × Nat × Val) :=
  if (s.hitMode 0x0101 0 (8 * c)).isSome && s.mxChecks c r.words then
    ((rowPasses r.words).find? (fun p => (passCheck r p.1 p.2 none).1.isSome)).map (fun p => (p.1, p.2, bumpOf (passCheck r p.1 p.2 none).2))
  else none

/-- How many checks of an operation fail, the one that an injected fault struck apart (05 R195, R196). -/
def State.mxFails (s : State) (c : Nat) (r : MxRun) (hit : Option (Nat × Nat × Val)) : Nat :=
  if s.mxChecks c r.words then
    ((rowPasses r.words).filter (fun p => (hit.map (fun h => (h.1, h.2.1)) != some p) && decide ((passCheck r p.1 p.2 none).1 = some true))).length
  else 0

/-- Whether the check that an injected fault struck fails. -/
def hitFails (r : MxRun) (hit : Option (Nat × Nat × Val)) : Bool :=
  match hit with
  | some h => decide ((passCheck r h.1 h.2.1 (some h.2.2)).1 = some true)
  | none => false

/-! ### Completion (05 R188, R196; 06 R226) -/

/-- Sticky flags of a matrix engine (05 R181, R201). -/
def State.mxFlags (s : State) (c : Nat) (x : Flags) : State :=
  let set := fun (t : State) (b : Bool) (fl : Field) => if b then t.mark fl 1 c else t
  set (set (set (set s x.nanin F.MXE_ENG_NANIN) x.inv F.MXE_ENG_INV) x.ovf F.MXE_ENG_OVF) x.isat F.MXE_ENG_ISAT

/-- The rows of D written (05 R187). -/
def State.mxWrite (s : State) (c : Nat) (ws : List Nat) (rows : List (List Byte × List Byte)) : State :=
  (rows.zip (List.range rows.length)).foldl (fun t p =>
    let t1 := t.writeMem t.beat (wmBase c + mpAddr ws 4 + p.2 * mpStride ws 4) p.1.1
    if p.1.2.isEmpty then t1 else t1.writeMem t1.beat (wmBase c + mpScale ws 4 + p.2 * mxBlocks (mpN ws)) p.1.2) s

/-- The first word of D that is poisoned and written only in part. -/
def State.mxPartial (s : State) (c : Nat) (ws : List Nat) : Option Nat :=
  (rowsD ws).findSome? (fun a => s.poisonWrite (wmBase c + a.1) a.2)

/-- Operations that took the tile of one that leaves none: they reuse what is not there (05 R178). -/
def voidReuse : List MxRun → List MxRun
  | r :: t => if mpReuse r.words && decide (r.code = 0) then { r with code := 0x20 } :: voidReuse t else r :: t
  | [] => []

/-- An operation ends with a code that leaves no tile and writes nothing (05 R176, R178; 13 R421); one that was to reuse its tile will
complete with REUSE_BAD. -/
def State.mxFail (s : State) (c : Nat) (r : MxRun) (code : Nat) : State :=
  let x := s.cl c
  let rs := voidReuse x.mxRun
  ((s.setCl c { x with mxRun := rs, tile := if rs.all (fun q => decide (q.code ≠ 0)) then none else x.tile }).entry c r.index 2 0 code).arriveOpt
    c 1 (mpChime r.words) r.beat

/-- The accumulator file after an operation: entry m × N + n holds the accumulator of element (m, n), entries beyond keep theirs (05 R173;
DESIGN CHOICE, log entry 15). -/
def accFile (ints : Bool) (old : List Nat) (vs : List Val) : List Nat :=
  vs.map (fun v => if ints then toField 32 (valInt v) else (rneFp32 v).1) ++ old.drop vs.length

/-- An operation that ends leaves its last tile in the array, and the first tile of the next loads behind it (05 R173, R189). -/
def State.mxLeave (s : State) (c : Nat) (r : MxRun) (ints : Bool) (vs : List Val) : State :=
  let x := s.cl c
  let s1 := s.setCl c { x with accs := accFile ints x.accs vs }
  if mpK r.words = 0 then s1
  else s1.setCl c { s1.cl c with array := loadArray (s.repMap c) (tileOf r.words r.b r.sb (mxPasses r.words - 1)) }

/-- An operation's results are written and it completes. A failed check counts and is reported, and with no Score running the operation completes
CHECK_FAIL (05 R196). -/
def State.mxFinish (s : State) (c : Nat) (r : MxRun) : State :=
  let hit := s.mxHit c r
  let s0 := if hit.isSome then s.takeHit 0x0101 0 (8 * c) else s
  let s1 := if hitFails r hit then (s0.count F.MXE_ENG_CHECK_FAIL 1 c).detectHit 0x0101 0 (8 * c) 6 none r.index 2 r.word else s0
  let bad := s1.mxFails c r hit
  let s2 := foldKeys (List.range bad) (fun t _ => (t.count F.MXE_ENG_CHECK_FAIL 1 c).detectIn 0x0101 0 (8 * c) 6 none r.index 2 r.word) s1
  let acc := s2.mxAccs c r hit
  let res := s2.mxResult r acc.1
  let f := flagsOr acc.2 res.2
  let s3 := ((s2.mxWrite c r.words res.1).mxFlags c f).mxLeave c r (mxInt r.words) acc.1
  let s4 := if mpK r.words = 0 then s3.mark F.MXE_ENG_EMPTY 1 c else s3
  let code := if (hitFails r hit || decide (0 < bad)) && !s4.running then 0x21 else r.code
  (s4.entry c r.index 2 (flagsBits f) code).arriveOpt c 1 (mpChime r.words) r.beat

/-- The oldest started operation of a cluster completes; the tiles of those behind it are what the feed still holds. -/
def State.mxComplete (s : State) (c : Nat) : State :=
  let x := s.cl c
  match x.mxRun with
  | [] => s
  | r :: t =>
    let left := (t.map runTiles).sum
    let s1 := s.setCl c { x with mxRun := t, feed := x.feed.drop (x.feed.length - left) }
    let s2 :=
      if r.code ≠ 0 ∧ r.code ≠ 2 then s1.mxFail c r r.code
      else match s1.rowsPoison c (rowsC r.words) with
        | some a => (s1.meetPoisonIn 0 a 1 r.index 2 r.word).mxFail c r 0x15
        | none => match s1.mxPartial c r.words with
          | some a => (s1.meetPoisonIn 0 a 2 r.index 2 r.word).mxFail c r 0x15
          | none => s1.mxFinish c r
    State.flushMx 33 s2 c

/-- MXE_OP_COMPLETE (03 R122 to R139; 05 R179 to R181, R186 to R188, R195, R196, R201; 06 R226, R227, R231; 07 R243; 08 R280, R287;
13 R421; 17 R520, R524). -/
def execMxeOpComplete (c : Fin 64) (s : State) : Host.Outcome State Fault Refusal := .next (s.mxComplete c)

/-! ### The ramp (05 R190 to R192) -/

/-- 32 CK of the feed at step S and throttle level L, from CK `i` of the interval on: a row enters where S and L both permit (05 R189, R190). -/
def feedRun (step level : Nat) : Nat → Nat → List (Nat × Nat) → List (Nat × Nat)
  | 0, _, f => f
  | n + 1, i, f => feedRun step level n (i + 1) (feedCk (decide (i % 8 < step) && decide (i % 16 + level < 16)) f)

/-- STATE of an engine shows its ramp; a fenced one shows FENCED (05 R200, R201). -/
def State.rampState (s : State) (c st : Nat) : State := if s.mxFenced c then s else s.setReg F.MXE_ENG_STATE st c

/-- One 32-CK interval of the ramp clock (05 R189 to R191): tiles load and rows enter; at its end the step rises with a row ready, holds
through 64 CK of filler, then falls; STATE and STEP follow (R201). The interval stands on a multiple of 16 CK (log entry 15). -/
def State.rampStep (s : State) (c : Nat) : State :=
  let x := s.cl c
  let st := s.reg F.MXE_ENG_STEP c
  let f := feedRun st s.levelNow 32 0 x.feed
  let s1 := s.setCl c { x with feed := f }
  let fill := fun (n : Nat) => s1.setCl c { s1.cl c with filler := n }
  if rowReady f then
    let n := min (st + 1) 8
    ((fill 0).setReg F.MXE_ENG_STEP n c).rampState c (if n = 8 then 2 else 1)
  else if st = 0 then (fill 0).rampState c 0
  else if x.filler < 2 then (fill (x.filler + 1)).rampState c 3
  else ((fill (if st = 1 then 0 else x.filler)).setReg F.MXE_ENG_STEP (st - 1) c).rampState c (if st = 1 then 0 else 4)

/-- RAMP_STEP (05 R190 to R192, R201). -/
def execRampStep (c : Fin 64) (s : State) : Host.Outcome State Fault Refusal := .next (s.rampStep c)

/-! ### The repair map (05 R197 to R199, R202) -/

/-- Valid entries of a map. -/
def repCount (v : Nat) : Nat := ((List.range 4).filter (fun i => (repEntry v i).1)).length

/-- Whether a write of the map is rejected (05 R198): a valid entry above an invalid one, two that name one row, or, while a
Score runs, a valid entry cleared or changed. `old` is the map that the write would replace. -/
def repBad (old v : Nat) (running : Bool) : Bool :=
  (List.range 4).any (fun i => (List.range i).any (fun j =>
    ((repEntry v i).1 && !(repEntry v j).1) || ((repEntry v i).1 && (repEntry v j).1 && decide ((repEntry v i).2 = (repEntry v j).2)))) ||
  (running && (List.range 4).any (fun i => (repEntry old i).1 && decide (repEntry v i ≠ repEntry old i)))

/-- A write of ENG_REPAIRn by the Sexton (05 R198, R199, R202): a 1 in REJ clears it, but for an event of the same CK (00 R17); the map is rejected
whole with REJ, or pending, replacing a pending map. While a Score runs it waits for the next Beat boundary. -/
def State.repWrite (s : State) (n v : Nat) : State :=
  let x := s.cl n
  let m := v % 2 ^ 32
  let s1 := if v.testBit 33 then s.setReg F.ENG_REPAIR_REJ (s.freshPart F.ENG_REPAIR_REJ n) n else s
  if repBad (x.repair.getD (s.repMap n)) m s.running then s1.mark F.ENG_REPAIR_REJ 1 n
  else s1.setCl n { x with repair := some m, repairWait := s.running }

/-- ENG_REPAIR_WRITE (05 R198, R199, R202). -/
def execEngRepairWrite (n : Fin 64) (v : BitVec 64) (s : State) : Host.Outcome State Fault Refusal :=
  .next (s.repWrite n v.toNat)

/-- The map's fields written, with what follows from them (05 R197, R202). -/
def State.setRepMap (s : State) (n v : Nat) : State :=
  let k := repCount v
  let e := fun i => repEntry v i
  let s1 := ((s.setReg F.ENG_REPAIR_SUB0_ROW (e 0).2 n).setReg F.ENG_REPAIR_SUB0_V (b2n (e 0).1) n).setReg F.ENG_REPAIR_SUB1_ROW (e 1).2 n
  let s2 := ((s1.setReg F.ENG_REPAIR_SUB1_V (b2n (e 1).1) n).setReg F.ENG_REPAIR_SUB2_ROW (e 2).2 n).setReg F.ENG_REPAIR_SUB2_V (b2n (e 2).1) n
  let s3 := (s2.setReg F.ENG_REPAIR_SUB3_ROW (e 3).2 n).setReg F.ENG_REPAIR_SUB3_V (b2n (e 3).1) n
  ((s3.setReg F.ENG_REPAIR_LAT1 (if k = 0 then 0 else 1) n).setReg F.ENG_REPAIR_COVER (if k ≤ 1 then 0 else if k = 2 then 1 else 2) n).setReg
    F.MXE_ENG_LAT (if k = 0 then 180 else 181) n

/-- The pending map takes effect, at a CK at which no row of the engine is in the array and, if it was written while a Score ran, a Beat
boundary has passed (05 R199); the spare rows take what it gives them (R197). -/
def State.repApply (s : State) (n : Nat) : State :=
  let x := s.cl n
  match x.repair with
  | some v =>
    if x.mxRun.isEmpty && !(x.repairWait && s.running) then
      (s.setRepMap n v).setCl n { x with repair := none, repairWait := false
                                         array := match x.array.tile with | some t => loadArray v t | none => x.array }
    else s
  | none => s

/-- REPAIR_APPLY (05 R188, R197, R199, R202). -/
def execRepairApply (n : Fin 64) (s : State) : Host.Outcome State Fault Refusal := .next (s.repApply n)

end Sys2Proof.Machine
end

