-- ==== Sys2Proof/Machine/Regs.lean ====
section
/-!
DEFINITION. Machine/Regs.lean: what a register reads as, a read with its effect (spec/00 R14, R16, R17; spec/20 R594 to R596), and a
read of any range of the device address space (spec/13 R408, R409; spec/02 R110).
-/
namespace Sys2Proof.Machine

/-! ### Fields that show state held elsewhere -/

/-- Free Pecks of a cluster outside the Score's reserved space, as runs (04 R158, R170). -/
def State.freeRuns (s : State) (c : Nat) : List (Nat × Nat) :=
  runsOf ((s.freePecks c).filter (fun p => decide (s.reg F.TALLY_CFG_SCORE_PECKS ≤ p)))

/-- TALLY_CLUSTERn: ACTIVE, LARGEST_RUN, FREE (04 R170). -/
def State.showTally (s : State) (lo n : Nat) : Nat :=
  if lo = 24 then (s.recsOf n).length
  else if lo = 10 then ((s.freeRuns n).map (·.2)).foldl max 0
  else ((s.freeRuns n).map (·.2)).sum

/-- STATE of a vector engine: 5 FENCED, 1 BUSY with an instruction waiting or in progress, else 0 IDLE (06 R235). -/
def State.showVxe (s : State) (n : Nat) : Nat :=
  if s.vxFenced n then 5 else b2n (!s.unitQuiet (n / 4) (n % 4 + 2))

/-- COLL_SEQ: REG, LATEST, NEXT of the group that COLL_SEQ_SEL names (09 R318, R326). -/
def State.showSeq (s : State) (lo : Nat) : Nat :=
  let h := s.reg F.COLL_SEQ_SEL_HANDLE
  if lo = 32 then b2n (s.group h).isSome
  else if lo = 16 then s.latestSeq h
  else match s.group h with | some g => g.next | none => 0

/-- XBAR_BUF: SPILL_MIB, OPEN_D1, OPEN_D0 (10 R358). -/
def State.showBuf (s : State) (lo : Nat) : Nat :=
  if lo = 40 then (s.spillUsed 0 + s.spillUsed 1) / 0x100000 else if lo = 18 then s.openPool 1 else s.openPool 0

/-- The message half that FLT_CL_HISTi shows (17 R524, R538). -/
def State.showHist (s : State) (i : Nat) : Nat :=
  bitsOf (tabGet 0 s.faults.hist (16 * s.reg F.FLT_CL_SEL_CLUSTER + i / 2)) (64 * (i % 2) + 63) (64 * (i % 2))

/-- Messages taken by the selected cluster collector (17 R538). -/
def State.showTaken (s : State) : Nat := tabGet 0 s.faults.taken (s.reg F.FLT_CL_SEL_CLUSTER)

/-- The value a field reads as now: of state held elsewhere where the field shows such state, else the field's own. -/
def State.fieldNow (s : State) (f : Field) (n : Nat) : Nat :=
  let own := s.reg f n
  let v :=
    match f.base with
    | 0x40100 => if f.lo < 32 then s.showTally f.lo n else own
    | 0x50100 => if f.lo = 16 && s.mxFenced n then 5 else own
    | 0x60100 => if f.lo = 16 then s.showVxe n else if f.lo = 0 then (tabGet [] (s.cl (n / 4)).vq (n % 4)).length else own
    | 0x80020 => s.showSeq f.lo
    | 0xa0008 => s.showBuf f.lo
    | 0xb0008 => if s.running then s.sw.time - s.sw.base else 0
    | 0xc0000 => if f.lo = 52 then s.acre else if f.lo = 51 then b2n s.bank.acre.isSome else own
    | 0xc0008 => if f.lo = 8 then s.genOf s.acre else own
    | 0xc0100 => bitsOf (s.portRec n) (f.lo + f.width - 1) f.lo
    | 0xc0500 => bitsOf (s.nbrRec n) (f.lo + f.width - 1) f.lo
    | 0xd0500 => if f.lo = 52 then s.tokens 1 n / 65536 else own
    | 0xd0900 => if f.lo = 52 then s.tokens 2 n / 65536 else own
    | 0xd0d00 => if f.lo = 52 then s.tokens 3 n / 65536 else own
    | 0x120018 => if f.lo = 4 then min s.showTaken 0xFFFFFFFF else s.showTaken % 16
    | 0x120100 => s.showHist n
    | _ => own
  v % 2 ^ f.width

/-! ### Reads (00 R14, R16; 20 R595) -/

/-- What a field gives to a read (00 R16, R17): a WO field reads zero, an RC field that hardware updates in the same CK its value from
before. -/
def State.fieldRead (s : State) (f : Field) (n : Nat) : Nat :=
  if f.acc = .wo then 0
  else if f.acc = .rc then ((tabFind s.fresh (f.key n)).map (·.1)).getD (s.fieldNow f n)
  else s.fieldNow f n

/-- What a field that holds the running maximum of a level measures in this CK: QMAX the deeper Chime queue, QHWM the fuller ride queue (00
R17; 02 R112; 08 R300). -/
def State.standing (s : State) (f : Field) : Nat :=
  if f.base = 0x30008 ∧ f.lo = 0 then max (s.chimeQueue 0) (s.chimeQueue 1)
  else if f.base = 0x90010 ∧ f.lo = 16 then (max (s.rideDepth 0) (s.rideDepth 1) + 1) / 2
  else 0

/-- An RC field after a read (00 R16, R17): zero, or what hardware has given it in this CK; a running maximum starts again at what it measures
now. -/
def State.clearField (s : State) (f : Field) (n : Nat) : State :=
  let u := max (s.freshPart f n) (s.standing f)
  let s1 := s.setReg f u n
  if (tabFind s.fresh (f.key n)).isSome then s1.putFresh (tabInsert s.fresh (f.key n) (0, u)) else s1

/-- The register word at byte offset `a` of register space; a reserved register reads zero (20 R595). -/
def State.regWord (s : State) (a : Nat) : Nat :=
  (fieldsAt a).foldl (fun v f => v + s.fieldRead f (f.inst a) * 2 ^ f.lo) 0

/-- The RC fields of a register cleared (00 R16). -/
def State.clearRc (s : State) (a : Nat) : State :=
  (fieldsAt a).foldl (fun t f => if f.acc = .rc then t.clearField f (f.inst a) else t) s

/-- A read of the register at byte offset `a` (00 R16). -/
def State.regRead (s : State) (a : Nat) : Nat × State := (s.regWord a, s.clearRc a)

/-! ### Ranges of the address space (00 R14; 02 R110; 13 R408, R409; 20 R596) -/

/-- An address of register space or Chime space, which is reached by whole aligned words only. -/
def wordOnly (a : Nat) : Bool := inRegSpace a || inChime a

/-- Whether a range breaks R14: it touches register or Chime space and is not of whole aligned words. -/
def breaksR14 (a n : Nat) : Bool := (wordOnly a || wordOnly (a + n - 1)) && (decide (a % 8 ≠ 0) || decide (n % 8 ≠ 0))

/-- The completion code of a read that may not be made: BAD_ACCESS before ADDR_BAD (20 R596); 0 when it may. -/
def State.readCode (s : State) (w : Who) (a n : Nat) : Nat :=
  if breaksR14 a n then 0x11 else if s.openRead w a n then 0 else 0x12

/-- As `readCode`, of a write. -/
def State.writeCode (s : State) (w : Who) (a n : Nat) : Nat :=
  if breaksR14 a n then 0x11 else if s.openWrite w a n then 0 else 0x12

/-- One word of register or Chime space read. -/
def State.wordRead (s : State) (a : Nat) : Nat × State :=
  if inChime a then (s.chimeSpaceRead (a - chimeBase), s) else s.regRead (a - regBase)

/-- `n` words of register or Chime space read in increasing address order. -/
def State.wordsRead : Nat → State → Nat → List Byte × State
  | 0, s, _ => ([], s)
  | n + 1, s, a =>
    let p := s.wordRead a
    let q := State.wordsRead n p.2 (a + 8)
    (leBytes 8 p.1 ++ q.1, q.2)

/-- `n` bytes of an open range read: registers with their effect, memory as it is. -/
def State.fetchBytes (s : State) (a n : Nat) : List Byte × State :=
  if wordOnly a then State.wordsRead (n / 8) s a else s.readBytes a n

end Sys2Proof.Machine
end

