-- ==== Sys2Proof/Machine/Faults.lean ====
section
/-!
DEFINITION. Machine/Faults.lean: the collectors and their records, what the hub writes, repeating a failed check, and the fence map
(spec/17 R520 to R535, R538).
-/
namespace Sys2Proof.Machine

/-! ### Collectors (17 R524 to R528) -/

/-- A message opens a region's record (17 R526). -/
def State.regionOpen (s : State) (n : Nat) (e : Rep) : State :=
  let b := e.msg.bits
  let s1 := ((s.setReg F.FLT_RG_LO_MSG (b % 2 ^ 64) n).setReg F.FLT_RG_HI_MSG (b / 2 ^ 64) n).mark F.FLT_RG_STAT_VALID 1 n
  (s1.setReg F.FLT_RG_STAT_KIND_OR e.msg.kind n).setReg F.FLT_RG_STAT_MERGES 0 n

/-- A region collector takes the next message of its queue: one that finds the record clear opens it and goes on; one that finds it
open merges, and goes on only in class C2, C3 or C4 (17 R526, R528). -/
def State.regionTake (s : State) (n : Nat) : State :=
  match s.faults.region.find? (fun e => decide (e.1 = n)) with
  | none => s
  | some e =>
    let s1 := (s.putFaults { s.faults with region := s.faults.region.erase e })
    let m := s1.reg F.FLT_RG_STAT_MERGES n
    let k := s1.reg F.FLT_RG_STAT_KIND_OR n
    if s1.reg F.FLT_RG_STAT_VALID n = 0 then (s1.regionOpen n e.2).toDie (n / 4) e.2
    else
      let s2 := ((s1.count F.FLT_RG_STAT_MERGES 1 n).setReg F.FLT_RG_STAT_KIND_OR (k ||| e.2.msg.kind) n).mark F.FLT_RG_STAT_VALID 1 n
      let s3 := s2.putFaults { s2.faults with joined := s2.faults.joined.filter (fun x => decide (x.1 ≠ n)) ++ [(n, m, k, e.2)] }
      if 2 ≤ e.2.msg.cls then s3.toDie (n / 4) e.2 else s3

/-- REGION_COLLECTOR_TAKE (17 R525, R526, R528). -/
def execRegionCollectorTake (n : Fin 8) (s : State) : Host.Outcome State Fault Refusal := .next (s.regionTake n.val)

/-- A die collector takes the next message of its queue and forwards it to the hub (17 R525, R528). -/
def State.dieTake (s : State) (d : Nat) : State :=
  match s.faults.die.find? (fun e => decide (e.1 = d)) with
  | none => s
  | some e => (s.putFaults { s.faults with die := s.faults.die.erase e }).toHub e.2

/-- DIE_COLLECTOR_TAKE (17 R525, R528). -/
def execDieCollectorTake (d : Bool) (s : State) : Host.Outcome State Fault Refusal := .next (s.dieTake (b2n d))

/-- A region's record with `m` merged messages and KIND_OR `k` is closed: with messages merged into it MERGED goes straight to the die
collector (17 R527). -/
def State.regionClose (s : State) (n m k : Nat) : State :=
  let s1 := s.setReg F.FLT_RG_STAT_VALID 0 n
  if m = 0 then s1 else s1.toDie (n / 4) (repOf (s1.msg 0x8001 0 2 (288 + n) 0 (some (m + k * 2 ^ 16)))).acted

/-- A write of 1 to VALID closes a region's record (17 R527). A message taken in the same CK opens the next record (00 R17): one that has
just opened this record is not closed, one that has just joined it opens the next. -/
def State.regionClear (s : State) (n : Nat) : State :=
  if s.reg F.FLT_RG_STAT_VALID n = 0 then s
  else
    match tabFind s.fresh (F.FLT_RG_STAT_VALID.key n), s.faults.joined.find? (fun x => decide (x.1 = n)) with
    | some p, some x =>
      if p.1 = 0 then s
      else
        let s1 := (s.regionClose n x.2.1 x.2.2.1).regionOpen n x.2.2.2
        if 2 ≤ x.2.2.2.msg.cls then s1 else s1.toDie (n / 4) x.2.2.2
    | some _, none => s
    | none, _ => s.regionClose n (s.reg F.FLT_RG_STAT_MERGES n) (s.reg F.FLT_RG_STAT_KIND_OR n)

/-- REGION_RECORD_CLEAR (17 R526, R527). -/
def execRegionRecordClear (n : Fin 8) (s : State) : Host.Outcome State Fault Refusal := .next (s.regionClear n.val)

/-! ### What the hub writes (17 R529, R533 to R535) -/

/-- The offset in register space of the ENG_SENSE register that serves a source (17 R529). -/
def senseAt (m : Msg) : Nat :=
  let region := fun n => 0x160440 + 8 * n
  match m.level with
  | 0 => region (m.unit / 64)
  | 1 => region (m.unit / 8)
  | 2 =>
    if 264 ≤ m.unit ∧ m.unit < 288 then 0x160580 + 8 * regionOf m.unit
    else region (regionOf m.unit)
  | 3 => if 16 ≤ m.unit then 0x160500 + 8 * (m.unit - 16) else region (4 * dieOf m.unit)
  | _ => 0x160480

/-- A message entry of the fault ring, without its PHASE, as entry `k` (17 R529). -/
def State.faultEntry (s : State) (r : Rep) (k : Nat) : List Byte :=
  let b := r.msg.bits
  leBytes 8 (b2n s.faults.lost * 2 ^ 48 ||| (if s.running then s.beat else 0)) ++ leBytes 8 (b % 2 ^ 64) ++ leBytes 8 (b / 2 ^ 64) ++
    leBytes 8 s.toll ++ leBytes 8 (s.regWord (senseAt r.msg)) ++
    leBytes 8 (r.index % 2 ^ 24 * 2 ^ 40 + r.unit % 8 * 2 ^ 32 + s.acre % 1024 * 2 ^ 22 + b2n s.bank.acre.isSome * 2 ^ 21 +
      r.action % 64) ++
    leBytes 8 r.word ++ leBytes 8 k

/-- OUTCOME of a record (17 R535). -/
def outcomeOf (kind : Nat) : Nat :=
  if kind = 0x8002 then 1 else if kind = 0x8003 then 2 else if kind = 0x8004 then 3 else if kind = 0x0104 then 4 else 0

/-- A UUID in its record layout (17 R534): the first three groups little-endian. -/
def uuidBytes (a b c d e : Nat) : List Byte := leBytes 4 a ++ leBytes 2 b ++ leBytes 2 c ++ beBytes 2 d ++ beBytes 6 e

/-- The Creator ID (17 R534). -/
def creatorId : List Byte := uuidBytes 0x7c1a52e4 0x93b0 0x4d6f 0xa28e 0x05f3c91b6d27

/-- Error Severity (17 R534). -/
def severityOf (m : Msg) : Nat :=
  if m.cls = 0 then 2 else if m.cls ≤ 2 then 0 else 1

/-- MERGES and KIND_OR of the region record that serves a message, or zero (17 R535). -/
def State.mergedNow (s : State) (m : Msg) : Nat × Nat :=
  let n := if m.level = 0 then m.unit / 64 else if m.level = 1 then m.unit / 8 else regionOf m.unit
  if m.level ≤ 2 ∧ s.reg F.FLT_RG_STAT_VALID n = 1 then (s.reg F.FLT_RG_STAT_MERGES n, s.reg F.FLT_RG_STAT_KIND_OR n) else (0, 0)

/-- The vendor section of a record (17 R535). -/
def State.recordSection (s : State) (r : Rep) : List Byte :=
  let g := s.mergedNow r.msg
  leBytes 2 0x0100 ++ leBytes 1 r.msg.cls ++ leBytes 1 (outcomeOf r.msg.kind) ++ leBytes 16 r.msg.bits ++ leBytes 2 g.1 ++ leBytes 2 g.2 ++
    leBytes 8 s.toll ++ leBytes 8 (s.beat + b2n s.running * 2 ^ 63) ++ leBytes 4 s.coord ++
    leBytes 2 (s.acre % 1024 + b2n s.bank.acre.isSome * 2 ^ 15) ++ leBytes 2 0 ++ leBytes 8 (s.regWord (senseAt r.msg)) ++
    leBytes 8 r.word ++ leBytes 4 r.index ++ leBytes 4 r.action ++
    fitBytes 32 (match s.score.cur with | some q => q.digest | none => []) ++ s.fenceRecord

/-- A Common Platform Error Record of 400 bytes (17 R533 to R535). -/
def State.recordOf (s : State) (r : Rep) (recid : Nat) : List Byte :=
  let sev := severityOf r.msg
  ascii "CPER" ++ leBytes 2 0x0101 ++ leBytes 4 0xFFFFFFFF ++ leBytes 2 1 ++ leBytes 4 sev ++ leBytes 4 0 ++ leBytes 4 400 ++
    List.replicate 40 0 ++ creatorId ++ creatorId ++ leBytes 8 recid ++ List.replicate 24 0 ++
    leBytes 4 200 ++ leBytes 4 200 ++ leBytes 2 0x0101 ++ leBytes 1 2 ++ leBytes 1 0 ++ leBytes 4 1 ++
    uuidBytes 0x3e8d10a9 0x6b42 0x4c57 0x9f1d 0xc2a7054e88b1 ++ List.replicate 16 0 ++ leBytes 4 sev ++
    fitBytes 20 (ascii "UN9-2048-LC") ++ s.recordSection r

/-- Whether a message gets a record: class C2, C3 or C4, or an outcome of R521 to R523 (17 R533). -/
def recorded (m : Msg) : Bool := decide (2 ≤ m.cls) || decide (outcomeOf m.kind ≠ 0)

/-- A record made: it takes the next RECID, the Sexton keeps the last 64, and it waits for the ring (17 R533). -/
def State.makeRecord (s : State) (r : Rep) : State :=
  let l := s.recordOf r s.faults.recid
  (s.putFaults { s.faults with recid := s.faults.recid + 1, kept := (l :: s.faults.kept).take 64,
                                     waiting := s.faults.waiting ++ [l], owed := s.faults.owed.erase r })

/-- The 8 record entries of a record, without their PHASE (17 R533). -/
def recordEntries (l : List Byte) : List (List Byte) :=
  let recid := leNat ((l.drop 0x60).take 8)
  (List.range 8).map (fun p =>
    leBytes 8 (2 ^ 61 + p * 2 ^ 56 + 7 * 2 ^ 51 + recid % 2 ^ 48) ++ fitBytes 56 (l.drop (56 * p)))

/-! ### Repeating a failed check (17 R520 to R523) -/

/-- Diagnosis may use a cluster: it has issued SEQ.END, has stopped, or has no Score (17 R521). -/
def State.diagFree (s : State) (c : Nat) : Bool :=
  decide (s.reg F.SEQ_CLUSTER_STATE c = 3) || decide (s.reg F.SEQ_CLUSTER_STATE c = 4) || !s.running

/-- The sibling of a unit (17 R521): engine v XOR 1 of the same cluster for a vector engine, or v XOR 2 when that one is fenced; the same
kind of engine in cluster c XOR 1, or c XOR 2. Answered as (cluster, slot). -/
def State.sibling (s : State) (c slot : Nat) : Nat × Nat :=
  if 1 ≤ slot ∧ slot ≤ 4 then
    let v := slot - 1
    (c, 1 + if s.vxFenced (4 * c + (v ^^^ 1)) then v ^^^ 2 else v ^^^ 1)
  else if (if slot = 0 then s.mxFenced (c ^^^ 1) else s.taFenced (c ^^^ 1)) then (c ^^^ 2, slot)
  else (c ^^^ 1, slot)

/-- The C2 fence of the unit in a slot of a cluster (07 R255; 17 R512). -/
def State.fenceSlot (s : State) (c slot : Nat) : State :=
  if slot = 0 then s.fence 2 c
  else if slot ≤ 4 then s.fence (3 + (4 * c + slot - 1) / 64) ((4 * c + slot - 1) % 64)
  else s.fence 7 c

/-- An outcome of diagnosis reported by the hub for the unit: its message goes straight to the hub (17 R516, R520; log entry 26). -/
def State.outcome (s : State) (kind c slot : Nat) (d : Diag) : State :=
  s.toHub (Rep.mk (s.msg kind (kindClass kind) 0 (8 * c + slot) 0 none) d.rep.index d.rep.unit d.rep.word 0).acted

/-- The map with a row in its next free entry, whatever row that entry named while it was not valid (05 R198; 17 R522). -/
def State.repairWith (s : State) (c row : Nat) : Nat :=
  let m := (s.cl c).repair.getD (s.repMap c)
  let k := repCount m
  if k < 4 then m % 2 ^ (8 * k) + (2 ^ 7 + row % 2 ^ 7) * 2 ^ (8 * k) + m / 2 ^ (8 * k + 8) * 2 ^ (8 * k + 8) else m

/-- The repair maps of all engines as the persistent copy lays them out (19 R575, R577). -/
def State.repairRecord (s : State) : List Byte :=
  (List.range 64).flatMap (fun n => leBytes 4 ((s.cl n).repair.getD (s.repMap n)))

/-- A permanent suspect (17 R522): a matrix engine whose row was found and for which R198 accepts a new entry is repaired; every other
is fenced. -/
def State.permanent (s : State) (c slot : Nat) (row : Option Nat) (d : Diag) : State :=
  let old := (s.cl c).repair.getD (s.repMap c)
  let fixed := match row with
    | some r => if slot = 0 ∧ s.repairWith c r ≠ old ∧ !repBad old (s.repairWith c r) s.running then some (s.repairWith c r) else none
    | none => none
  let s1 := s.count F.FLT_DIAG_PERMANENT 1 c
  match fixed with
  | some v =>
    let s2 := s1.repWrite c v
    (s2.writeCopy [(0x80, s2.repairRecord)]).outcome 0x0104 c slot d
  | none => (s1.outcome 0x8003 c slot d).fenceSlot c slot

/-- The count of a unit's transient outcomes in the present interval of 2^44 CK (17 R523). -/
def State.transCount (s : State) (u : Nat) : Nat :=
  let v := tabGet 0 s.faults.trans u
  if v / 2 ^ 32 = s.toll / 2 ^ 44 then v % 2 ^ 32 else 0

/-- One diagnosis (17 R521 to R523). `self` and `sib`: the failing unit's repeat and its sibling's pass their checks; `row`: the row that the
narrowing of R522 finds. It waits while a cluster it uses is not free. -/
def State.diagnose (s : State) (c : Nat) (self sib : Bool) (row : Option Nat) : State :=
  match s.faults.diag.find? (fun e => decide (e.1 = c)) with
  | none => s
  | some e =>
    let slot := e.2.slot
    if !s.diagFree c || (!self && !s.diagFree (s.sibling c slot).1) then s
    else
      let s1 := (s.putFaults { s.faults with diag := s.faults.diag.erase e }).setReg F.FLT_DIAG_STATE 0 c
      if self then
        let n := s1.transCount (8 * c + slot) + 1
        let s2 := (s1.putFaults { s1.faults with
          trans := tabSet 0 s1.faults.trans (8 * c + slot) (s1.toll / 2 ^ 44 * 2 ^ 32 + n) })
        if n ≥ max (s2.reg F.FLT_CFG_TRANS_LIMIT) 1 then s2.permanent c slot row e.2
        else (s2.count F.FLT_DIAG_TRANSIENT 1 c).outcome 0x8002 c slot e.2
      else if sib then s1.permanent c slot row e.2
      else (s1.count F.FLT_DIAG_UNRESOLVED 1 c).outcome 0x8004 c slot e.2

/-- DIAGNOSIS (17 R512, R520 to R523; 05 R198). -/
def execDiagnosis (c : Fin 64) (self sibling : Bool) (row : Option (BitVec 7)) (s : State) : Host.Outcome State Fault Refusal :=
  .next (s.diagnose c.val self sibling (row.map BitVec.toNat))

/-! ### The fence map (17 R530) -/

/-- A W1S write of word `j` of the fence map by host software: only while SEQ_SCORE.STATE is NONE, LOADED, PAUSED, ENDED or
STOPPED (17 R530). -/
def State.fenceWrite (s : State) (j v : Nat) : State :=
  if s.scoreState ∈ [0, 2, 5, 6, 7] then s.setReg F.FLT_FENCE_MAP (s.reg F.FLT_FENCE_MAP (j - 1) ||| v) (j - 1) else s

/-- FENCE_MAP_WRITE (17 R530): words 1 to 10. -/
def execFenceMapWrite (j : Fin 10) (v : BitVec 64) (s : State) : Host.Outcome State Fault Refusal :=
  .next (s.fenceWrite (j.val + 1) v.toNat)

end Sys2Proof.Machine
end

