-- ==== Sys2Proof/Machine/AcvLink.lean ====
section
/-!
DEFINITION. Machine/AcvLink.lean: the Acvel link, its packets and sessions, rings live, the doorbell, completions and the fault ring
(spec/15 R461 to R471, R475, R478 to R481, R484, R485).
-/
namespace Sys2Proof.Machine

/-- Packet types (15 R465). -/
def acvMrd : Nat := 0
def acvMwr : Nat := 1
def acvCpl : Nat := 2
def acvAck : Nat := 3
def acvNak : Nat := 4
def acvHello : Nat := 5

/-- ACV_LINK.STATE (15 R488): 0 DOWN, 1 TRAIN, 2 ALIGNED, 3 HELLO, 4 UP. -/
def State.acvState (s : State) : Nat := s.reg F.ACV_LINK_STATE

/-- The link is UP. -/
def State.acvUp (s : State) : Bool := decide (s.acvState = 4)

/-- The rings are live (15 R475). -/
def State.live (s : State) : Bool := decide (s.reg F.ACV_LIVE_LIVE = 1)

/-! ### Packets (15 R465) -/

/-- The 16 bytes of a packet's header (15 R465). -/
def acvHead (ty lseq len tag rlen status addr : Nat) : List Byte :=
  leBytes 16 (ty % 2 ^ 4 + lseq % 2 ^ 12 * 2 ^ 4 + len % 2 ^ 9 * 2 ^ 16 + tag % 2 ^ 8 * 2 ^ 32 + rlen % 2 ^ 13 * 2 ^ 40 +
    status % 2 ^ 3 * 2 ^ 53 + addr % 2 ^ 64 * 2 ^ 64)

/-- The LCRC of a header and a payload (15 R465). -/
def acvLcrc (head data : List Byte) : Nat := crc32c (head ++ data)

/-- The header of a packet of this device. -/
def AcvPkt.head (p : AcvPkt) : List Byte := acvHead p.ty p.lseq p.data.length p.tag p.rlen p.status p.addr

/-- A packet's bytes between STP and END (15 R465). -/
def AcvPkt.bytes (p : AcvPkt) : List Byte := p.head ++ p.data ++ leBytes 4 (acvLcrc p.head p.data)

/-- The LCRC of a received packet of a TYPE is that of its header and payload (15 R465). -/
def lcrcGood (h : AcvHdr) (ty : Nat) (data : List Byte) : Bool :=
  decide (h.lcrc.toNat = acvLcrc (acvHead ty h.lseq.toNat data.length h.tag.toNat h.rlen.toNat h.status.toNat h.addr.toNat) data)

/-! ### Sending (15 R467) -/

/-- A packet leaves, at first or again. -/
def State.acvEmit (s : State) (p : AcvPkt) : State := s.emit (.acv p.bytes)

/-- A packet that leaves for the first time: what an MWR carries is then in host memory (log entry 2). -/
def State.acvFirst (s : State) (p : AcvPkt) : State :=
  let s1 := s.acvEmit p
  if p.ty = acvMwr then s1.hostPut p.addr p.data else s1

/-- How many of the packets that are not acknowledged have been sent. -/
def AcvLink.sent (l : AcvLink) : Nat := l.tries.length

/-- Packets that wait leave while the link is UP and fewer than 2,048 are unacknowledged. -/
def State.acvPump (s : State) : State :=
  if s.acvUp then
    let l := s.acv
    let n := min l.unacked.length 2048
    let out := (l.unacked.take n).drop l.sent
    if out.isEmpty then s
    else
      let s1 := (s.putAcv { l with tries := l.tries ++ out.map (fun _ => (0, s.toll)) })
      out.foldl State.acvFirst s1
  else s

/-- An MRD, MWR or CPL takes the next LSEQ and leaves when it may. -/
def State.acvSend (s : State) (ty addr rlen tag status : Nat) (data : List Byte) : State :=
  let l := s.acv
  (s.putAcv { l with lsend := (l.lsend + 1) % 4096,
                           unacked := l.unacked ++ [AcvPkt.mk ty l.lsend addr rlen tag status data] }).acvPump

/-- An ACK, NAK or HELLO, which takes no LSEQ. -/
def State.acvPlain (s : State) (ty lseq : Nat) (data : List Byte) : State := s.acvEmit (AcvPkt.mk ty lseq 0 0 0 0 data)

/-- Bytes written to host memory, in MWR packets of at most 256 bytes (15 R465, R473). -/
def State.acvWrite : Nat → State → Nat → List Byte → State
  | 0, s, _, _ => s
  | n + 1, s, a, l =>
    if l.isEmpty then s
    else State.acvWrite n (s.acvSend acvMwr a 0 0 0 (l.take 256)) (a + 256) (l.drop 256)

/-- `acvWrite` of a whole byte string. -/
def State.toHost (s : State) (a : Nat) (l : List Byte) : State := State.acvWrite (l.length / 256 + 1) s a l

/-! ### Bring-up (15 R464, R469, R470) -/

/-- The link leaves its state for TRAIN; from UP with ACV_DOWN (15 R469; 17 R516). -/
def State.acvTrain (s : State) : State :=
  let s1 := if s.acvUp then s.tell 0x0407 1 4 3 7 none else s
  ((s1.setReg F.ACV_LINK_STATE 1).putAcv { s1.acv with sentHello := false, hello := none, since := s1.toll })

/-- Eight lanes locked with a spread of `skew` UI (15 R464, R469, R488): aligned up to 40 UI, and then in HELLO. -/
def State.acvAlign (s : State) (skew : Nat) : State :=
  let s1 := s.setReg F.ACV_LINK_SKEW_UI skew
  if s.acvState = 1 ∧ skew ≤ 40 then s1.setReg F.ACV_LINK_STATE 3 else s1

/-- ACV_ALIGNED (15 R464, R469, R488). -/
def execAcvAligned (skew : BitVec 8) (s : State) : Host.Outcome State Fault Refusal := .next (s.acvAlign skew.toNat)

/-- ACV_ALIGN_LOST (15 R464, R469): from any later state back to TRAIN. -/
def execAcvAlignLost (s : State) : Host.Outcome State Fault Refusal := .next (if 2 ≤ s.acvState then s.acvTrain else s)

/-- ACV_TRAIN_TIMEOUT (15 R469): an attempt that is not UP within 2,500,000 CK starts again. -/
def execAcvTrainTimeout (s : State) : Host.Outcome State Fault Refusal :=
  .next (if 1 ≤ s.acvState ∧ s.acvState ≤ 3 then (s.advanceTo (s.acv.since + 2500000)).acvTrain else s)

/-- The body of the device's HELLO (15 R470): protocol 1.0. -/
def State.helloBody (s : State) : Nat := 2 ^ 24 + s.acv.lnext % 4096 * 2 ^ 12 + b2n s.acv.fresh * 2 ^ 11 + 0x100

/-- A read ends with STATUS ERROR: the ring of a descriptor fetch stops (15 R480), a failed poll changes nothing. -/
def State.readFailed (s : State) (r : HostRead) : State :=
  if r.ring < 16 ∧ s.reg F.ACV_RSTAT_STOPPED r.ring = 0 then
    (s.setReg F.ACV_RSTAT_STOPPED 1 r.ring).detect 0x0408 4 3 7 none
  else s

/-- Every outstanding read ends with STATUS ERROR. -/
def State.failReads (s : State) : State :=
  s.acv.reads.foldl State.readFailed (s.putAcv { s.acv with reads := [] })

/-- Packets before an LSEQ are acknowledged. -/
def State.acvFree (s : State) (next : Nat) : State :=
  match s.acv.unacked with
  | [] => s
  | p :: _ =>
    let n := (next + 4096 - p.lseq) % 4096
    if 0 < n ∧ n ≤ s.acv.sent then
      (s.putAcv { s.acv with unacked := s.acv.unacked.drop n, tries := s.acv.tries.drop n })
    else s

/-- Every packet sent and not acknowledged is resent, in order and unchanged (15 R467); after four resends of one of them the link returns to
TRAIN. -/
def State.acvResend (s : State) : State :=
  let l := s.acv
  if l.sent = 0 then s
  else if l.tries.any (fun t => decide (4 ≤ t.1)) then s.acvTrain
  else
    let s1 := (l.unacked.take l.sent).foldl State.acvEmit s
    ((s1.count F.ACV_ERR_REPLAYS l.sent).putAcv { l with tries := l.tries.map (fun t => (t.1 + 1, s.toll)) })

/-- The session starts once both HELLOs are exchanged (15 R469, R470): FRESH on either side restarts it, else each side resends from the
peer's NEXT. -/
def State.acvEnter (s : State) : State :=
  match s.acv.hello with
  | none => s
  | some h =>
    if s.acv.sentHello then
      let s1 := (s.setReg F.ACV_LINK_VERSION (min (bitsOf h 10 0) 0x0100)).setReg F.ACV_LINK_STATE 4
      if s1.acv.fresh || h.testBit 11 then
        (s1.putAcv { s1.acv with lsend := 0, unacked := [], tries := [], lnext := 0, fresh := false }).failReads
      else
        let s2 := s1.acvFree (bitsOf h 23 12)
        let s3 := (s2.putAcv { s2.acv with tries := s2.acv.tries.map (fun _ => (0, s2.toll)) })
        ((s3.acv.unacked.take s3.acv.sent).foldl State.acvEmit s3).acvPump
    else s

/-- ACV_HELLO_SEND (15 R469). -/
def execAcvHelloSend (s : State) : Host.Outcome State Fault Refusal :=
  .next (if s.acvState = 3 then
      let s1 := s.acvPlain acvHello 0 (leBytes 8 s.helloBody)
      (s1.putAcv { s1.acv with sentHello := true }).acvEnter
    else s)

/-- A HELLO is taken in HELLO (00 R18; 14 R443; 15 R469, R470): one whose major is not common is not taken. -/
def State.helloIn (s : State) (h : Nat) : State :=
  if s.acvState = 3 ∧ bitsOf h 10 8 = 1 ∧ bitsOf h 31 24 ≤ 1 then
    (s.putAcv { s.acv with hello := some h }).acvEnter
  else s

/-! ### Taking packets (15 R461, R467) -/

/-- A discard is answered with NAK, at most once in 64 columns, which are 128 CK. -/
def State.acvNakOut (s : State) : State :=
  if (match s.acv.lastNak with | some t => decide (t + 128 ≤ s.toll) | none => true) then
    ((s.acvPlain acvNak s.acv.lnext []).putAcv { s.acv with lastNak := some s.toll })
  else s

/-- Code errors are counted, those of a packet and of the columns before it (15 R461). -/
def State.acvHear (s : State) (h : AcvHdr) : State := s.count F.ACV_ERR_CODE_ERR (h.codes.toNat + h.idle.toNat)

/-- A packet holds a code error, or its LCRC fails (15 R467). -/
def corrupt (h : AcvHdr) (ty : Nat) (data : List Byte) : Bool := !lcrcGood h ty data || decide (h.codes ≠ 0)

/-- A corrupt packet, or one out of order, is counted and answered with NAK (15 R467). -/
def State.acvBad (s : State) : State := (s.count F.ACV_ERR_LCRC_BAD).acvNakOut

/-- Whether the link takes an MRD, MWR or CPL, and the state after (15 R461, R467): it counts code errors, and a discard and answers with NAK, or
takes it and answers with ACK. -/
def State.acvTake (s0 : State) (h : AcvHdr) (ty : Nat) (data : List Byte) : Bool × State :=
  let s := s0.acvHear h
  if !s.acvUp then (false, s)
  else if corrupt h ty data || decide (h.lseq.toNat ≠ s.acv.lnext) then (false, s.acvBad)
  else if !h.room then (false, (s.count F.ACV_ERR_NOROOM).acvNakOut)
  else
    let n := (s.acv.lnext + 1) % 4096
    (true, (s.putAcv { s.acv with lnext := n }).acvPlain acvAck n [])

/-- An ACK or NAK, which has no LSEQ of its own, is acted on while the link is UP, unless it is corrupt (15 R461, R465, R467). -/
def State.acvAnswer (s0 : State) (h : AcvHdr) (ty : Nat) (act : State → State) : State :=
  let s := s0.acvHear h
  if !s.acvUp then s else if corrupt h ty [] then s.acvBad else act s

/-- ACV_ACK (15 R461, R465, R467). -/
def execAcvAck (h : AcvHdr) (s : State) : Host.Outcome State Fault Refusal :=
  .next (s.acvAnswer h acvAck (fun t => (t.acvFree h.lseq.toNat).acvPump))

/-- ACV_NAK (15 R461, R465, R467). -/
def execAcvNak (h : AcvHdr) (s : State) : Host.Outcome State Fault Refusal :=
  .next (s.acvAnswer h acvNak (fun t => (t.acvFree h.lseq.toNat).acvResend.acvPump))

/-- ACV_HELLO_RECEIVED (00 R18; 15 R461, R465, R467, R469, R470): a corrupt one is discarded and counted; NAK belongs to a link that is UP. -/
def execAcvHelloReceived (p : HelloPkt) (s : State) : Host.Outcome State Fault Refusal :=
  let s1 := s.acvHear p.head
  .next (if corrupt p.head acvHello (leBytes 8 p.body.toNat) then (if s1.acvUp then s1.acvBad else s1.count F.ACV_ERR_LCRC_BAD)
    else s1.helloIn p.body.toNat)

/-- ACV_RESEND_TIMEOUT (15 R467): 25,000 CK after the oldest was last sent. -/
def execAcvResendTimeout (s : State) : Host.Outcome State Fault Refusal :=
  .next (match s.acv.tries with
    | [] => s
    | t :: _ => if s.acvUp then (s.advanceTo (t.2 + 25000)).acvResend else s)

/-! ### Reads of host memory (15 R471, R479, R480) -/

/-- An MRD leaves for a read. -/
def State.readHost (s : State) (ring addr len : Nat) : State :=
  let t := s.acv.tag
  let s1 := (s.putAcv { s.acv with tag := (t + 1) % 256, reads := s.acv.reads ++ [HostRead.mk t ring addr len [] s.toll] })
  s1.acvSend acvMrd addr len t 0 []

/-- A read in two MRDs where it would cross a 4 KiB boundary (15 R466; log entry 28). -/
def State.readSplit (s : State) (ring addr len : Nat) : State :=
  let k := 4096 - addr % 4096
  if len ≤ k then s.readHost ring addr len else (s.readHost ring addr k).readHost ring (addr + k) (len - k)

/-- Descriptors of a ring asked for and not yet come. -/
def State.asked (s : State) (n : Nat) : Nat :=
  ((s.acv.reads.filter (fun r => decide (r.ring = n))).map (fun r => r.len / 128 - r.got.length / 128)).sum

/-- A ring fetches its new descriptors, or stops on an overrun (15 R480). -/
def State.fetchRing (s : State) (n prod : Nat) : State :=
  if s.reg F.ACV_SQ_EN n = 0 ∨ s.reg F.ACV_RSTAT_STOPPED n = 1 then s
  else
    let size := 2 ^ s.reg F.ACV_SQ_LOG2 n
    let cons := s.reg F.ACV_RCONS_CONS n
    let ahead := (prod + 2 ^ 32 - cons) % 2 ^ 32
    if ahead > size then (s.setReg F.ACV_RSTAT_STOPPED 1 n).detect 0x0408 4 3 7 none
    else
      let out := s.asked n
      let k := min (ahead - out) (min (64 - (s.reg F.ACV_RSTAT_INFLIGHT n + out)) 16)
      let slot := (cons + out) % size
      let base := s.reg F.ACV_SQ_BASE n * 4096
      let k1 := min k (size - slot)
      let s1 := if k1 = 0 then s else s.readSplit n (base + 128 * slot) (128 * k1)
      if k = k1 then s1 else s1.readSplit n base (128 * (k - k1))

/-- The doorbell words arrive (15 R478, R480). -/
def State.bellIn (s : State) (ws : List Nat) : State :=
  let s1 := ((s.putAcv { s.acv with bell := ws }).putFaults { s.faults with fcons := ws.getD 16 0 / 2 ^ 32 })
  foldKeys (List.range 16) (fun t n => t.fetchRing n (ws.getD n 0 % 2 ^ 32)) s1

/-- Descriptors of a ring arrive, those of a fetch after its first `old`: each is held until it is accepted; CONS and INFLIGHT rise (15 R480,
R481). -/
def State.fetched (s : State) (r : HostRead) (old : Nat) : State :=
  let n := r.ring
  let slot := (r.addr - s.reg F.ACV_SQ_BASE n * 4096) / 128
  let new := (span old (r.got.length / 128 - old)).map (fun i => Fetched.mk n (slot + i) ((r.got.drop (128 * i)).take 128) s.toll)
  let s1 := s.putAcv { s.acv with descs := s.acv.descs ++ new }
  (s1.tick F.ACV_RCONS_CONS new.length n).setReg F.ACV_RSTAT_INFLIGHT (s1.reg F.ACV_RSTAT_INFLIGHT n + new.length) n

/-- Data of a read arrive: descriptors as they come, the doorbell block once it is whole (15 R480). -/
def State.readGot (s : State) (r : HostRead) (old : Nat) : State :=
  if r.ring < 16 then s.fetched r (old / 128)
  else if r.got.length ≥ r.len then s.bellIn ((List.range 17).map (fun i => leNat ((r.got.drop (8 * i)).take 8)))
  else s

/-- A CPL for an outstanding read (15 R465, R466). -/
def State.cplIn (s : State) (tag status : Nat) (data : List Byte) : State :=
  match s.acv.reads.find? (fun r => decide (r.tag = tag)) with
  | none => s
  | some r =>
    let rest := s.acv.reads.erase r
    if status ≠ 0 then (s.putAcv { s.acv with reads := rest }).readFailed r
    else
      let r1 := { r with got := (r.got ++ data).take r.len }
      (s.putAcv { s.acv with reads := if r1.got.length ≥ r1.len then rest
                                      else s.acv.reads.map (fun x => if x = r then r1 else x) }).readGot r1 r.got.length

/-- ACV_READ_TIMEOUT (15 R471): 250,000 CK after its MRD was first sent. -/
def execAcvReadTimeout (tag : BitVec 8) (s : State) : Host.Outcome State Fault Refusal :=
  .next (match s.acv.reads.find? (fun r => decide (r.tag = tag.toNat)) with
    | none => s
    | some r =>
      let s1 := s.advanceTo (r.sent + 250000)
      (s1.putAcv { s1.acv with reads := s1.acv.reads.erase r }).readFailed r)

/-! ### Rings live and the doorbell (15 R475, R478 to R480) -/

/-- The first check of R475 that fails, or 0. -/
def State.liveCheck (s : State) : Nat :=
  let rings := (List.range 16).filter (fun n => decide (s.reg F.ACV_SQ_EN n = 1))
  if s.reg F.ACV_DOORBELL_BASE = 0 then 1
  else if rings.isEmpty then 2
  else if rings.any (fun n => decide (s.reg F.ACV_SQ_LOG2 n < 4) || decide (12 < s.reg F.ACV_SQ_LOG2 n)) then 3
  else if s.reg F.ACV_CFG_DESC_VER ≠ 0x0100 then 4
  else if s.reg F.ACV_FRING_FLOG2 < 6 ∨ 16 < s.reg F.ACV_FRING_FLOG2 then 5
  else 0

/-- A write of 1 to GO (00 R18; 15 R474, R475): nothing once the rings are live. -/
def State.goLive (s : State) : State :=
  if s.live then s
  else
    let e := s.liveCheck
    let s1 := s.setReg F.ACV_LIVE_CFG_ERR e
    if e ≠ 0 then s1
    else
      let s2 := foldKeys (List.range 16) (fun t n => (((t.setReg F.ACV_RCONS_CONS 0 n).setReg F.ACV_RCONS_WRITTEN 0 n).setReg
        F.ACV_RSTAT_INFLIGHT 0 n)) (s1.setReg F.ACV_LIVE_LIVE 1)
      ((s2.putAcv { s2.acv with bell := [], nextPoll := s2.toll }).putFaults { s2.faults with written := 0, fcons := 0 })

/-- ACV_LIVE_GO (00 R18; 15 R474, R475). -/
def execAcvLiveGo (s : State) : Host.Outcome State Fault Refusal := .next s.goLive

/-- A poll (15 R479): skipped and counted while the previous one's read is outstanding; none while the link is not UP. -/
def State.poll (s : State) : State :=
  if s.live && s.acvUp then
    let s1 := s.advanceTo s.acv.nextPoll
    let s2 := (s1.putAcv { s1.acv with nextPoll := s1.toll + s1.reg F.ACV_CFG_POLL_CK })
    if s2.acv.reads.any (fun r => decide (r.ring = 16)) then s2.count F.ACV_COUNTS_POLL_SKIP
    else s2.readHost 16 (s2.reg F.ACV_DOORBELL_BASE * 256) 136
  else s

/-- DOORBELL_POLL (15 R471, R473, R479). -/
def execDoorbellPoll (s : State) : Host.Outcome State Fault Refusal := .next s.poll

/-- DOORBELL_DATA (15 R473, R480, R484): the data of the outstanding poll, or its failure, which changes nothing. -/
def execDoorbellData (ok : Bool) (words : List (BitVec 64)) (s : State) : Host.Outcome State Fault Refusal :=
  .next (match s.acv.reads.find? (fun r => decide (r.ring = 16)) with
    | none => s
    | some r =>
      let s1 := (s.putAcv { s.acv with reads := s.acv.reads.erase r })
      if ok then s1.bellIn (words.map BitVec.toNat) else s1)

/-! ### Completions and the fault ring (15 R484, R485; 17 R528, R529, R533) -/

/-- PHASE of entry `k` of a ring of 2^log2 entries (15 R484). -/
def phaseBit (k log2 : Nat) : Nat := 1 - k / 2 ^ log2 % 2

/-- A completion entry as entry `k` of its ring (15 R484). -/
def compEntry (c : Comp) (k log2 : Nat) : List Byte :=
  leBytes 8 (phaseBit k log2 * 2 ^ 63 + c.slot % 4096 * 2 ^ 48 + c.code % 65536 * 2 ^ 32 + c.id % 2 ^ 32) ++
    leBytes 8 c.v0 ++ leBytes 8 c.v1 ++ leBytes 8 c.toll

/-- The next completion of ring `n` is written, once there is room under CCONS of the latest poll and the link is UP (15 R479, R484). -/
def State.compWrite (s : State) (n : Nat) : State :=
  match s.comps.find? (fun c => decide (c.ring = n)) with
  | none => s
  | some c =>
    let k := s.reg F.ACV_RCONS_WRITTEN n
    let log2 := s.reg F.ACV_SQ_LOG2 n
    if s.live && s.acvUp && s.compRoom n then
      ((s.putComps (s.comps.erase c)).toHost (s.reg F.ACV_CQ_BASE n * 4096 + 32 * (k % 2 ^ log2)) (compEntry c k log2)).tick
        F.ACV_RCONS_WRITTEN 1 n
    else s

/-- COMPLETION_WRITE (00 R21; 15 R473, R481, R484). -/
def execCompletionWrite (r : Fin 16) (s : State) : Host.Outcome State Fault Refusal := .next (s.compWrite r.val)

/-- Whether `n` more entries fit in the fault ring (15 R485). -/
def State.fringRoom (s : State) (n : Nat) : Bool :=
  decide ((s.faults.written + n + 2 ^ 32 - 1 - s.faults.fcons) % 2 ^ 32 < 2 ^ s.reg F.ACV_FRING_FLOG2)

/-- An entry of the fault ring written with its PHASE (15 R485). -/
def State.fringPut (s : State) (l : List Byte) : State :=
  let k := s.faults.written
  let log2 := s.reg F.ACV_FRING_FLOG2
  let w := leNat (l.take 8) % 2 ^ 63 + phaseBit k log2 * 2 ^ 63
  (s.putFaults { s.faults with written := (k + 1) % 2 ^ 32 }).toHost
    (s.reg F.ACV_FRING_BASE * 4096 + 64 * (k % 2 ^ log2)) (leBytes 8 w ++ l.drop 8)

/-- The records that wait are written, each whole or not at all (17 R533). -/
def State.fringRecords (s : State) : State :=
  s.faults.waiting.foldl (fun t l =>
    if t.fringRoom 8 then (recordEntries l).foldl State.fringPut t else t.count F.ACV_COUNTS_FRING_LOST 8)
    (s.putFaults { s.faults with waiting := [] })

/-- The hub takes its next message (17 R528, R533). Before the rings are live it has nowhere to go and is dropped, its record kept (log
entry 27); while the link is not UP it waits. -/
def State.faultRing (s : State) : State :=
  if !s.live then
    match s.faults.hub with
    | [] => s
    | r :: t =>
      let s1 := (s.putFaults { s.faults with hub := t, lost := true })
      if recorded r.msg then s1.makeRecord r else s1
  else if !s.acvUp then s
  else
    let s0 := s.fringRecords
    match s0.faults.hub with
    | [] => s0
    | r :: t =>
      let s1 := (s0.putFaults { s0.faults with hub := t })
      let s2 := if s1.fringRoom 1 then
          let w := s1.fringPut (s1.faultEntry r s1.faults.written)
          (w.putFaults { w.faults with lost := false })
        else s1.count F.ACV_COUNTS_FRING_LOST
      if recorded r.msg then (s2.makeRecord r).fringRecords else s2

/-- FAULT_RING_WRITE (15 R473, R485; 17 R507, R528, R529, R533 to R535). -/
def execFaultRingWrite (s : State) : Host.Outcome State Fault Refusal := .next s.faultRing

end Sys2Proof.Machine
end

