-- ==== Sys2Proof/Machine/Coll.lean ====
section
/-!
DEFINITION. Machine/Coll.lean: group descriptors and the start and end of an open collective (spec/09 R301 to R318; spec/04 R156 to R165).
-/
namespace Sys2Proof.Machine

/-! ### Groups (09 R302, R304) -/

/-- Whether one axis of a group descriptor breaks a condition of R304. -/
def State.axisBad (s : State) (mask origin extent i : Nat) : Bool :=
  let o := axis origin i
  let x := axis extent i
  if mask.testBit i then
    decide (x = 0) || (if s.axisRing i then decide (s.axisSize i < x) else decide (s.axisSize i < o + x))
  else decide (x ≠ 1) || (if s.axisRing i then decide (s.axisSize i < x) else decide (s.axisSize i < o + x))

/-- A GROUP_BAD condition (09 R304); ORIGIN_e + EXTENT_e above 128 is the condition of axis e. -/
def State.groupBad (s : State) (mask origin extent : Nat) : Bool :=
  (List.range 5).any (s.axisBad mask origin extent) || decide (65536 < grpSize ⟨0, origin, extent, 0⟩)

/-- An entry is busy: an open collective of its group is active here, or the loaded Score names it (09 R304). -/
def State.groupBusy (s : State) (h : Nat) : Bool := s.activeColls.any (fun x => decide (x.group = h)) || s.scoreNames h

/-- What refused collectives of a group left (04 R162) goes with its entry (log entry 29). -/
def State.forgetColls (s : State) (h : Nat) : State :=
  (s.putColls (s.colls.filter (fun x => decide (x.group ≠ h) || decide (x.mode = 0))))

/-- A group descriptor (09 R302, R304). -/
def State.groupDesc (s : State) (d : Desc) (w0 origin extent : Nat) : State :=
  let h := bitsOf w0 11 0
  let have_ := (s.group h).isSome
  if w0.testBit 17 then
    if !have_ then s.complete d 0
    else if s.groupBusy h then s.complete d 0x37
    else ((s.forgetColls h).setGroup h none).complete d 0
  else if s.groupBad (bitsOf w0 16 12) origin extent then s.complete d 0x36
  else if have_ && s.groupBusy h then s.complete d 0x37
  else ((s.forgetColls h).setGroup h (some ⟨w0, origin, extent, 0⟩)).complete d 0

/-- GROUP (09 R301 to R304; 11 R364). -/
def execGroup (d : Desc) (w0 w1 w2 _w3 : BitVec 64) (s : State) : Host.Outcome State Fault Refusal :=
  .next (s.serve d (fun t => t.groupDesc d w0.toNat (bitsOf w1.toNat 39 0) (bitsOf w2.toNat 39 0)))

/-! ### Fields of a start descriptor (09 R310) -/

/-- The fields of a start descriptor. -/
structure CollArgs where
  op : Nat
  fallback : Bool
  any : Bool
  dkind : Nat
  sat : Bool
  rm : Nat
  outfmt : Nat
  cfmt : Nat
  paths : Nat
  rootRank : Nat
  group : Nat
  w : Nat
  hi : Nat
  lo : Nat
  elems : Nat
  dest : Nat
  stream : Nat
  tag : Nat
  clusters : Nat
  chime : Nat
  lane : Nat
  reserved : Bool

/-- The fields read from the words of a body; a BARRIER is INT32 whatever the format fields hold (09 R308, R310). -/
def collArgs (ws : List Nat) : CollArgs :=
  let w := fun i => ws.getD i 0
  let op := bitsOf (w 0) 63 60
  { op := op, fallback := (w 0).testBit 59, any := (w 0).testBit 58, dkind := bitsOf (w 0) 57 56, sat := (w 0).testBit 55
    rm := bitsOf (w 0) 54 53, outfmt := if op = 7 then 10 else bitsOf (w 0) 52 49, cfmt := if op = 7 then 10 else bitsOf (w 0) 48 45
    paths := bitsOf (w 0) 37 32, rootRank := bitsOf (w 0) 27 12, group := bitsOf (w 0) 11 0, w := bitsOf (w 1) 63 48
    hi := bitsOf (w 1) 31 16, lo := bitsOf (w 1) 15 0, elems := bitsOf (w 2) 39 0, dest := bitsOf (w 3) 47 0
    stream := bitsOf (w 4) 63 48, tag := w 5, clusters := w 6 + w 7 * 2 ^ 64 + w 8 * 2 ^ 128, chime := bitsOf (w 9) 14 0
    lane := bitsOf (w 10) 31 0
    reserved := decide (bitsOf (w 0) 44 38 ≠ 0) || decide (bitsOf (w 0) 31 28 ≠ 0) || decide (bitsOf (w 1) 47 32 ≠ 0) ||
      decide (bitsOf (w 2) 63 40 ≠ 0) || decide (bitsOf (w 3) 63 48 ≠ 0) || decide (bitsOf (w 4) 47 0 ≠ 0) ||
      decide (bitsOf (w 9) 63 15 ≠ 0) || decide (bitsOf (w 10) 63 32 ≠ 0) }

/-- CHUNKS (09 R308, R311). -/
def CollArgs.chunks (a : CollArgs) : Nat :=
  if a.op = 7 then 1 else (a.elems + chunkE a.cfmt - 1) / max (chunkE a.cfmt) 1

/-- The stripe count NB (09 R313): 0 with no chunk at or above COLL_THRESH. -/
def State.stripes (s : State) (a : CollArgs) : Nat :=
  if a.chunks * 480 < s.reg F.COLL_CFG_COLL_THRESH then 1 else min a.paths a.chunks

/-- CLUSTER[k] (09 R310). -/
def CollArgs.cluster (a : CollArgs) (k : Nat) : Nat := a.clusters >>> (6 * k) % 64

/-- The node is the root of a group of n ranks. -/
def CollArgs.root (a : CollArgs) (n : Nat) : Bool := decide (a.lo = 0) && decide (a.hi + 1 = n)

/-- A check of step 3 of R311 fails: a field out of range, a reserved field or code. -/
def State.collFieldBad (s : State) (a : CollArgs) (n : Nat) : Bool :=
  a.reserved || !decide (a.op ∈ ([1, 2, 5, 7] : List Nat)) || decide (10 < a.cfmt) || decide (10 < a.outfmt) || decide (a.rm = 3) ||
  decide (a.dkind = 3) || decide (a.paths = 0) || decide (32 < a.paths) || decide (a.w = 0) || !isNode n a.lo a.hi ||
  decide (n ≤ a.rootRank) || decide (8388607 < a.chunks) || s.scoreChime a.chime ||
  (decide (a.dkind = 1) && decide (bitsOf a.dest 47 46 = 3))

/-- A check of step 4 of R311 fails: DKIND against the node and OP, and the conditions of 04 R165. R311 answers COLL_BAD for
these where R165 has the allocator answer FMT_BAD: the model takes R311's code (DESIGN CHOICE, log entry 70). -/
def State.collKindBad (s : State) (a : CollArgs) (n : Nat) : Bool :=
  (decide (a.dkind = 0) == a.root n) || (decide (a.dkind = 2) && (!decide (a.op ∈ ([1, 5] : List Nat)) || s.running)) ||
  (decide (a.outfmt ≠ a.cfmt) && decide (a.outfmt ≠ 0))

/-- The completion code of the checks of R311, in order; 0 when all pass. -/
def State.collCode (s : State) (a : CollArgs) : Nat :=
  match s.group a.group with
  | none => 0x36
  | some g =>
    if s.scoreNames a.group then 0x37
    else if grpDeviceMember g then 0x38
    else if s.collFieldBad a (grpSize g) || s.collKindBad a (grpSize g) then 0x38
    else if (List.range (s.stripes a)).any (fun k => s.taFenced (a.cluster k)) then 0x16
    else 0

/-! ### The claim (04 R156, R158, R160; 09 R312) -/

/-- LEVELS of the Bushels of a collective (09 R312). -/
def CollArgs.levels (a : CollArgs) : Nat := if a.any then 1 else levelsOf (a.hi + 1 - a.lo)

/-- DEST of the record of stripe k (09 R312): a handle or set rises by k. -/
def CollArgs.destK (a : CollArgs) (k : Nat) : Nat :=
  if a.dkind = 2 ∨ (a.dkind = 1 ∧ bitsOf a.dest 47 46 = 2) then a.dest else stripeDest a.dest k

/-- The words of the record of stripe k (04 R164; 09 R312). -/
def CollArgs.record (a : CollArgs) (n seq nb k pecks base : Nat) : List Nat :=
  [2 ^ 63 + b2n a.any * 2 ^ 62 + n * 2 ^ 32 + seq * 2 ^ 16 + a.group,
   b2n (a.root n) * 2 ^ 43 + b2n a.sat * 2 ^ 42 + a.rm * 2 ^ 40 + a.outfmt * 2 ^ 36 + a.cfmt * 2 ^ 32 + a.hi * 2 ^ 16 + a.lo,
   a.levels * 2 ^ 48 + a.w * 2 ^ 32 + pecks % 512 * 2 ^ 16 + base,
   k * 2 ^ 32 + nb * 2 ^ 23 + a.chunks,
   a.dkind * 2 ^ 48 + a.destK k,
   a.chime,
   a.stream * 2 ^ 32 + a.lane,
   0]

/-- A free record of a cluster outside the Score's reserved ones: the lowest-numbered (04 R158, R160; DESIGN CHOICE, log entry 29). -/
def State.freeRecord (s : State) (c : Nat) : Option Nat :=
  (List.range 64).find? (fun r => decide (s.reg F.TALLY_CFG_SCORE_RECORDS ≤ r) && decide (r ∉ s.recsOf c))

/-- The claim of the Bushels of stripes, in order: the records taken with the state that holds them; none when one cannot be had
(04 R160). A Bushel's wait for inputs runs from its claim (04 R168). -/
def State.claim (s : State) (a : CollArgs) (n seq nb : Nat) : List Nat → Option (List (Nat × Nat) × State)
  | [] => some ([], s)
  | k :: t =>
    let c := a.cluster k
    let pecks := pecksOf a.w a.levels a.cfmt
    match (s.freeRuns c).find? (fun r => decide (pecks ≤ r.2)), s.freeRecord c with
    | some run, some r =>
      if pecks ≤ 512 then
        let s1 := (s.writeRecord c r (a.record n seq nb k pecks run.1)).setBushel c r { Bushel.reset with last := s.toll }
        match State.claim s1 a n seq nb t with
        | some q => some ((c, r) :: q.1, q.2)
        | none => none
      else none
    | _, _ => none

/-! ### The start (09 R311, R312) -/

/-- The next sequence number of a group taken (09 R312, R318). -/
def State.takeNumber (s : State) (h : Nat) (g : Grp) : State :=
  (s.setGroup h (some { g with next := (g.next + 1) % 65536 })).count F.COLL_COUNTS_STARTED

/-- Cells that waited for a collective go to the tally engines (04 R167; 09 R312). -/
def State.releaseCells (s : State) (h seq : Nat) : State :=
  let mine := fun (p : Parked) => match p.cell with | some x => decide (tGroup x = h) && decide (tSeq x = seq) | none => false
  let due := s.parked.filter mine
  let s1 := (s.putParked (s.parked.filter (fun p => !mine p))).showPark
  due.foldl (fun t p => match p.cell with | some x => t.tallyCell p.die x | none => t) s1

/-- A collective whose claim was refused: it completes, and `mode` says what its cells get (04 R162; 09 R312). -/
def State.refuseColl (s : State) (d : Desc) (a : CollArgs) (seq nb code mode : Nat) : State :=
  let x := Coll.mk d a.group seq a.tag [] [] mode a.dest nb a.chunks none
  (((s.putColls (s.colls ++ [x])).complete d code a.tag (seq + 2 ^ 16)).releaseCells a.group seq)

/-- A start descriptor (09 R311 to R313; 04 R160, R162). -/
def State.collStart (s : State) (d : Desc) (a : CollArgs) : State :=
  let code := s.collCode a
  match s.group a.group with
  | none => s.complete d code a.tag
  | some g =>
    if code ≠ 0 then s.complete d code a.tag
    else
      let seq := g.next
      let nb := s.stripes a
      let s0 := s.takeNumber a.group g
      let s1 := (s0.putColls (s0.colls.filter (fun x => decide (x.mode = 0) || decide (x.group ≠ a.group) || decide (x.seq ≠ seq))))
      if a.op ≠ 7 ∧ a.elems = 0 then s1.complete d 1 a.tag (seq + 2 ^ 16)
      else if 1024 ≤ s1.activeColls.length then s1.refuseColl d a seq nb 0x39 1
      else match s1.claim a (grpSize g) seq nb (List.range nb) with
        | some q =>
          let x := Coll.mk d a.group seq a.tag q.1 q.1 0 a.dest nb a.chunks none
          ((q.2.putColls (q.2.colls ++ [x])).showColls).releaseCells a.group seq
        | none =>
          if a.fallback then (s1.count F.COLL_COUNTS_FALLBACKS).refuseColl d a seq nb 3 (if a.dkind = 2 then 3 else 2)
          else s1.refuseColl d a seq nb 0x30 1

/-- COLL_START (00 R22; 04 R156, R158, R160 to R162, R164, R165; 09 R306, R308, R310 to R313, R317, R326). -/
def execCollStart (d : Desc) (ws : List (BitVec 64)) (s : State) : Host.Outcome State Fault Refusal :=
  .next (s.serve d (fun t => t.collStart d (collArgs (ws.map BitVec.toNat))))

/-- An end descriptor (09 R315): the collective ends with CANCELLED, and this descriptor is done. -/
def State.collEnd (s : State) (d : Desc) (h seq : Nat) : State :=
  match s.activeColls.find? (fun x => decide (x.group = h) && decide (x.seq = seq)) with
  | some x => (s.endColl x 0x35).complete d 0
  | none => s.complete d 0x3A

/-- COLL_END (04 R161; 09 R314, R315). -/
def execCollEnd (d : Desc) (g : BitVec 12) (seq : BitVec 16) (s : State) : Host.Outcome State Fault Refusal :=
  .next (s.serve d (fun t => t.collEnd d g.toNat seq.toNat))

end Sys2Proof.Machine
end

