-- ==== Sys2Proof/Machine/Port.lean ====
section
/-!
DEFINITION. Machine/Port.lean: links: Roll call, negotiation, delay measurement, the wiring check, retry, credit, quarantine and
retraining (spec/14 R425 to R456; spec/11 R375, R389; spec/02 R70).
-/
namespace Sys2Proof.Machine

/-- The links of a port: two when it is split (14 R431, R454). -/
def State.portLinks (s : State) (p : Nat) : List Nat := if s.reg F.PORT_CFG_SPLIT p = 1 then [2 * p, 2 * p + 1] else [2 * p]

/-- PORT_LINKk.STATE set. -/
def State.setLinkState (s : State) (k st : Nat) : State := s.setReg F.PORT_LINK_STATE st k

/-! ### Leaving READY (14 R449) -/

/-- LINK_DOWN stops the Acre that uses the port: the port's TAG is the running Acre, or it grants it transit (14 R449). -/
def State.linkMatters (s : State) (p : Nat) : Bool :=
  let w := s.portRec p
  (portTagV w && decide (portTag w = s.scoreAcre)) || portGrants w s.scoreAcre

/-- A link leaves READY: counted and reported, what it holds discarded, HALT_REQ with cause LINK (14 R449). -/
def State.leaveReady (s : State) (k : Nat) : State :=
  if s.linkState k = 6 then
    let s1 := (s.count F.PORT_ERR_DOWNS 1 k).tell 0x0403 1 2 k 7 none (2 * b2n (s.linkMatters (k / 2)))
    let l := s1.link k
    let s2 := s1.setLink k { l with replay := [], blocks := [], waitq := [], credit := [0, 0, 0, 0], owed := [0, 0, 0, 0] }
    if s2.linkMatters (k / 2) then s2.halt 0x4 else s2
  else s

/-- A new attempt of Roll call starts in a state: nothing sent or received of it yet (14 R441). -/
def State.attempt (s : State) (k st : Nat) : State :=
  let l := s.link k
  (s.setLink k { l with sentReady := false, gotReady := false, since := s.ck, exch := 0, sum := 0, t1 := none, ident := none,
                        discard := true }).setLinkState k st

/-- The IDENT body this side sends (14 R442 to R444): version 1.0, all six features. -/
def State.identBody (s : State) (k : Nat) (quar : Bool) : Nat :=
  0x0100 * 2 ^ 112 + 1 * 2 ^ 104 + 0x3F * 2 ^ 72 + s.reg F.PORT_CFG_SPLIT (k / 2) * 2 ^ 66 + b2n quar * 2 ^ 65 +
    (k / 2 + 128 * (k % 2)) * 2 ^ 56 + s.coord * 2 ^ 24

/-- What a link sends in every round of a state, at its start and again at each round (14 R436, R438, R441): IDENT from IDENT to CHECK and,
with QUAR set, in QUARANTINED; READY once the check passes; ACK in READY while NAK or CNAK is set. -/
def State.linkRound (s : State) (k : Nat) : State :=
  let st := s.linkState k
  if 3 ≤ st ∧ st ≤ 5 then
    let s1 := s.sendPlain k tyIdent (s.identBody k false)
    if (s.link k).sentReady then s1.sendPlain k tyReady 0 else s1
  else if st = 7 then s.sendPlain k tyIdent (s.identBody k true)
  else if (s.link k).discard || (s.link k).cmiss then s.sendAck k
  else s

/-- A round begins on every link (14 R428, R436, R441; when its rounds begin is DESIGN CHOICE, log entry 72). -/
def State.roundsOn (s : State) : State := foldKeys (List.range 256) State.linkRound s

/-- The link goes to IDENT, its alignment kept (14 R441, R450). -/
def State.toIdent (s : State) (k : Nat) : State := (s.attempt k 3).linkRound k

/-- Every link of a port is FAILED, or quarantined with cause ERRORS (14 R448). -/
def State.portDead (s : State) (p : Nat) : Bool :=
  (s.portLinks p).all (fun k => decide (s.linkState k = 8) ||
    (decide (s.linkState k = 7) && decide (s.reg F.PORT_LINK_QCAUSE k = 4)))

/-- The message of a link that entered QUARANTINED or FAILED; the one that completes its port's condition carries C2 and fences the
port (14 R448; 17 R512). -/
def State.linkFault (s : State) (k kind : Nat) (unitFault : Bool) : State :=
  let p := k / 2
  if unitFault && s.portDead p then (s.tell kind 2 2 k 7 none 6).fence (9 + p / 64) (p % 64)
  else s.tell kind 1 2 k 7 none

/-- A link is quarantined (14 R440, R443, R446, R448): 1 WIRING, 2 ROLE, 3 VERSION, 4 ERRORS, 5 PEER, 6 DISTANCE. -/
def State.quarantine (s : State) (k cause : Nat) : State :=
  ((((s.leaveReady k).attempt k 7).setReg F.PORT_LINK_QCAUSE cause k).linkRound k).linkFault k 0x0404 (decide (cause = 4))

/-- An attempt fails: TRIES rises, and at ATTEMPTS the link has FAILED, else it trains anew (14 R441, R453). -/
def State.failAttempt (s : State) (k : Nat) : State :=
  let n := s.reg F.PORT_LINK_TRIES k + 1
  let s1 := (s.leaveReady k).setReg F.PORT_LINK_TRIES (min n 15) k
  if n ≥ max (s1.reg F.PORT_CFG_ATTEMPTS (k / 2)) 1 then (s1.attempt k 8).linkFault k 0x0405 true
  else s1.attempt k 1

/-- A link starts over in TRAIN with TRIES at 0 (14 R448, R452). -/
def State.retrain (s : State) (k : Nat) : State :=
  (((s.leaveReady k).setReg F.PORT_LINK_TRIES 0 k).setReg F.PORT_LINK_QCAUSE 0 k).attempt k 1

/-! ### Lasers (14 R425, R452) -/

/-- PORT_LASER's bit of an input set or cleared. -/
def State.setLaser (s : State) (i : Nat) (low : Bool) : State :=
  let v := s.reg F.PORT_LASER_LOW
  s.setReg F.PORT_LASER_LOW (if low then v ||| 2 ^ i else v - (v &&& 2 ^ i))

/-- LASER_LOW (14 R425, R452): the links it serves lose lock at their far ends, which is no state of this device. -/
def execLaserLow (i : Fin 16) (s : State) : Host.Outcome State Fault Refusal :=
  .next (if (s.reg F.PORT_LASER_LOW).testBit i.val then s else (s.setLaser i.val true).tell 0x0406 1 2 (264 + i.val) 7 none)

/-- LASER_POWER_RESTORED (14 R425). -/
def execLaserPowerRestored (i : Fin 16) (s : State) : Host.Outcome State Fault Refusal := .next (s.setLaser i.val false)

/-! ### Roll call (14 R432, R441 to R447) -/

/-- LINK_TRAINED (14 R441): TRAIN becomes LOCK. -/
def execLinkTrained (k : Fin 256) (s : State) : Host.Outcome State Fault Refusal :=
  .next (if s.linkState k = 1 then s.setLinkState k 2 else s)

/-- A link is aligned (14 R432): each of its lanes is locked, which takes three rounds; LANE covers 0 to L − 1 without a repeat; every SPLIT
is the port's own; the markers of a round lie within 100 CK. -/
def State.aligned (s : State) (k : Nat) (lanes : List LaneMark) (skew : Nat) : Bool :=
  let split := decide (s.reg F.PORT_CFG_SPLIT (k / 2) = 1)
  let n := if split then 4 else 8
  decide (lanes.length = n) && (List.range n).all (fun j => lanes.any (fun m => decide (m.lane.toNat = j))) &&
    lanes.all (fun m => decide (m.split = split) && decide (3 ≤ m.rounds.toNat)) && decide (skew ≤ 100)

/-- LINK_ALIGNED (14 R429, R432, R441): LOCK becomes IDENT when the link is aligned; SKEW is the markers' spread. -/
def execLinkAligned (k : Fin 256) (marks : Markers) (s : State) : Host.Outcome State Fault Refusal :=
  .next (if s.linkState k = 2 ∧ s.aligned k marks.lanes marks.skew.toNat then (s.setReg F.PORT_LINK_SKEW marks.skew.toNat k).toIdent k else s)

/-- LINK_ALIGN_LOST (14 R432, R441, R449, R456): from IDENT to READY the attempt fails. -/
def execLinkAlignLost (k : Fin 256) (s : State) : Host.Outcome State Fault Refusal :=
  .next (if 3 ≤ s.linkState k ∧ s.linkState k ≤ 6 then s.failAttempt k else s)

/-- The limit of the present part of an attempt, in CK (14 R441). -/
def State.attemptLimit (s : State) (k : Nat) : Nat := if s.linkState k ≤ 2 then 250000000 else 25000000

/-- ROLL_CALL_TIMEOUT (14 R441, R448): time reaches the limit and the attempt fails. -/
def execRollCallTimeout (k : Fin 256) (s : State) : Host.Outcome State Fault Refusal :=
  .next (if 1 ≤ s.linkState k ∧ s.linkState k ≤ 5 then
    (s.advance ((s.link k).since + s.attemptLimit k - s.ck)).failAttempt k else s)

/-- A DREQ block leaves: t1 is its send time (14 R437, R445). -/
def State.sendDreq (s : State) (k : Nat) : State :=
  (s.setLink k { s.link k with t1 := some s.toll }).sendPlain k tyDreq s.toll

/-- The peer's identity shown in PORT_LINKk and PORT_PEERk (14 R454, R455). -/
def State.showPeer (s : State) (k body : Nat) : State :=
  ((s.setReg F.PORT_LINK_PEER_PORT (bitsOf body 63 56) k).setReg F.PORT_LINK_PEER_EP (bitsOf body 64 64) k).setReg
    F.PORT_PEER_COORD (bitsOf body 55 24) k

/-- An IDENT block (00 R18; 14 R442, R443): in IDENT the version is negotiated; a peer whose major is above 1 must offer again. -/
def State.identIn (s : State) (k body : Nat) : State :=
  let st := s.linkState k
  if 3 ≤ st ∧ st ≤ 5 then
    let s1 := (s.setLink k { s.link k with ident := some body }).showPeer k body
    if st = 3 then
      let v := bitsOf body 127 112
      let m := min (v / 256) 1
      if m < 1 ∨ m < bitsOf body 111 104 then s1.quarantine k 3
      else if v / 256 > m then s1
      else
        let s2 := (s1.setReg F.PORT_LINK_VERSION (min v 0x0100) k).setReg F.PORT_PEER_FEATURES (bitsOf body 103 72 &&& 0x3F) k
        (s2.setLinkState k 4).sendDreq k
    else s1
  else s

/-- IDENT_RECEIVED (00 R18; 14 R435, R441 to R444, R455). -/
def execIdentReceived (k : Came) (body : BitVec 128) (s : State) : Host.Outcome State Fault Refusal :=
  .next (s.takePlain k.link tyIdent k.crc.toNat body.toNat (fun t => t.identIn k.link body.toNat))

/-- The answer to a DREQ block, from TIME on (14 R445): t2 and t3 are this device's Toll count when the block comes and when DRESP leaves
(R437), to which the command brings time; a time that has passed is the present count (log entry 1). -/
def State.answerDreq (s : State) (k t2 t3 : Nat) : State :=
  if 4 ≤ s.linkState k ∧ s.linkState k ≤ 6 then
    let s2 := s.advanceTo t2
    let s3 := s2.advanceTo t3
    s3.sendPlain k tyDresp (s2.toll + s3.toll * 2 ^ 64)
  else s

/-- DREQ_RECEIVED (02 R70; 14 R434, R435, R437, R445). -/
def execDreqReceived (k : Came) (t1 t2 t3 : BitVec 64) (s : State) : Host.Outcome State Fault Refusal :=
  .next (s.takePlain k.link tyDreq k.crc.toNat t1.toNat (fun t => t.answerDreq k.link t2.toNat t3.toNat))

/-- The credit a receiver grants at Roll call, OP0, OP1, MGT, CTL (11 R375; 14 R431). -/
def State.grantBody (s : State) (k : Nat) : Nat :=
  if s.reg F.PORT_CFG_SPLIT (k / 2) = 1 then creditBody 32 32 8 8 else creditBody 64 64 16 16

/-- READY sent and received: the link is READY, its numbers start at 0, REPLAY(0) and the credit grant leave (14 R438, R447). -/
def State.enterReady (s : State) (k : Nat) : State :=
  let l := s.link k
  if s.linkState k = 5 ∧ l.sentReady ∧ l.gotReady then
    let s1 := s.setLink k { l with
      lsend := 0, replay := [], lnext := 0, discard := true, naks := 0, nakInt := s.toll / 2 ^ 28, lastNak := none, lastReplay := s.ck,
      csend := 0, blocks := [], waitq := [], cnext := 0, cmiss := false, credit := [0, 0, 0, 0], owed := [0, 0, 0, 0] }
    let s2 := (s1.setLinkState k 6).setReg F.PORT_LINK_TRIES 0 k
    (s2.sendPlain k tyReplay 0).sendBlock k tyCredit (s2.grantBody k)
  else s

/-- The cause of the first failing row of the wiring check (14 R446; 11 R362, R389); 0 when it passes. -/
def State.wiring (s : State) (k ident : Nat) : Nat :=
  let p := k / 2
  let ep := ident.testBit 64
  let kind := s.nbrKind p
  if kind = 2 ∧ ¬ (ep ∧ p % 16 < 8 ∧ s.reg F.PORT_CFG_SPLIT p = 0) then 2
  else if kind = 1 ∧ ep then 2
  else if kind = 1 ∧ ¬ (bitsOf ident 55 24 = bitsOf (s.nbrRec p) 31 0 ∧ bitsOf ident 62 56 = bitsOf (s.nbrRec p) 38 32 ∧
      bitsOf ident 63 63 = k % 2) then 1
  else if ident.testBit 65 then 5
  else 0

/-- CHECK (14 R446): the peer is compared with the neighbour record; READY leaves once it agrees. -/
def State.check (s : State) (k : Nat) : State :=
  let s1 := s.setLinkState k 5
  let cause := s1.wiring k ((s1.link k).ident.getD 0)
  if cause ≠ 0 then s1.quarantine k cause
  else ((s1.setLink k { s1.link k with sentReady := true }).sendPlain k tyReady 0).enterReady k

/-- Sixteen exchanges are done (14 R426, R445; 02 R70): DELAY is half their sum, a half rounded up. Of a split parent port, which has two
links, TOLL_DELAY is the DELAY of the half whose exchanges ended last (R70 and R445 name one: DESIGN CHOICE, log entry 73). -/
def State.delayDone (s : State) (k : Nat) (sum : Int) : State :=
  let d := ((sum + 1) / 2).toNat
  let s1 := s.setReg F.PORT_LINK_DELAY (min d 0xFFFF) k
  let s2 := if s1.fromParent k then s1.setReg F.TOLL_DELAY_DELAY d else s1
  if d > 40000 then s2.quarantine k 6 else s2.check k

/-- A DRESP block (14 R445): one exchange gives A = (t4 − t1) − (t3 − t2). -/
def State.drespIn (s : State) (k t2 t3 t4 : Nat) : State :=
  let l := s.link k
  match l.t1 with
  | none => s
  | some t1 =>
    if s.linkState k = 4 then
      let sum := l.sum + (((t4 : Int) - t1) - ((t3 : Int) - t2))
      let s1 := s.setLink k { l with sum := sum, exch := l.exch + 1, t1 := none }
      if l.exch + 1 ≥ 16 then s1.delayDone k sum else s1.sendDreq k
    else s

/-- DRESP_RECEIVED (02 R70; 11 R389; 14 R426, R434, R435, R437, R441, R445, R446, R448, R454; 17 R512): t4 is this device's Toll count when
it takes the block. -/
def execDrespReceived (k : Fin 256) (crc : BitVec 32) (t2 t3 : BitVec 64) (s : State) : Host.Outcome State Fault Refusal :=
  .next (s.takePlain k tyDresp crc.toNat (t2.toNat + t3.toNat * 2 ^ 64) (fun t => t.drespIn k t2.toNat t3.toNat t.toll))

/-- DREQ_TIMEOUT (14 R445): 8 rounds without an answer, the exchange is run again. -/
def execDreqTimeout (k : Fin 256) (s : State) : Host.Outcome State Fault Refusal :=
  .next (match (s.link k).t1 with
    | some t => if s.linkState k = 4 then (s.advanceTo (t + 3277)).sendDreq k else s
    | none => s)

/-- A READY block (14 R441, R447). -/
def State.readyIn (s : State) (k : Nat) : State :=
  if 3 ≤ s.linkState k ∧ s.linkState k ≤ 5 then (s.setLink k { s.link k with gotReady := true }).enterReady k else s

/-- READY_RECEIVED (11 R375; 14 R434, R435, R441, R447). -/
def execReadyReceived (k : Came) (s : State) : Host.Outcome State Fault Refusal :=
  .next (s.takePlain k.link tyReady k.crc.toNat 0 (fun t => t.readyIn k.link))

/-! ### Retry and credit (14 R435 to R440; 11 R375) -/

/-- Whether number `a` lies below `b` modulo `m`. -/
def seqBelow (m a b : Nat) : Bool := decide (0 < (b + m - a % m) % m) && decide ((b + m - a % m) % m ≤ m / 2)

/-- Acknowledged slots leave the replay buffer, and slots that waited for room are sent (14 R439). -/
def State.freeSlots (s : State) (k lnext : Nat) : State :=
  let l := s.link k
  let left := l.replay.filter (fun e => !seqBelow (2 ^ 32) e.1 lnext)
  let gone := l.replay.length - left.length
  let fresh := (left.take 1024).drop (1024 - gone)
  fresh.foldl (fun t e => t.emit (.cell k e.1 e.2)) (s.setLink k { l with replay := left })

/-- Acknowledged blocks leave; with CNAK every unacknowledged one is sent again; then blocks that waited are sent (14 R436, R437). -/
def State.freeBlocks (s : State) (k cnext : Nat) (cnak : Bool) : State :=
  let l := s.link k
  let left := l.blocks.filter (fun e => !seqBelow 256 e.1 cnext)
  let s1 := s.setLink k { l with blocks := left }
  let s2 := if cnak then left.foldl (fun t e => t.emitSeq k e.1 e.2.1 e.2.2) s1 else s1
  s2.fillBlocks l.waitq.length k

/-- A NAK that must be answered (14 R438): not answered before, or repeated late enough. -/
def State.nakDue (s : State) (k lnext : Nat) : Bool :=
  let l := s.link k
  decide (l.lastNak ≠ some lnext) || decide (8 * (s.ck - l.lastReplay) > s.reg F.PORT_LINK_DELAY k + 8192)

/-- A NAK answered (14 R438, R440, R456; 17 R508): REPLAY and every slot from LNEXT on; more than RETRY_LIMIT of them in an interval of
2^28 CK quarantine the link. -/
def State.answerNak (s : State) (k lnext : Nat) : State :=
  let l := s.link k
  let int := s.toll / 2 ^ 28
  let n := (if l.nakInt = int then l.naks else 0) + 1
  let s1 := (s.count F.PORT_ERR_REPLAYS 1 k).tellOnce 0x0402 2 k 7 none
  let s2 := s1.setLink k { l with naks := n, nakInt := int, lastNak := some lnext, lastReplay := s.ck }
  if n > s2.reg F.PORT_CFG_RETRY_LIMIT (k / 2) then s2.quarantine k 4
  else ((s2.link k).replay.take 1024).foldl (fun t e => t.emit (.cell k e.1 e.2)) (s2.sendPlain k tyReplay lnext)

/-- An ACK block (14 R435, R436, R438 to R440). -/
def State.ackIn (s : State) (k lnext cnext : Nat) (nak cnak : Bool) : State :=
  if s.ready k then
    let s1 := (s.freeSlots k lnext).freeBlocks k cnext cnak
    if nak && s1.nakDue k lnext then s1.answerNak k lnext else s1
  else s

/-- ACK_RECEIVED (14 R434 to R436, R438 to R440, R448, R449, R456; 17 R508). -/
def execAckReceived (k : Fin 256) (crc : BitVec 32) (lnext : BitVec 32) (cnext : BitVec 8) (nak cnak : Bool) (s : State) :
    Host.Outcome State Fault Refusal :=
  .next (s.takePlain k tyAck crc.toNat (lnext.toNat + cnext.toNat * 2 ^ 32 + b2n nak * 2 ^ 40 + b2n cnak * 2 ^ 41)
    (fun t => t.ackIn k lnext.toNat cnext.toNat nak cnak))

/-- A REPLAY block (14 R435, R438, R447): discarding ends when the next round starts at or below LNEXT. -/
def State.replayIn (s : State) (k lseq : Nat) : State :=
  if s.ready k ∧ !seqBelow (2 ^ 32) (s.link k).lnext lseq then s.setLink k { s.link k with discard := false } else s

/-- REPLAY_RECEIVED (14 R434, R435, R438, R447). -/
def execReplayReceived (k : Came) (lseq : BitVec 32) (s : State) : Host.Outcome State Fault Refusal :=
  .next (s.takePlain k.link tyReplay k.crc.toNat lseq.toNat (fun t => t.replayIn k.link lseq.toNat))

/-- CREDIT_RECEIVED (10 R349; 11 R375; 14 R434 to R436): credit for OP0, OP1, MGT, CTL. -/
def execCreditReceived (k : Fin 256) (crc : BitVec 32) (cseq : BitVec 8) (op0 op1 mgt ctl : BitVec 16) (s : State) :
    Host.Outcome State Fault Refusal :=
  let p := s.takeBlock k tyCredit crc.toNat cseq.toNat (creditBody op0.toNat op1.toNat mgt.toNat ctl.toNat)
  .next (if p.1 then
    let l := p.2.link k
    p.2.setLink k { l with credit := [l.credit.getD 0 0 + op0.toNat, l.credit.getD 1 0 + op1.toNat, l.credit.getD 2 0 + mgt.toNat,
                                      l.credit.getD 3 0 + ctl.toNat] }
  else p.2)

/-- UNCORRECTABLE_CODEWORD (14 R438, R456): an uncorrectable codeword, which is counted, or a bad marker on an aligned link, which is not,
with the symbols that the link has corrected since the last one; a READY link discards from the first affected slot on and sends NAK. -/
def execUncorrectableCodeword (k : Fin 256) (what : Spoilt) (s : State) : Host.Outcome State Fault Refusal :=
  let s1 := s.fecFixed k what.csym.toNat
  let s2 := if what.marker then s1 else s1.count F.PORT_ERR_UCW 1 k
  .next (if s2.ready k then (s2.setLink k { s2.link k with discard := true }).sendAck k else s2)

/-! ### Retraining and bank swaps (14 R448, R450, R452) -/

/-- Every link of a port trains anew; a port with no neighbour stays OFF (14 R441, R452). -/
def State.retrainPort (s : State) (p : Nat) : State :=
  if s.nbrKind p = 0 ∨ s.pins.portsStopped then s else foldKeys (s.portLinks p) State.retrain s

/-- A write of PORT_RETRAIN_LO or _HI (14 R452). -/
def State.retrainMask (s : State) (base v : Nat) : State :=
  foldKeys ((List.range 64).filter (fun j => v.testBit j)) (fun t j => t.retrainPort (base + j)) s

/-- PORT_RETRAIN (14 R448, R449, R452). -/
def execPortRetrain (hi : Bool) (v : BitVec 64) (s : State) : Host.Outcome State Fault Refusal :=
  .next (s.retrainMask (if hi then 64 else 0) v.toNat)

/-- A link whose port's neighbour record changed in a bank swap (11 R389; 14 R448, R450): OFF with no neighbour; TRAIN from OFF or from
quarantine; back to IDENT with alignment kept from IDENT or later. -/
def State.linkMoved (s : State) (k : Nat) : State :=
  let st := s.linkState k
  if s.nbrKind (k / 2) = 0 then (s.leaveReady k).attempt k 0
  else if s.pins.portsStopped then s
  else if st = 0 ∨ st = 7 then s.retrain k
  else if 3 ≤ st ∧ st ≤ 6 then (s.leaveReady k).toIdent k
  else s

/-- Every link of the ports whose neighbour records differ from those of the bank before (11 R389). -/
def State.portsMoved (s : State) (old : Bank) : State :=
  foldKeys ((List.range 128).filter (fun p => decide (tabGet 0 old.nbr p ≠ s.nbrRec p)))
    (fun t p => foldKeys (t.portLinks p) State.linkMoved t) s

end Sys2Proof.Machine
end

