-- ==== Sys2Proof/Machine/Route.lean ====
section
/-!
DEFINITION. Machine/Route.lean: control cells, route images, the drain and swap of route banks (spec/10 R332; spec/11 R377 to R385,
R389; spec/07 R262; spec/19 R565).
-/
namespace Sys2Proof.Machine

/-! ### Control cells (10 R332; 02 R106 to R108) -/

/-- A Chime operation of a control cell, with the Beat of its sender; while the queue of its die is full the cell waits (02 R107). -/
def State.chimeCell (s : State) (reset : Bool) (c : Cell) : State :=
  if s.chimeHolds c then s else (s.taken c).queueChime ⟨kChime c, reset, kArg c, cBeat c⟩

/-- CTL_CHIME_ARRIVE (02 R106, R107; 10 R332). -/
def execCtlChimeArrive (cell : Cell) (s : State) : Host.Outcome State Fault Refusal := .next (s.chimeCell false cell)

/-- CTL_CHIME_RESET (02 R106; 10 R332). -/
def execCtlChimeReset (cell : Cell) (s : State) : Host.Outcome State Fault Refusal := .next (s.chimeCell true cell)

/-! ### Route images (11 R377, R378) -/

/-- A little-endian number of n bytes at an offset of an image. -/
def imgNat (l : List Byte) (o n : Nat) : Nat := leNat ((l.drop o).take n)

/-- ACRE of an image. -/
def imgAcre (l : List Byte) : Nat := imgNat l 2 2
/-- UNICAST. -/
def imgUnicast (l : List Byte) : Nat := imgNat l 4 4
/-- MCAST. -/
def imgMcast (l : List Byte) : Nat := imgNat l 8 2
/-- DEV: the device's Acre becomes ACRE. -/
def imgDev (l : List Byte) : Bool := (imgNat l 10 2).testBit 0
/-- SETS: a port set table follows. -/
def imgSets (l : List Byte) : Bool := (imgNat l 10 2).testBit 1
/-- The ports that have a record, in order. -/
def imgPorts (l : List Byte) : List Nat := (List.range 128).filter (fun p => (imgNat l 16 16).testBit p)

/-- Where the port records start. -/
def imgPortAt (l : List Byte) : Nat := 64 + if imgSets l then 4096 else 0
/-- Where the unicast records start. -/
def imgUniAt (l : List Byte) : Nat := imgPortAt l + 16 * (imgPorts l).length
/-- Where the set records start. -/
def imgSetAt (l : List Byte) : Nat := imgUniAt l + 16 * imgUnicast l
/-- The bytes of an image without its padding. -/
def imgSize (l : List Byte) : Nat := imgSetAt l + 40 * imgMcast l

/-- The ports of set i (11 R369). -/
def imgSet (l : List Byte) (i : Nat) : List Nat :=
  let o := 64 + 64 * i
  (List.range (min (imgNat l o 1) 32)).map (fun j => imgNat l (o + 8 + j) 1)

/-- Port records as (port, port word, neighbour word), reserved bits cut. -/
def imgPortRecs (l : List Byte) : List (Nat × Nat × Nat) :=
  ((imgPorts l).zip (List.range 128)).map (fun e =>
    let o := imgPortAt l + 16 * e.2
    (e.1, imgNat l o 8 % 2 ^ 55, imgNat l (o + 8) 8 &&& 0x37FFFFFFFFF))

/-- Unicast records as (handle, entry). -/
def imgUnis (l : List Byte) : List (Nat × Nat) :=
  (List.range (imgUnicast l)).map (fun i => (imgNat l (imgUniAt l + 16 * i) 2, imgNat l (imgUniAt l + 16 * i + 8) 8))

/-- Set records as (index, the four words of the entry). -/
def imgMcs (l : List Byte) : List (Nat × List Nat) :=
  (List.range (imgMcast l)).map (fun i =>
    let o := imgSetAt l + 40 * i
    (imgNat l o 2, (List.range 4).map (fun w => imgNat l (o + 8 + 8 * w) 8)))

/-- An entry word is valid and of another Acre. -/
def foreign (a w : Nat) : Bool := w.testBit 63 && decide (bitsOf w 61 52 ≠ a)

/-- An image is refused (11 R378; 00 R18): `st` is SEQ_SCORE.STATE. An image too short for what its header names is malformed. -/
def State.imageBad (s : State) (st : Nat) (l : List Byte) : Bool :=
  let a := imgAcre l
  decide (imgNat l 0 2 ≠ 0x0100) || decide (1023 < a) || decide (65536 < imgUnicast l) || decide (4096 < imgMcast l) ||
  decide (l.length < imgSize l) ||
  (imgUnis l).any (fun e => decide (bitsOf e.2 61 52 ≠ a) || foreign a (s.uni e.1)) ||
  (imgMcs l).any (fun e => decide (4095 < e.1) || decide (bitsOf (e.2.getD 0 0) 61 52 ≠ a) ||
    foreign a (tabGet 0 s.bank.sets (4 * e.1))) ||
  (imgPortRecs l).any (fun e => (portTagV (s.portRec e.1) && decide (portTag (s.portRec e.1) ≠ a)) ||
    (portTagV e.2.1 && decide (portTag e.2.1 ≠ a))) ||
  (imgSets l && !imgDev l) || (imgDev l && decide (st ≠ 0) && decide (s.bank.acre ≠ some a))

/-- The bank that an image for Acre A makes of the active one (11 R378). -/
def State.imageBank (s : State) (l : List Byte) : Bank :=
  let a := imgAcre l
  let b := s.bank
  let sets0 := b.sets.filter (fun e => decide (bitsOf (tabGet 0 b.sets (e.1 / 4 * 4)) 61 52 ≠ a))
  { unicast := (imgUnis l).foldl (fun t e => tabSet 0 t e.1 e.2) (b.unicast.filter (fun e => decide (bitsOf e.2 61 52 ≠ a)))
    sets := (imgMcs l).foldl (fun t e => (List.range 4).foldl (fun u w => tabSet 0 u (4 * e.1 + w) (e.2.getD w 0)) t) sets0
    ports := if imgSets l then (List.range 64).foldl (fun t i => tabSet [] t i (imgSet l i)) [] else b.ports
    port := (imgPortRecs l).foldl (fun t e => tabSet 0 t e.1 e.2.1) b.port
    nbr := (imgPortRecs l).foldl (fun t e => tabSet 0 t e.1 e.2.2) b.nbr
    acre := if imgDev l then some a else b.acre }

/-- ROUTE_BANK.STATE: 0 IDLE, 1 PREPARED, 2 DRAINING (11 R390). -/
def State.routeState (s : State) : Nat := s.reg F.ROUTE_BANK_STATE

/-- The inactive bank replaced. -/
def State.setInactive (s : State) (b : Bank) : State :=
  (s.putRoute (if s.reg F.ROUTE_BANK_ACTIVE = 0 then { s.route with bank1 := b } else { s.route with bank0 := b }))

/-- An image applied to the inactive bank, which is then PREPARED (11 R378, R380). -/
def State.prepare (s : State) (l : List Byte) : State :=
  ((s.setInactive (s.imageBank l)).setReg F.ROUTE_BANK_STATE 1).setReg F.ROUTE_BANK_PREP_ACRE (imgAcre l)

/-- A route image descriptor (11 R377, R378; 00 R22): while a drain uses the inactive bank it is refused with ROUTE_BUSY (log
entry 24). -/
def State.routeImage (s : State) (d : Desc) (host len : Nat) (ok : Bool) : State :=
  if len = 0 then s.complete d 1
  else if !ok then s.complete d 0x14
  else if s.routeState = 2 then s.complete d 0x61
  else
    let l := s.hostBytes host len
    if s.imageBad s.scoreState l then s.complete d 0x60 else (s.prepare l).complete d 0

/-- ROUTE_IMAGE (00 R18; 11 R377, R378). -/
def execRouteImage (d : Desc) (host len : BitVec 64) (ok : Bool) (s : State) : Host.Outcome State Fault Refusal :=
  .next (s.serve d (fun t => t.routeImage d host.toNat len.toNat ok))

/-! ### Drain markers (11 R381) -/

/-- A drain marker: MSUB 0 DOWN, 1 UP, 2 QUIET, 3 SWAP. -/
def State.marker (s : State) (acre msub wave : Nat) (flag : Bool) (gen tx rx : Nat) : Cell :=
  ⟨hdrOf s.beat 0 acre (s.genOf acre) 4 3 false false false 0,
   BitVec.ofNat 128 (3 * 2 ^ 124 + msub % 4 * 2 ^ 122 + wave % 256 * 2 ^ 114 + b2n flag * 2 ^ 113 + gen % 16 * 2 ^ 109 +
     tx % 2 ^ 39 * 2 ^ 70 + rx % 2 ^ 39 * 2 ^ 31), 0⟩

/-- WAVE. -/
def kWave (c : Cell) : Nat := cExt c 121 114
/-- EMPTY of an UP, GO of a SWAP. -/
def kFlag (c : Cell) : Bool := c.ext.toNat.testBit 113
/-- NEWGEN. -/
def kGen (c : Cell) : Nat := cExt c 112 109
/-- TX. -/
def kTx (c : Cell) : Nat := cExt c 108 70
/-- RX. -/
def kRx (c : Cell) : Nat := cExt c 69 31

/-! ### EMPTY (11 R382) -/

/-- A cell of Acre a is held in this device: in a queue, the pool, spill, a park area, a resequencer, a ride queue or an egress stage, or at
a cluster point. -/
def State.holdsAcre (s : State) (a : Nat) : Bool :=
  let mine := fun (c : Cell) => decide (cAcre c = a)
  s.sw.scored.any (fun q => mine q.cell) || s.sw.voq.any (fun q => mine q.cell) || s.sw.entry.any (fun e => mine e.2.2) ||
  s.sw.reseq.any (fun x => x.held.any (fun h => mine h.2.2.2)) ||
  s.parked.any (fun p => match p.cell with | some c => mine c | none => decide (a = s.acre)) ||
  s.delivered.any (fun c => mine c && !isMarker c) || (decide (a = s.scoreAcre) && !(s.ride.queue.isEmpty && s.ride.waits.isEmpty)) ||
  s.links.any (fun e => (e.2.replay.drop 1024).any (fun x => mine x.2))

/-- The endpoint ports tagged with an Acre. -/
def State.acreEndpoints (s : State) (a : Nat) : List Nat :=
  (List.range 128).filter (fun p => decide (s.nbrKind p = 2) && portTagV (s.portRec p) && decide (portTag (s.portRec p) = a))

/-- EMPTY of this device for an Acre (11 R382). -/
def State.emptyFor (s : State) (a : Nat) : Bool :=
  !s.holdsAcre a && (decide (s.bank.acre ≠ some a) || s.draining a) &&
  (s.acreEndpoints a).all (fun p => decide (p ∈ s.route.quiet))

/-! ### The swap (11 R380, R384, R389; 07 R262) -/

/-- The banks change places; ports whose neighbour record changed leave service (11 R380, R389). -/
def State.swapBanks (s : State) : State :=
  let old := s.bank
  (s.setReg F.ROUTE_BANK_ACTIVE (1 - s.reg F.ROUTE_BANK_ACTIVE)).portsMoved old

/-- The last steps of a load (07 R262): every LAST_BEAT tag all ones, both logs empty, SEQ_DIGEST, LOADED, DONE. -/
def State.loadDone (s : State) (l : Load) : State :=
  let dig := fun (t : State) (f : Field) (b : List Byte) =>
    foldKeys (List.range 4) (fun u i => u.setReg f (leNat ((b.drop (8 * i)).take 8)) i) t
  let s1 := (s.freshTags.putScore { s.score with cur := some l.params, load := none, logs := [], carried := [] })
  (((dig s1 F.SEQ_DIGEST_DIGEST l.params.digest).setReg F.SEQ_SCORE_STATE 2).setReg F.SEQ_SCORE_LAST_CODE 0).complete l.desc 0

/-- The device leaves DRAINING: what waited for the swap ends with a code, the loader goes on or fails (11 R380, R384; 07 R262). -/
def State.endDrain (s : State) (st : Nat) (ok : Bool) : State :=
  let s1 := ((s.setReg F.ROUTE_BANK_STATE st).putRoute { s.route with quiet := [], swap := none }).release
  match s.route.swap with
  | some d => s1.complete d (if ok then 0 else 0x62)
  | none =>
    match s1.score.load with
    | some l => if ok then s1.loadDone l else
        ((s1.putScore { s1.score with cur := none }).failLoad l.desc 0x62).setReg F.SEQ_SCORE_STATE 0
    | none => s1

/-- SWAP at this device (11 R380, R384): with GO every device takes the new generation and a draining one swaps its banks. -/
def State.applySwap (s : State) (a gen : Nat) (go : Bool) : State :=
  if go then
    let s1 := (s.putRoute { s.route with gen := tabSet 0 s.route.gen a gen })
    if s1.draining a then
      let s2 := s1.swapBanks
      (s2.sendMarkers (s2.acreEndpoints a) (s2.marker a 3 0 true gen 0 0)).endDrain 0 true
    else s1
  else if s.draining a then s.endDrain 1 false
  else s

/-! ### Waves (11 R382, R383) -/

/-- A wave reaches this device: DOWN goes on to the children (11 R382). -/
def State.waveDown (s : State) (a w : Nat) : State :=
  let s1 := s.setReg F.ROUTE_BANK_WAVE w
  let s2 := (s1.putRoute { s1.route with wave := some (a, w), upHeard := [], upEmpty := true, upTx := 0, upRx := 0 })
  s2.sendMarkers s2.childPorts (s2.marker a 0 w false 0 0 0)

/-- The root ends its drain with SWAP, GO or not, and takes the next request (11 R380, R383). -/
def State.rootSwap (s : State) (d : Drain) (go : Bool) : State :=
  let gen := (s.genOf d.acre + 1) % 16
  let s1 := (s.putRoute { s.route with drain := none })
  (s1.sendMarkers s1.childPorts (s1.marker d.acre 3 d.wave go gen 0 0)).applySwap d.acre gen go

/-- A new drain at the root starts with its first wave when none is in progress (11 R380, R383). -/
def State.nextDrain (s : State) : State :=
  match s.route.drain, s.route.requests with
  | none, a :: t =>
    let s1 := (s.putRoute { s.route with requests := t, drain := some ⟨a, 1, none, s.toll, none⟩ })
    s1.waveDown a 1
  | _, _ => s

/-- The root judges a wave (11 R383): drained, timed out, or another wave after 4,096 CK. -/
def State.judge (s : State) (empty : Bool) (tx rx : Nat) : State :=
  match s.route.drain with
  | none => s
  | some d =>
    if empty ∧ tx = rx ∧ d.prev = some (tx, rx) then (s.rootSwap d true).nextDrain
    else if s.toll > d.t0 + 2500000000 then (s.rootSwap d false).nextDrain
    else (s.putRoute { s.route with drain := some { d with prev := some (tx, rx), wait := some s.toll } })

/-- Once every child has answered the wave, this device adds its own values; the sum goes up, or is judged at the root (11 R382). -/
def State.waveUp (s : State) : State :=
  match s.route.wave with
  | none => s
  | some (a, w) =>
    if s.childPorts.all (fun p => decide (p ∈ s.route.upHeard)) then
      let empty := s.route.upEmpty && s.emptyFor a
      let tx := (s.route.upTx + tabGet 0 s.route.txc a) % 2 ^ 39
      let rx := (s.route.upRx + tabGet 0 s.route.rxc a) % 2 ^ 39
      let s1 := (s.putRoute { s.route with wave := none })
      if s1.isRoot then s1.judge empty tx rx else s1.sendMarker s1.parentPort (s1.marker a 1 w empty 0 tx rx)
    else s

/-- A request for a drain: up the tree, or into the root's queue in order of arrival (11 R380). Of one route change the first request starts
the drain; one that comes while that drain waits or runs adds nothing (R383). -/
def State.askDrain (s : State) (a : Nat) : State :=
  if s.isRoot then
    if s.route.drain.any (fun d => decide (d.acre = a)) then s
    else (s.putRoute { s.route with requests := keyAdd s.route.requests a }).nextDrain.waveUp
  else s.sendMarker s.parentPort (s.marker a 1 0 false 0 0 0)

/-- The device enters DRAINING (11 R380): for a descriptor, or for the loader. -/
def State.startDrain (s : State) (d : Option Desc) : State :=
  let s1 := s.setReg F.ROUTE_BANK_STATE 2
  (s1.putRoute { s1.route with quiet := [], swap := d }).askDrain (s1.reg F.ROUTE_BANK_PREP_ACRE)

/-- DRAIN_DOWN (11 R381, R382): from the parent. -/
def execDrainDown (k : Fin 256) (cell : Cell) (s : State) : Host.Outcome State Fault Refusal :=
  let s1 := s.taken cell
  .next (if s1.fromParent k.val then (s1.waveDown (cAcre cell) (kWave cell)).waveUp else s1)

/-- An UP marker (11 R380, R382): a request with WAVE 0, or a child's answer to the wave this device takes part in. -/
def State.drainUp (s : State) (k : Nat) (c : Cell) : State :=
  let p := k / 2
  if p ∉ s.childPorts then s
  else if kWave c = 0 then s.askDrain (cAcre c)
  else if s.route.wave = some (cAcre c, kWave c) ∧ p ∉ s.route.upHeard then
    let r := s.route
    (s.putRoute { r with upHeard := keyAdd r.upHeard p, upEmpty := r.upEmpty && kFlag c, upTx := (r.upTx + kTx c) % 2 ^ 39,
                               upRx := (r.upRx + kRx c) % 2 ^ 39 }).waveUp
  else s

/-- DRAIN_UP (11 R380 to R383). -/
def execDrainUp (k : Fin 256) (cell : Cell) (s : State) : Host.Outcome State Fault Refusal :=
  .next ((s.taken cell).drainUp k.val cell)

/-- DRAIN_QUIET (11 R381, R382, R385): an endpoint port of the draining Acre has gone quiet. -/
def execDrainQuiet (k : Fin 256) (cell : Cell) (s : State) : Host.Outcome State Fault Refusal :=
  let s1 := s.taken cell
  .next (if s1.draining (cAcre cell) ∧ k.val / 2 ∈ s1.acreEndpoints (cAcre cell) then
    (s1.putRoute { s1.route with quiet := keyAdd s1.route.quiet (k.val / 2) }) else s1)

/-- DRAIN_SWAP (07 R262; 11 R379 to R381, R384, R389; 14 R448 to R450): from the parent, forwarded to the children. -/
def execDrainSwap (k : Fin 256) (cell : Cell) (s : State) : Host.Outcome State Fault Refusal :=
  let s1 := s.taken cell
  .next (if s1.fromParent k.val then
    (s1.sendMarkers s1.childPorts cell).applySwap (cAcre cell) (kGen cell) (kFlag cell) else s1)

/-- DRAIN_WAVE_TIMER (11 R383): 4,096 CK after a wave the root sends the next. -/
def execDrainWaveTimer (s : State) : Host.Outcome State Fault Refusal :=
  .next (match s.route.drain with
    | some d =>
      match d.wait with
      | some t =>
        let s1 := s.advanceTo (t + 4096)
        let w := d.wave % 255 + 1
        ((s1.putRoute { s1.route with drain := some { d with wave := w, wait := none } }).waveDown d.acre w).waveUp
      | none => s
    | none => s)

/-- Every port is OFF (19 R565). -/
def State.portsOff (s : State) : Bool := (List.range 256).all (fun k => decide (s.linkState k = 0))

/-- A route swap descriptor (11 R380; 19 R565): at once while every port is OFF and no Score is loaded or loading; refused while a Score of
the prepared Acre runs or nothing is prepared; else the device drains. -/
def State.routeSwap (s : State) (d : Desc) : State :=
  if s.portsOff ∧ s.scoreState = 0 then ((s.setReg F.ROUTE_BANK_STATE 0).swapBanks).complete d 0
  else if s.routeState ≠ 1 ∨ (s.running ∧ s.scoreAcre = s.reg F.ROUTE_BANK_PREP_ACRE) then s.complete d 0x61
  else s.startDrain (some d)

/-- ROUTE_SWAP (11 R380, R389; 14 R450; 19 R565). -/
def execRouteSwap (d : Desc) (s : State) : Host.Outcome State Fault Refusal := .next (s.serve d (fun t => t.routeSwap d))

end Sys2Proof.Machine
end

