-- ==== Sys2Proof/Machine/Score.lean ====
section
/-!
DEFINITION. Machine/Score.lean: the Score file, its checks and its load, launch and pause (spec/07 R236 to R249, R255 to R268; spec/09
R305, R309; spec/10 R338; spec/13 R415; spec/08 R275).
-/
namespace Sys2Proof.Machine

/-! ### The file (07 R236 to R242) -/

/-- `n` little-endian numbers of `k` bytes in a row. -/
def takeWords (k : Nat) : Nat → List Byte → List Nat
  | 0, _ => []
  | n + 1, l => leNat (l.take k) :: takeWords k n (l.drop k)

/-- `n` pieces of `k` bytes in a row. -/
def takeParts (k : Nat) : Nat → List Byte → List (List Byte)
  | 0, _ => []
  | n + 1, l => l.take k :: takeParts k n (l.drop k)

/-- Every byte of a list is zero. -/
def allZero (l : List Byte) : Bool := l.all (fun b => decide (b = 0))

/-- The parts of a Score file that a device fetches (07 R238): header, seeds, device table entries, and its own entry and image. -/
structure ScoreFile where
  hdr : List Byte
  seeds : List Nat
  table : List Byte
  entries : List (List Byte)
  entry : Option (List Byte)
  img : List Byte

/-- The fetch (07 R238, R258). -/
def State.fetchScore (s : State) (host : Nat) : ScoreFile :=
  let h := s.hostBytes host 256
  let table := s.hostBytes (host + imgNat h 0x40 8) (64 * imgNat h 0x1A 2)
  let es := takeParts 64 (imgNat h 0x1A 2) table
  let e := es.find? (fun e => decide (imgNat e 0 4 = s.coord))
  { hdr := h, seeds := takeWords 8 (imgNat h 0x34 2) (s.hostBytes (host + imgNat h 0x38 8) (8 * imgNat h 0x34 2)), table := table
    entries := es, entry := e, img := match e with | some e => s.hostBytes (host + imgNat e 8 8) (imgNat e 16 8) | none => [] }

/-- Bytes the loader writes. -/
def State.loaderPut (s : State) (a : Nat) (l : List Byte) : State := (s.poke a l).cleanse a l.length

/-- A part of the file at an offset, written to the staging area as far as that reaches (07 R258; 13 R412). A part lies there at its offset in
the file (DESIGN CHOICE, log entry 30). -/
def State.stagePart (s : State) (off : Nat) (l : List Byte) : State :=
  s.loaderPut (0x4400000000 + off) (l.take (0x40000000 - off))

/-- The parts that a device fetches, written to the Score staging area (07 R238, R258). -/
def State.stage (s : State) (host : Nat) (f : ScoreFile) : State :=
  let seeds := imgNat f.hdr 0x38 8
  let s1 := (s.stagePart 0 f.hdr).stagePart seeds (s.hostBytes (host + seeds) (8 * imgNat f.hdr 0x34 2))
  let s2 := s1.stagePart (imgNat f.hdr 0x40 8) f.table
  match f.entry with
  | some e => s2.stagePart (imgNat e 8 8) f.img
  | none => s2

/-- ACRE. -/
def ScoreFile.acre (f : ScoreFile) : Nat := imgNat f.hdr 0x18 2
/-- PERIOD. -/
def ScoreFile.period (f : ScoreFile) : Nat := imgNat f.hdr 0x20 4
/-- STRETCH. -/
def ScoreFile.stretch (f : ScoreFile) : Nat := imgNat f.hdr 0x24 4
/-- PHASES. -/
def ScoreFile.phases (f : ScoreFile) : Nat := imgNat f.hdr 0x30 2
/-- FLAGS.MARKED. -/
def ScoreFile.marked (f : ScoreFile) : Bool := (imgNat f.hdr 0x36 2).testBit 0
/-- FLAGS.CLAVE. -/
def ScoreFile.clave (f : ScoreFile) : Bool := (imgNat f.hdr 0x36 2).testBit 1

/-- The section table of an image (07 R239). -/
def imgSections (img : List Byte) : List (List Byte) := takeParts 32 (imgNat img 0 2) (img.drop 0x80)

/-- A section of an image by TYPE (07 R240). -/
def section_ (img : List Byte) (ty : Nat) : List Byte :=
  match (imgSections img).find? (fun e => decide (imgNat e 0 2 = ty)) with
  | some e => (img.drop (imgNat e 8 8)).take (imgNat e 16 8)
  | none => []

/-- SCORE_RECORDS. -/
def imgRecords (img : List Byte) : Nat := imgNat img 8 1
/-- SCORE_PECKS. -/
def imgPecks (img : List Byte) : Nat := imgNat img 6 2
/-- LIST_BASE. -/
def imgListBase (img : List Byte) : Nat := imgNat img 0x10 4
/-- LIST_BYTES. -/
def imgListBytes (img : List Byte) : Nat := imgNat img 0x14 4
/-- UNDO_BYTES. -/
def imgUndo (img : List Byte) : Nat := imgNat img 0x18 8
/-- UNDO_BASE of die d. -/
def imgUndoBase (img : List Byte) (d : Nat) : Nat := imgNat img (0x20 + 8 * d) 8

/-- The list image of a cluster (07 R242). -/
structure ListImage where
  starts : List Nat
  words : List Nat
  consts : List Byte

/-- `n` list images in a row; none when they do not fit (07 R242). -/
def parseLists (phases : Nat) : Nat → List Byte → Option (List ListImage)
  | 0, _ => some []
  | n + 1, l =>
    let nw := imgNat l 0 4
    let nc := imgNat l 4 4
    let at_ := 16 + 4 * phases
    if l.length < at_ + 8 * nw + nc then none
    else
      let body := l.drop at_
      let rest := body.drop (8 * nw)
      match parseLists phases n (rest.drop nc) with
      | some t => some (ListImage.mk (takeWords 4 phases (l.drop 16)) (takeWords 8 nw body) (rest.take nc) :: t)
      | none => none

/-- The list images of clusters 0 to 63. -/
def ScoreFile.lists (f : ScoreFile) : List ListImage := (parseLists f.phases 64 (section_ f.img 3)).getD []

/-- The words of the FENCE record. -/
def ScoreFile.fence (f : ScoreFile) : List Nat := takeWords 8 12 (section_ f.img 1)

/-- Bit n of the bits that begin with word j of a FENCE record (07 R255). -/
def fencedIn (fw : List Nat) (j n : Nat) : Bool := (fw.getD (j + n / 64) 0).testBit (n % 64)

/-- The Bushel records of the image, as (64 c + r, words) (07 R240). -/
def ScoreFile.records (f : ScoreFile) : List (Nat × List Nat) :=
  let n := imgRecords f.img
  ((List.range 64).flatMap (fun c => (List.range n).map (fun r => 64 * c + r))).zip
    ((takeParts 64 (64 * n) (section_ f.img 5)).map (takeWords 8 8))

/-- The phases: NOMINAL_CK, CAL_D0, CAL_D1 (07 R241). -/
def ScoreFile.phaseTab (f : ScoreFile) : List (Nat × Nat × Nat) :=
  (takeWords 16 f.phases (section_ f.img 2)).map (fun v => (bitsOf v 31 0, bitsOf v 47 32, bitsOf v 63 48))

/-- The state areas: TIER, BASE, BYTES (07 R249). -/
def ScoreFile.areas (f : ScoreFile) : List (Nat × Nat × Nat) :=
  (takeWords 32 ((section_ f.img 8).length / 32) (section_ f.img 8)).map (fun v => (bitsOf v 7 0, bitsOf v 127 64, bitsOf v 191 128))

/-! ### Checks 1 to 5 (07 R259) -/

/-- MAGIC, FILE_BYTES, offsets and lengths, reserved fields of the header (07 R236 to R238). -/
def ScoreFile.headBad (f : ScoreFile) (len : Nat) : Bool :=
  let h := f.hdr
  let fits := fun (off n : Nat) => decide (off % 64 = 0) && decide (off + n ≤ len)
  decide (len < 256) || decide (h.take 8 ≠ ascii "UN9SCORE") || decide (imgNat h 0x10 8 ≠ len) || decide (0x40000000 < len) ||
  !allZero ((h.drop 0x0A).take 6) || !allZero ((h.drop 0x68).take 120) || decide (3 < imgNat h 0x36 2) ||
  !fits (imgNat h 0x38 8) (8 * imgNat h 0x34 2) || !fits (imgNat h 0x40 8) (64 * imgNat h 0x1A 2) ||
  f.entries.any (fun e => !fits (imgNat e 8 8) (imgNat e 16 8))

/-- The own image: its header, its section table, the section set and the sections' lengths (07 R239, R240). -/
def ScoreFile.imageForm (f : ScoreFile) : Bool :=
  let img := f.img
  let n := imgNat img 0 2
  let len := fun (t : Nat) => (section_ img t).length
  decide (0x80 ≤ img.length) && decide (n = 8) && decide (0x80 + 32 * n ≤ img.length) &&
  allZero ((img.drop 0x0A).take 2) && allZero ((img.drop 0x34).take 76) &&
  (List.range 8).all (fun i => (imgSections img).any (fun e => decide (imgNat e 0 2 = i + 1))) &&
  (imgSections img).all (fun e => decide (imgNat e 8 8 % 64 = 0) && decide (imgNat e 8 8 + imgNat e 16 8 ≤ img.length)) &&
  decide (len 1 = 96) && decide (len 2 = 16 * f.phases) && decide (len 4 = 32 * 16384) && decide (len 5 = 4096 * imgRecords img) &&
  decide (len 6 = 8 * (imgNat img 2 2 + imgNat img 4 2)) && decide (64 ≤ len 7) && decide (len 8 % 32 = 0) &&
  (parseLists f.phases 64 (section_ img 3)).isSome

/-- Check 1. -/
def ScoreFile.bad (f : ScoreFile) (len : Nat) : Bool := f.headBad len || (f.entry.isSome && !f.imageForm)

/-- Check 3: TABLE_DIGEST, then the image's digest (07 R237, R238). -/
def ScoreFile.hashBad (f : ScoreFile) : Bool :=
  decide (sha256 (f.hdr.take 0xE0 ++ List.replicate 32 0 ++ f.table) ≠ (f.hdr.drop 0xE0).take 32) ||
  (match f.entry with | some e => decide (sha256 f.img ≠ (e.drop 0x20).take 32) | none => false)

/-- Check 4. -/
def State.notMine (s : State) (f : ScoreFile) : Bool :=
  let rt := section_ f.img 7
  f.entry.isNone || decide (imgAcre rt ≠ f.acre) ||
  (match s.bank.acre with | some a => decide (f.acre ≠ a) | none => !imgDev rt)

/-- Check 5 (14 R443): the features agreed on every link that is neither quarantined nor OFF; a link that has agreed on none has none (that
an OFF port does not count is of log entry 30). -/
def State.featureMissing (s : State) (f : ScoreFile) : Bool :=
  let need := imgNat f.img 0x30 4
  let agreed := fun (k : Nat) => if 4 ≤ s.linkState k ∧ s.linkState k ≤ 6 then s.reg F.PORT_PEER_FEATURES k else 0
  (List.range 256).any (fun k => decide (s.linkState k ≠ 0) && decide (s.linkState k ≠ 7) && decide (need &&& agreed k ≠ need))

/-! ### Checks 6 to 8 (07 R255, R256, R259; 06 R207, R213) -/

/-- A FENCE record covers the device fence map (07 R256). -/
def State.covers (s : State) (fw : List Nat) : Bool :=
  (List.range 10).all (fun j => decide (s.fenceWord (j + 1) ||| fw.getD (j + 1) 0 = fw.getD (j + 1) 0))

/-- The image agrees with its own record (07 R242, R256). -/
def ScoreFile.fenceOwn (f : ScoreFile) : Bool :=
  let fw := f.fence
  ((List.range 64).zip f.lists).all (fun e =>
    let c := e.1
    (if fencedIn fw 1 c then e.2.words.isEmpty && e.2.consts.isEmpty
     else e.2.words.all (fun w =>
       (decide (bitsOf w 62 60 ≠ 1) || !fencedIn fw 3 (4 * c + bitsOf w 48 47)) &&
       (decide (bitsOf w 62 60 ≠ 4) || !fencedIn fw 8 c)))) &&
  f.records.all (fun e => !(e.2.getD 0 0).testBit 63 || !(fencedIn fw 1 (e.1 / 64) || fencedIn fw 7 (e.1 / 64)))

/-- Check 6; a record of another VERSION is malformed (00 R18). -/
def State.fenceMismatch (s : State) (f : ScoreFile) : Bool :=
  decide (bitsOf (f.fence.getD 0 0) 15 0 ≠ 0x0100) || !s.covers f.fence || !f.fenceOwn

/-- Some word of a list has V set. -/
def ScoreFile.anyV (f : ScoreFile) : Bool := f.lists.any (fun l => l.words.any (fun w => w.testBit 63))

/-- A word is SEQ.HOLD (06 R217). -/
def isHold (w : Nat) : Bool := decide (w >>> 52 = 0x020)

/-- The list of a phase runs from its START to the next larger START, or to the end of the words (log entry 30): it holds exactly one
SEQ.HOLD (06 R207). -/
def oneHold (l : ListImage) (start : Nat) : Bool :=
  let stop := (l.starts.filter (fun x => decide (start < x))).foldl min l.words.length
  decide ((((l.words.drop start).take (stop - start)).filter isHold).length = 1)

/-- Check 8. -/
def ScoreFile.insnBad (f : ScoreFile) : Bool :=
  ((List.range 64).zip f.lists).any (fun e =>
    e.2.words.any (fun w => (decodeInsn 0 (BitVec.ofNat 64 w)).isNone) ||
    (!fencedIn f.fence 1 e.1 && e.2.starts.any (fun x => decide (e.2.words.length ≤ x) || !oneHold e.2 x))) ||
  (f.marked != f.anyV)

/-! ### Check 9 (07 R259) -/

/-- Two ranges, as (first, bytes), share an address. -/
def overlap (a b : Nat × Nat) : Bool := decide (a.1 < b.1 + b.2) && decide (b.1 < a.1 + a.2)

/-- No two ranges of a list overlap. -/
def disjointAll : List (Nat × Nat) → Bool
  | [] => true
  | a :: t => t.all (fun b => !overlap a b) && disjointAll t

/-- Ranges of the header, of the image header and of the list area (02 R76; 06 R233; 07 R237, R239, R242). -/
def ScoreFile.rangeBad (f : ScoreFile) : Bool :=
  let h := f.hdr
  let img := f.img
  let ring := (imgNat img 0x0C 4, 8 * 2 ^ (imgNat img 9 1 + 6))
  let list := (imgListBase img, imgListBytes img)
  decide (1023 < f.acre) || decide (imgNat h 0x1A 2 = 0) || decide (1024 < imgNat h 0x1A 2) || decide (65536 < imgNat h 0x1C 4) ||
  decide (f.phases = 0) || decide (4096 < f.phases) || decide (f.phases ≤ imgNat h 0x32 2) || decide (imgNat h 0x34 2 = 0) ||
  decide (256 < imgNat h 0x34 2) || decide (f.period < 32768) || decide (16384000 < f.period) || decide (f.stretch < 4096) ||
  decide (f.period < 2 * f.stretch) || decide (16384 < imgNat img 2 2) || decide (16384 < imgNat img 4 2) || decide (512 < imgPecks img) ||
  decide (64 < imgRecords img) || decide (10 < imgNat img 9 1) || decide (imgNat img 0x0C 4 % 4096 ≠ 0) || decide (list.1 % 4096 ≠ 0) ||
  decide (0x100000 < list.2) || decide (imgUndo img % 4096 ≠ 0) || decide (0x400000000 < imgUndo img) ||
  decide (0x400000 < list.1 + list.2) || decide (0x400000 < ring.1 + ring.2) || overlap list ring ||
  f.lists.any (fun l => decide (list.2 < (8 * l.words.length + 63) / 64 * 64 + l.consts.length))

/-- The tier 1 and tier 2 ranges closed to state areas and undo logs: fixed blocks, spill areas, the telemetry and mirror area (13
R412, R414, R415). -/
def State.closedRanges (s : State) : List (Nat × Nat) :=
  [(0x4400000000, 0x400000000), (0x8C00000000, 0x400000000), (0x4400000000 - s.spillBytes, s.spillBytes),
   (0x8C00000000 - s.spillBytes, s.spillBytes), (0x10C00000000, 0x400000000)]

/-- State areas and undo logs (07 R249; 13 R415; 08 R275). -/
def State.areasBad (s : State) (f : ScoreFile) : Bool :=
  let undo := 2 * imgUndo f.img
  let logs := [(imgUndoBase f.img 0, undo), (imgUndoBase f.img 1, undo)]
  let areas := f.areas.map (fun a => (a.2.1, a.2.2))
  decide (64 < f.areas.length) ||
  f.areas.any (fun a => decide (1 < a.1) || decide (a.2.1 % 4096 ≠ 0) || decide (a.2.2 % 4096 ≠ 0) ||
    (if a.1 = 0 then decide (tier2 < a.2.1 + a.2.2) else decide (a.2.1 < tier2) || decide (tierEnd < a.2.1 + a.2.2))) ||
  decide (0x4800000000 < imgUndoBase f.img 0 + undo) || decide (imgUndoBase f.img 1 < 0x4800000000) ||
  decide (tier2 < imgUndoBase f.img 1 + undo) || !disjointAll (areas ++ logs) ||
  (areas ++ logs).any (fun a => s.closedRanges.any (overlap a)) ||
  (decide (s.reg F.OPT_RIDE_CFG_EN = 1) &&
    (decide (0x7000000000 < (areas.map (·.2)).sum) || decide (s.reg F.OPT_RIDE_CFG_PARTNER = s.coord) ||
     !f.entries.any (fun e => decide (imgNat e 0 4 = s.reg F.OPT_RIDE_CFG_PARTNER)) ||
     (decide (s.reg F.OPT_HOLD_CFG_HOLD = 1) && areas.any (overlap (tier2, 0x7000000000)))))

/-- A Score Bushel record breaks its rules (04 R151, R156, R158, R164, R165; 03 R133; 09 R305, R309); ANY is for TALLY.ANY to set. -/
def State.recordBad (s : State) (pecksOwn : Nat) (ws : List Nat) : Bool :=
  let b := fun (w hi lo : Nat) => bitsOf (ws.getD w 0) hi lo
  let n := b 0 48 32
  let lo := b 1 15 0
  let hi := b 1 31 16
  let levels := levelsOf (hi + 1 - lo)
  let pecks := if b 2 24 16 = 0 then 512 else b 2 24 16
  let root := decide (b 1 43 43 = 1)
  decide (b 0 61 61 ≠ 1) || decide (b 0 62 62 = 1) ||
  (match s.group (b 0 15 0) with | some g => decide (grpSize g ≠ n) | none => true) ||
  decide (10 < b 1 35 32) || (decide (b 1 39 36 ≠ b 1 35 32) && decide (b 1 39 36 ≠ 0)) || decide (b 1 41 40 = 3) ||
  !isNode n lo hi || (root != (decide (lo = 0) && decide (hi + 1 = n))) ||
  decide (b 2 47 32 = 0) || decide (b 2 52 48 ≠ levels) || decide (pecks ≠ pecksOf (b 2 47 32) levels (b 1 35 32)) ||
  decide (pecksOwn < b 2 8 0 + pecks) || decide (b 3 28 23 = 0) || decide (32 < b 3 28 23) || decide (b 3 28 23 ≤ b 3 37 32) ||
  decide (b 4 49 48 = 3) || (decide (b 4 49 48 = 2) && !root) || (decide (b 4 49 48 = 1) && decide (b 4 47 46 = 3))

/-- The valid records of an image. -/
def ScoreFile.valid (f : ScoreFile) : List (Nat × List Nat) := f.records.filter (fun e => (e.2.getD 0 0).testBit 63)

/-- The Bushel records of an image break a rule, or two of a cluster share a Peck. -/
def State.bushelsBad (s : State) (f : ScoreFile) : Bool :=
  f.valid.any (fun e => s.recordBad (imgPecks f.img) e.2) ||
  (List.range 64).any (fun c => !disjointAll ((f.valid.filter (fun e => decide (e.1 / 64 = c))).map (fun e =>
    let p := bitsOf (e.2.getD 2 0) 24 16
    (bitsOf (e.2.getD 2 0) 8 0, if p = 0 then 512 else p))))

/-- The used entries of the pages that a mask selects on a die, as (PER, OUT, IN, CT) (07 R245; 10 R336). -/
def pageEntries (cal : List Nat) (d mask : Nat) : List (Nat × Nat × Nat × Nat) :=
  ((List.range 16).filter (fun i => mask.testBit i)).flatMap (fun i =>
    ((cal.drop ((16 * d + i) * 4096)).take 4096).filterMap (fun v =>
      if bitsOf v 31 28 ≤ 12 then some (bitsOf v 31 28, bitsOf v 27 20, bitsOf v 19 12, bitsOf v 11 0) else none))

/-- Two used entries reserve one point at one position: the same residue modulo the shorter period (10 R336, R338). -/
def clash (a b : Nat × Nat × Nat × Nat) : Bool :=
  (decide (a.2.1 = b.2.1) || decide (a.2.2.1 = b.2.2.1)) &&
  decide (a.2.2.2 % 2 ^ min a.1 b.1 = b.2.2.2 % 2 ^ min a.1 b.1)

/-- No two entries of a list clash. -/
def noClash : List (Nat × Nat × Nat × Nat) → Bool
  | [] => true
  | a :: t => t.all (fun b => !clash a b) && noClash t

/-- The calendar breaks R338 of spec/10 in some phase of some die. -/
def ScoreFile.calendarBad (f : ScoreFile) : Bool :=
  let cal := takeWords 4 (32 * 4096) (section_ f.img 4)
  let masks := (f.phaseTab.flatMap (fun p => [(0, p.2.1), (1, p.2.2)])).eraseDups
  masks.any (fun m =>
    let es := pageEntries cal m.1 m.2
    es.any (fun e => decide (2 ^ e.1 ≤ e.2.2.2) || decide (140 < e.2.1) || decide (140 < e.2.2.1)) || !noClash es)

/-- Check 9: `back` is SEQ_SCORE.STATE before the load (11 R378). -/
def State.planBad (s : State) (f : ScoreFile) (back : Nat) : Bool :=
  f.rangeBad || s.areasBad f || s.bushelsBad f || f.calendarBad || s.imageBad back (section_ f.img 7)

/-! ### The checks in order, and the load (07 R258 to R260, R263) -/

/-- The code of checks 1 to 9 (07 R259); 0 when all pass. -/
def State.scoreCode (s : State) (f : ScoreFile) (len back : Nat) : Nat :=
  if f.bad len then 0x41
  else if imgNat f.hdr 8 2 ≠ 0x0100 then 0x42
  else if f.hashBad then 0x43
  else if s.notMine f then 0x44
  else if s.featureMissing f then 0x45
  else if s.fenceMismatch f then 0x46
  else if s.reg F.SEQ_LOAD_CFG_STRICT = 1 ∧ (f.anyV || f.marked) then 0x47
  else if f.insnBad then 0x48
  else if s.planBad f back then 0x49
  else 0

/-- The entries of CHIMES as (COUNT, TARGET) (07 R246). -/
def chimePairs (l : List Byte) (n : Nat) : List (Nat × Nat) := (takeWords 8 n l).map (fun v => (bitsOf v 31 0, bitsOf v 47 32))

/-- The load that a file's parts make. -/
def ScoreFile.toLoad (f : ScoreFile) (d : Desc) (back : Nat) : Load :=
  let img := f.img
  let n0 := imgNat img 2 2
  let n1 := imgNat img 4 2
  { desc := d
    params :=
      { acre := f.acre, beats := imgNat f.hdr 0x28 8, phases := f.phases, prologue := imgNat f.hdr 0x32 2, clave := f.clave
        seeds := f.seeds, layout := (f.hdr.drop 0x48).take 32, fence := f.fence, phaseTab := f.phaseTab
        starts := f.lists.map (·.starts), state := f.areas.map (fun a => (a.2.1, a.2.2)), listBase := imgListBase img
        listBytes := imgListBytes img, undoBytes := imgUndo img, undo0 := imgUndoBase img 0, undo1 := imgUndoBase img 1
        chimes0 := chimePairs (section_ img 6) n0, chimes1 := chimePairs ((section_ img 6).drop (8 * n0)) n1
        records := f.records, digest := (f.hdr.drop 0xE0).take 32 }
    period := f.period, stretch := f.stretch, chimesD0 := n0, chimesD1 := n1, pecks := imgPecks img, recordsN := imgRecords img
    ringLog2 := imgNat img 9 1, ringBase := imgNat img 0x0C 4
    lists := ((List.range 64).zip f.lists).map (fun e => (e.1, e.2.words.flatMap (leBytes 8), e.2.consts))
    calendar := section_ img 4, routes := section_ img 7, nominal := f.phaseTab.map (·.1), back := back, writing := false }

/-- SEQ_SCORE.LAST_CODE with the completion of a load descriptor (07 R269). -/
def State.loadCode (s : State) (d : Desc) (code : Nat) : State := (s.setReg F.SEQ_SCORE_LAST_CODE code).complete d code

/-- A load descriptor (00 R22; 07 R258 to R260; 18 R562). `ok` is clear when a read of host memory fails. One of length zero completes with
DONE_EMPTY at once, in a state that would give SCORE_BUSY, too: R22 says so of every descriptor and R258 does not (no ruling settles the
two: DESIGN CHOICE, log entry 30). -/
def State.scoreLoad (s : State) (d : Desc) (host len : Nat) (ok : Bool) : State :=
  if len = 0 then s.loadCode d 1
  else if s.ckpt.op.isSome ∨ s.scoreState ∉ ([0, 2, 5, 6, 7] : List Nat) ∨ s.score.pause.isSome then s.loadCode d 0x40
  else if !ok then s.loadCode d 0x14
  else
    let f := s.fetchScore host
    let s0 := s.stage host f
    let code := s0.scoreCode f len s.scoreState
    if code ≠ 0 then s0.loadCode d code
    else
      let s1 := (s0.putScore { s0.score with load := some (f.toLoad d s.scoreState) })
      (s1.setReg F.SEQ_SCORE_STATE 1).probeJoin

/-- SCORE_LOAD (00 R18, R22; 07 R236 to R249, R256, R258 to R260, R263, R269; 08 R275; 09 R305, R309; 10 R338; 13 R415; 16 R502; 18 R562;
19 R567). -/
def execScoreLoad (d : Desc) (host len : BitVec 64) (ok : Bool) (s : State) : Host.Outcome State Fault Refusal :=
  .next (s.accept d (fun t => if t.reg F.BOOT_STATUS_FAIL = 0 then t.scoreLoad d host.toNat len.toNat ok else t.loadCode d 0x8B))

/-! ### The end of a load (07 R259, R261, R262) -/

/-- Checks 11 to 13 (02 R77; 07 R259, R261); 0 when all pass. The limit of a Score that follows Clave is in sixteenths. -/
def State.beatCode (s : State) (l : Load) : Nat :=
  let meas := s.reg F.GONG_LAT_MEAS_CK
  let lead := meas + 4096
  let room := if l.params.clave then 15 * l.period else 16 * l.period
  if l.period < 2 * meas then 0x4B
  else if l.nominal.any (fun n => decide (room < 16 * (n + lead))) then 0x4C
  else if room < 16 * ((2 * l.params.undoBytes + 399) / 400 + meas) then 0x4D
  else 0

/-- Step 1 of R262: the registers. -/
def State.loadRegs (s : State) (l : Load) : State :=
  let s1 := (s.setReg F.CHIME_CFG_SCORE_CHIMES_D0 l.chimesD0).setReg F.CHIME_CFG_SCORE_CHIMES_D1 l.chimesD1
  let s2 := (s1.setReg F.TALLY_CFG_SCORE_PECKS l.pecks).setReg F.TALLY_CFG_SCORE_RECORDS l.recordsN
  let s3 := (s2.setReg F.SEQ_CFG_RING_LOG2 l.ringLog2).setReg F.SEQ_CFG_RING_BASE l.ringBase
  let s4 := (s3.setReg F.MXE_CFG_FIXED_LAT 1).setReg F.MXE_CFG_SCORED_LAT 182
  let s5 := (s4.setReg F.BEAT_PERIOD_PERIOD l.period).setReg F.BEAT_PERIOD_STRETCH l.stretch
  s5.setReg F.BEAT_LEAD_HOLD_LEAD (s5.reg F.GONG_LAT_MEAS_CK + 4096)

/-- The calendar of 32 pages, as a table by entry (07 R245; 10 R336). -/
def calendarTab (l : List Byte) : Tab Nat :=
  ((List.range (32 * 4096)).zip (takeWords 4 (32 * 4096) l)).filter (fun e => decide (e.2 ≠ calNone))

/-- The fields of each word of a Bushel record; the other bits are reserved (04 R164). -/
def recMask : List Nat :=
  [0xE001FFFFFFFFFFFF, 0xFFFFFFFFFFF, 0x1FFFFF01FF01FF, 0x3F1FFFFFFF, 0x3FFFFFFFFFFFF, 0x7FFF, 0xFFFFFFFFFFFF, 0]

/-- The list image of a cluster: the words at LIST_BASE, the constants after them at a multiple of 64 (07 R242). -/
def State.loadList (s : State) (base : Nat) (e : Nat × List Byte × List Byte) : State :=
  let a := wmBase e.1 + base
  (s.loaderPut a e.2.1).loaderPut (a + (e.2.1.length + 63) / 64 * 64) e.2.2

/-- Step 2 of R262: calendar pages, Bushel records, list images; Score Chimes take their values (07 R242, R245, R246). -/
def State.loadMem (s : State) (l : Load) : State :=
  let s1 := (s.putScore { s.score with calendar := calendarTab l.calendar })
  let old := s1.activeRecs.filter (fun k => s1.rScored (k / 64) (k % 64))
  let s2 := foldKeys old (fun t k => t.releaseRec (k / 64) (k % 64)) s1
  let s3 := l.params.records.foldl (fun t e =>
    (t.writeRecord (e.1 / 64) (e.1 % 64) ((e.2.zip recMask).map (fun p => p.1 &&& p.2))).setBushel (e.1 / 64) (e.1 % 64) Bushel.reset) s2
  let s4 := l.lists.foldl (fun t e => t.loadList l.params.listBase e) s3
  (s4.restoreChimes l.params.chimes0 0).restoreChimes l.params.chimes1 16384

/-- The load after its probe round (07 R259, R261, R262): checks 11 to 13, then the writes, and the drain whose swap ends it
(Machine/Route.lean). Nothing happens while a drain uses the banks. -/
def State.scoreFinish (s : State) : State :=
  match s.score.load with
  | none => s
  | some l =>
    if s.probe.joined ∨ l.writing ∨ s.routeState = 2 then s
    else
      let code := s.beatCode l
      if code ≠ 0 then (s.failLoad l.desc code).setReg F.SEQ_SCORE_STATE l.back
      else
        let s1 := (s.putScore { s.score with load := some { l with writing := true } })
        let s2 := (s1.loadRegs l).loadMem l
        ((s2.setReg F.SEQ_UNDO_CAP (l.params.undoBytes / 4160)).prepare l.routes).startDrain none

/-- SCORE_LOAD_FINISH (02 R76, R77, R111, R113; 04 R164, R170; 05 R188, R201; 06 R233; 07 R242, R245 to R247, R259, R261, R262, R270; 11
R380; 17 R537). -/
def execScoreLoadFinish (s : State) : Host.Outcome State Fault Refusal := .next s.scoreFinish

/-! ### Launch and pause (07 R264, R265, R267) -/

/-- SEQ_LAYOUT as a number; zero when no launch has set it (07 R264, R270). -/
def State.layoutNow (s : State) : Nat := (List.range 4).foldl (fun a i => a + s.reg F.SEQ_LAYOUT_DIGEST i * 2 ^ (64 * i)) 0

/-- The mirror condition (18 R556): a holder's mirror stands at START_BEAT − 1, without poison. -/
def State.mirrorGood (s : State) (start : Nat) : Bool :=
  decide (s.reg F.OPT_HOLD_CFG_HOLD = 0) ||
  (decide (s.reg F.OPT_MIRROR_BEAT_VALID = 1) && decide (s.reg F.OPT_MIRROR_BEAT_BEAT = (start + 2 ^ 48 - 1) % 2 ^ 48) &&
   decide (s.reg F.CKPT_STATUS_MIRROR_POISON = 0))

/-- The checks of a launch after the first, in order (07 R265; 02 R80; 17 R513; 18 R556, R562; 19 R587); 0 when all pass. -/
def State.launchCode (s : State) (toll start : Nat) : Nat :=
  if s.reg F.BOOT_UPDATE_STATE = 4 then 0x84
  else if s.ckpt.op.isSome then 0x76
  else match s.score.cur with
  | none => 0x4E
  | some p =>
    if s.scoreState ∉ ([2, 5, 6, 7] : List Nat) then 0x4E
    else if p.beats ≠ 0 ∧ p.beats < start then 0x4F
    else if start ≠ 0 ∧ s.layoutNow ≠ 0 ∧ s.layoutNow ≠ leNat p.layout then 0x51
    else if !s.covers p.fence then 0x46
    else if s.reg F.CKPT_STATUS_DIRTY = 1 then 0x78
    else if !s.mirrorGood start then 0x79
    else if toll < s.toll + 25000 then 0x50
    else 0

/-- A launch accepted (02 R80; 07 R264; 18 R547): ARMED until LAUNCH_TOLL. -/
def State.arm (s : State) (d : Desc) (toll start : Nat) : State :=
  let layout := match s.score.cur with | some p => p.layout | none => []
  let s1 := foldKeys (List.range 4) (fun t i => t.setReg F.SEQ_LAYOUT_DIGEST (leNat ((layout.drop (8 * i)).take 8)) i) s
  let s2 := ((s1.setReg F.SEQ_SCORE_STATE 3).setReg F.SEQ_PAUSE_PAUSE_BEAT 0).setReg F.CKPT_STATUS_NEXT_V 0
  let s3 := (s2.setReg F.BEAT_LAUNCH_LAUNCH_TOLL toll).setReg F.BEAT_STATUS_STATE 1
  ((s3.putBeatU { s3.beatU with startBeat := start }).putScore { s3.score with launch := some d })

/-- A launch descriptor. -/
def State.launchDesc (s : State) (d : Desc) (toll start : Nat) : State :=
  let code := s.launchCode toll start
  if code ≠ 0 then s.complete d code else s.arm d toll start

/-- LAUNCH (02 R80; 07 R256, R264, R265, R270; 17 R513; 18 R547, R556, R562; 19 R567, R587). -/
def execLaunch (d : Desc) (toll : BitVec 64) (beat : BitVec 48) (s : State) : Host.Outcome State Fault Refusal :=
  .next (s.serve d (fun t => t.launchDesc d toll.toNat beat.toNat))

/-- The Beat a pause is measured against: BEAT_NUM, or START_BEAT before the launch takes effect (log entry 31). -/
def State.pauseBase (s : State) : Nat := if s.running then s.beat else s.beatU.startBeat

/-- A pause descriptor (07 R267, R272). -/
def State.pauseDesc (s : State) (d : Desc) (p : Nat) : State :=
  let beats := match s.score.cur with | some q => q.beats | none => 0
  if s.scoreState ≠ 3 ∨ s.score.pause.isSome ∨ p < s.pauseBase + 2 ∨ (beats ≠ 0 ∧ beats < p) then s.complete d 0x52
  else ((s.putScore { s.score with pause := some d }).setReg F.SEQ_PAUSE_PAUSE_BEAT p).setReg F.SEQ_SCORE_STATE 4

/-- PAUSE (07 R267, R272). -/
def execPause (d : Desc) (beat : BitVec 48) (s : State) : Host.Outcome State Fault Refusal :=
  .next (s.serve d (fun t => t.pauseDesc d beat.toNat))

end Sys2Proof.Machine
end

