-- ==== Sys2Proof/Machine/Boot.lean ====
section
/-!
DEFINITION. Machine/Boot.lean: starts and device resets, the mask ROM, the first stage, firmware updates, attestation and debug (spec/19;
spec/01 R44 to R52; spec/17 R514, R530, R533; spec/20 R600).
-/
namespace Sys2Proof.Machine

/-! ### Starts (17 R510, R514; 19 R564; 20 R600) -/

/-- Tier 2 or the Sexton area, which a device reset leaves (13 R408, R412; 17 R510). -/
def outlives (a : Nat) : Bool :=
  (decide (0x9000000000 ≤ a) && decide (a < 0x11000000000)) || (decide (0x8F00000000 ≤ a) && decide (a < 0x9000000000))

/-- The state in which a start begins at step 2 of R564: every register field at its reset value but those of R600 and the power state (01
R52), every queue and table empty, outside memories and the always-on block as they were. -/
def State.startReset (s0 : State) : State :=
  let s := s0.faults.owed.foldl State.makeRecord s0
  let keep := fun (t : State) (f : Field) => t.setReg f (s.reg f)
  let r := { State.reset with
    pending := s.pending
    mem := s.mem.filter (fun e => outlives e.1)
    poison := s.poison.filter outlives
    soft := s.soft.filter outlives
    host := s.host
    nvme := s.nvme
    flash := s.flash
    ck := s.ck
    mgmt := s.mgmt
    draws := s.draws
    pins := { s.pins with portsStopped := decide (s.power = 0xF ∨ s.power = 0x6), jtagOpen := false }
    faults := { FaultUnit.reset with kept := s.faults.kept, waiting := s.faults.waiting }
    boot := { BootUnit.reset with step := 2, signed := s.boot.signed }
    out := s.out
    delivered := s.delivered }
  [F.ENG_PWR_STATE_STATE, F.ENG_PWR_STATE_GRP_OK, F.ENG_PWR_STATE_C4_CAUSE, F.ENG_PWR_STATE_OFF_REQ, F.OPT_MIRROR_BEAT_VALID,
    F.OPT_MIRROR_BEAT_BEAT, F.CKPT_STATUS_MIRROR_POISON].foldl keep r

/-- PORST_N rises (01 R32, R46, R52; 19 R564, R566): before all four groups are in regulation it is a sequence violation; otherwise
WAIT_RESET becomes RUNNING, the package CK count starts at 0, and the start goes on at step 2. -/
def State.porstRise (s : State) : State :=
  let s1 := ((s.putPins { s.pins with porstN := true }).putCk 0)
  if s1.reg F.ENG_PWR_STATE_GRP_OK = 0xF then
    if s1.power = 0x3 then (s1.setPower 0x4).startReset else s1
  else s1.c4Fault 3

/-- PORST_RISE (00 R15; 01 R32, R44, R46, R52, R54; 15 R474; 19 R564, R566). -/
def execPorstRise (s : State) : Host.Outcome State Fault Refusal := .next s.porstRise

/-- Every rail of groups 2 to 4 is below 10 % (01 R45, R52; 20 R600): POWERING or WAIT_RESET becomes AON_UP. What lives while group 2 is in
regulation is lost; the record of a C4 fault lies in boot flash (17 R533; log entry 39). -/
def State.railsDown (s : State) : State :=
  let s1 := (s.clearSense.setReg F.ENG_PWR_STATE_GRP_OK (s.reg F.ENG_PWR_STATE_GRP_OK % 2)).dropGroup2
  let s2 := if s1.power = 0x2 ∨ s1.power = 0x3 then s1.setPower 0x1 else s1
  let c4 := s2.faults.owed.filter (fun r => decide (r.msg.cls = 4))
  let s3 := c4.foldl State.makeRecord (s2.putFaults { s2.faults with kept := [], waiting := [], owed := c4 })
  ((s3.putMem []).putPoison []).putSoft []

/-- RAILS_DOWN (01 R45, R52; 20 R600). -/
def execRailsDown (s : State) : Host.Outcome State Fault Refusal := .next s.railsDown

/-- The reset after a C3 fault (17 R510, R514), once its seal is sent or while no Score runs: the fault's record is made, every port stops
and the device starts at step 2. -/
def State.deviceReset (s : State) : State := if s.beatU.resetDue && !s.running then s.startReset else s

/-- DEVICE_RESET (00 R15; 07 R270; 09 R301; 11 R379; 14 R449; 15 R474; 17 R510, R514, R533; 19 R564, R566; 20 R600). -/
def execDeviceReset (s : State) : Host.Outcome State Fault Refusal := .next s.deviceReset

/-! ### A bank of boot flash (19 R568 to R575) -/

/-- `n` bytes of bank `b` at an offset, as a number. -/
def State.bankNat (s : State) (b o n : Nat) : Nat := leNat (s.flashBytes (bankBase b + o) n)

/-- BANK_SEQ (R569). -/
def State.bankSeq (s : State) (b : Nat) : Nat := s.bankNat b 8 8

/-- A bank carries a valid MAGIC (R569). -/
def State.bankMagic (s : State) (b : Nat) : Bool := decide (s.flashBytes (bankBase b) 8 = ascii "UN9FLASH")

/-- The 388 key bytes of FS_KEY (R569, R571). -/
def State.fsKey (s : State) (b : Nat) : List Byte := s.flashBytes (bankBase b + 0x100) 388

/-- The first stage code (R568, R569). -/
def State.firstStageCode (s : State) (b : Nat) : List Byte := s.flashBytes (bankBase b + 0x1000) (s.bankNat b 0x10 4)

/-- A header passes R571: FS_KEY is the vendor's, and FS_SIG covers the header with BANK_SEQ read as zero and the code. FS_LEN must lie in
its range (R569; log entry 34). -/
def State.headerGood (s : State) (b : Nat) : Bool :=
  let h := s.flashBytes (bankBase b) 0x400
  let n := s.bankNat b 0x10 4
  decide (sha256 (s.fsKey b) = Config.vkeyHash) && decide (1 ≤ n) && decide (n ≤ 1044480) &&
    pssVerify (s.fsKey b) (h.take 8 ++ List.replicate 8 0 ++ h.drop 16 ++ s.firstStageCode b) (s.flashBytes (bankBase b + 0x400) 384)

/-- Where the manifest of a bank begins (R568). -/
def manifestAt : Nat := 0x100000

/-- A number in a bank's manifest (R573). -/
def State.manNat (s : State) (b o n : Nat) : Nat := s.bankNat b (manifestAt + o) n

/-- DEVCFGS (R573). -/
def State.devCfgs (s : State) (b : Nat) : Nat := s.manNat b 0xC 4

/-- The length of a manifest with 5 parts (R573). -/
def State.manLen (s : State) (b : Nat) : Nat := 0x100 + 64 * 5 + 512 * s.devCfgs b + 384

/-- The whole manifest with its SIG. -/
def State.manifest (s : State) (b : Nat) : List Byte := s.flashBytes (bankBase b + manifestAt) (s.manLen b)

/-- SVN of a manifest. -/
def State.manSvn (s : State) (b : Nat) : Nat := s.manNat b 0x14 4

/-- FW_VERSION of a manifest. -/
def State.manFw (s : State) (b : Nat) : Nat := s.manNat b 0x10 4

/-- Where entry `i` of the part table lies in the manifest (R574). -/
def partEntry (i : Nat) : Nat := 0x100 + 64 * i

/-- The part table's entry of a type, if there is one (R574). -/
def State.partOf (s : State) (b ty : Nat) : Option Nat := (List.range 5).find? (fun i => decide (s.manNat b (partEntry i) 2 = ty))

/-- The largest length of a part of each type (R574). -/
def partMax (ty : Nat) : Nat :=
  match ty with
  | 1 => 64 * 2 ^ 20
  | 2 => 4 * 2 ^ 20
  | 3 => 16 * 2 ^ 20
  | 4 => 8 * 2 ^ 20
  | _ => 4 * 2 ^ 20

/-- The bytes of a part's CRC table: one CRC-32C of 4 bytes for each 4 KiB block (R574). -/
def crcTableLen (n : Nat) : Nat := 4 * ((n + 4095) / 4096)

/-- A part with its CRC table lies in the area for parts, and is no longer than its type allows (R568, R574). -/
def State.partPlaced (s : State) (b ty : Nat) : Bool :=
  match s.partOf b ty with
  | none => false
  | some i =>
    let o := s.manNat b (partEntry i + 0x08) 8
    let n := s.manNat b (partEntry i + 0x10) 8
    let c := s.manNat b (partEntry i + 0x18) 8
    decide (n ≤ partMax ty) && decide (0x200000 ≤ o) && decide (o + n ≤ 0x3F000000) && decide (0x200000 ≤ c) &&
      decide (c + crcTableLen n ≤ 0x3F000000)

/-- Device configuration record `i` (R575). -/
def State.cfgRecord (s : State) (b i : Nat) : List Byte := s.flashBytes (bankBase b + manifestAt + 0x240 + 512 * i) 512

/-- Every byte is zero. -/
def zeros (l : List Byte) : Bool := l.all (fun x => decide (x = 0))

/-- A device configuration record meets R575: CLEAR_ID from 1, words 0 and 11 of FENCE_CLEAR and the bytes not named zero. -/
def cfgGood (r : List Byte) : Bool :=
  decide (1 ≤ imgNat r 0x20 4) && zeros ((r.drop 0x24).take 4) && zeros ((r.drop 0x128).take 8) && zeros ((r.drop 0x180).take 8) &&
    zeros (r.drop 0x188)

/-- Every field of a manifest meets R573 to R575. -/
def State.manFields (s : State) (b : Nat) : Bool :=
  decide (s.manNat b 0xA 2 = 5) && decide (s.devCfgs b ≤ 2044) &&
    (List.range 4).all (fun i => decide (s.manNat b (0x18 + 2 * i) 2 ≤ 0x0100)) &&
    zeros (s.flashBytes (bankBase b + manifestAt + 0x40) 0xC0) && (List.range 5).all (fun i => s.partPlaced b (i + 1)) &&
    (List.range (s.devCfgs b)).all (fun i => cfgGood (s.cfgRecord b i))

/-- MAGIC and VERSION of a manifest are valid (00 R18; 19 R573). -/
def State.manMagic (s : State) (b : Nat) : Bool :=
  decide (s.flashBytes (bankBase b + manifestAt) 8 = ascii "UN9MANIF") && decide (s.manNat b 8 2 = 0x0100)

/-- SIG of a manifest verifies under FS_KEY of its bank (R573). -/
def State.manSigned (s : State) (b : Nat) : Bool :=
  let m := s.manifest b
  pssVerify (s.fsKey b) (m.take (s.manLen b - 384)) (m.drop (s.manLen b - 384))

/-- FIRST_DIGEST is that of the bank's first stage code (R576). -/
def State.firstDigestGood (s : State) (b : Nat) : Bool :=
  decide (s.flashBytes (bankBase b + manifestAt + 0x20) 32 = sha256 (s.firstStageCode b))

/-- The manifest of a bank is accepted (R576). -/
def State.manifestGood (s : State) (b : Nat) : Bool :=
  s.manMagic b && decide (s.devCfgs b ≤ 2044) && s.manSigned b && s.firstDigestGood b && s.manFields b &&
    decide (s.reg F.BOOT_COUNTER_COUNTER ≤ s.manSvn b)

/-- The bytes of a part (R574). -/
def State.partBytes (s : State) (b ty : Nat) : List Byte :=
  match s.partOf b ty with
  | none => []
  | some i => s.flashBytes (bankBase b + s.manNat b (partEntry i + 0x08) 8) (s.manNat b (partEntry i + 0x10) 8)

/-- The CRC-32C of each 4 KiB block in turn (R574). -/
def blockCrcs : Nat → List Byte → List Byte
  | 0, _ => []
  | n + 1, l => if l.isEmpty then [] else leBytes 4 (crc32c (l.take 4096)) ++ blockCrcs n (l.drop 4096)

/-- A part passes its CRC table and its DIGEST (R574, R576). -/
def State.partGood (s : State) (b ty : Nat) : Bool :=
  match s.partOf b ty with
  | none => false
  | some i =>
    let l := s.partBytes b ty
    decide (blockCrcs (l.length / 4096 + 1) l = s.flashBytes (bankBase b + s.manNat b (partEntry i + 0x18) 8) (crcTableLen l.length)) &&
      decide (sha256 l = s.flashBytes (bankBase b + manifestAt + partEntry i + 0x20) 32)

/-- The parts in the order of their loading: MEM_CTRL, OE_CTRL, PCIE_CTRL, SEQ_UCODE, SEXTON (R576). -/
def loadOrder : List Nat := [4, 3, 5, 2, 1]

/-- The parts of a bank are loaded and started (R576). A processor that is not ready within 100 ms is the outside's doing: a free value
(log entry 5). -/
def State.loadParts (s : State) (b : Nat) : Bool × State :=
  loadOrder.foldl (fun (p : Bool × State) ty =>
    if p.1 && p.2.partGood b ty then
      let q := p.2.draw
      (Config.partReady q.1, q.2)
    else (false, p.2)) (true, s)

/-! ### Identity and the persistent copy (19 R577 to R582) -/

/-- The 4 KiB of the wrapped identity key in a bank's copy are erased: every byte is 0xFF (R577, R590; log entry 34). -/
def State.keyErased (s : State) (b : Nat) : Bool := (s.flashBytes (copyBase b + 0x3000) 0x1000).all (fun x => decide (x = 0xFF))

/-- The wrapped identity key of a bank's copy is erased (R590). -/
def State.eraseKey (s : State) (b : Nat) : State := s.flashPut (copyBase b + 0x3000) (List.replicate 0x1000 0xFF)

/-- A key erased in either copy is erased in the other (R590). -/
def State.eraseRest (s : State) : State :=
  if s.keyErased 0 then (if s.keyErased 1 then s else s.eraseKey 1) else if s.keyErased 1 then s.eraseKey 0 else s

/-- DEVICE_ID of the copy in use: the SHA-256 of the 388 public key bytes (R579). -/
def State.deviceId (s : State) : List Byte := sha256 (s.flashBytes (copyBase (s.copyBank.getD 0) + 0x4000) 388)

/-- A number in the copy in use. -/
def State.copyNat (s : State) (o n : Nat) : Nat := leNat (s.flashBytes (copyBase (s.copyBank.getD 0) + o) n)

/-- A digest shown in four registers (R593): register j holds bytes 8 j to 8 j + 7. -/
def State.setDigest (s : State) (f : Field) (l : List Byte) : State :=
  (List.range 4).foldl (fun t j => t.setReg f (imgNat l (8 * j) 8) j) s

/-- A digest as four registers show it. -/
def State.digest (s : State) (f : Field) : List Byte := (List.range 4).flatMap (fun j => leBytes 8 (s.reg f j))

/-- The challenge: SHA-256 of DEVICE_ID, BOOT_COUNT and TRIES (R590), shown in BOOT_DBG_CHAL. -/
def State.setChallenge (s : State) : State :=
  s.setDigest F.BOOT_DBG_CHAL_DIGEST (sha256 (s.digest F.BOOT_DEVICE_ID_DIGEST ++ leBytes 8 (s.copyNat 0x10 8) ++
    leBytes 8 (s.reg F.BOOT_DEBUG_TRIES)))

/-- The counter advances to `v` (R582): the Sexton signs a new record, and the persistent copy takes it. COUNTER never falls, and it rises
only with IDENTITY_V. -/
def State.raiseCounter (s : State) (v : Nat) : State :=
  if s.reg F.BOOT_STATUS_IDENTITY_V = 1 ∧ s.reg F.BOOT_COUNTER_COUNTER < v then
    let d := s.draw
    let rec0 := fitBytes 32 (leBytes 4 v) ++ s.digest F.BOOT_DEVICE_ID_DIGEST ++ List.replicate 64 0
    let sig := fitBytes 384 (Config.signature d.1)
    let s1 := (d.2.putBoot { d.2.boot with signed := d.2.boot.signed ++ [(rec0, sig)] })
    (s1.writeCopy [(0x180, rec0 ++ sig)]).setReg F.BOOT_COUNTER_COUNTER v
  else s

/-- The digests of the firmware of a bank (R581): first stage, manifest and parts 1 to 5; the record's stays. -/
def State.measureBank (s : State) (b : Nat) : State :=
  let cfg := s.boot.measure.getD 7 (List.replicate 32 0)
  (s.putBoot { s.boot with measure :=
      [sha256 (s.firstStageCode b), sha256 (s.manifest b)] ++ (List.range 5).map (fun i => sha256 (s.partBytes b (i + 1))) ++ [cfg] })

/-- The firmware of a bank runs: BANK, BOOT_FW and the measurements show it (R580, R581, R593). -/
def State.runBank (s : State) (b : Nat) : State :=
  (((s.setReg F.BOOT_STATUS_BANK b).setReg F.BOOT_FW_SVN (s.manSvn b)).setReg F.BOOT_FW_FW_VERSION (s.manFw b)).measureBank b

/-! ### The mask ROM and the watchdog (19 R566, R571) -/

/-- The banks that the ROM tries, in order: those with a valid MAGIC, the higher BANK_SEQ first, A first on a tie (R571). -/
def State.romOrder (s : State) : List Nat :=
  (if s.bankSeq 0 < s.bankSeq 1 then [1, 0] else [0, 1]).filter s.bankMagic

/-- The bank being tried: the first that has not been rejected. -/
def State.romNext (s : State) : List Nat := s.romOrder.filter (fun b => decide (b ∉ s.boot.tried))

/-- The mask ROM tries its banks (R571): the first that passes is started; when none does, BOOT_UE. -/
def State.romAccept (s : State) : State :=
  if s.boot.step ≠ 2 then s
  else match s.romNext.find? s.headerGood with
  | none => (s.putBoot { s.boot with step := 0 }).c4Fault 5
  | some b =>
    let s1 := (s.putBoot { s.boot with step := 3, home := b })
    (((s1.setReg F.BOOT_STATUS_STAGE 1).setReg F.BOOT_STATUS_BANK b).setReg F.BOOT_STATUS_FALLBACK
      (if s.romOrder.head? = some b then 0 else 1))

/-- ROM_BANK_ACCEPT (01 R54; 19 R564, R569, R571). -/
def execRomBankAccept (s : State) : Host.Outcome State Fault Refusal := .next s.romAccept

/-- A bank is rejected and the ROM goes on with the other (R566, R571, R576). -/
def State.rejectBank (s : State) (b : Nat) : State :=
  (s.putBoot { s.boot with step := 2, tried := b :: s.boot.tried }).setReg F.BOOT_STATUS_STAGE 0

/-- The Sexton's watchdog expires (R566; 17 R516): a failure of the bank being tried in steps 2 and 3, a C3 fault after them. -/
def State.wdog (s : State) : State :=
  match s.boot.step with
  | 0 => s
  | 2 => (match s.romNext with | b :: _ => s.rejectBank b | [] => s)
  | 3 => s.rejectBank s.boot.home
  | _ => s.detect 0x2005 4 0 7 none

/-- SEXTON_WDOG (17 R514, R516; 19 R566). -/
def execSextonWdog (s : State) : Host.Outcome State Fault Refusal := .next s.wdog

/-! ### The first stage (19 R576 to R582) -/

/-- Whether a device configuration record is to be applied (R578): it serves this device, its CLEAR_ID is above LAST_CLEAR, and no map of its
REPAIR breaks R198. -/
def State.cfgApplies (s : State) (r : List Byte) : Bool :=
  decide (r.take 32 = s.digest F.BOOT_DEVICE_ID_DIGEST) && decide (s.copyNat 0x18 4 < imgNat r 0x20 4) &&
    (List.range 64).all (fun n => !repBad 0 (imgNat r (0x28 + 4 * n) 4) false)

/-- The first record of a bank's manifest that applies. -/
def State.cfgFor (s : State) (b : Nat) : Option (List Byte) :=
  ((List.range (s.devCfgs b)).map (s.cfgRecord b)).find? s.cfgApplies

/-- The fence map record with the bits of FENCE_CLEAR cleared (R575, R578). -/
def fenceCleared (old clear : List Byte) : List Byte := (old.zip (clear ++ List.replicate 96 0)).map (fun p => p.1 &&& ~~~p.2)

/-- The start's update of the persistent copy, and the registers that take the maps (R578). -/
def State.startCopy (s : State) (b : Nat) : State :=
  let base := copyBase (s.copyBank.getD 0)
  let fence := s.flashBytes (base + 0x20) 96
  let rep := s.flashBytes (base + 0x80) 256
  let count := s.copyNat 0x10 8 + 1
  let cfg := s.cfgFor b
  let fence1 := match cfg with | some r => fenceCleared fence ((r.drop 0x128).take 96) | none => fence
  let rep1 := match cfg with | some r => (r.drop 0x28).take 256 | none => rep
  let last := match cfg with | some r => (r.drop 0x20).take 4 | none => s.flashBytes (base + 0x18) 4
  let s1 := s.writeCopy [(0x10, leBytes 8 count), (0x18, last), (0x20, fence1), (0x80, rep1)]
  let s2 := (List.range 10).foldl (fun t j => t.setReg F.FLT_FENCE_MAP (imgNat fence1 (8 * (j + 1)) 8) j) s1
  let s3 := (List.range 64).foldl (fun t n => t.setRepMap n (imgNat rep1 (4 * n) 4)) s2
  let cfgSum := match cfg with | some r => sha256 r | none => List.replicate 32 0
  ((s3.setReg F.BOOT_STATUS_BOOT_COUNT count).putBoot { s3.boot with measure := List.replicate 7 [] ++ [cfgSum] })

/-- The identity and the counter as the start finds them (R579, R582). -/
def State.startIdentity (s : State) : State :=
  let d := s.draw
  let b := s.copyBank.getD 0
  let ok := Config.unwraps d.1 && !s.keyErased b
  ((d.2.setReg F.BOOT_STATUS_IDENTITY_V (b2n ok)).setDigest F.BOOT_DEVICE_ID_DIGEST s.deviceId).setReg F.BOOT_COUNTER_COUNTER
    (s.copyNat 0x180 4)

/-- The first stage (R576 to R579, R582, R590): a key erased in one copy is erased in the other; no valid copy is BOOT_UE; a manifest or a
part that fails rejects the bank; else the memories are trained. -/
def State.firstStage (s0 : State) : State :=
  if s0.boot.step ≠ 3 then s0
  else
    let s := s0.eraseRest
    let b := s.boot.home
    if s.copyBank.isNone then (s.putBoot { s.boot with step := 0 }).c4Fault 5
    else
      let s1 := s.startIdentity
      if !s1.manifestGood b then s1.rejectBank b
      else
        let p := (s1.startCopy b).loadParts b
        if !p.1 then p.2.rejectBank b
        else
          let s2 := ((p.2.raiseCounter (s1.manSvn b)).runBank b).setChallenge
          let s3 := (s2.putBoot { s2.boot with step := 4 }).setReg F.BOOT_STATUS_STAGE 2
          (List.range 16).foldl (fun t n => t.setReg F.MEM_STACK_STATE 1 n) s3

/-- FIRST_STAGE (00 R18; 01 R54; 05 R198; 17 R530; 19 R564, R571, R573 to R579, R582, R590). -/
def execFirstStage (s : State) : Host.Outcome State Fault Refusal := .next s.firstStage

/-- Memory training ends (R567): a stack that failed three attempts stays FAILED and the start fails; the Acvel link begins training all
the same. -/
def State.trainingEnd (s : State) (failed : Nat) : State :=
  if s.boot.step ≠ 4 then s
  else
    let s1 := (List.range 16).foldl (fun t n => t.setReg F.MEM_STACK_STATE (if failed.testBit n then 3 else 2) n) s
    let s2 := if failed % 2 ^ 16 = 0 then s1.setReg F.BOOT_STATUS_STAGE 3
      else (s1.setReg F.BOOT_STATUS_FAIL 1).setReg F.BOOT_STATUS_STAGE 5
    (s2.putBoot { s2.boot with step := 5 }).acvTrain

/-- MEM_TRAINING_END (15 R469; 19 R564, R567). -/
def execMemTrainingEnd (failed : BitVec 16) (s : State) : Host.Outcome State Fault Refusal := .next (s.trainingEnd failed.toNat)

/-! ### Updates (19 R583 to R588) -/

/-- BOOT_UPDATE.STATE (R593): 0 NONE, 1 STAGING, 2 STAGED, 3 ARMED, 4 TRIAL. -/
def State.updState (s : State) : Nat := s.reg F.BOOT_UPDATE_STATE

/-- BOOT_STAGED (R593). -/
def State.setStaged (s : State) (svn fw : Nat) : State := (s.setReg F.BOOT_STAGED_SVN svn).setReg F.BOOT_STAGED_FW_VERSION fw

/-- BOOT_STAGE (00 R22; 19 R583, R591): the image is read from host memory, and staging begins. `ok`: the host read succeeded. -/
def State.bootStage (s : State) (d : Desc) (host len : Nat) (ok : Bool) : State :=
  if len = 0 then s.complete d 1
  else if s.updState ≠ 0 ∧ s.updState ≠ 2 then s.complete d 0x84
  else if 0x3F000000 < len then s.complete d 0x80
  else if !ok then ((s.setReg F.BOOT_UPDATE_STATE 0).setStaged 0 0).complete d 0x14
  else
    let img := (s.host.filter (fun e => decide (host ≤ e.1) && decide (e.1 < host + len))).map (fun e => Prod.mk (e.1 - host) e.2)
    ((s.putBoot { s.boot with stage := some d, imageLen := len, image := img }).setReg F.BOOT_UPDATE_STATE 1).setStaged 0 0

/-- BOOT_STAGE (19 R573, R583, R591). -/
def execBootStage (d : Desc) (ws : List (BitVec 64)) (ok : Bool) (s : State) : Host.Outcome State Fault Refusal :=
  .next (s.accept d (fun t => t.bootStage d (ws.getD 0 0).toNat (ws.getD 1 0).toNat ok))

/-- The staged image in bank `b`, with BANK_SEQ written as 0 (R583). -/
def State.writeImage (s : State) (b : Nat) : State :=
  let base := bankBase b
  let m := s.boot.image.foldl (fun m e => memPut m (base + e.1) e.2) (tabClear s.flash base (base + s.boot.imageLen))
  (s.putFlash (memWrite m (base + 8) (List.replicate 8 0)))

/-- The length of the image covers the manifest and every part (R583). -/
def State.imageCovers (s : State) (b : Nat) : Bool :=
  let n := s.boot.imageLen
  decide (manifestAt + s.manLen b ≤ n) && (List.range 5).all (fun i =>
    match s.partOf b (i + 1) with
    | none => false
    | some e =>
      let k := s.manNat b (partEntry e + 0x10) 8
      decide (s.manNat b (partEntry e + 0x08) 8 + k ≤ n) && decide (s.manNat b (partEntry e + 0x18) 8 + crcTableLen k ≤ n))

/-- The first check of R583 that fails, as its code, or 0. `flashOk`: every program and erase succeeded. -/
def State.stageCode (s : State) (b : Nat) (flashOk : Bool) : Nat :=
  if !(s.bankMagic b && s.manMagic b && decide (s.devCfgs b ≤ 2044) && s.imageCovers b && s.manFields b) then 0x80
  else if !(s.headerGood b && s.manSigned b) then 0x81
  else if !s.firstDigestGood b then 0x80
  else if s.manSvn b < s.reg F.BOOT_COUNTER_COUNTER then 0x83
  else if !((List.range 5).all (fun i => s.partGood b (i + 1))) then 0x82
  else if !flashOk then 0x8C
  else 0

/-- Staging ends (R583): the image lies in the bank that the device did not start from, and the checks give the code. -/
def State.stagingEnd (s : State) : State :=
  match s.boot.stage with
  | none => s
  | some d =>
    let b := 1 - s.boot.home
    let p := (s.writeImage b).draw
    let s1 := (p.2.putBoot { p.2.boot with stage := none, imageLen := 0, image := [] })
    let code := p.2.stageCode b (Config.flashOk p.1)
    (if code = 0 then (s1.setReg F.BOOT_UPDATE_STATE 2).setStaged (s1.manSvn b) (s1.manFw b)
      else (s1.setReg F.BOOT_UPDATE_STATE 0).setStaged 0 0).complete d code

/-- BOOT_STAGING_END (19 R571, R573 to R576, R582, R583). -/
def execBootStagingEnd (s : State) : Host.Outcome State Fault Refusal := .next s.stagingEnd

/-- BOOT_ACTIVATE (R584): a staged update is armed. -/
def State.bootActivate (s : State) (d : Desc) (upd rev : Nat) : State :=
  if s.updState ≠ 2 then s.complete d 0x85
  else if upd < s.toll + 25000 ∨ rev < upd + 12500000000 then s.complete d 0x86
  else (((s.putBoot { s.boot with armed := some d }).setReg F.BOOT_UPDATE_STATE 3).setReg F.BOOT_UPDATE_TOLL_TOLL upd).setReg
    F.BOOT_REVERT_TOLL_TOLL rev

/-- BOOT_ACTIVATE (19 R584, R591). -/
def execBootActivate (d : Desc) (ws : List (BitVec 64)) (s : State) : Host.Outcome State Fault Refusal :=
  .next (s.accept d (fun t => t.bootActivate d (ws.getD 0 0).toNat (ws.getD 1 0).toNat))

/-- The descriptor of the armed update completes. -/
def State.armedDone (s : State) (code : Nat) : State :=
  match s.boot.armed with
  | none => s
  | some d => (s.putBoot { s.boot with armed := none }).complete d code

/-- A Score loads, runs or is being paused (R585, R590). -/
def State.scoreBusy (s : State) : Bool := decide (s.scoreState ∈ ([1, 3, 4] : List Nat))

/-- A firmware restart begins (R585, R586, R588). -/
def State.beginRestart (s : State) (how : Nat) : State :=
  (s.putBoot { s.boot with restart := how, revertDue := 0 }).setReg F.BOOT_STATUS_STAGE 4

/-- The Toll count reaches UPDATE_TOLL on an ARMED device (R585). -/
def State.updateToll (s : State) : State :=
  if s.updState ≠ 3 ∨ s.boot.restart ≠ 0 then s
  else
    let s1 := s.advanceTo (s.reg F.BOOT_UPDATE_TOLL_TOLL)
    if s1.scoreBusy || s1.ckpt.op.isSome then (s1.setReg F.BOOT_UPDATE_STATE 2).armedDone 0x84 else s1.beginRestart 1

/-- UPDATE_TOLL_REACHED (19 R576, R585, R586). -/
def execUpdateTollReached (s : State) : Host.Outcome State Fault Refusal := .next s.updateToll

/-- A trial is to be reverted (R588): a Score that loads holds the restart back. -/
def State.revertNow (s : State) (how : Nat) : State :=
  if s.scoreState = 1 then (s.putBoot { s.boot with revertDue := how }) else s.beginRestart how

/-- REVERT_TOLL is reached in a trial that has not been committed (R588). -/
def State.revertToll (s : State) : State :=
  if s.updState ≠ 4 ∨ s.boot.restart ≠ 0 ∨ s.boot.revertDue ≠ 0 then s
  else (s.advanceTo (s.reg F.BOOT_REVERT_TOLL_TOLL)).revertNow 2

/-- REVERT_TOLL_REACHED (19 R588). -/
def execRevertTollReached (s : State) : Host.Outcome State Fault Refusal := .next s.revertToll

/-- BOOT_REVERT (R588, R591): completes when the restart has ended. One that meets a revert under way joins it (log entry 36). -/
def State.bootRevert (s : State) (d : Desc) : State :=
  if s.updState ≠ 4 then s.complete d 0x85
  else
    let s1 := (s.putBoot { s.boot with revert := s.boot.revert ++ [d] })
    if s.boot.restart ≠ 0 ∨ s.boot.revertDue ≠ 0 then s1 else s1.revertNow 3

/-- BOOT_REVERT (19 R586, R588, R591). -/
def execBootRevert (d : Desc) (s : State) : Host.Outcome State Fault Refusal :=
  .next (s.accept d (fun t => t.bootRevert d))

/-- After a restart the start is again where it was: READY, or FAILED (R567, R593). -/
def State.restartOver (s : State) : State :=
  (s.putBoot { s.boot with restart := 0, revertDue := 0 }).setReg F.BOOT_STATUS_STAGE (if s.reg F.BOOT_STATUS_FAIL = 0 then 3 else 5)

/-- No Score is loaded (R585; 05 R188). -/
def State.dropScore (s : State) : State :=
  ((s.putScore { s.score with cur := none }).setReg F.SEQ_SCORE_STATE 0).setReg F.MXE_CFG_FIXED_LAT 0

/-- The restart to the staged parts ends (R585): TRIAL, or the running bank's parts again. -/
def State.trialEnd (s : State) : State :=
  let b := 1 - s.boot.home
  let p := if s.manifestGood b then s.loadParts b else (false, s)
  let s1 := p.2.restartOver
  if p.1 then ((s1.dropScore.runBank b).setReg F.BOOT_UPDATE_STATE 4).armedDone 0
  else (s1.setReg F.BOOT_UPDATE_STATE 2).armedDone 0x87

/-- The restart of a revert ends (R588). -/
def State.revertEnd (s : State) (byToll : Bool) : State :=
  let s1 := ((s.restartOver.dropScore).runBank s.boot.home).setReg F.BOOT_UPDATE_STATE 2
  let s2 := if byToll then s1.mark F.BOOT_STATUS_REVERTED else s1
  s2.boot.revert.foldl (fun t d => t.complete d 0) (s2.putBoot { s2.boot with revert := [] })

/-- A firmware restart ends (R585, R588); a revert that a load held back has run its restart since. -/
def State.restartEnd (s : State) : State :=
  if s.boot.restart = 1 then s.trialEnd
  else if s.boot.restart ≠ 0 then s.revertEnd (decide (s.boot.restart = 2))
  else if s.boot.revertDue ≠ 0 ∧ s.scoreState ≠ 1 then s.revertEnd (decide (s.boot.revertDue = 2))
  else s

/-- FIRMWARE_RESTART_END (19 R576, R585, R586, R588). -/
def execFirmwareRestartEnd (s : State) : Host.Outcome State Fault Refusal := .next s.restartEnd

/-- BOOT_COMMIT (R582, R587, R591): the trial ends with its firmware in force. -/
def State.bootCommit (s : State) (d : Desc) : State :=
  let b := 1 - s.boot.home
  if s.updState ≠ 4 then s.complete d 0x85
  else if s.reg F.BOOT_COUNTER_COUNTER < s.manSvn b ∧ s.reg F.BOOT_STATUS_IDENTITY_V = 0 then s.complete d 0x88
  else
    let s1 := (s.flashPut (bankBase b + 8) (leBytes 8 (s.bankSeq s.boot.home + 1))).raiseCounter (s.manSvn b)
    ((s1.setReg F.BOOT_UPDATE_STATE 0).setStaged 0 0).complete d 0

/-- BOOT_COMMIT (19 R582, R587, R591). -/
def execBootCommit (d : Desc) (s : State) : Host.Outcome State Fault Refusal :=
  .next (s.accept d (fun t => t.bootCommit d))

/-! ### Attestation and debug (19 R580, R581, R590) -/

/-- TYPE of each measurement in order (R581). -/
def measureTypes : List Nat := [0x0000, 0x00FF, 1, 2, 3, 4, 5, 0x00FE]

/-- The 40 bytes of each measurement in order (R580, R581). -/
def State.measurements (s : State) : List Byte :=
  (List.range 8).flatMap (fun i => fitBytes 8 (leBytes 2 (measureTypes.getD i 0)) ++ fitBytes 32 (s.boot.measure.getD i []))

/-- The attestation record but for its signature (R580). -/
def State.attestBody (s : State) (nonce : List Byte) : List Byte :=
  let flags := b2n (decide (s.updState = 4)) + 2 * s.reg F.BOOT_STATUS_BANK + 4 * s.reg F.BOOT_STATUS_FALLBACK
  fitBytes 0x80 (ascii "UN9ATTST" ++ leBytes 2 0x0100 ++ leBytes 2 8 ++ leBytes 4 flags ++ leBytes 8 s.toll ++ fitBytes 32 nonce ++
    s.digest F.BOOT_DEVICE_ID_DIGEST ++ leBytes 4 (s.reg F.BOOT_FW_SVN) ++ leBytes 4 (s.reg F.BOOT_COUNTER_COUNTER) ++
    leBytes 4 (s.reg F.BOOT_FW_FW_VERSION)) ++ s.measurements

/-- ATTEST (R580, R591). `ok`: the host write succeeded. -/
def State.attest (s : State) (d : Desc) (nonce : List Byte) (host : Nat) (ok : Bool) : State :=
  if s.reg F.BOOT_STATUS_IDENTITY_V = 0 then s.complete d 0x88
  else if !ok then s.complete d 0x14
  else
    let body := s.attestBody nonce
    let p := s.draw
    (p.2.toHost host (body ++ fitBytes 384 (Config.signature p.1))).complete d 0

/-- ATTEST (19 R580, R581, R591). -/
def execAttest (d : Desc) (ws : List (BitVec 64)) (ok : Bool) (s : State) : Host.Outcome State Fault Refusal :=
  .next (s.accept d (fun t => t.attest d ((ws.take 4).flatMap (fun w => leBytes 8 w.toNat)) (ws.getD 4 0).toNat ok))

/-- A boot descriptor is in progress (R590). -/
def State.bootBusy (s : State) : Bool :=
  s.boot.stage.isSome || s.boot.armed.isSome || !s.boot.revert.isEmpty || decide (s.boot.restart ≠ 0) || decide (s.boot.revertDue ≠ 0)

/-- A debug certificate passes for a challenge (R590). The key is FS_KEY of the bank the device started from, whose hash is VKEY_HASH. -/
def State.certGood (s : State) (c chal : List Byte) : Bool :=
  decide (c.take 8 = ascii "UN9DEBUG") && decide (imgNat c 8 2 = 0x0100) && decide ((c.drop 0x10).take 32 = s.digest F.BOOT_DEVICE_ID_DIGEST) &&
    decide ((c.drop 0x30).take 32 = chal) && decide (sha256 (s.fsKey s.boot.home) = Config.vkeyHash) &&
    pssVerify (s.fsKey s.boot.home) (c.take 0x80) ((c.drop 0x80).take 384)

/-- DEBUG_OPEN (R590, R591). `ok`: the host read succeeded. The certificate answers the challenge that stood when it was asked for (log
entry 37). -/
def State.debugOpen (s : State) (d : Desc) (host : Nat) (ok : Bool) : State :=
  if s.scoreBusy || s.bootBusy then s.complete d 0x8A
  else
    let chal := s.digest F.BOOT_DBG_CHAL_DIGEST
    let s1 := (s.tick F.BOOT_DEBUG_TRIES).setChallenge
    if !ok then s1.complete d 0x14
    else if !s.certGood (s.hostBytes host 512) chal then s1.complete d 0x89
    else
      let s2 := (((s1.eraseKey 0).eraseKey 1).setReg F.BOOT_STATUS_IDENTITY_V 0).setReg F.BOOT_DEBUG_OPEN 1
      (s2.putPins { s2.pins with jtagOpen := true }).complete d 0

/-- DEBUG_OPEN (01 R67; 19 R590, R591). -/
def execDebugOpen (d : Desc) (ws : List (BitVec 64)) (ok : Bool) (s : State) : Host.Outcome State Fault Refusal :=
  .next (s.accept d (fun t => t.debugOpen d (ws.getD 0 0).toNat ok))

end Sys2Proof.Machine
end

