-- ==== Sys2Proof/Machine/Image.lean ====
section
/-!
DEFINITION. Machine/Image.lean: state images, image heads and the flash slots that hold them (spec/18 R540 to R546, R555).
-/
namespace Sys2Proof.Machine

/-! ### The image (18 R540, R541) -/

/-- The state areas of the loaded Score, in STATE section order. -/
def State.areas (s : State) : List (Nat × Nat) := match s.score.cur with | some p => p.state | none => []

/-- S: the bytes of the image. -/
def State.imageSize (s : State) : Nat := (s.areas.map (·.2)).sum

/-- The address of an image offset (08 R293). -/
def areaAddr : List (Nat × Nat) → Nat → Option Nat
  | [], _ => none
  | a :: t, o => if o < a.2 then some (a.1 + o) else areaAddr t (o - a.2)

/-- Bytes of the image in the state areas; zero beyond its end. -/
def State.imageBytes (s : State) (o n : Nat) : List Byte :=
  (span o n).map (fun k => match areaAddr s.areas k with | some a => s.byte a | none => 0)

/-- Segments of an image of n bytes. -/
def segments (n : Nat) : Nat := (n + 0x3FFFFFFF) / 0x40000000

/-- Bytes of segment j of an image of n bytes. -/
def segBytes (n j : Nat) : Nat := min (n - j * 0x40000000) 0x40000000

/-- DIGEST of every segment of an image of n bytes that `f` reads. -/
def segDigests (f : Nat → Nat → List Byte) (n : Nat) : List (List Byte) :=
  (List.range (segments n)).map (fun j => sha256 (f (j * 0x40000000) (segBytes n j)))

/-! ### The image head (18 R542, R543) -/

/-- Bytes put over those of a list at an offset. -/
def overlay (l : List Byte) (o : Nat) (b : List Byte) : List Byte := l.take o ++ b ++ l.drop (o + b.length)

/-- A head of 1 MiB with its HEAD_DIGEST. -/
def sealHead (l : List Byte) : List Byte :=
  let h := fitBytes 0x100000 l
  overlay h 0xFE0 (sha256 (overlay h 0xFE0 (List.replicate 32 0)))

/-- The seed table as bytes. -/
def seedBytes (seeds : List Nat) : List Byte := seeds.flatMap (leBytes 8)

/-- RNG_TAG of a seed table at a Beat (18 R543). -/
def rngTag (seeds : List Nat) (beat : Nat) : Nat := srDraw (seeds.headD 0) 0xFFFF beat 0xFFFFFFFF 0xFFFFFFFF

/-- The head's first fields, to SEGMENTS. -/
def headStart (flags coord beat bytes : Nat) : List Byte :=
  ascii "UN9IMAGE" ++ leBytes 2 0x0100 ++ leBytes 2 flags ++ leBytes 4 coord ++ leBytes 8 beat ++ leBytes 8 bytes ++ leBytes 4 (segments bytes)

/-- A head with MIRROR set (18 R542, R549). -/
def mirrorHead (coord beat bytes : Nat) (digests : List Byte) : List Byte :=
  sealHead (fitBytes 0x1000 (headStart 1 coord beat bytes) ++ digests)

/-- A full head of the device's own image (18 R542): its shard list is a free value (log entry 32). -/
def State.fullHead (s : State) (p : ScoreParams) (beat seq : Nat) (digests : List Byte) : List Byte × State :=
  let n := s.imageSize
  let d := s.draw
  let list := (Config.shards d.1).take 65536
  let fixed := headStart 0 s.coord beat n ++ leBytes 4 list.length ++ p.layout ++ sha256 (seedBytes p.seeds) ++
    leBytes 8 (rngTag p.seeds beat) ++ leBytes 8 seq ++ p.digest
  let at_ := (0x1000 + 32 * segments n + 63) / 64 * 64
  (sealHead (fitBytes at_ (fitBytes 0x1000 fixed ++ digests) ++ list.flatMap (fun w => leBytes 8 w.toNat)), d.2)

/-- MAGIC, VERSION and HEAD_DIGEST of a head pass (18 R546; 00 R18). -/
def headValid (h : List Byte) : Bool :=
  decide (h.take 8 = ascii "UN9IMAGE") && decide (imgNat h 8 2 = 0x0100) &&
  decide ((h.drop 0xFE0).take 32 = sha256 (overlay h 0xFE0 (List.replicate 32 0)))

/-- MIRROR of a head. -/
def headMirror (h : List Byte) : Bool := (imgNat h 0x0A 2).testBit 0
/-- IMAGE_BEAT of a head. -/
def headBeat (h : List Byte) : Nat := imgNat h 0x10 6
/-- BYTES of a head. -/
def headBytes (h : List Byte) : Nat := imgNat h 0x18 8
/-- SHARDS of a head. -/
def headShards (h : List Byte) : Nat := imgNat h 0x24 4
/-- SAVE_SEQ of a head. -/
def headSeq (h : List Byte) : Nat := imgNat h 0x70 8
/-- DIGEST[j] of a head. -/
def headDigest (h : List Byte) (j : Nat) : List Byte := (h.drop (0x1000 + 32 * j)).take 32

/-! ### Flash slots (18 R545, R546) -/

/-- Local drives in use; 3 is treated as 0 (18 R563). -/
def State.drives (s : State) : Nat := if s.reg F.CKPT_CFG_DRIVES = 3 then 0 else s.reg F.CKPT_CFG_DRIVES

/-- Where slot n begins in the model's one space of drive bytes: 2^40 bytes a drive. -/
def State.slotBase (s : State) (n : Nat) : Nat := if s.drives = 2 then n * 2 ^ 40 else n * 2 ^ 39

/-- The head in slot n. -/
def State.slotHead (s : State) (n : Nat) : List Byte := memBytes s.nvme (s.slotBase n) 0x100000

/-- Image bytes of slot n. -/
def State.slotBytes (s : State) (n o k : Nat) : List Byte := memBytes s.nvme (s.slotBase n + 0x100000 + o) k

/-- Slot n is valid. -/
def State.slotValid (s : State) (n : Nat) : Bool := decide (s.drives ≠ 0) && headValid (s.slotHead n)

/-- CKPT_SLOTn as the slot's head gives it. -/
def State.showSlot (s : State) (n : Nat) : State :=
  let ok := s.slotValid n
  let h := if ok then s.slotHead n else []
  ((s.setReg F.CKPT_SLOT_VALID (b2n ok) n).setReg F.CKPT_SLOT_SEQ (headSeq h) n).setReg F.CKPT_SLOT_BEAT (headBeat h) n

/-- The slot heads are read (18 R563). -/
def State.showSlots (s : State) : State := if s.drives = 0 then s else (s.showSlot 0).showSlot 1

/-- The slot a save takes (18 R546): the lowest that is not valid, else the one with the lower SAVE_SEQ. -/
def State.saveSlot (s : State) : Nat :=
  if !s.slotValid 0 then 0
  else if !s.slotValid 1 then 1
  else if headSeq (s.slotHead 1) < headSeq (s.slotHead 0) then 1 else 0

/-- SAVE_SEQ of the next save (18 R546). -/
def State.nextSeq (s : State) : Nat :=
  1 + max (if s.slotValid 0 then headSeq (s.slotHead 0) else 0) (if s.slotValid 1 then headSeq (s.slotHead 1) else 0)

/-! ### Shard records (18 R555; 08 R276, R277) -/

/-- Bytes of an array of n FP32 elements, padded to 4 KiB. -/
def padded (n : Nat) : Nat := (4 * n + 4095) / 4096 * 4096

/-- Bytes of the arrays before SCALES of a kernel (08 R277). -/
def arraysBytes (kernel elems rows cols : Nat) : Nat :=
  match kernel with
  | 1 => 2 * padded elems
  | 2 => 3 * padded elems
  | 3 => 3 * padded elems
  | 4 => 2 * padded elems + padded rows + padded cols
  | _ => 2 * padded elems + 2 * padded (rows * rows) + 2 * padded (cols * cols)

/-- A positive power of two in FP32. -/
def isPow2 (v : Nat) : Bool :=
  let e := v / 2 ^ 23
  let m := v % 2 ^ 23
  if e = 0 then decide (m ≠ 0) && decide (m &&& (m - 1) = 0) else decide (e < 255) && decide (m = 0)

/-- A finite FP32 value from 0 to 1.0. -/
def inUnit (v : Nat) : Bool := decide (v ≤ 0x3F800000) || decide (v = 0x80000000)

/-- The scale byte of block b of W agrees with SCALES (18 R555; 03 R138). -/
def State.scaleGood (s : State) (ofm off elems scales b : Nat) : Bool :=
  let n := min 32 (elems - 32 * b)
  let ws := (takeNats 4 n (s.imageBytes (off + 4096 + 128 * b) (4 * n))).map (decodeF fFP32)
  decide ((encodeMx ofm ws 0 (List.replicate n 0)).1 = leNat (s.imageBytes (off + scales + b) 1))
where
  /-- n numbers of k bytes. -/
  takeNats (k : Nat) : Nat → List Byte → List Nat
    | 0, _ => []
    | n + 1, l => leNat (l.take k) :: takeNats k n (l.drop k)

/-- A shard record satisfies R555 of spec/18. -/
def State.shardGood (s : State) (off : Nat) : Bool :=
  let r := s.imageBytes off 256
  let kernel := imgNat r 0 1
  let ofm := imgNat r 1 1
  let elems := imgNat r 0x10 8
  let scales := 4096 + arraysBytes kernel elems (imgNat r 0x18 4) (imgNat r 0x1C 4)
  decide (1 ≤ kernel) && decide (kernel ≤ 5) && decide (ofm ≤ 9) && isPow2 (imgNat r 0x30 4) && inUnit (imgNat r 0x38 4) &&
  inUnit (imgNat r 0x3C 4) &&
  (!isMx ofm || decide (imgNat r 0x20 8 + imgNat r 0x2C 4 = 0) ||
    (List.range ((elems + 31) / 32)).all (s.scaleGood ofm off elems scales))

/-- Every shard of a head's list satisfies R555. -/
def State.shardsGood (s : State) (h : List Byte) : Bool :=
  let at_ := (0x1000 + 32 * segments (headBytes h) + 63) / 64 * 64
  (List.range (headShards h)).all (fun i => s.shardGood (imgNat h (at_ + 8 * i) 8))

end Sys2Proof.Machine
end

