-- ==== Sys2Proof/Machine/Ckpt.lean ====
section
/-!
DEFINITION. Machine/Ckpt.lean: the checkpoint descriptors, drive commands and restore cells (spec/18 R546 to R555, R561, R562).
-/
namespace Sys2Proof.Machine

/-! ### Operations -/

/-- A checkpoint operation starts, and shows in CKPT_STATUS.OP. -/
def State.startOp (s : State) (o : CkptOp) : State :=
  let s1 := ((s.putCkpt ⟨some o⟩).setReg F.CKPT_STATUS_OP o.op).setReg F.CKPT_PROGRESS_BYTES 0
  s1.setReg F.CKPT_PROGRESS_SEGMENT 0

/-- The operation in progress goes on. -/
def State.putOp (s : State) (o : CkptOp) : State := (s.putCkpt ⟨some o⟩)

/-- The operation ends with a code. -/
def State.endOp (s : State) (o : CkptOp) (code : Nat) : State :=
  ((s.putCkpt ⟨none⟩).setReg F.CKPT_STATUS_OP 0).complete o.desc code

/-- CKPT_PROGRESS (18 R563). -/
def State.progress (s : State) (bytes seg : Nat) : State :=
  (s.setReg F.CKPT_PROGRESS_BYTES bytes).setReg F.CKPT_PROGRESS_SEGMENT seg

/-- CKPT_SAVE and CKPT_FILL may start (18 R546, R549). -/
def State.maySave (s : State) : Bool :=
  decide (s.scoreState ∈ ([5, 6, 7] : List Nat)) && decide (s.reg F.CKPT_STATUS_NEXT_V = 1) && decide (s.reg F.CKPT_STATUS_DIRTY = 0) &&
  s.ckpt.op.isNone && s.score.cur.isSome

/-- The first poisoned block of an image in the state areas. -/
def State.imagePoison (s : State) : Option Nat := s.areas.findSome? (fun a =>
  s.poison.find? (fun u => decide (a.1 ≤ u) && decide (u < a.1 + a.2)))

/-- A drive command goes out (18 R545). -/
def State.driveOut (s : State) (o : CkptOp) : State := s.emit (.drive (decide (o.op = 1)) o.slot o.pos)

/-! ### CKPT_SAVE (18 R546) -/

/-- A save starts: with no drive it fails at once (log entry 33). -/
def State.ckptSave (s : State) (d : Desc) : State :=
  if !s.maySave then s.complete d 0x76
  else if s.drives = 0 then s.complete d 0x77
  else match s.imagePoison with
  | some a => (s.meetPoison 4 a 1).complete d 0x15
  | none =>
    let o : CkptOp := ⟨d, 1, 0, s.saveSlot, 0, s.reg F.CKPT_STATUS_NEXT_BEAT, 0, 0, 0, s.toll, [], []⟩
    (s.startOp o).driveOut o

/-- CKPT_SAVE (18 R542, R543, R545, R546). -/
def execCkptSave (d : Desc) (_ws : List (BitVec 64)) (s : State) : Host.Outcome State Fault Refusal :=
  .next (s.serve d (fun t => t.ckptSave d))

/-- The drive command of a save that has completed takes effect: a segment of the image, the head but its first block, a Flush,
the first block, a Flush. -/
def State.saveStep (s : State) (o : CkptOp) : State :=
  let n := s.imageSize
  let k := segments n
  let base := s.slotBase o.slot
  if o.pos < k then
    let b := s.imageBytes (o.pos * 0x40000000) (segBytes n o.pos)
    let o1 := { o with pos := o.pos + 1, digests := o.digests ++ sha256 b }
    let s1 := (s.putNvme (memWrite s.nvme (base + 0x100000 + o.pos * 0x40000000) b))
    ((s1.putOp o1).progress (min n ((o.pos + 1) * 0x40000000)) o.pos).driveOut o1
  else if o.pos = k then
    match s.score.cur with
    | none => s.endOp o 0x77
    | some p =>
      let h := s.fullHead p o.start s.nextSeq o.digests
      let o1 := { o with pos := o.pos + 1, head := h.1 }
      ((h.2.putNvme (memWrite h.2.nvme (base + 4096) (h.1.drop 4096))).putOp o1).driveOut o1
  else if o.pos = k + 2 then
    let o1 := { o with pos := o.pos + 1 }
    ((s.putNvme (memWrite s.nvme base (o.head.take 4096))).putOp o1).driveOut o1
  else if o.pos = k + 3 then (s.endOp o 0).showSlots
  else
    let o1 := { o with pos := o.pos + 1 }
    (s.putOp o1).driveOut o1

/-! ### The checks of a restore (18 R553) -/

/-- Check 2 of a head that should be of `coord`. -/
def headBad (h : List Byte) (coord : Nat) (mirror : Option Bool) (beat : Option Nat) : Bool :=
  !headValid h || decide (imgNat h 0x20 4 ≠ segments (headBytes h)) || decide (65536 < headShards h) || decide (imgNat h 0x0C 4 ≠ coord) ||
  (match mirror with | some m => headMirror h != m | none => false) || (match beat with | some b => decide (headBeat h ≠ b) | none => false)

/-- Checks 3 and 4 of a full head; 0 when both pass. -/
def State.headCode (s : State) (h : List Byte) (start : Nat) : Nat :=
  match s.score.cur with
  | none => 0x51
  | some p =>
    if (h.drop 0x28).take 32 ≠ p.layout ∨ headBytes h ≠ s.imageSize then 0x51
    else if headBeat h ≠ start ∨ (h.drop 0x48).take 32 ≠ sha256 (seedBytes p.seeds) ∨ imgNat h 0x68 8 ≠ rngTag p.seeds start then 0x70
    else 0

/-- Checks 2 to 4 of a head for MODE 1 or CKPT_LOAD. -/
def State.fullCode (s : State) (h : List Byte) (start : Nat) : Nat :=
  if headBad h s.coord (some false) none then 0x71 else s.headCode h start

/-- The restore's bytes: of the state areas, or of the mirror in MODE 2. -/
def State.restored (s : State) (o : CkptOp) (off n : Nat) : List Byte :=
  if o.mode = 2 then s.bytes (tier2 + off) n else s.imageBytes off n

/-- A restore passes: DIRTY clears, NEXT_BEAT is START_BEAT, and MODE 2 sets MIRROR_BEAT (18 R547, R554). -/
def State.restoreDone (s : State) (o : CkptOp) : State :=
  let s1 := ((s.setReg F.CKPT_STATUS_DIRTY 0).setReg F.CKPT_STATUS_NEXT_BEAT o.start).setReg F.CKPT_STATUS_NEXT_V 1
  let s2 := if o.mode = 2 then
      (((s1.setReg F.OPT_MIRROR_BEAT_BEAT ((o.start + 2 ^ 48 - 1) % 2 ^ 48)).setReg F.OPT_MIRROR_BEAT_VALID 1).setReg
        F.CKPT_STATUS_MIRROR_POISON 0).setReg F.OPT_RIDE_STATUS_CONSISTENT 1
    else s1
  s2.endOp o 0

/-- Checks 6 and 7 once every byte is there; `full` where the head is a full one (18 R553, R554). -/
def State.restoreEnd (s : State) (o : CkptOp) (full : Bool) : State :=
  let ds := segDigests (s.restored o) (headBytes o.head)
  let bad := ((List.range ds.length).filter (fun j => decide (ds.getD j [] ≠ headDigest o.head j))).length
  if bad ≠ 0 then (s.count F.CKPT_COUNTS_DIGEST_FAIL bad).endOp o 0x72
  else if full && !s.shardsGood o.head then s.endOp o 0x75
  else s.restoreDone o

/-- Where a block of a restore lies: in the state areas, in MODE 2 in the mirror area; none outside them (18 R551). -/
def State.restoreAddr (s : State) (o : CkptOp) (off : Nat) : Option Nat :=
  if o.mode = 2 then (if off + 64 ≤ 448 * 0x40000000 then some (tier2 + off) else none) else areaAddr s.areas off

/-- A block of 64 bytes written directly (18 R551). -/
def State.restoreBlock (s : State) (o : CkptOp) (off : Nat) (b : List Byte) : State :=
  match s.restoreAddr o off with
  | none => s
  | some a =>
    let s1 := ((s.poke a b).cleanse a 64).mark F.CKPT_STATUS_DIRTY
    if o.mode = 2 then s1.setReg F.OPT_RIDE_STATUS_CONSISTENT 0 else s1

/-! ### CKPT_LOAD (18 R552, R553) -/

/-- Check 1 for MODE 0, MODE 1 and CKPT_LOAD. -/
def State.mayRestore (s : State) : Bool := s.ckpt.op.isNone && decide (s.scoreState ∈ ([2, 5, 6, 7] : List Nat))

/-- A load starts: the head of the slot is read. -/
def State.ckptLoad (s : State) (d : Desc) (slot start : Nat) : State :=
  if !s.mayRestore then s.complete d 0x76
  else if s.drives = 0 then s.complete d 0x78
  else
    let o : CkptOp := ⟨d, 2, 1, slot, 0, start, 0, 0, 0, s.toll, [], []⟩
    (s.startOp o).driveOut o

/-- CKPT_LOAD (00 R18; 18 R552, R553). -/
def execCkptLoad (d : Desc) (ws : List (BitVec 64)) (s : State) : Host.Outcome State Fault Refusal :=
  .next (s.serve d (fun t => t.ckptLoad d ((ws.getD 0 0).toNat % 2) ((ws.getD 1 0).toNat % 2 ^ 48)))

/-- After a segment of a load: the next, or the last checks. -/
def State.loadNext (s : State) (o : CkptOp) : State :=
  if segments (headBytes o.head) < o.pos then s.restoreEnd o true else (s.putOp o).driveOut o

/-- A drive command of a load that has completed takes effect: the head with checks 2 to 4, then a segment. -/
def State.loadStep (s : State) (o : CkptOp) : State :=
  if o.pos = 0 then
    let h := s.slotHead o.slot
    let code := if !s.slotValid o.slot then 0x78 else s.fullCode h o.start
    if code ≠ 0 then s.endOp o code else s.loadNext { o with pos := 1, head := h }
  else
    let n := headBytes o.head
    let j := o.pos - 1
    let bs := (List.range (segBytes n j / 64)).map (fun i => (j * 0x40000000 + 64 * i, s.slotBytes o.slot (j * 0x40000000 + 64 * i) 64))
    let s1 := bs.foldl (fun t b => t.restoreBlock o b.1 b.2) s
    (s1.progress (min n ((j + 1) * 0x40000000)) j).loadNext { o with pos := o.pos + 1 }

/-- A drive command ends (18 R546, R552): in error it ends its operation with NVME_ERR and counts. -/
def State.nvmeEnd (s : State) (ok : Bool) : State :=
  match s.ckpt.op with
  | none => s
  | some o =>
    if o.op ≠ 1 ∧ o.op ≠ 2 then s
    else if !ok then (s.count F.CKPT_COUNTS_NVME_FAIL).endOp o 0x77
    else if o.op = 1 then s.saveStep o
    else s.loadStep o

/-- NVME_COMPLETION (18 R545, R546, R552 to R555). -/
def execNvmeCompletion (ok : Bool) (s : State) : Host.Outcome State Fault Refusal := .next (s.nvmeEnd ok)

/-! ### Restore cells that leave (18 R548, R549) -/

/-- Pieces of k bytes of a list, the last one short, with fuel. -/
def pieces (k : Nat) : Nat → List Byte → List (List Byte)
  | 0, _ => []
  | n + 1, l => if l.isEmpty then [] else l.take k :: pieces k n (l.drop k)

/-- One restore cell: open DATA on OP0 from this device's MEMBER 0xFF. -/
def State.restoreCell (s : State) (route msg cidx off : Nat) (first last : Bool) (b : List Byte) : State :=
  match s.mcCluster 0 with
  | none => s
  | some c =>
    let p := payOf (ridePay off (pieces 64 8 (fitBytes ((b.length + 63) / 64 * 64) b)))
    s.inject c ⟨hdrOf s.beat route s.acre 0 2 0 false first last 480, dataExt (s.srcOf 255) msg cidx 0 p, p⟩

/-- A message of restore cells, seven blocks a cell. -/
def State.restoreMsg (s : State) (route msg base : Nat) (l : List Byte) : State :=
  let ps := pieces 448 (l.length / 448 + 1) l
  ((List.range ps.length).zip ps).foldl (fun t p =>
    t.restoreCell route msg p.1 (base + 448 * p.1) (decide (p.1 = 0)) (decide (p.1 + 1 = ps.length)) p.2) s

/-- An image that `f` reads and its head leave, segment by segment (18 R548). -/
def State.sendImage (s : State) (route n : Nat) (f : Nat → Nat → List Byte) (head : List Byte) : State :=
  let s1 := foldKeys (List.range (segments n)) (fun t j => t.restoreMsg route j (j * 0x40000000) (f (j * 0x40000000) (segBytes n j))) s
  (s1.restoreMsg route 0xFFFF (2 ^ 63) head).progress n (segments n - 1)

/-- A holder sends its mirror (18 R541, R548, R549). -/
def State.ckptSend (s : State) (d : Desc) (route start n : Nat) : State :=
  if n = 0 then s.complete d 1
  else if s.ckpt.op.isSome ∨ s.scoreState ∈ ([1, 3, 4] : List Nat) then s.complete d 0x76
  else if s.reg F.OPT_HOLD_CFG_HOLD = 0 ∨ s.reg F.OPT_MIRROR_BEAT_VALID = 0 ∨
      s.reg F.OPT_MIRROR_BEAT_BEAT ≠ (start + 2 ^ 48 - 1) % 2 ^ 48 ∨ s.reg F.CKPT_STATUS_MIRROR_POISON = 1 then s.complete d 0x73
  else if 448 * 0x40000000 < n then s.complete d 0x12
  else match s.poison.find? (fun u => decide (tier2 ≤ u) && decide (u < tier2 + n)) with
  | some a => (s.meetPoison 4 a 1).complete d 0x15
  | none =>
    let f := fun (o k : Nat) => s.bytes (tier2 + o) k
    (s.sendImage route n f (mirrorHead (s.reg F.OPT_HOLD_CFG_SOURCE) start n (segDigests f n).flatten)).complete d 0

/-- CKPT_SEND (18 R541, R548, R549). -/
def execCkptSend (d : Desc) (ws : List (BitVec 64)) (s : State) : Host.Outcome State Fault Refusal :=
  .next (s.serve d (fun t => t.ckptSend d ((ws.getD 0 0).toNat % 65536) ((ws.getD 1 0).toNat % 2 ^ 48) ((ws.getD 2 0).toNat % 2 ^ 48)))

/-- A source sends its own image at NEXT_BEAT with a full head (18 R543, R548, R549). -/
def State.ckptFill (s : State) (d : Desc) (route : Nat) : State :=
  if !s.maySave then s.complete d 0x76
  else match s.imagePoison, s.score.cur with
  | some a, _ => (s.meetPoison 4 a 1).complete d 0x15
  | none, none => s.complete d 0x76
  | none, some p =>
    let n := s.imageSize
    let q := s.draw
    let h := q.2.fullHead p (s.reg F.CKPT_STATUS_NEXT_BEAT) (Config.fillSeq q.1).toNat (segDigests s.imageBytes n).flatten
    (h.2.sendImage route n s.imageBytes h.1).complete d 0

/-- CKPT_FILL (18 R543, R548, R549). -/
def execCkptFill (d : Desc) (ws : List (BitVec 64)) (s : State) : Host.Outcome State Fault Refusal :=
  .next (s.serve d (fun t => t.ckptFill d ((ws.getD 0 0).toNat % 65536)))

/-- A valid slot leaves, image and head as stored (18 R548, R549). -/
def State.ckptUpload (s : State) (d : Desc) (route slot : Nat) : State :=
  if s.ckpt.op.isSome then s.complete d 0x76
  else if !s.slotValid slot then s.complete d 0x78
  else
    let h := s.slotHead slot
    (s.sendImage route (headBytes h) (s.slotBytes slot) h).complete d 0

/-- CKPT_UPLOAD (18 R548, R549). -/
def execCkptUpload (d : Desc) (ws : List (BitVec 64)) (s : State) : Host.Outcome State Fault Refusal :=
  .next (s.serve d (fun t => t.ckptUpload d ((ws.getD 0 0).toNat % 65536) ((ws.getD 0 0).toNat / 65536 % 2)))

/-! ### The receive window (18 R551, R553) -/

/-- A receive window opens. MODE 3 names nothing and completes with DESC_BAD (log entry 33). -/
def State.ckptReceive (s : State) (d : Desc) (mode source start head : Nat) : State :=
  let o : CkptOp := ⟨d, 3, mode, 0, source, start, 0, 0, 0, s.toll, List.replicate 0x100000 0, []⟩
  if mode = 3 then s.complete d 0x10
  else if mode = 2 then
    if s.ckpt.op.isSome ∨ s.reg F.OPT_HOLD_CFG_HOLD = 0 ∨ s.scoreState ∈ ([1, 3, 4] : List Nat) then s.complete d 0x76
    else s.startOp o
  else if !s.mayRestore then s.complete d 0x76
  else if mode = 0 then s.startOp o
  else
    let h := s.hostBytes head 0x100000
    let code := s.fullCode h start
    if code ≠ 0 then s.complete d code
    else if headBytes h = 0 then (s.startOp { o with head := h }).restoreEnd { o with head := h } true
    else s.startOp { o with head := h }

/-- CKPT_RECEIVE (18 R551, R553). -/
def execCkptReceive (d : Desc) (ws : List (BitVec 64)) (s : State) : Host.Outcome State Fault Refusal :=
  .next (s.serve d (fun t => t.ckptReceive d ((ws.getD 0 0).toNat % 4) ((ws.getD 1 0).toNat % 2 ^ 40) ((ws.getD 2 0).toNat % 2 ^ 48)
    (ws.getD 3 0).toNat))

/-- Checks 2 and 3 of a head that came as cells (18 R553); 0 when they pass. -/
def State.cellHeadCode (s : State) (o : CkptOp) : Nat :=
  if o.mode = 0 then
    if headBad o.head s.coord (some true) (some o.start) then 0x71
    else if headBytes o.head ≠ s.imageSize then 0x51 else 0
  else if headBad o.head (s.reg F.OPT_HOLD_CFG_SOURCE) none (some o.start) then 0x71
  else if 448 * 0x40000000 < headBytes o.head then 0x51 else 0

/-- Whether every byte has arrived (18 R553): the blocks of BYTES, and in MODE 0 and MODE 2 the head. -/
def CkptOp.full (o : CkptOp) : Bool :=
  (decide (o.mode = 1) || decide (16384 ≤ o.headBlocks)) && decide ((headBytes o.head + 63) / 64 ≤ o.blocks)

/-- The blocks of a restore cell taken into the window. -/
def State.takeBlocks (s : State) (o : CkptOp) (off : Nat) (bs : List (List Byte)) : State :=
  let ps := (List.range bs.length).zip bs
  if 2 ^ 63 ≤ off then
    if o.mode = 1 then s.putOp { o with last := s.toll }
    else
      let h := ps.foldl (fun l p => let k := off - 2 ^ 63 + 64 * p.1; if k + 64 ≤ 0x100000 then overlay l k p.2 else l) o.head
      s.putOp { o with head := h, headBlocks := o.headBlocks + bs.length, last := s.toll }
  else
    let s1 := ps.foldl (fun t p => t.restoreBlock o (off + 64 * p.1) p.2) s
    (s1.putOp { o with blocks := o.blocks + bs.length, last := s.toll }).progress (64 * (o.blocks + bs.length)) (off / 0x40000000)

/-- A restore cell at MEMBER 0xFF (18 R551, R553): one that the open window does not accept, or whose payload has no layout of R294,
is discarded and counted in STRAY. One whose blocks do not all lie in the areas it may write is an access from a cell to an address that is
closed to it: it is discarded and reported (13 R409). -/
def State.restoreIn (s : State) (d : Nat) (c : Cell) : State :=
  let pay := cPay c
  let off := leNat (pay.take 8)
  let n := leNat ((pay.drop 8).take 1)
  match s.ckpt.op with
  | none => s.count F.CKPT_COUNTS_STRAY
  | some o =>
    if o.op ≠ 3 ∨ dSrc c ≠ o.source ∨ off % 64 ≠ 0 ∨ n = 0 ∨ 7 < n then s.count F.CKPT_COUNTS_STRAY
    else if !pcrcGood c then (s.count F.XBAR_DROP_A_PCRC_BAD).detect 0x0802 3 d 4 (cellAddr 0 c)
    else if off < 2 ^ 63 ∧ (List.range n).any (fun i => (s.restoreAddr o (off + 64 * i)).isNone) then s.detect 0x0207 3 d 4 (cellAddr 0 c)
    else
      let s1 := s.takeBlocks o off (pieces 64 n ((pay.drop 32).take (64 * n)))
      match s1.ckpt.op with
      | none => s1
      | some o1 =>
        let code := if o1.mode ≠ 1 ∧ o.headBlocks < 16384 ∧ 16384 ≤ o1.headBlocks then s1.cellHeadCode o1 else 0
        if code ≠ 0 then s1.endOp o1 code
        else if o1.full then s1.restoreEnd o1 (decide (o1.mode = 1))
        else s1

/-- RESTORE_CELL_IN (00 R18; 18 R541, R542, R547, R551, R553 to R555). -/
def execRestoreCellIn (d : Bool) (cell : Cell) (s : State) : Host.Outcome State Fault Refusal :=
  .next ((s.taken cell).restoreIn (b2n d) cell)

/-- No restore cell taken for TIMEOUT × 2^20 CK ends the restore (18 R553, R563); 0 is treated as 1. -/
def State.restoreTimeout (s : State) : State :=
  match s.ckpt.op with
  | some o => if o.op = 3 then (s.advanceTo (o.last + max (s.reg F.CKPT_CFG_TIMEOUT) 1 * 2 ^ 20)).endOp o 0x74 else s
  | none => s

/-- RESTORE_TIMEOUT (18 R553). -/
def execRestoreTimeout (s : State) : Host.Outcome State Fault Refusal := .next s.restoreTimeout

end Sys2Proof.Machine
end

