-- ==== Sys2Proof/Machine/Inject.lean ====
section
/-!
DEFINITION. Machine/Inject.lean: fault injection (spec/17 R531, R532, R539).
-/
namespace Sys2Proof.Machine

/-! ### Arming (17 R531) -/

/-- The arming keys in order. -/
def injKeys : List Nat := [0x5EA1, 0x7B0D, 0x3C6F]

/-- Any break in the sequence clears its progress. -/
def State.injBreak (s : State) : State := (s.putInj { s.inj with keys := 0 })

/-- A write of INJ_ARM.KEY by the Acvel link (`host`) or the Sexton: the next key, by the same party within 2,500 CK of the first, goes
on; the first key starts anew; any other value clears the progress. -/
def State.injArm (s : State) (host : Bool) (key : Nat) : State :=
  let i := s.inj
  let fits := decide (0 < i.keys) && decide (i.host = host) && decide (s.ck ≤ i.first + 2500) && decide (injKeys[i.keys]? = some key)
  if fits then
    if i.keys = 2 then
      (s.putInj { i with keys := 0, limit := s.ck + 2500000000 }).setReg F.INJ_STATUS_ARMED 1
    else (s.putInj { i with keys := i.keys + 1 })
  else if key = 0x5EA1 then (s.putInj { i with keys := 1, host := host, first := s.ck })
  else s.injBreak

/-- INJ_ARM (17 R531). -/
def execInjArm (host : Bool) (key : BitVec 64) (s : State) : Host.Outcome State Fault Refusal :=
  .next (s.injArm host (key.toNat % 65536))

/-- The armed window ends (17 R531); a firing that is pending stays so (17 R532). -/
def State.injExpire (s : State) : State :=
  if s.reg F.INJ_STATUS_ARMED = 1 then (s.advance (s.inj.limit - s.ck)).setReg F.INJ_STATUS_ARMED 0 else s

/-- INJ_ARM_EXPIRY (17 R531, R532). -/
def execInjArmExpiry (s : State) : Host.Outcome State Fault Refusal := .next s.injExpire

/-! ### GO and its checks (17 R532) -/

/-- UNIT names a source of its LEVEL (17 R505, R506). -/
def unitGood (level unit : Nat) : Bool :=
  match level with
  | 0 => decide (unit < 512)
  | 1 => decide (unit < 64)
  | 2 => decide (unit < 296)
  | 3 => decide (unit < 8) || (decide (16 ≤ unit) && decide (unit < 32))
  | 4 => decide (unit < 9)
  | 5 => decide (unit < 1024)
  | _ => false

/-- The kinds that MODE 1 and MODE 2 corrupt real data for; MODE 3 is treated as 0 (17 R532, R539). -/
def modeGood (mode kind : Nat) : Bool :=
  if mode = 1 then decide (kind ∈ [0x0201, 0x0204, 0x0401, 0x0101, 0x0102, 0x0103, 0x0801, 0x0802])
  else if mode = 2 then decide (kind ∈ [0x0202, 0x0205, 0x0402])
  else true

/-- The target is one that may fire (17 R532). -/
def targetGood (v : Nat) : Bool :=
  let kind := bitsOf v 33 18
  kindKnown kind && decide (kind / 256 ≠ 0x80) && unitGood (bitsOf v 47 45) (bitsOf v 44 34) && modeGood (bitsOf v 61 60) kind &&
    (decide (kindClass kind ≠ 4) || v.testBit 62)

/-- A write of INJ_TARGET (17 R531, R532, R539): its RW fields take their values; GO, while ARMED and with no firing pending, is checked and
sets a pending firing or REJ. -/
def State.injTarget (s : State) (v : Nat) : State :=
  let s1 := (s.injBreak.setReg F.INJ_TARGET_GRAVE (bitsOf v 62 62)).setReg F.INJ_TARGET_MODE (bitsOf v 61 60)
  let s2 := ((s1.setReg F.INJ_TARGET_COUNT (bitsOf v 59 48)).setReg F.INJ_TARGET_LEVEL (bitsOf v 47 45)).setReg F.INJ_TARGET_UNIT (bitsOf v 44 34)
  let s3 := s2.setReg F.INJ_TARGET_KIND (bitsOf v 33 18)
  if v.testBit 63 && decide (s3.reg F.INJ_STATUS_ARMED = 1) && !s3.inj.fire then
    if targetGood v then
      let s4 := (s3.setReg F.INJ_TARGET_GO 1).setReg F.INJ_STATUS_PENDING (s3.inj.corrupt.length + max (bitsOf v 59 48) 1)
      s4.putInj { s3.inj with fire := true, target := v, due := s3.reg F.INJ_TOLL_WHEN }
    else s3.mark F.INJ_STATUS_REJ
  else s3

/-- INJ_GO (17 R532): a write of INJ_TARGET. -/
def execInjGo (_host : Bool) (v : BitVec 64) (s : State) : Host.Outcome State Fault Refusal := .next (s.injTarget v.toNat)

/-! ### Firing (17 R532) -/

/-- A flag and a cause in the device's next seal, while a Score runs (02 R82). -/
def State.sealFlag (s : State) (flag cause : Nat) : State :=
  if s.running then
    let r := s.roundFor s.scoreAcre s.beat
    s.putRound { r with flags := r.flags ||| flag, cause := r.cause ||| cause }
  else s

/-- The seal effects of a row of R516 that are not the kind's alone (17 R516). -/
def State.rowEffect (s : State) (kind level unit : Nat) : State :=
  if kind = 0x0403 then (if level = 2 ∧ unit < 256 ∧ s.linkMatters (unit / 2) then s.halt 0x4 else s)
  else if kind = 0x0804 then s.err 15
  else if kind = 0x2002 then s.sealFlag 32 0x800
  else if kind = 0x2004 then s.sealFlag 4 64
  else s

/-- One event of MODE 0: the message of the kind with every action of its row (17 R516, R532). -/
def State.injReport (s : State) (kind level unit : Nat) : State :=
  let cls := kindClass kind
  let m := { s.msg kind cls level unit 0 none with injected := true }
  let s1 := if cls = 4 then s.c4 (kind - 0x4001) else s
  (s1.raise (repOf m)).rowEffect kind level unit

/-- The pending firing happens (17 R532): MODE 0 sends COUNT messages; MODE 1 and 2 leave COUNT corruptions to be made, those of a codeword
sent at once on the link; then injection disarms. -/
def State.injFire (s : State) : State :=
  if s.inj.fire then
    let v := s.inj.target
    let kind := bitsOf v 33 18
    let mode := bitsOf v 61 60
    let level := bitsOf v 47 45
    let unit := bitsOf v 44 34
    let n := max (bitsOf v 59 48) 1
    let s1 := (if s.inj.due = 0 then s else s.advanceTo s.inj.due)
    let s2 := (((s1.setReg F.INJ_TARGET_GO 0).setReg F.INJ_STATUS_ARMED 0).putInj { s1.inj with fire := false })
    if mode = 1 ∨ mode = 2 then
      if kind = 0x0401 ∨ kind = 0x0402 then (s2.setReg F.INJ_STATUS_PENDING s2.inj.corrupt.length).count F.INJ_STATUS_FIRED n
      else (s2.putInj { s2.inj with corrupt := s2.inj.corrupt ++ List.replicate n (kind, mode, level, unit) })
    else
      foldKeys (List.range n) (fun t _ => t.injReport kind level unit)
        ((s2.setReg F.INJ_STATUS_PENDING s2.inj.corrupt.length).count F.INJ_STATUS_FIRED n)
  else s

/-- INJ_FIRE (17 R532; 01 R54). -/
def execInjFire (s : State) : Host.Outcome State Fault Refusal := .next s.injFire

end Sys2Proof.Machine
end

