-- ==== Sys2Proof/Machine/Mover.lean ====
section
/-!
DEFINITION. Machine/Mover.lean: the tally and mover instructions (spec/06 R226 to R229; spec/13 R421, R422).
-/
namespace Sys2Proof.Machine

/-! ### Tally instructions (06 R228) -/

/-- A tally instruction discarded under 06 R228 or 04 R147: counted, reported, and NODE_BAD in its completion entry. -/
def State.putBad (s : State) (c index : Nat) : State := (s.nodeBad c 6 none).entry c index 3 0 0x22

/-- TALLY.PUT in its record's engine: the chunk at S(SA) is offered as a leaf (04 R141, R147 to R149, R157, R166; 13 R409, R421). -/
def State.tallyOffer (s : State) (c : Nat) (a b : Nat) (r : Nat) (index word : Nat) : State :=
  let lo := bitsOf b 15 0
  let chunk := bitsOf b 54 32
  let cf := s.rCfmt c r
  let n := chunkBytes cf
  if s.taFenced c then s.entry c index 3 0 0x16
  else if !s.rValid c r || decide (lo ≠ bitsOf b 31 16) then s.putBad c index
  else if !isNode (s.rN c r) lo lo || decide (lo < s.rLo c r) || decide (s.rHi c r < lo) || decide (s.rChunks c r ≤ chunk) ||
      decide (chunk % max (s.rNb c r) 1 ≠ s.rK c r) then s.putBad c index
  else if a + n > wmSize then s.entry c index 3 0 0x12
  else match s.poisonRead (wmBase c + a) n with
    | some x => (s.meetPoisonIn 0 x 1 index 3 word).entry c index 3 0 0x15
    | none =>
      let d := leafData cf (s.bytes (wmBase c + a) n)
      let p := (s.correct (wmBase c + a) n).offer ⟨64 * c + r, lo, lo, chunk, s.beat, true, d.1, d.2⟩ 0 1 6 none
      p.2.entry c index 3 0 p.1

/-- TALLY.ANY: ANY is set for the rest of the Beat, unless its record took or parked an input, or is no valid Score record (06 R228). -/
def State.anySet (s : State) (c r index : Nat) : State :=
  if !s.rValid c r || !s.rScored c r then (s.count F.TALLY_DISCARD_A_NODE_BAD).entry c index 3 0 0x22
  else if (s.bushel c r).taken then s.entry c index 3 0 0x24
  else (s.setBushel c r { s.bushel c r with any := true }).entry c index 3 0 0

/-- The tally engine's part of a cluster takes a tally instruction (06 R204, R228): TALLY.PUT takes 4 CK to the tally engine, and the next
starts after it (log entry 13). -/
def State.tlStart (s : State) (c : Nat) (o : UOp) : State :=
  match o.insn with
  | .tallyPut _ _ _ r => (s.setCl c { s.cl c with tlfree := s.ck + 3 }).tallyOffer c o.a o.b r.toNat o.index (insnBits o.insn)
  | .tallyAny _ r => s.anySet c r.toNat o.index
  | _ => s

/-- The tally queue goes on: instructions start in order, Chime operations are handed on once all before them has completed (06 R204, R230; 02
R107), with fuel. -/
def State.tlNext : Nat → State → Nat → State
  | 0, s, _ => s
  | n + 1, s, c =>
    let x := s.cl c
    if s.ck < x.tlfree then s
    else match x.tlq with
      | [] => s
      | .chime o :: t => if s.chimeFull (chimeDie o.index) then s else State.tlNext n ((s.setCl c { x with tlq := t }).queueChime o) c
      | .op o :: t => State.tlNext n ((s.setCl c { x with tlq := t }).tlStart c o) c

/-- A tally instruction is placed in the tally queue, or stalls issue while that holds 32 (06 R204); with nothing before it the engine takes it
at once. -/
def State.tlPlace (s : State) (c : Nat) (i : Instr) : State :=
  let x := s.cl c
  let o := UOp.mk i (s.index c) (s.sVal c i 0) (s.sVal c i 1)
  if s.unitQuiet c 6 then (s.tlStart c o).goOn c
  else if 32 ≤ x.tlq.length then s.stall c 1
  else (s.setCl c { x with tlq := x.tlq ++ [.op o] }).goOn c

/-- TALLY_PUT (04 R147, R149; 06 R204, R226 to R228). -/
def execTallyPut (c : Fin 64) (sa sb : BitVec 5) (r : BitVec 6) (s : State) : Host.Outcome State Fault Refusal :=
  .next (s.issue c (.tallyPut c sa sb r) 3 (fun t => t.tlPlace c (.tallyPut c sa sb r)))

/-- TALLY_ANY (06 R204, R226 to R228). -/
def execTallyAny (c : Fin 64) (r : BitVec 6) (s : State) : Host.Outcome State Fault Refusal :=
  .next (s.issue c (.tallyAny c r) 3 (fun t => t.tlPlace c (.tallyAny c r)))

/-! ### The mover block (06 R229) -/

/-- SRC. -/
def mvSrc (ws : List Nat) : Nat := mp ws 0 47 0
/-- DST. -/
def mvDst (ws : List Nat) : Nat := mp ws 1 47 0
/-- The Chime that receives ARRIVE(1) at completion, if any. -/
def mvChime (ws : List Nat) : Option Nat := if mp ws 2 47 47 = 1 then some (mp ws 2 46 32) else none
/-- LEN. -/
def mvLen (ws : List Nat) : Nat := mp ws 2 31 0
/-- AFMT. -/
def mvAfmt (ws : List Nat) : Nat := mp ws 3 35 32
/-- ROUTE. -/
def mvRoute (ws : List Nat) : Nat := mp ws 3 15 0
/-- ESIZE. -/
def mvEsize (ws : List Nat) : Nat := mp ws 4 35 32
/-- COLS. -/
def mvCols (ws : List Nat) : Nat := mp ws 4 31 16
/-- ROWS. -/
def mvRows (ws : List Nat) : Nat := mp ws 4 15 0

/-- MOV.XPOSE's own conditions fail: LEN, alignment or ESIZE (13 R422). -/
def xposeBad (ws : List Nat) : Bool :=
  let z := 2 ^ mvEsize ws
  decide (2 < mvEsize ws) || decide (mvLen ws ≠ mvRows ws * mvCols ws * z) || decide (mvSrc ws % z ≠ 0) || decide (mvDst ws % z ≠ 0)

/-- MOV.XPOSE's source range overlaps its destination range (13 R422). -/
def xposeOverlap (ws : List Nat) : Bool :=
  decide (mvSrc ws < mvDst ws + mvLen ws) && decide (mvDst ws < mvSrc ws + mvLen ws)

/-- The offsets of the elements of the source, in the order of the destination: element (r, c) goes to place c × ROWS + r (13 R422). -/
def xposeOrder (ws : List Nat) : List Nat :=
  (List.range (mvCols ws)).flatMap (fun j => (List.range (mvRows ws)).map (fun i => (i * mvCols ws + j) * 2 ^ mvEsize ws))

/-- The elements at some offsets of the source, in that order. -/
def xposeBytes (ws : List Nat) (l : List Byte) (order : List Nat) : List Byte :=
  order.flatMap (fun o => (l.drop o).take (2 ^ mvEsize ws))

/-- What a transposition writes before the first element that lies in a poisoned block (13 R421, R422). -/
def State.xposeUpTo (s : State) (ws : List Nat) : List Nat :=
  (xposeOrder ws).takeWhile (fun o => (s.poisonRead (mvSrc ws + o) (2 ^ mvEsize ws)).isNone)

/-- ROUTE leads to this device (11 R366). -/
def State.routeHome (s : State) (h : Nat) : Bool := s.uniHome s.scoreAcre h

/-- A write of the mover of `n` bytes may not be made: its code, with the list area of a loaded Score closed (07 R243). -/
def State.moverWriteCode (s : State) (a n : Nat) : Nat :=
  if s.writeCode .mover a n ≠ 0 then s.writeCode .mover a n
  else if s.listClosed a n then 0x12
  else 0

/-- Whether an instruction writes this device's memory: copies do, MOV.AADD when ROUTE leads here. -/
def State.moverWrites (s : State) (kind : Nat) (ws : List Nat) : Bool :=
  decide (kind ≤ 2) || (decide (kind = 5) && s.routeHome (mvRoute ws))

/-- The code of a mover instruction that moves nothing; 0 when it may start (06 R229; 07 R243; 13 R409, R422; 00 R14). -/
def State.moverCheck (s : State) (kind : Nat) (ws : List Nat) : Nat :=
  if mvLen ws = 0 then 1
  else if kind = 2 ∧ xposeBad ws then 0x12
  else if kind = 2 ∧ xposeOverlap ws then 0x13
  else if kind = 5 ∧ ((mvAfmt ws ≠ 0 ∧ mvAfmt ws ≠ 10) ∨ mvLen ws % 4 ≠ 0) then 0x12
  else if s.readCode .mover (mvSrc ws) (mvLen ws) ≠ 0 then s.readCode .mover (mvSrc ws) (mvLen ws)
  else if s.moverWrites kind ws then s.moverWriteCode (mvDst ws) (mvLen ws)
  else 0

/-! ### Cells of a send (06 R229; 10 R328 to R331) -/

/-- MOV.SEND of a shard's weight stream goes to a destination set (08 R291): its cells carry MCAST when ROUTE names a valid set of the Acre that
is one a stream goes to, which the mover block does not say and is free (DESIGN CHOICE, log entry 77). -/
def State.sendsSet (s : State) (route : Nat) : Bool :=
  let w := tabGet 0 s.bank.sets (4 * route)
  decide (route < 4096) && w.testBit 63 && decide (bitsOf w 61 52 = s.scoreAcre) && Config.sendsSet route

/-- Cell k of a message of a cluster's mover: FIRST on cell 0, LAST on the final cell of a whole message. -/
def State.moverCell (s : State) (c vc route msg : Nat) (l : List Byte) (whole : Bool) (k : Nat) : Cell :=
  let part := (l.drop (480 * k)).take 480
  let p := payOf part
  let last := whole && decide (480 * (k + 1) ≥ l.length)
  ⟨hdrOf s.beat route s.scoreAcre 0 vc 0 (decide (vc = 0) && s.sendsSet route) (decide (k = 0)) last part.length,
   dataExt (s.srcOf (64 + c)) msg k 0 p, p⟩

/-- The cells of a message. -/
def State.moverCells (s : State) (c vc route msg : Nat) (l : List Byte) (whole : Bool) : List Cell :=
  (List.range ((l.length + 479) / 480)).map (s.moverCell c vc route msg l whole)

/-! ### Start (06 R229; 13 R421, R422) -/

/-- The instruction in progress. -/
def State.setRun (s : State) (c : Nat) (r : Option MvRun) : State := s.setCl c { s.cl c with mvRun := r }

/-- An instruction in progress that moves nothing and will complete with a code. -/
def State.moverFail (s : State) (c index word code : Nat) (ch : Option Nat) : State :=
  s.setRun c (some (MvRun.mk index word code ch s.beat 0 [] none [] false))

/-- The source is read up to its first poisoned block (13 R421): the bytes, and the code. -/
def State.moverRead (s : State) (index word a n : Nat) : List Byte × Nat × State :=
  match s.poisonRead a n with
  | some x =>
    let p := (s.meetPoisonIn 0 x 1 index 4 word).fetchBytes a (x - a)
    (p.1, 0x15, p.2)
  | none => let p := s.fetchBytes a n; (p.1, 0, p.2)

/-- An instruction that passed its checks starts with its source read. -/
def State.moverGo (s : State) (c kind index word : Nat) (ws : List Nat) : State :=
  let p := s.moverRead index word (mvSrc ws) (mvLen ws)
  let whole := decide (p.2.1 = 0)
  let t := p.2.2
  let run := fun (l : List Byte) (add : Option Nat) (cells : List Cell) (sends : Bool) =>
    some (MvRun.mk index word p.2.1 (mvChime ws) t.beat (mvDst ws) l add cells sends)
  let send := fun (vc : Nat) =>
    let d := t.draw
    d.2.setRun c (run [] none (d.2.moverCells c vc (mvRoute ws) (Config.message d.1).toNat p.1 whole) true)
  match kind with
  | 1 => t.setRun c (run p.1 none [] false)
  | 2 =>
    if whole then t.setRun c (run (xposeBytes ws p.1 (xposeOrder ws)) none [] false)
    else t.setRun c (run (xposeBytes ws (s.readBytes (mvSrc ws) (mvLen ws)).1 (s.xposeUpTo ws)) none [] false)
  | 3 => send 0
  | 4 => send 2
  | _ => if t.routeHome (mvRoute ws) then t.setRun c (run (p.1.take (p.1.length / 4 * 4)) (some (mvAfmt ws)) [] false) else send 2

/-- An instruction leaves the head of the mover queue and reads its block (06 R227, R229). -/
def State.moverStart (s : State) (c kind sa index word : Nat) : State :=
  if s.clFenced c || s.fenced 8 c then s.moverFail c index word 0x16 none
  else if sa + 64 > wmSize then s.moverFail c index word 0x12 none
  else match s.poisonRead (wmBase c + sa) 64 with
    | some a => (s.meetPoisonIn 0 a 1 index 4 word).moverFail c index word 0x15 none
    | none =>
      let ws := (List.range 8).map (fun i => s.word (wmBase c + sa + 8 * i))
      let s1 := s.correct (wmBase c + sa) 64
      let code := s1.moverCheck kind ws
      if code ≠ 0 then s1.moverFail c index word code (mvChime ws) else s1.moverGo c kind index word ws

/-- The queue of an idle mover goes on: Chime operations at its head are handed on while their Chime unit takes them, the next instruction
starts (06 R229, R230; 02 R107), with fuel. -/
def State.moverNext : Nat → State → Nat → State
  | 0, s, _ => s
  | n + 1, s, c =>
    if (s.cl c).mvRun.isSome then s
    else match (s.cl c).mvq with
      | [] => s
      | .chime o :: t => if s.chimeFull (chimeDie o.index) then s else State.moverNext n ((s.setCl c { s.cl c with mvq := t }).queueChime o) c
      | .op kind sa index word :: t => (s.setCl c { s.cl c with mvq := t }).moverStart c kind sa index word

/-- A mover instruction joins the mover queue, or stalls issue while it holds 32 (06 R204). -/
def State.moverPlace (s : State) (c kind : Nat) (i : Instr) (sa : BitVec 5) : State :=
  let x := s.cl c
  if x.mvq.length ≥ 32 then s.stall c 1
  else
    let e := MvEntry.op kind (s.sreg c sa).toNat (s.index c) (insnBits i)
    (State.moverNext 33 (s.setCl c { x with mvq := x.mvq ++ [e] }) c).goOn c

/-- MOV_COPY (00 R14; 06 R204, R229; 07 R243; 13 R409, R412, R416, R421). -/
def execMovCopy (c : Fin 64) (sa : BitVec 5) (s : State) : Host.Outcome State Fault Refusal :=
  .next (s.issue c (.movCopy c sa) 4 (fun t => t.moverPlace c 1 (.movCopy c sa) sa))

/-- MOV_XPOSE (06 R229; 13 R422). -/
def execMovXpose (c : Fin 64) (sa : BitVec 5) (s : State) : Host.Outcome State Fault Refusal :=
  .next (s.issue c (.movXpose c sa) 4 (fun t => t.moverPlace c 2 (.movXpose c sa) sa))

/-- MOV_SEND (06 R229; 08 R291; 10 R328). -/
def execMovSend (c : Fin 64) (sa : BitVec 5) (s : State) : Host.Outcome State Fault Refusal :=
  .next (s.issue c (.movSend c sa) 4 (fun t => t.moverPlace c 3 (.movSend c sa) sa))

/-- MOV_SENDA (06 R229). -/
def execMovSenda (c : Fin 64) (sa : BitVec 5) (s : State) : Host.Outcome State Fault Refusal :=
  .next (s.issue c (.movSenda c sa) 4 (fun t => t.moverPlace c 4 (.movSenda c sa) sa))

/-- MOV_AADD (06 R229). -/
def execMovAadd (c : Fin 64) (sa : BitVec 5) (s : State) : Host.Outcome State Fault Refusal :=
  .next (s.issue c (.movAadd c sa) 4 (fun t => t.moverPlace c 5 (.movAadd c sa) sa))

/-! ### Completion (06 R226, R227, R229, R231; 07 R250, R251; 08 R293) -/

/-- Words of Chime space written in increasing address order (02 R110). -/
def State.chimeWords : State → Nat → List Byte → Nat → State
  | s, _, _, 0 => s
  | s, a, l, n + 1 => State.chimeWords (s.chimeSpaceWrite (a - chimeBase) (leNat (l.take 8))) (a + 8) (l.drop 8) n

/-- Bytes of the mover land: in Chime space word by word; a register write is ignored, since a mover is none of the parties that may
write (20 R597); memory as any write of the Beat. -/
def State.moverPut (s : State) (beat a : Nat) (l : List Byte) : State :=
  if inRegSpace a then s
  else if inChime a then s.chimeWords a l (l.length / 8)
  else s.writeMem beat a l

/-- The bytes of an instruction in progress land, those before a poisoned block that they would cover in part (13 R421). Answers the
completion code and FLAGS. -/
def State.moverLand (s : State) (r : MvRun) : Nat × Nat × State :=
  let bad := if r.add.isSome then s.poisonRead r.dst r.data.length else s.poisonWrite r.dst r.data.length
  let cut := match bad with | some x => x / poisonSize x * poisonSize x - r.dst | none => r.data.length
  let l := r.data.take (if r.add.isSome then cut / 4 * 4 else cut)
  let s1 := match bad with | some x => s.meetPoisonIn 0 x 2 r.index 4 r.word | none => s
  let code := if bad.isSome then 0x15 else r.code
  match r.add with
  | some fmt =>
    let p := aaddBytes fmt s1.draws l (s1.bytes r.dst l.length)
    (code, flagsBits p.2, ((s1.correct r.dst l.length).putDraws (s1.draws + l.length / 4)).moverPut r.beat r.dst p.1)
  | none => (code, 0, s1.moverPut r.beat r.dst l)

/-- A cell of cluster c's mover still waits in this device: in a scored queue, an open queue, at its point or held back for a drain. -/
def State.moverBusy (s : State) (c : Nat) : Bool :=
  let mine := fun (x : Cell) => decide (cType x = 0) && decide (dSrc x = s.srcOf (64 + c))
  s.sw.scored.any (fun q => mine q.cell) || s.sw.voq.any (fun q => mine q.cell) || s.sw.entry.any (fun e => mine e.2.2) ||
  s.route.back.any (fun q => mine q.2)

/-- MOVER_COMPLETE at a cluster: the last byte is written, or the last cell has left; entry, Chime, then the queue goes on. -/
def State.moverDone (s : State) (c : Nat) : State :=
  match (s.cl c).mvRun with
  | none => s
  | some r =>
    if !r.cells.isEmpty || (r.sends && s.moverBusy c) then s
    else
      let p := s.moverLand r
      let s1 := ((p.2.2.setRun c none).entry c r.index 4 p.2.1 p.1).arriveOpt c 7 r.chime r.beat
      State.moverNext 33 s1 c

/-- MOVER_COMPLETE (06 R226, R227, R229, R231; 07 R250, R251; 08 R293; 13 R421). -/
def execMoverComplete (c : Fin 64) (s : State) : Host.Outcome State Fault Refusal := .next (s.moverDone c)

end Sys2Proof.Machine
end

