-- ==== Sys2Proof/Machine/Telemetry.lean ====
section
/-!
DEFINITION. Machine/Telemetry.lean: queue sampling and its ring (spec/12 R397 to R399, R406) and the buffer pools (spec/12 R400 to
R405, R407).
-/
namespace Sys2Proof.Machine

/-! ### Sampling (12 R397 to R399) -/

/-- The next Toll count above `t` that is a multiple of 16,384 (12 R397). -/
def nextSample (t : Nat) : Nat := (t / 16384 + 1) * 16384

/-- A queue toward port `p` on VC code `vc`: the open cells of the port's die that still have the port among their exits. -/
def State.portQueue (s : State) (p vc : Nat) : List OpCell :=
  s.sw.voq.filter (fun q => decide (cVc q.cell = vc) &&
    q.outs.any (fun e => exitIsPort e && decide (exitPort e = p) && decide (exitDie e = q.die)))

/-- A 32-bit count that holds at its largest value. -/
def hold32 (n : Nat) : Nat := min n 0xFFFFFFFF

/-- The sample record of a port and VC (12 R398): VC 0 OP0, 1 OP1, 2 CTL, 3 MGT, whose cell VC codes are two more. -/
def State.sampleRecord (s : State) (t p v : Nat) : List Byte :=
  let q := s.portQueue p (v + 2)
  let depth := q.length
  let spilled := (q.filter (fun x => x.spilled)).length
  let delay := if depth = 0 then 0 else s.sw.time - (q.map (·.born)).foldl min s.sw.time
  let sent := tabGet 0 s.sw.sent (4 * p + v)
  let t1 := if v = 2 then 0 else s.tokens (if v = 3 then 3 else 1) p / 65536
  let t2 := if v < 2 then s.tokens 2 p / 65536 else 0
  leBytes 8 t ++ leBytes 2 (p + v * 256) ++ leBytes 2 0 ++ leBytes 4 (hold32 depth) ++ leBytes 4 (hold32 spilled) ++
    leBytes 4 (hold32 delay) ++ leBytes 4 (hold32 sent) ++ leBytes 2 t1 ++ leBytes 2 t2

/-- One record written to the sampling ring, by the WRAP and FULL rules (12 R399; 10 R355). It covers half of a block: over a poisoned one it is
not performed (13 R421), and its place passes. -/
def State.sampleWrite (s : State) (l : List Byte) : State :=
  let k := s.reg F.SHAPE_TEL_STATUS_WPTR
  let n := 2 ^ s.reg F.SHAPE_TEL_RING_SIZE_LOG2
  if s.reg F.SHAPE_TEL_STATUS_FULL = 1 then s
  else
    let a := s.reg F.SHAPE_TEL_RING_BASE * 4096 + 32 * (k % n)
    let s0 := match s.poisonWrite a 32 with | some x => s.meetPoison 1 x 2 | none => s.putBytes a l
    let s1 := s0.setReg F.SHAPE_TEL_STATUS_WPTR (k + 1)
    if s1.reg F.SHAPE_TEL_CFG_WRAP = 0 ∧ k + 1 ≥ n then s1.setReg F.SHAPE_TEL_STATUS_FULL 1 else s1

/-- Whether the sample selects a port (12 R397). -/
def State.sampled (s : State) (p : Nat) : Bool :=
  if p < 64 then (s.reg F.SHAPE_TEL_PORT_LO_PORTS).testBit p else (s.reg F.SHAPE_TEL_PORT_HI_PORTS).testBit (p - 64)

/-- The records of one sample, ports rising and VC codes rising within a port (12 R397): every value is that of the end of the
sampling CK, before any record is written. -/
def State.sampleRecords (s : State) (t : Nat) : List (List Byte) :=
  ((List.range 128).filter s.sampled).flatMap (fun p =>
    ((List.range 4).filter (fun v => (s.reg F.SHAPE_TEL_CFG_VC_MASK).testBit v)).map (fun v => s.sampleRecord t p v))

/-- The Toll count the next sample carries: a multiple of 16,384; after a step of the count backward the next one above it, after a step
forward over others the one it has reached or passed (12 R397). -/
def State.sampleDue (s : State) : Nat :=
  if s.toll + 16384 < s.sw.telNext then nextSample s.toll
  else if s.sw.telNext + 16384 ≤ s.toll then s.toll / 16384 * 16384
  else s.sw.telNext

/-- A sample, while EN is set (12 R397 to R399). -/
def State.sample (s : State) : State :=
  if s.reg F.SHAPE_TEL_CFG_EN = 1 then
    let t := s.sampleDue
    let s1 := s.advanceTo t
    let s2 := (s1.sampleRecords t).foldl State.sampleWrite s1
    (s2.putSw { s2.sw with sent := [], telNext := t + 16384 })
  else s

/-- TELEMETRY_SAMPLE (12 R397 to R399). -/
def execTelemetrySample (s : State) : Host.Outcome State Fault Refusal := .next s.sample

/-- A write of SHAPE_TEL_CFG (12 R398, R399, R406): EN from 0 to 1 clears FULL, sets WPTR to 0 and starts SENT afresh. -/
def State.telemetryEn (s : State) (v : Nat) : State :=
  let was := s.reg F.SHAPE_TEL_CFG_EN
  let s1 := ((s.setReg F.SHAPE_TEL_CFG_VC_MASK (bitsOf v 11 8)).setReg F.SHAPE_TEL_CFG_WRAP (bitsOf v 1 1)).setReg
    F.SHAPE_TEL_CFG_EN (bitsOf v 0 0)
  if was = 0 ∧ bitsOf v 0 0 = 1 then
    let s2 := (s1.setReg F.SHAPE_TEL_STATUS_FULL 0).setReg F.SHAPE_TEL_STATUS_WPTR 0
    (s2.putSw { s2.sw with sent := [], telNext := nextSample s2.toll })
  else s1

/-- TELEMETRY_EN_WRITE (12 R399). -/
def execTelemetryEnWrite (v : BitVec 64) (s : State) : Host.Outcome State Fault Refusal := .next (s.telemetryEn v.toNat)

/-! ### Buffer pools (12 R400 to R405, R407) -/

/-- Buffer bytes of pool `n` (12 R400). -/
def poolSize (n : Nat) : Nat := 256 * 8 ^ n

/-- The INDEX that names no buffer (12 R400). -/
def poolNull : Nat := 0xFFFFFF

/-- A handle (12 R400). -/
def poolHandle (n i : Nat) : Nat := n * 2 ^ 29 + i

/-- The address of buffer `i` of pool `n` (12 R400). -/
def State.poolAddr (s : State) (n i : Nat) : Nat := s.reg F.POOL_CFG_BASE n * 4096 + i * poolSize n

/-- Whether a value may be written to POOL_CFGn (12 R407; 13 R412): BASE a multiple of the larger of 4 KiB and the buffer size, COUNT
in its range, and every buffer in the pool area. -/
def poolCfgGood (n v : Nat) : Bool :=
  let base := bitsOf v 35 0 * 4096
  let count := bitsOf v 59 36
  decide (base % max 4096 (poolSize n) = 0) && decide (count < 0xFFFFFF) &&
    (decide (count = 0) || (decide (0x4500000000 ≤ base) && decide (base + count * poolSize n ≤ 0x4800000000)))

/-- A write of POOL_CFGn starts a build (12 R401, R407); after the rings are live it has no effect. -/
def State.poolCfg (s : State) (n v : Nat) : State :=
  if s.reg F.ACV_LIVE_LIVE = 0 ∧ poolCfgGood n v then
    ((s.setReg F.POOL_CFG_COUNT (bitsOf v 59 36) n).setReg F.POOL_CFG_BASE (bitsOf v 35 0) n).setReg F.POOL_STATE_BUILDING 1 n
  else s

/-- POOL_CFG_WRITE (12 R401, R407). -/
def execPoolCfgWrite (n : Fin 5) (v : BitVec 64) (s : State) : Host.Outcome State Fault Refusal := .next (s.poolCfg n.val v.toNat)

/-- The manager writes a link word where buffer `i` of pool `n` would lie; outside tier 1 nothing lies there (12 R403, R404). A
poisoned block is not written (13 R421). -/
def State.poolLink (s : State) (n i next : Nat) : State :=
  let a := s.poolAddr n i
  if a < tier2 then
    match s.poisonWrite a 8 with
    | some x => s.meetPoison 5 x 2
    | none => s.writeMem s.beat a (leBytes 8 (poolHandle n next))
  else s

/-- The INDEX of the link word of buffer `i` of pool `n`; what a word outside tier 1 gives is a free value (log entry 25). -/
def State.poolNext (s : State) (n i : Nat) : Nat × State :=
  let a := s.poolAddr n i
  if a < tier2 then (s.word a % 2 ^ 24, s)
  else ((Config.poolLink s.draws).toNat, (s.putDraws (s.draws + 1)))

/-- The build of pool `n` (12 R401). -/
def State.poolBuild (s : State) (n : Nat) : State :=
  let k := s.reg F.POOL_CFG_COUNT n
  let s1 := foldKeys (List.range k) (fun t i => t.poolLink n i (if i + 1 < k then i + 1 else poolNull)) s
  ((s1.setReg F.POOL_STATE_HEAD (if k = 0 then poolNull else 0) n).setReg F.POOL_STATE_FREE k n).setReg F.POOL_STATE_BUILDING 0 n

/-- The smallest pool whose buffers hold SIZE bytes (12 R402). -/
def poolFor (size : Nat) : Nat := ((List.range 5).find? (fun n => decide (size ≤ poolSize n))).getD 4

/-- The pool that a request works on, if any (12 R402, R403). -/
def PoolReq.target (r : PoolReq) : Option Nat :=
  if r.free then (if r.arg / 2 ^ 29 < 5 then some (r.arg / 2 ^ 29) else none)
  else if r.arg = 0 ∨ r.arg > 1048576 then none
  else some (poolFor r.arg)

/-- POOL_EMPTY completions of pool `n` (12 R407). -/
def poolEmptyField (n : Nat) : Field :=
  match n with
  | 0 => F.POOL_EMPTY_COUNTS_GILL
  | 1 => F.POOL_EMPTY_COUNTS_PINT
  | 2 => F.POOL_EMPTY_COUNTS_QUART
  | 3 => F.POOL_EMPTY_COUNTS_GALLON
  | _ => F.POOL_EMPTY_COUNTS_HOGSHEAD

/-- An allocation from pool `n` (12 R402). A poisoned link word ends it with MEM_UE, the pool unchanged (log entry 25). -/
def State.poolTake (s : State) (d : Desc) (n : Nat) : State :=
  let h := s.reg F.POOL_STATE_HEAD n
  let a := s.poolAddr n h
  if h = poolNull then (s.count (poolEmptyField n)).complete d 0x63
  else if a < tier2 ∧ (s.poisonRead a 8).isSome then (s.meetPoison 5 a 1).complete d 0x15
  else
    let p := (s.correct a 8).poolNext n h
    ((p.2.setReg F.POOL_STATE_HEAD p.1 n).setReg F.POOL_STATE_FREE (s.reg F.POOL_STATE_FREE n + 0xFFFFFF) n).complete d 0
      (poolHandle n h) (a % 2 ^ 48)

/-- A release to pool `n` of the buffer of an INDEX (12 R403, R404). -/
def State.poolGive (s : State) (d : Desc) (n i : Nat) : State :=
  let s1 := s.poolLink n i (s.reg F.POOL_STATE_HEAD n)
  ((s1.setReg F.POOL_STATE_HEAD i n).setReg F.POOL_STATE_FREE (s1.reg F.POOL_STATE_FREE n + 1) n).complete d 0

/-- One request carried out (12 R402, R403; 00 R22). -/
def State.poolDo (s : State) (r : PoolReq) : State :=
  match r.target with
  | some n => if r.free then s.poolGive r.desc n (r.arg % 2 ^ 24) else s.poolTake r.desc n
  | none => s.complete r.desc (if r.free then 0 else if r.arg = 0 then 1 else 0x64)

/-- The requests are carried out one at a time in order until one waits for a build (12 R401, R405). -/
def State.poolServe : Nat → State → State
  | 0, s => s
  | k + 1, s =>
    match s.poolq with
    | [] => s
    | r :: t =>
      if (r.target.map (fun n => decide (s.reg F.POOL_STATE_BUILDING n = 1))).getD false then s
      else State.poolServe k ((s.putPoolq t).poolDo r)

/-- A request is accepted (12 R405). -/
def State.poolRequest (s : State) (r : PoolReq) : State :=
  State.poolServe (s.poolq.length + 1) (s.putPoolq (s.poolq ++ [r]))

/-- POOL_BUILD_DONE (12 R401): the free list is written, BUILDING clears, waiting requests proceed. -/
def execPoolBuildDone (n : Fin 5) (s : State) : Host.Outcome State Fault Refusal :=
  .next (if s.reg F.POOL_STATE_BUILDING n.val = 1 then State.poolServe s.poolq.length (s.poolBuild n.val) else s)

/-- POOL_ALLOC (12 R402, R405). -/
def execPoolAlloc (d : Desc) (size : BitVec 64) (s : State) : Host.Outcome State Fault Refusal :=
  .next (s.serve d (fun t => t.poolRequest ⟨d, false, size.toNat⟩))

/-- POOL_FREE (12 R403 to R405). -/
def execPoolFree (d : Desc) (h : BitVec 32) (s : State) : Host.Outcome State Fault Refusal :=
  .next (s.serve d (fun t => t.poolRequest ⟨d, true, h.toNat⟩))

end Sys2Proof.Machine
end

