-- ==== Sys2Proof/Machine/RegAccess.lean ====
section
/-!
DEFINITION. Machine/RegAccess.lean: a write of a register by any party (spec/00 R14, R16; spec/20 R595 to R599), with what each register
does of its own, and reads by the management target and the Sexton.
-/
namespace Sys2Proof.Machine

/-! ### Who may write a field, and when (00 R16; 15 R476; 20 R597, R599) -/

/-- Whether a party may write a field: the Sexton, its loader included, every field whose access permits it and every field the loader
writes; the Acvel link not those of the Sexton, and those of the loader only where they are RW in the set-up window (02 R114); the
management target and cells none. -/
def mayWriteField (p : Party) (f : Field) : Bool :=
  match p with
  | .sexton => true
  | .acvel => (!f.loader || decide (f.acc = .rw)) && !f.hub
  | .mgmt => false
  | .cell => false

/-- A value brought into a field's stated range (01 R35, R39; 10 R358; 12 R406; 14 R453; 15 R488). -/
def clampField (f : Field) (v : Nat) : Nat :=
  if f = F.ENG_PWR_LIMIT_LIMIT_W then max 1200 (min v 2400)
  else if f = F.ENG_PWR_LIMIT_HYST_W then max 10 (min v 200)
  else if f = F.ENG_THERM_CFG_THROTTLE_C then max 70 (min v 100)
  else if f = F.ENG_THERM_CFG_MEM_THROTTLE_C then max 60 (min v 90)
  else if f = F.XBAR_CFG_SPILL_GIB then min v 64
  else if f = F.ACV_CFG_POLL_CK then max v 2500
  else if f = F.PORT_CFG_ATTEMPTS then max v 1
  else v

/-- What a write of `v` leaves in a field that holds `old` (00 R16, R17): RW fields only before the rings are live or where they stay
writable; the loader also writes fields that are RO to all others; W1C clears no event of this CK (`new`). -/
def Field.written (f : Field) (p : Party) (live : Bool) (old v : Nat) (new : Nat := 0) : Nat :=
  if !mayWriteField p f then old
  else
    match f.acc with
    | .rw => if !live || f.live || (f.loader && decide (p = .sexton)) then clampField f v else old
    | .ro => if f.loader && decide (p = .sexton) then v else old
    | .w1c => (old &&& ((2 ^ f.width - 1) ^^^ v)) ||| new
    | .w1s => old ||| v
    | .wo => v
    | .rc => old

/-- A write of one field of the register at byte offset `a`. -/
def State.writeField (s : State) (p : Party) (a v : Nat) (f : Field) : State :=
  let n := f.inst a
  s.setReg f (f.written p s.live (s.reg f n) (bitsOf v (f.lo + f.width - 1) f.lo) (s.freshPart f n)) n

/-- A write of a register with no behaviour of its own, field by field. -/
def State.writeFields (s : State) (p : Party) (a v : Nat) : State := (fieldsAt a).foldl (fun t f => t.writeField p a v f) s

/-- Whether a ring lies in the telemetry and mirror area of tier 2 (10 R358; 12 R406; 13 R414): SIZE_LOG2 in its range, too. -/
def ringGood (v size lo hi : Nat) : Bool :=
  let k := bitsOf v 53 48
  let b := bitsOf v 47 12 * 4096
  decide (lo ≤ k) && decide (k ≤ hi) && decide (0x10C00000000 ≤ b) && decide (b + size * 2 ^ k ≤ tierEnd)

/-- Whether an offset is that of an instance of a field's register. -/
def isReg (f : Field) (a : Nat) : Bool := f.at a

/-! ### One register written -/

/-- A register of the INJ block written (17 R531, R532, R539). -/
def State.writeInj (s : State) (p : Party) (a v : Nat) : State :=
  if isReg F.INJ_ARM_KEY a then s.injArm (decide (p = .acvel)) (v % 65536)
  else if isReg F.INJ_TARGET_GO a then s.injTarget v
  else s.injBreak.writeFields p a v

/-- A register of the BEAT, TOLL or GONG block or the crossbar, telemetry and pool registers with an effect of their own, or any other
register (02 R75, R114; 10 R354; 12 R396, R399, R401; 14 R452; 15 R475; 17 R527, R530). -/
def State.writeReg (s : State) (p : Party) (a v : Nat) : State :=
  if isReg F.TOLL_PRESET_VALUE a then s.preset v
  else if isReg F.GONG_VOUCH_BEAT a then
    (if p = .sexton then (s.putBeatU { s.beatU with vouched := keyAdd s.beatU.vouched (v % 2 ^ 48) }) else s)
  else if isReg F.XBAR_MIR_CFG_EN a then s.mirrorEn v
  else if isReg F.XBAR_MIR_RING_BASE a then (if ringGood v 64 12 28 then s.writeFields p a v else s)
  else if isReg F.SHAPE_TEL_CFG_EN a then s.telemetryEn v
  else if isReg F.SHAPE_TEL_RING_BASE a then (if ringGood v 32 10 29 then s.writeFields p a v else s)
  else if isReg F.SHAPE_PORT_CMAX a then (s.putSw { s.sw with shapers := s.sw.shapers ++ [(0, F.SHAPE_PORT_CMAX.inst a, v)] })
  else if isReg F.SHAPE_STOR_RATE a then (s.putSw { s.sw with shapers := s.sw.shapers ++ [(1, F.SHAPE_STOR_RATE.inst a, v)] })
  else if isReg F.SHAPE_CKPT_RATE a then (s.putSw { s.sw with shapers := s.sw.shapers ++ [(2, F.SHAPE_CKPT_RATE.inst a, v)] })
  else if isReg F.SHAPE_MGT_RATE a then (s.putSw { s.sw with shapers := s.sw.shapers ++ [(3, F.SHAPE_MGT_RATE.inst a, v)] })
  else if isReg F.POOL_CFG_BASE a then s.poolCfg (F.POOL_CFG_BASE.inst a) v
  else if isReg F.PORT_RETRAIN_LO_PORTS a then s.retrainMask 0 v
  else if isReg F.PORT_RETRAIN_HI_PORTS a then s.retrainMask 64 v
  else if isReg F.ACV_LIVE_GO a then (if v.testBit 0 then s.goLive else s)
  else if isReg F.CKPT_CFG_DRIVES a then (s.writeFields p a v).showSlots
  else if isReg F.FLT_RG_STAT_VALID a then (if v.testBit 63 then s.regionClear (F.FLT_RG_STAT_VALID.inst a) else s)
  else if isReg F.FLT_FENCE_MAP a then s.fenceWrite (F.FLT_FENCE_MAP.inst a + 1) v
  else if isReg F.ENG_REPAIR_SUB0_V a then (if p = .sexton then s.repWrite (F.ENG_REPAIR_SUB0_V.inst a) v else s)
  else if isReg F.ENG_PWR_STATE_OFF_REQ a then (if v.testBit 4 then s.offReq else s)
  else if 0x130000 ≤ a ∧ a < 0x140000 then s.writeInj p a v
  else s.writeFields p a v

/-- A write of the word at byte offset `a` of register space (20 R595 to R597): the management target reaches OFF_REQ only, cells
nothing. -/
def State.regWrite (s : State) (p : Party) (a v : Nat) : State :=
  match p with
  | .sexton => s.writeReg p a v
  | .acvel => s.writeReg p a v
  | .mgmt => if isReg F.ENG_PWR_STATE_OFF_REQ a && v.testBit 4 && s.mgmtUp then s.offReq else s
  | .cell => s

/-- REGISTER_WRITE (00 R9, R14 to R17; 15 R474, R476; 20 R594 to R599): a write that is not of a whole aligned word is not performed, one of
an unmapped address counts in WR_REFUSED when it comes over the Acvel link. -/
def execRegisterWrite (p : Party) (a : BitVec 28) (v : BitVec 64) (s : State) : Host.Outcome State Fault Refusal :=
  .next (if a.toNat % 8 ≠ 0 then s
    else if a.toNat < 0x170000 then s.regWrite p a.toNat v.toNat
    else if p = .acvel then s.count F.ACV_COUNTS_WR_REFUSED
    else s)

/-! ### Reads (00 R16, R17; 01 R49; 20 R594 to R596) -/

/-- REGISTER_READ (00 R14, R16, R17; 20 R595, R596): by the Sexton, with the clearing of RC fields. -/
def execRegisterRead (a : BitVec 28) (s : State) : Host.Outcome State Fault Refusal :=
  .next (if a.toNat % 8 = 0 ∧ a.toNat < 0x170000 then (s.regRead a.toNat).2 else s)

/-- MGMT_READ (00 R16, R17; 01 R48 to R50): the whole word of an ENG register is captured at the first byte; a code outside 0x80 to 0xB7 reads
no register, and a target without group 1 does not answer. -/
def execMgmtRead (code : BitVec 8) (s : State) : Host.Outcome State Fault Refusal :=
  .next (if s.mgmtUp ∧ 0x80 ≤ code.toNat ∧ code.toNat ≤ 0xB7 then
      let p := s.regRead (0x160000 + 8 * code.toNat)
      (p.2.putMgmt p.1)
    else s)

/-- Words written to register space in increasing address order (00 R14; 15 R468). -/
def State.regWords : List Nat → State → Party → Nat → State
  | [], s, _, _ => s
  | w :: t, s, p, a => State.regWords t (s.regWrite p a w) p (a + 8)

/-- Words written to Chime space in increasing address order (02 R110). -/
def State.chimeSpaceWords : List Nat → State → Nat → State
  | [], s, _ => s
  | w :: t, s, off => State.chimeSpaceWords t (s.chimeSpaceWrite off w) (off + 8)

end Sys2Proof.Machine
end

