-- ==== Sys2Proof/Machine/HostIf.lean ====
section
/-!
DEFINITION. Machine/HostIf.lean: what the host reaches of the device over the Acvel link, and the plain descriptors (spec/15 R466, R472,
R482, R483).
-/
namespace Sys2Proof.Machine

/-! ### Access limits (13 R409; 15 R472) -/

/-- While a load, a run or a pause goes on, a byte of a state area of the loaded Score is closed to host writes (15 R472). -/
def State.stateClosed (s : State) (a n : Nat) : Bool :=
  decide (s.scoreState ∈ [1, 3, 4]) && (span a n).any (fun x => (s.stateOff x).isSome)

/-- The code of a host write that may not be made (00 R14; 07 R243; 13 R409, R416; 15 R472; 20 R596); 0 when it may. -/
def State.hostWriteCode (s : State) (a n : Nat) : Nat :=
  let c := s.writeCode .host a n
  if c ≠ 0 then c else if s.stateClosed a n || s.listClosed a n then 0x12 else 0

/-- Bytes put into an open range of the address space by the host, and the poisoned block that stops it, if any: (bytes moved, whether it
was stopped, state) (13 R421; 15 R468, R472, R483). -/
def State.hostPutDev (s : State) (a : Nat) (l : List Byte) : Nat × Bool × State :=
  let words := (List.range (l.length / 8)).map (fun i => leNat ((l.drop (8 * i)).take 8))
  if inChime a then (l.length, false, s.chimeSpaceWords words (a - chimeBase))
  else if inRegSpace a then (l.length, false, s.regWords words .acvel (a - regBase))
  else
    match s.poisonWrite a l.length with
    | some x =>
      let k := poisonUnit x - a
      (k, true, (s.putBytes a (l.take k)).meetPoison 5 x 2)
    | none => (l.length, false, s.putBytes a l)

/-! ### Requests of the adapter (15 R465, R466, R472) -/

/-- A CPL of one request. -/
def State.cplOut (s : State) (tag off status : Nat) (data : List Byte) : State := s.acvSend acvCpl off 0 tag status data

/-- The answer to an MRD in CPL packets of at most 256 bytes in increasing offset; one that would carry a poisoned block ends it with
MEM_UE (13 R421; 15 R466, R472). -/
def State.answer : Nat → State → Nat → Nat → Nat → Nat → State
  | 0, s, _, _, _, _ => s
  | k + 1, s, tag, a, off, n =>
    if n = 0 then s
    else
      let m := min n 256
      match (if wordOnly (a + off) then none else s.poisonRead (a + off) m) with
      | some x => (s.meetPoison 5 x 1).cplOut tag off 3 []
      | none =>
        let p := s.fetchBytes (a + off) m
        State.answer k (p.2.cplOut tag off 0 p.1) tag a (off + m) (n - m)

/-- A read request (15 R466, R472): one that R466 does not allow is answered with BAD_ACCESS (log entry 28). -/
def State.mrdIn (s : State) (a n tag : Nat) : State :=
  if a % 8 ≠ 0 ∨ n % 8 ≠ 0 ∨ n = 0 ∨ 4096 < a % 4096 + n then s.cplOut tag 0 1 []
  else
    let c := s.readCode .host a n
    if c = 0x11 then s.cplOut tag 0 1 []
    else if c ≠ 0 then s.cplOut tag 0 2 []
    else State.answer 17 s tag a 0 n

/-- A write packet performed or refused (15 R472). -/
def State.mwrIn (s : State) (a : Nat) (l : List Byte) : State :=
  if l.isEmpty then s
  else if s.hostWriteCode a l.length ≠ 0 then s.count F.ACV_COUNTS_WR_REFUSED
  else (s.hostPutDev a l).2.2

/-! ### Packets in order (15 R468; 02 R107) -/

/-- A packet acted on: a read request, a write, or the data of a read (15 R465, R466, R472). -/
def State.hostAct (s : State) (p : AcvPkt) : State :=
  if p.ty = acvMrd then s.mrdIn p.addr p.rlen p.tag
  else if p.ty = acvMwr then s.mwrIn p.addr p.data
  else s.cplIn p.tag p.status p.data

/-- A write to Chime space that finds a queue full waits (02 R107). -/
def State.hostWaits (s : State) (p : AcvPkt) : Bool :=
  decide (p.ty = acvMwr) && inChime p.addr && s.chimeShut (p.addr - chimeBase) (p.data.length / 8)

/-- A packet taken is acted on in its turn (15 R468): behind a Chime space write that waits it waits, too (02 R107). -/
def State.hostIn (s : State) (p : AcvPkt) : State :=
  if s.acv.held.isEmpty && !s.hostWaits p then s.hostAct p
  else s.putAcv { s.acv with held := s.acv.held ++ [p] }

/-- The packets that wait are acted on, as far as they may be, with fuel. -/
def State.hostOn : Nat → State → State
  | 0, s => s
  | n + 1, s =>
    match s.acv.held with
    | [] => s
    | p :: t => if s.hostWaits p then s else State.hostOn n ((s.putAcv { s.acv with held := t }).hostAct p)

/-- A packet received: taken or refused by the link, then acted on in its turn. -/
def State.hostPacket (s : State) (h : AcvHdr) (ty : Nat) (data : List Byte) : State :=
  let r := s.acvTake h ty data
  if r.1 then r.2.hostIn ⟨ty, h.lseq.toNat, h.addr.toNat, h.rlen.toNat, h.tag.toNat, h.status.toNat, data⟩ else r.2

/-- ACV_MRD (00 R9, R14, R16, R17; 02 R110; 13 R409, R421; 15 R461, R465 to R468, R472; 20 R595, R596). -/
def execAcvMrd (h : AcvHdr) (s : State) : Host.Outcome State Fault Refusal := .next (s.hostPacket h acvMrd [])

/-- ACV_MWR (00 R14; 02 R107; 13 R409, R412, R414, R416; 15 R461, R465, R467, R468, R472; 20 R596, R597). -/
def execAcvMwr (h : AcvHdr) (data : List Byte) (s : State) : Host.Outcome State Fault Refusal := .next (s.hostPacket h acvMwr data)

/-- ACV_CPL (15 R461, R465 to R468, R480, R481). -/
def execAcvCpl (h : AcvHdr) (data : List Byte) (s : State) : Host.Outcome State Fault Refusal := .next (s.hostPacket h acvCpl data)

/-! ### Descriptors (15 R482, R483) -/

/-- NOP (15 R481, R482). -/
def execNop (d : Desc) (s : State) : Host.Outcome State Fault Refusal := .next (s.accept d (fun t => t.complete d 0))

/-- DESC_BAD (15 R481, R482): no other effect. -/
def execDescBad (d : Desc) (s : State) : Host.Outcome State Fault Refusal := .next (s.accept d (fun t => t.complete d 0x10))

/-- Both addresses and LEN are multiples of 8 (15 R483). -/
def copyAligned (a b n : Nat) : Bool := decide (a % 8 = 0) && decide (b % 8 = 0) && decide (n % 8 = 0)

/-- COPY_IN (00 R22; 13 R409, R421; 15 R472, R483). `fail`: the byte offset at which the host read ends with STATUS ERROR. A break of R14
completes with BAD_ACCESS, another misalignment with ADDR_BAD (log entry 28). -/
def State.copyIn (s : State) (d : Desc) (host dev n : Nat) (fail : Option Nat) : State :=
  if n = 0 then s.complete d 1
  else
    let c := if breaksR14 dev n then 0x11 else if !copyAligned host dev n then 0x12 else s.hostWriteCode dev n
    if c ≠ 0 then (s.count F.ACV_COUNTS_WR_REFUSED).complete d c
    else
      let k := match fail with | some k => min n (k / 8 * 8) | none => n
      let p := s.hostPutDev dev (s.hostBytes host k)
      p.2.2.complete d (if p.2.1 then 0x15 else if k < n then 0x14 else 0) p.1

/-- COPY_IN (15 R483). -/
def execCopyIn (d : Desc) (host dev len : BitVec 64) (fail : Option (BitVec 64)) (s : State) : Host.Outcome State Fault Refusal :=
  .next (s.serve d (fun t => t.copyIn d host.toNat dev.toNat len.toNat (fail.map BitVec.toNat)))

/-- COPY_OUT (00 R14, R22; 13 R409, R421; 15 R472, R483). `fail`: the byte offset at which the host write fails. -/
def State.copyOut (s : State) (d : Desc) (dev host n : Nat) (fail : Option Nat) : State :=
  if n = 0 then s.complete d 1
  else
    let c := if breaksR14 dev n then 0x11 else if !copyAligned host dev n then 0x12 else s.readCode .host dev n
    if c ≠ 0 then s.complete d c
    else
      let k := match fail with | some k => min n (k / 8 * 8) | none => n
      match (if wordOnly dev then none else s.poisonRead dev k) with
      | some x =>
        let m := poisonUnit x - dev
        let p := s.fetchBytes dev m
        ((p.2.toHost host p.1).meetPoison 5 x 1).complete d 0x15 m
      | none =>
        let p := s.fetchBytes dev k
        (p.2.toHost host p.1).complete d (if k < n then 0x14 else 0) k

/-- COPY_OUT (15 R483). -/
def execCopyOut (d : Desc) (dev host len : BitVec 64) (fail : Option (BitVec 64)) (s : State) : Host.Outcome State Fault Refusal :=
  .next (s.serve d (fun t => t.copyOut d dev.toNat host.toNat len.toNat (fail.map BitVec.toNat)))

end Sys2Proof.Machine
end

