-- ==== Sys2Proof/Machine/Dispatch.lean ====
section
/-!
DEFINITION. Machine/Dispatch.lean: one arm per command; each calls its meaning.
-/
namespace Sys2Proof.Machine

/-- What a command does to everything but the queue. -/
def exec (i : Instr) (s : State) : Host.Outcome State Fault Refusal :=
  match i with
  | .group1Regulation sel => Sys2Proof.Machine.execGroup1Regulation sel s
  | .group1Loss => Sys2Proof.Machine.execGroup1Loss s
  | .railRise g => Sys2Proof.Machine.execRailRise g s
  | .groupsInRegulation ok => Sys2Proof.Machine.execGroupsInRegulation ok s
  | .railsDown => Sys2Proof.Machine.execRailsDown s
  | .porstRise => Sys2Proof.Machine.execPorstRise s
  | .porstFall => Sys2Proof.Machine.execPorstFall s
  | .regulatorFault => Sys2Proof.Machine.execRegulatorFault s
  | .governorSample watts => Sys2Proof.Machine.execGovernorSample watts s
  | .sensorSample rs => Sys2Proof.Machine.execSensorSample rs s
  | .offReq => Sys2Proof.Machine.execOffReq s
  | .safeOffReached => Sys2Proof.Machine.execSafeOffReached s
  | .mgmtRead code => Sys2Proof.Machine.execMgmtRead code s
  | .claveEdge edge => Sys2Proof.Machine.execClaveEdge edge s
  | .tollPreset v => Sys2Proof.Machine.execTollPreset v s
  | .tickMark k cseq count depth => Sys2Proof.Machine.execTickMark k cseq count depth s
  | .tollMarkTimeout => Sys2Proof.Machine.execTollMarkTimeout s
  | .tickSend => Sys2Proof.Machine.execTickSend s
  | .launchTollReached => Sys2Proof.Machine.execLaunchTollReached s
  | .beatBoundary => Sys2Proof.Machine.execBeatBoundary s
  | .sealReceived k good cseq w => Sys2Proof.Machine.execSealReceived k good cseq w s
  | .sealWaitExpiry => Sys2Proof.Machine.execSealWaitExpiry s
  | .gongWord k good cseq w => Sys2Proof.Machine.execGongWord k good cseq w s
  | .rollback => Sys2Proof.Machine.execRollback s
  | .gongVouch beat => Sys2Proof.Machine.execGongVouch beat s
  | .holdCheck => Sys2Proof.Machine.execHoldCheck s
  | .holdRound k cseq body => Sys2Proof.Machine.execHoldRound k cseq body s
  | .probeRound k cseq down acre v => Sys2Proof.Machine.execProbeRound k cseq down acre v s
  | .probeTimeout => Sys2Proof.Machine.execProbeTimeout s
  | .chimeSpaceArrive e n => Sys2Proof.Machine.execChimeSpaceArrive e n s
  | .chimeSpaceReset e t => Sys2Proof.Machine.execChimeSpaceReset e t s
  | .chimeOpApply d => Sys2Proof.Machine.execChimeOpApply d s
  | .chimeWaitResume c => Sys2Proof.Machine.execChimeWaitResume c s
  | .add c sd sa sb => Sys2Proof.Machine.execAdd c sd sa sb s
  | .sub c sd sa sb => Sys2Proof.Machine.execSub c sd sa sb s
  | .and c sd sa sb => Sys2Proof.Machine.execAnd c sd sa sb s
  | .or c sd sa sb => Sys2Proof.Machine.execOr c sd sa sb s
  | .xor c sd sa sb => Sys2Proof.Machine.execXor c sd sa sb s
  | .shl c sd sa sb => Sys2Proof.Machine.execShl c sd sa sb s
  | .shr c sd sa sb => Sys2Proof.Machine.execShr c sd sa sb s
  | .mul c sd sa sb => Sys2Proof.Machine.execMul c sd sa sb s
  | .addi c sd sa imm => Sys2Proof.Machine.execAddi c sd sa imm s
  | .li c sd imm => Sys2Proof.Machine.execLi c sd imm s
  | .lui c sd imm => Sys2Proof.Machine.execLui c sd imm s
  | .ld c sd sa imm => Sys2Proof.Machine.execLd c sd sa imm s
  | .st c sa sb imm => Sys2Proof.Machine.execSt c sa sb imm s
  | .beq c sa sb imm => Sys2Proof.Machine.execBeq c sa sb imm s
  | .bne c sa sb imm => Sys2Proof.Machine.execBne c sa sb imm s
  | .blt c sa sb imm => Sys2Proof.Machine.execBlt c sa sb imm s
  | .bge c sa sb imm => Sys2Proof.Machine.execBge c sa sb imm s
  | .seqHold c => Sys2Proof.Machine.execSeqHold c s
  | .seqEnd c => Sys2Proof.Machine.execSeqEnd c s
  | .seqDrain c => Sys2Proof.Machine.execSeqDrain c s
  | .seqBeat c sd => Sys2Proof.Machine.execSeqBeat c sd s
  | .seqCcount c sd => Sys2Proof.Machine.execSeqCcount c sd s
  | .vadd c f => Sys2Proof.Machine.execVadd c f s
  | .vsub c f => Sys2Proof.Machine.execVsub c f s
  | .vmul c f => Sys2Proof.Machine.execVmul c f s
  | .vfma c f => Sys2Proof.Machine.execVfma c f s
  | .vmin c f => Sys2Proof.Machine.execVmin c f s
  | .vmax c f => Sys2Proof.Machine.execVmax c f s
  | .vabs c f => Sys2Proof.Machine.execVabs c f s
  | .vneg c f => Sys2Proof.Machine.execVneg c f s
  | .vdiv c f => Sys2Proof.Machine.execVdiv c f s
  | .vsqrt c f => Sys2Proof.Machine.execVsqrt c f s
  | .vrsqrt c f => Sys2Proof.Machine.execVrsqrt c f s
  | .vcvt c f => Sys2Proof.Machine.execVcvt c f s
  | .vrsum c f => Sys2Proof.Machine.execVrsum c f s
  | .vramax c f => Sys2Proof.Machine.execVramax c f s
  | .vcmp c f => Sys2Proof.Machine.execVcmp c f s
  | .vsel c f => Sys2Proof.Machine.execVsel c f s
  | .viadd c f => Sys2Proof.Machine.execViadd c f s
  | .vand c f => Sys2Proof.Machine.execVand c f s
  | .vor c f => Sys2Proof.Machine.execVor c f s
  | .vxor c f => Sys2Proof.Machine.execVxor c f s
  | .vshl c f => Sys2Proof.Machine.execVshl c f s
  | .vshr c f => Sys2Proof.Machine.execVshr c f s
  | .vld c f => Sys2Proof.Machine.execVld c f s
  | .vst c f => Sys2Proof.Machine.execVst c f s
  | .vbcast c f => Sys2Proof.Machine.execVbcast c f s
  | .vsetsr c f => Sys2Proof.Machine.execVsetsr c f s
  | .pand c f => Sys2Proof.Machine.execPand c f s
  | .por c f => Sys2Proof.Machine.execPor c f s
  | .pnot c f => Sys2Proof.Machine.execPnot c f s
  | .vcrc c f => Sys2Proof.Machine.execVcrc c f s
  | .mxeOp c sa => Sys2Proof.Machine.execMxeOp c sa s
  | .mxeOpIssue c => Sys2Proof.Machine.execMxeOpIssue c s
  | .mxeOpComplete c => Sys2Proof.Machine.execMxeOpComplete c s
  | .rampStep c => Sys2Proof.Machine.execRampStep c s
  | .engRepairWrite n v => Sys2Proof.Machine.execEngRepairWrite n v s
  | .repairApply n => Sys2Proof.Machine.execRepairApply n s
  | .tallyPut c sa sb r => Sys2Proof.Machine.execTallyPut c sa sb r s
  | .tallyAny c r => Sys2Proof.Machine.execTallyAny c r s
  | .tallyCellIn d cell => Sys2Proof.Machine.execTallyCellIn d cell s
  | .tallyOperation c => Sys2Proof.Machine.execTallyOperation c s
  | .parkedRelease c => Sys2Proof.Machine.execParkedRelease c s
  | .tallyTimeout c r => Sys2Proof.Machine.execTallyTimeout c r s
  | .parkedCellExpiry => Sys2Proof.Machine.execParkedCellExpiry s
  | .movCopy c sa => Sys2Proof.Machine.execMovCopy c sa s
  | .movXpose c sa => Sys2Proof.Machine.execMovXpose c sa s
  | .movSend c sa => Sys2Proof.Machine.execMovSend c sa s
  | .movSenda c sa => Sys2Proof.Machine.execMovSenda c sa s
  | .movAadd c sa => Sys2Proof.Machine.execMovAadd c sa s
  | .moverComplete c => Sys2Proof.Machine.execMoverComplete c s
  | .chArrive c f => Sys2Proof.Machine.execChArrive c f s
  | .chWait c f => Sys2Proof.Machine.execChWait c f s
  | .chReset c f => Sys2Proof.Machine.execChReset c f s
  | .rideCellTimeout d => Sys2Proof.Machine.execRideCellTimeout d s
  | .rideCellIn d cell => Sys2Proof.Machine.execRideCellIn d cell s
  | .rideDrainDone => Sys2Proof.Machine.execRideDrainDone s
  | .cellIngress k lseq cell => Sys2Proof.Machine.execCellIngress k lseq cell s
  | .cellTime => Sys2Proof.Machine.execCellTime s
  | .spillReturn d => Sys2Proof.Machine.execSpillReturn d s
  | .reseqTimeout d => Sys2Proof.Machine.execReseqTimeout d s
  | .reseqIdleFree d => Sys2Proof.Machine.execReseqIdleFree d s
  | .mirrorRecordWrite d => Sys2Proof.Machine.execMirrorRecordWrite d s
  | .mirrorEnWrite v => Sys2Proof.Machine.execMirrorEnWrite v s
  | .ctlChimeArrive cell => Sys2Proof.Machine.execCtlChimeArrive cell s
  | .ctlChimeReset cell => Sys2Proof.Machine.execCtlChimeReset cell s
  | .drainDown k cell => Sys2Proof.Machine.execDrainDown k cell s
  | .drainUp k cell => Sys2Proof.Machine.execDrainUp k cell s
  | .drainQuiet k cell => Sys2Proof.Machine.execDrainQuiet k cell s
  | .drainSwap k cell => Sys2Proof.Machine.execDrainSwap k cell s
  | .drainWaveTimer => Sys2Proof.Machine.execDrainWaveTimer s
  | .telemetrySample => Sys2Proof.Machine.execTelemetrySample s
  | .telemetryEnWrite v => Sys2Proof.Machine.execTelemetryEnWrite v s
  | .shaperConfigWrite kind n v => Sys2Proof.Machine.execShaperConfigWrite kind n v s
  | .poolCfgWrite n v => Sys2Proof.Machine.execPoolCfgWrite n v s
  | .poolBuildDone n => Sys2Proof.Machine.execPoolBuildDone n s
  | .refreshWindow tier2 errs pass => Sys2Proof.Machine.execRefreshWindow tier2 errs pass s
  | .laserLow k => Sys2Proof.Machine.execLaserLow k s
  | .linkTrained k => Sys2Proof.Machine.execLinkTrained k s
  | .linkAligned k marks => Sys2Proof.Machine.execLinkAligned k marks s
  | .linkAlignLost k => Sys2Proof.Machine.execLinkAlignLost k s
  | .rollCallTimeout k => Sys2Proof.Machine.execRollCallTimeout k s
  | .identReceived k body => Sys2Proof.Machine.execIdentReceived k body s
  | .dreqReceived k t1 t2 t3 => Sys2Proof.Machine.execDreqReceived k t1 t2 t3 s
  | .drespReceived k t2 t3 t4 => Sys2Proof.Machine.execDrespReceived k t2 t3 t4 s
  | .dreqTimeout k => Sys2Proof.Machine.execDreqTimeout k s
  | .readyReceived k => Sys2Proof.Machine.execReadyReceived k s
  | .ackReceived k good lnext cnext nak cnak => Sys2Proof.Machine.execAckReceived k good lnext cnext nak cnak s
  | .replayReceived k lseq => Sys2Proof.Machine.execReplayReceived k lseq s
  | .creditReceived k good cseq op0 op1 mgt ctl => Sys2Proof.Machine.execCreditReceived k good cseq op0 op1 mgt ctl s
  | .uncorrectableCodeword k what => Sys2Proof.Machine.execUncorrectableCodeword k what s
  | .portRetrain hi v => Sys2Proof.Machine.execPortRetrain hi v s
  | .acvAligned skew => Sys2Proof.Machine.execAcvAligned skew s
  | .acvHelloSend => Sys2Proof.Machine.execAcvHelloSend s
  | .acvHelloReceived p => Sys2Proof.Machine.execAcvHelloReceived p s
  | .acvTrainTimeout => Sys2Proof.Machine.execAcvTrainTimeout s
  | .acvMrd h => Sys2Proof.Machine.execAcvMrd h s
  | .acvMwr h data => Sys2Proof.Machine.execAcvMwr h data s
  | .acvCpl h data => Sys2Proof.Machine.execAcvCpl h data s
  | .acvAck next => Sys2Proof.Machine.execAcvAck next s
  | .acvNak next => Sys2Proof.Machine.execAcvNak next s
  | .acvResendTimeout => Sys2Proof.Machine.execAcvResendTimeout s
  | .acvReadTimeout tag => Sys2Proof.Machine.execAcvReadTimeout tag s
  | .acvLiveGo => Sys2Proof.Machine.execAcvLiveGo s
  | .doorbellPoll => Sys2Proof.Machine.execDoorbellPoll s
  | .doorbellData ok words => Sys2Proof.Machine.execDoorbellData ok words s
  | .completionWrite r => Sys2Proof.Machine.execCompletionWrite r s
  | .faultRingWrite => Sys2Proof.Machine.execFaultRingWrite s
  | .nop d => Sys2Proof.Machine.execNop d s
  | .descBad d => Sys2Proof.Machine.execDescBad d s
  | .scoreLoad d host len ok => Sys2Proof.Machine.execScoreLoad d host len ok s
  | .scoreLoadFinish => Sys2Proof.Machine.execScoreLoadFinish s
  | .launch d toll beat => Sys2Proof.Machine.execLaunch d toll beat s
  | .pause d beat => Sys2Proof.Machine.execPause d beat s
  | .group d w0 w1 w2 w3 => Sys2Proof.Machine.execGroup d w0 w1 w2 w3 s
  | .collStart d ws => Sys2Proof.Machine.execCollStart d ws s
  | .collEnd d g seq => Sys2Proof.Machine.execCollEnd d g seq s
  | .routeImage d host len ok => Sys2Proof.Machine.execRouteImage d host len ok s
  | .routeSwap d => Sys2Proof.Machine.execRouteSwap d s
  | .poolAlloc d size => Sys2Proof.Machine.execPoolAlloc d size s
  | .poolFree d h => Sys2Proof.Machine.execPoolFree d h s
  | .copyIn d host dev len fail => Sys2Proof.Machine.execCopyIn d host dev len fail s
  | .copyOut d dev host len fail => Sys2Proof.Machine.execCopyOut d dev host len fail s
  | .ckptSave d ws => Sys2Proof.Machine.execCkptSave d ws s
  | .ckptLoad d ws => Sys2Proof.Machine.execCkptLoad d ws s
  | .ckptReceive d ws => Sys2Proof.Machine.execCkptReceive d ws s
  | .ckptSend d ws => Sys2Proof.Machine.execCkptSend d ws s
  | .ckptFill d ws => Sys2Proof.Machine.execCkptFill d ws s
  | .ckptUpload d ws => Sys2Proof.Machine.execCkptUpload d ws s
  | .nvmeCompletion ok => Sys2Proof.Machine.execNvmeCompletion ok s
  | .restoreCellIn d cell => Sys2Proof.Machine.execRestoreCellIn d cell s
  | .restoreTimeout => Sys2Proof.Machine.execRestoreTimeout s
  | .bootStage d ws ok => Sys2Proof.Machine.execBootStage d ws ok s
  | .bootActivate d ws => Sys2Proof.Machine.execBootActivate d ws s
  | .bootCommit d => Sys2Proof.Machine.execBootCommit d s
  | .bootRevert d => Sys2Proof.Machine.execBootRevert d s
  | .attest d ws ok => Sys2Proof.Machine.execAttest d ws ok s
  | .debugOpen d ws ok => Sys2Proof.Machine.execDebugOpen d ws ok s
  | .updateTollReached => Sys2Proof.Machine.execUpdateTollReached s
  | .revertTollReached => Sys2Proof.Machine.execRevertTollReached s
  | .romBankAccept => Sys2Proof.Machine.execRomBankAccept s
  | .firstStage => Sys2Proof.Machine.execFirstStage s
  | .memTrainingEnd failed => Sys2Proof.Machine.execMemTrainingEnd failed s
  | .sextonWdog => Sys2Proof.Machine.execSextonWdog s
  | .deviceReset => Sys2Proof.Machine.execDeviceReset s
  | .regionCollectorTake n => Sys2Proof.Machine.execRegionCollectorTake n s
  | .dieCollectorTake d => Sys2Proof.Machine.execDieCollectorTake d s
  | .regionRecordClear n => Sys2Proof.Machine.execRegionRecordClear n s
  | .diagnosis c self sibling row => Sys2Proof.Machine.execDiagnosis c self sibling row s
  | .fenceMapWrite j v => Sys2Proof.Machine.execFenceMapWrite j v s
  | .injArm host key => Sys2Proof.Machine.execInjArm host key s
  | .injArmExpiry => Sys2Proof.Machine.execInjArmExpiry s
  | .injGo host v => Sys2Proof.Machine.execInjGo host v s
  | .injFire => Sys2Proof.Machine.execInjFire s
  | .registerWrite p a v => Sys2Proof.Machine.execRegisterWrite p a v s
  | .acvAlignLost => Sys2Proof.Machine.execAcvAlignLost s
  | .laserPowerRestored k => Sys2Proof.Machine.execLaserPowerRestored k s
  | .firmwareRestartEnd => Sys2Proof.Machine.execFirmwareRestartEnd s
  | .bootStagingEnd => Sys2Proof.Machine.execBootStagingEnd s
  | .registerRead a => Sys2Proof.Machine.execRegisterRead a s

end Sys2Proof.Machine
end

