-- ==== Sys2Proof/Machine/Idle.lean ====
section
/-!
DEFINITION. Machine/Idle.lean: what one CK brings when no command waits: the Toll count advances (02 R68, R72), and the queues of
the clusters go on.
-/
namespace Sys2Proof.Machine

/-- By how much the count advances in this CK (02 R68, R72): 1 in FREE and LOST; in COARSE and LOCKED 2 or 0 while the offset
still to remove exceeds half a CK and no other step came in the last 1,024 CK. -/
def State.tollStep (s : State) : Nat :=
  let st := s.reg F.TOLL_STATUS_STATE
  if st = 0 ∨ st = 3 ∨ s.tollU.sinceStep < 1023 then 1
  else if s.tollU.corr > 8 then 2
  else if s.tollU.corr < -8 then 0
  else 1

/-- The queues of a cluster go on as far as they can in this CK (06 R204, R218, R230): what waits for an engine's interval, for a permitted
issue slot or for room at a Chime unit is tried again. -/
def State.queuesOn (s : State) (c : Nat) : State :=
  let x := s.cl c
  let s1 := s.flushMx x.mxq.length c
  let s2 := foldKeys (List.range 4) (fun t ve => State.vNext (tabGet [] x.vq ve).length t c ve) s1
  State.moverNext x.mvq.length (State.tlNext x.tlq.length s2 c) c

/-- Rounds of the links that have begun by a Toll count: a round takes 409.6 CK (14 R428; where the rounds of a link stand against the count is
DESIGN CHOICE, log entry 72). -/
def roundsBy (toll : Nat) : Nat := 10 * toll / 4096

/-- One CK with no command (log entry 1). -/
def State.idle (s : State) : State :=
  let n := s.tollStep
  let u := if n = 1 then { s.tollU with sinceStep := min (s.tollU.sinceStep + 1) 1024 }
    else { s.tollU with sinceStep := 0, corr := s.tollU.corr - 16 * ((n : Int) - 1) }
  let s1 := ((s.setReg F.TOLL_COUNT_COUNT (s.toll + n)).passCk 1).putTollU u
  let s2 := if roundsBy s.toll < roundsBy s1.toll then s1.roundsOn else s1
  State.hostOn s2.acv.held.length (foldKeys (s2.clusters.map (·.1)) State.queuesOn s2)

end Sys2Proof.Machine
end

