-- ==== Sys2Proof/Safety.lean ====
section
/-!
DEFINITION. Safety.lean: the words that claims about the block are stated in: what a command leaves unchanged, and what counts as a good
state.
-/
namespace Sys2Proof.Machine

/-- Every register field reads as before, but those whose keys are listed. -/
def State.regsKept (s t : State) (ks : List Nat) : Prop := ∀ (f : Field) (n : Nat), f.key n ∉ ks → t.reg f n = s.reg f n

/-- Every byte of device memory reads as before. -/
def State.memKept (s t : State) : Prop := ∀ a, t.byte a = s.byte a

/-- Every byte of device memory outside `n` bytes from `a` reads as before. -/
def State.memKeptOut (s t : State) (a n : Nat) : Prop := ∀ x, x < a ∨ a + n ≤ x → t.byte x = s.byte x

/-- Nothing changes but the register fields whose keys are listed. -/
def State.onlyRegs (s t : State) (ks : List Nat) : Prop := t = s.putRegs t.regs ∧ s.regsKept t ks ∧ s.memKept t

/-- Nothing changes but the register fields whose keys are listed, and what is kept beside these of the present CK (00 R17). -/
def State.onlyCounts (s t : State) (ks : List Nat) : Prop :=
  t = (s.putRegs t.regs).putFresh t.fresh ∧ s.regsKept t ks ∧ s.memKept t ∧ ∀ k, k ∉ ks → tabFind t.fresh k = tabFind s.fresh k

/-- The key of a field of the ENG_SENSE registers (01 R38). -/
def senseKey (k : Nat) : Prop := 0x160440 * 64 ≤ k ∧ k < 0x1605C0 * 64

/-- Every register field reads as before, but those whose keys are listed and the sensor readings, which read zero (01 R38). -/
def State.regsKeptSense (s t : State) (ks : List Nat) : Prop :=
  (∀ (f : Field) (n : Nat), f.key n ∉ ks → ¬ senseKey (f.key n) → t.reg f n = s.reg f n) ∧
  ∀ (f : Field) (n : Nat), f.key n ∉ ks → senseKey (f.key n) → t.reg f n = f.reset % 2 ^ f.width

/-- A descriptor that comes with its command is accepted at once (15 R481; log entry 81): none of its ring that was fetched waits, and neither a
completion entry nor FENCE holds it back. -/
abbrev State.accepts (s : State) (d : Desc) : Prop := s.held d.ring.val = [] ∧ s.ringOpen d.ring.val d.fence = true

/-- The descriptor that a command brings (15 R481, R482). -/
def descOf (c : Instr) : Option Desc :=
  match c with
  | .nop d | .descBad d | .scoreLoad d _ _ _ | .launch d _ _ | .pause d _ | .group d _ _ _ _ | .collStart d _ | .collEnd d _ _
  | .routeImage d _ _ _ | .routeSwap d | .poolAlloc d _ | .poolFree d _ | .copyIn d _ _ _ _ | .copyOut d _ _ _ _ | .ckptSave d _
  | .ckptLoad d _ | .ckptReceive d _ | .ckptSend d _ | .ckptFill d _ | .ckptUpload d _ | .bootStage d _ _ | .bootActivate d _
  | .bootCommit d | .bootRevert d | .attest d _ _ | .debugOpen d _ _ => some d
  | _ => none

/-- A state in which the block goes on: its next step is a step, no fault and no refusal. -/
def State.goesOn (s : State) : Prop := ∃ t, step s = .next t

/-- The pins agree with the power state (01 R51, R52, R54): FAULTED holds FAULT_N and stops every port, a thermal trip is held with it, and
SAFE_OFF stops every port. -/
def State.pinsAgree (s : State) : Prop :=
  (s.reg F.ENG_PWR_STATE_STATE = 15 → s.pins.faultN = true ∧ s.pins.portsStopped = true) ∧
  (s.reg F.ENG_PWR_STATE_STATE = 6 → s.pins.portsStopped = true) ∧ (s.pins.thermtripN = true → s.pins.faultN = true)

/-- Every memory of the state has its canonical form: the device's, boot flash, the drives and the host's (log entry 2). -/
abbrev State.memoriesWf (s : State) : Prop :=
  Memory.wf s.mem = true ∧ Memory.wf s.flash = true ∧ Memory.wf s.nvme = true ∧ Memory.wf s.host = true

/-! ### Clusters -/

/-- Every queue of cluster `c` is empty (06 R204). -/
abbrev State.queuesEmpty (s : State) (c : Nat) : Prop :=
  (s.cl c).mxq = [] ∧ (s.cl c).mvq = [] ∧ (s.cl c).tlq = [] ∧ ∀ ve < 4, tabGet [] (s.cl c).vq ve = []

/-- Every queue of cluster `c` is empty and everything its units have started has completed (06 R207, R208). -/
abbrev State.allDone (s : State) (c : Nat) : Prop :=
  s.queuesEmpty c ∧ (s.cl c).mxRun = [] ∧ (s.cl c).mvRun = none ∧ (s.cl c).tlfree ≤ s.ck ∧ ∀ ve < 4, tabGet 0 (s.cl c).vdone ve ≤ s.ck

/-- No register of a list is still to be written by an earlier instruction (06 R205, R217). -/
abbrev State.readable (s : State) (c : Nat) (rs : List (BitVec 5)) : Prop := ∀ r ∈ rs, tabGet 0 (s.cl c).sready r.toNat ≤ s.ck

/-- Every other cluster is as before. -/
def State.othersKept (s t : State) (c : Nat) : Prop := ∀ x, x ≠ c → t.cl x = s.cl x

/-- An instruction of cluster `c` has issued with no effect outside that cluster: the next in list order follows, modulo 2^24, and nothing
stalls (06 R203, R234); no register field but INDEX, STALL and those listed changes. -/
def State.issued (s t : State) (c : Nat) (ks : List Nat) : Prop :=
  t = (s.putRegs t.regs).putClusters t.clusters ∧
  s.regsKept t (F.SEQ_CLUSTER_INDEX.key c :: F.SEQ_CLUSTER_STALL.key c :: ks) ∧ s.memKept t ∧ s.othersKept t c ∧
  t.reg F.SEQ_CLUSTER_INDEX c = (s.reg F.SEQ_CLUSTER_INDEX c + 1) % 2 ^ 24 ∧ t.reg F.SEQ_CLUSTER_STALL c = 0

/-- An instruction whose one result is `v` in Sd of cluster `c`, which may be read `lat` CK after its issue: S0 stays zero, every other S
register and the rest of the cluster stay (06 R203, R205, R217). -/
def State.setsScalar (s t : State) (c : Nat) (sd : BitVec 5) (v : Word) (lat : Nat) : Prop :=
  s.issued t c [] ∧ t.cl c = { s.cl c with sregs := (t.cl c).sregs, sready := (t.cl c).sready } ∧
  (∀ r : BitVec 5, t.sreg c r = if r = sd ∧ sd ≠ 0 then v else s.sreg c r) ∧
  ∀ r : BitVec 5, tabGet 0 (t.cl c).sready r.toNat =
    if r = sd ∧ sd ≠ 0 ∧ 1 < lat then max (tabGet 0 (s.cl c).sready r.toNat) (s.ck + lat - 1) else tabGet 0 (s.cl c).sready r.toNat

/-- The sequencer of cluster `c` meets an instruction that it may issue: it runs, waits for nothing, and the list's word is not poisoned and
holds no bad symbol. -/
abbrev State.meets (s : State) (c : Nat) : Prop :=
  s.mayIssue c = true ∧ s.fetchPoison c = none ∧ (s.listAddr c).all (fun a => (s.softIn a 8).isEmpty) = true

/-- An instruction only stalls, for cause `k` (06 R234). -/
def State.stalls (s t : State) (c k : Nat) : Prop := s.onlyRegs t [F.SEQ_CLUSTER_STALL.key c] ∧ t.reg F.SEQ_CLUSTER_STALL c = k

/-- The first entry of an engine's queue is a Chime operation, which the unit takes as soon as it comes first (06 R230). -/
def chimeFirst (q : List QEntry) : Bool :=
  match q with
  | .chime _ :: _ => true
  | _ => false

/-- The sequencer of cluster `c` has met an encoding that 06 R213 forbids (06 R214): ILLEGAL is set, it is stopped and stalls at nothing, a
message SEQ_ILLEGAL of the cluster reaches the collector of its region, ERR with cause OTHER is in the seal while a Score runs, and no byte of
memory changes. -/
def State.stopsIllegal (s t : State) (c : Nat) : Prop :=
  t.reg F.SEQ_CLUSTER_ILLEGAL c = 1 ∧ t.reg F.SEQ_CLUSTER_STATE c = 4 ∧ t.reg F.SEQ_CLUSTER_STALL c = 0 ∧
  s.regsKept t [F.SEQ_CLUSTER_ILLEGAL.key c, F.SEQ_CLUSTER_STATE.key c, F.SEQ_CLUSTER_STALL.key c] ∧ s.memKept t ∧
  (∃ r : Rep, r.msg.kind = 0x1001 ∧ r.msg.level = 0 ∧ r.msg.unit = 8 * c + 6 ∧ t.faults.region = s.faults.region ++ [(c / 8, r)]) ∧
  (s.running = true → t.beatU.err = true ∧ t.beatU.errCause = s.beatU.errCause ||| 2 ^ 15) ∧ t.clusters = s.clusters

/-- A vector instruction of engine VE that runs (06 R203, R204, R235; 01 R32): the sequencer meets it, its engine is not fenced, has nothing
queued and may start now, and no injected corruption is due. -/
abbrev State.runsVector (s : State) (c : Nat) (f : VF) : Prop :=
  s.meets c ∧ s.vxFenced (4 * c + f.ve.toNat) = false ∧ tabGet [] (s.cl c).vq f.ve.toNat = [] ∧ s.vMayStart c f.ve.toNat = true ∧
  s.inj.corrupt = []

/-- A vector instruction has issued and changed nothing outside its engine: its flags NANIN, INV and OVF may be set, and of the cluster only
the V registers, P registers, LANE_BASE, DRAW_IDX and the times at which the engine is free and done may change. -/
def State.vecIssued (s t : State) (c : Nat) (f : VF) : Prop :=
  t = ((s.putRegs t.regs).putFresh t.fresh).putClusters t.clusters ∧
  s.regsKept t [F.SEQ_CLUSTER_INDEX.key c, F.SEQ_CLUSTER_STALL.key c, F.VXE_ENG_NANIN.key (4 * c + f.ve.toNat),
    F.VXE_ENG_INV.key (4 * c + f.ve.toNat), F.VXE_ENG_OVF.key (4 * c + f.ve.toNat)] ∧ s.memKept t ∧ s.othersKept t c ∧
  t.reg F.SEQ_CLUSTER_INDEX c = (s.reg F.SEQ_CLUSTER_INDEX c + 1) % 2 ^ 24 ∧ t.reg F.SEQ_CLUSTER_STALL c = 0 ∧
  t.cl c = { s.cl c with vregs := (t.cl c).vregs, pregs := (t.cl c).pregs, lane := (t.cl c).lane, draw := (t.cl c).draw,
                         vfree := (t.cl c).vfree, vdone := (t.cl c).vdone }

/-- DRAW_IDX of the instruction's engine rises by one with RM SR; no other DRAW_IDX and no LANE_BASE changes (06 R222). -/
def State.drawsOne (s t : State) (c : Nat) (f : VF) : Prop :=
  (t.cl c).lane = (s.cl c).lane ∧
  (∀ e < 4, tabGet 0 (t.cl c).draw e = if e = f.ve.toNat ∧ f.rm = 2 then (tabGet 0 (s.cl c).draw e + 1) % 2 ^ 32 else tabGet 0 (s.cl c).draw e)

/-- Every V register of cluster `c` but `r` of engine `ve` is as before. -/
def State.vregsKept (s t : State) (c ve r : Nat) : Prop :=
  ∀ e x, e < 4 → x < 64 → ¬(e = ve ∧ x = r) → t.vreg c e x = s.vreg c e x

/-- Every P register of cluster `c` is as before. -/
def State.pregsKept (s t : State) (c : Nat) : Prop := ∀ e x, e < 4 → x < 8 → t.preg c e x = s.preg c e x

/-- The elements of VD that the predicate selects hold `r`, the others what they held; no other V or P register changes (06 R210, R211). -/
def State.setsElems (s t : State) (c : Nat) (f : VF) (r : Nat → Nat) : Prop :=
  s.vregsKept t c f.ve.toNat f.vd.toNat ∧ s.pregsKept t c ∧
  ∀ j < elemCount f.ty.toNat, elemOf (tyWidth f.ty.toNat) (t.vreg c f.ve.toNat f.vd.toNat) j =
    if (s.preg c f.ve.toNat f.pred.toNat).testBit j then r j % 2 ^ tyWidth f.ty.toNat
    else elemOf (tyWidth f.ty.toNat) (s.vreg c f.ve.toNat f.vd.toNat) j

/-- Element `j` of register `r` of the instruction's engine. -/
def State.elem (s : State) (c : Nat) (f : VF) (r : BitVec 6) (j : Nat) : Nat :=
  elemOf (tyWidth f.ty.toNat) (s.vreg c f.ve.toNat r.toNat) j

end Sys2Proof.Machine
end

