-- ==== Sys2Proof/Certificates/Slice0/Obligations.lean ====
section
/-!
DEFINITION. Certificates/Slice0/Obligations.lean: the statements for the provers. `exec c s = .next t` says that command `c` completes on
state `s` with state `t`; `onlyRegs`, `regsKept` and `memKept` (Safety.lean) are the frames; `s.putX v` is `s` with its part `X` replaced, so
that an equation `t = s.putX t.x` says that nothing but `X` changes.
-/
open Sys2Proof Sys2Proof.Machine

/-! ### The queue and reset -/

/-- A step with command `c` at the front of the queue is `exec` of `c` on the state with the rest of the queue, and every command completes on every
state: none ends in a fault or a refusal. -/
def Obligations.StepRunsFrontCommand : Prop :=
  (∀ (c : Instr) (rest : List Instr) (s : State), s.pending = c :: rest → step s = exec c (s.putPending rest)) ∧
  (∀ (c : Instr) (s : State), ∃ t, exec c s = .next t)

/-- With nothing queued one package CK passes (the model's own idle step: log entry 1): when besides no cluster has anything queued, no packet of the
host waits and no round of the links begins, the package CK count is one higher while PORST_N is high (01 R32), the Toll count goes on by 0, 1 or 2
(02 R72), nothing is new in the new CK (00 R17), and nothing else changes but the slewing bookkeeping of the Toll unit. -/
def Obligations.IdleStepIsOneCk : Prop :=
  ∀ s : State, s.pending = [] → (∀ e ∈ s.clusters, s.queuesEmpty e.1) → s.acv.held = [] → roundsBy s.toll = roundsBy (s.toll + 2) →
    ∃ t, step s = .next t ∧
    t = (((s.putRegs t.regs).putCk (if s.pins.porstN then s.ck + 1 else s.ck)).putFresh []).putTollU t.tollU ∧
    s.regsKept t [F.TOLL_COUNT_COUNT.key 0] ∧ s.memKept t ∧
    (t.toll = s.toll % 2 ^ 64 ∨ t.toll = (s.toll + 1) % 2 ^ 64 ∨ t.toll = (s.toll + 2) % 2 ^ 64) ∧
    (s.reg F.TOLL_STATUS_STATE = 0 → t.toll = (s.toll + 1) % 2 ^ 64)

/-- After reset every register field has its reset value (00 R15): STATE is AON_UP and GRP_OK shows group 1 (01 R50); nothing is queued, no memory
byte is set, no word is poisoned, no pin of a C4 fault is asserted, no Score runs; the pins agree with the power state (01 R52, R54) and every memory
has its canonical form (log entry 2). -/
def Obligations.ResetLeavesResetValues : Prop :=
  (∀ (f : Field) (n : Nat), State.reset.reg f n = f.reset % 2 ^ f.width) ∧ State.reset.reg F.ENG_PWR_STATE_STATE = 1 ∧
  State.reset.reg F.ENG_PWR_STATE_GRP_OK = 1 ∧ State.reset.pending = [] ∧ (∀ a, State.reset.byte a = 0) ∧ State.reset.poison = [] ∧
  State.reset.pins.faultN = false ∧ State.reset.pins.thermtripN = false ∧ State.reset.running = false ∧
  State.reset.pinsAgree ∧ State.reset.memoriesWf

/-! ### Power, pins and sensors (spec/01) -/

/-- Power-up in order (01 R44, R48, R50, R52): group 1 in regulation gives AON_UP with OFF_REQ clear and the MGMT_SEL strap sampled; the first rail of
group 2 gives POWERING; a rail of group 3 or 4 after the group before it changes nothing; all four groups in regulation give WAIT_RESET. No sensor has
been sampled yet (R38). Power-down (01 R38, R45, R52, R54; 20 R600): a fall of PORST_N while RUNNING, OFF_PENDING or SAFE_OFF gives WAIT_RESET, drops
every link and stops a running Score as LEFT; every rail of groups 2 to 4 below 10 % gives AON_UP from POWERING or WAIT_RESET and loses what group 2
kept; loss of group 1 clears C4_CAUSE and its pins; that STATE then holds AON_UP's value is the model's choice (log entry 61). -/
def Obligations.PowerMovesWithItsRails : Prop :=
  (∀ s : State,
  (∀ sel : Bool, ∃ t, exec (.group1Regulation sel) s = .next t ∧
    t = (s.putRegs t.regs).putPins { s.pins with mgmtSel := sel } ∧
    s.regsKeptSense t [F.ENG_PWR_STATE_STATE.key 0, F.ENG_PWR_STATE_OFF_REQ.key 0, F.ENG_PWR_STATE_GRP_OK.key 0] ∧ s.memKept t ∧
    t.reg F.ENG_PWR_STATE_STATE = 1 ∧ t.reg F.ENG_PWR_STATE_OFF_REQ = 0 ∧ t.reg F.ENG_PWR_STATE_GRP_OK = 1) ∧
  (s.reg F.ENG_PWR_STATE_STATE = 1 → (s.reg F.ENG_PWR_STATE_GRP_OK).testBit 0 = true →
    ∃ t, exec (.railRise 0) s = .next t ∧ s.onlyRegs t [F.ENG_PWR_STATE_STATE.key 0] ∧ t.reg F.ENG_PWR_STATE_STATE = 2) ∧
  (∀ g : Fin 3, g ≠ 0 → (s.reg F.ENG_PWR_STATE_GRP_OK).testBit g.val = true → exec (.railRise g) s = .next s) ∧
  (∀ ok : BitVec 4, ∃ t, exec (.groupsInRegulation ok) s = .next t ∧
    s.onlyRegs t [F.ENG_PWR_STATE_GRP_OK.key 0, F.ENG_PWR_STATE_STATE.key 0] ∧ t.reg F.ENG_PWR_STATE_GRP_OK = ok.toNat ∧
    t.reg F.ENG_PWR_STATE_STATE = (if ok.toNat = 15 ∧ s.reg F.ENG_PWR_STATE_STATE = 2 then 3 else s.reg F.ENG_PWR_STATE_STATE))) ∧
  (∀ s : State,
  (s.reg F.ENG_PWR_STATE_STATE ∈ [4, 5, 6] → ∃ t, exec .porstFall s = .next t ∧ t.reg F.ENG_PWR_STATE_STATE = 3 ∧
    t.pins = { s.pins with porstN := false } ∧ (∀ k < 256, t.reg F.PORT_LINK_STATE k = 0) ∧
    t.reg F.BEAT_STATUS_STATE = (if s.reg F.BEAT_STATUS_STATE = 2 then 4 else s.reg F.BEAT_STATUS_STATE) ∧
    t = (((s.putRegs t.regs).putPins t.pins).putLinks t.links).putBeatU t.beatU ∧ s.memKept t ∧
    (∀ (f : Field) (n : Nat), f.key n ∉ [F.ENG_PWR_STATE_STATE.key 0, F.BEAT_STATUS_STATE.key 0] →
      (∀ k < 256, f.key n ≠ F.PORT_LINK_STATE.key k) → t.reg f n = s.reg f n)) ∧
  (∃ t, exec .railsDown s = .next t ∧ t.reg F.ENG_PWR_STATE_GRP_OK = s.reg F.ENG_PWR_STATE_GRP_OK % 2 ∧
    t.reg F.OPT_MIRROR_BEAT_VALID = 0 ∧ t.reg F.OPT_MIRROR_BEAT_BEAT = 0 ∧ t.reg F.CKPT_STATUS_MIRROR_POISON = 0 ∧
    t.reg F.ENG_PWR_STATE_STATE = (if s.reg F.ENG_PWR_STATE_STATE = 2 ∨ s.reg F.ENG_PWR_STATE_STATE = 3 then 1
      else s.reg F.ENG_PWR_STATE_STATE) ∧
    s.regsKeptSense t [F.ENG_PWR_STATE_GRP_OK.key 0, F.OPT_MIRROR_BEAT_VALID.key 0, F.OPT_MIRROR_BEAT_BEAT.key 0,
      F.CKPT_STATUS_MIRROR_POISON.key 0, F.ENG_PWR_STATE_STATE.key 0] ∧
    (∀ a, t.byte a = 0) ∧ t = ((((s.putRegs t.regs).putMem []).putPoison []).putSoft []).putFaults t.faults) ∧
  (∃ t, exec .group1Loss s = .next t ∧
    t = (s.putRegs t.regs).putPins { s.pins with faultN := false, thermtripN := false, c4At := none } ∧ s.memKept t ∧
    s.regsKeptSense t [F.ENG_PWR_STATE_C4_CAUSE.key 0, F.ENG_PWR_STATE_GRP_OK.key 0, F.ENG_PWR_STATE_STATE.key 0] ∧
    t.reg F.ENG_PWR_STATE_C4_CAUSE = 0 ∧ t.reg F.ENG_PWR_STATE_GRP_OK = 0 ∧ t.reg F.ENG_PWR_STATE_STATE = 1))

/-- A rise of PORST_N in WAIT_RESET with all four groups in regulation starts the block (00 R15; 01 R32, R52; 17 R510; 19 R564): RUNNING, the package
CK count at 0, step 2 of the start, every register field at its reset value but those kept under 01 R50, R52 and 20 R600, tier 2 and the Sexton area
as they were and the rest of memory at its reset value, nothing queued inside the block. The reset of the block's memories and of fields other than
the power state at a rise of PORST_N is the model's reading (log entry 35). -/
def Obligations.PorstRiseStartsTheBlock : Prop :=
  ∀ s : State, s.reg F.ENG_PWR_STATE_STATE = 3 → s.reg F.ENG_PWR_STATE_GRP_OK = 15 →
  ∃ t, exec .porstRise s = .next t ∧ t.reg F.ENG_PWR_STATE_STATE = 4 ∧ t.reg F.ENG_PWR_STATE_GRP_OK = 15 ∧ t.ck = 0 ∧
    t.pins.porstN = true ∧ t.pins.portsStopped = false ∧ t.boot.step = 2 ∧ t.pending = s.pending ∧ t.flash = s.flash ∧ t.host = s.host ∧
    (∀ f ∈ [F.ENG_PWR_STATE_C4_CAUSE, F.ENG_PWR_STATE_OFF_REQ, F.OPT_MIRROR_BEAT_VALID, F.OPT_MIRROR_BEAT_BEAT, F.CKPT_STATUS_MIRROR_POISON],
      t.reg f = s.reg f) ∧
    State.reset.regsKept t [F.ENG_PWR_STATE_STATE.key 0, F.ENG_PWR_STATE_GRP_OK.key 0, F.ENG_PWR_STATE_C4_CAUSE.key 0,
      F.ENG_PWR_STATE_OFF_REQ.key 0, F.OPT_MIRROR_BEAT_VALID.key 0, F.OPT_MIRROR_BEAT_BEAT.key 0, F.CKPT_STATUS_MIRROR_POISON.key 0] ∧
    (∀ a, t.byte a = if (0x9000000000 ≤ a ∧ a < 0x11000000000) ∨ (0x8F00000000 ≤ a ∧ a < 0x9000000000) then s.byte a else 0) ∧
    t.clusters = [] ∧ t.links = [] ∧ t.comps = [] ∧ t.colls = [] ∧ t.groups = []

/-- A C4 fault (01 R47, R53, R54; 17 R516): a regulator fault after PORST_N has risen and a rail out of order give FAULTED, FAULT_N, every port
stopped, the first cause latched and of two in one sample the lower, and a C4 message to the hub; a regulator fault before PORST_N has risen changes
nothing. A sample of the 33 sensors that finds every region, the hub and every memory stack at least 5 degrees below its throttle threshold and every
sensor below its trip value (01 R38, R39, R40, R41): the readings land in the ENG_SENSE registers and THERM_FLOOR is 0. -/
def Obligations.SensorsClearOrTrip : Prop :=
  (∀ s : State,
  (s.pins.porstN = false → exec .regulatorFault s = .next s) ∧
  (s.pins.porstN = true → ∃ t, exec .regulatorFault s = .next t ∧
    t = ((s.putRegs t.regs).putPins { s.pins with faultN := true, portsStopped := true, c4At := t.pins.c4At }).putFaults t.faults ∧ s.memKept t ∧
    s.regsKept t [F.ENG_PWR_STATE_STATE.key 0, F.ENG_PWR_STATE_C4_CAUSE.key 0] ∧ t.reg F.ENG_PWR_STATE_STATE = 15 ∧
    t.reg F.ENG_PWR_STATE_C4_CAUSE = (if s.reg F.ENG_PWR_STATE_C4_CAUSE = 0 then 2
      else if s.pins.c4At = some (s.ck, s.toll) then min (s.reg F.ENG_PWR_STATE_C4_CAUSE) 2 else s.reg F.ENG_PWR_STATE_C4_CAUSE) ∧
    ∃ r, t.faults.hub = s.faults.hub ++ [r] ∧ r.msg.kind = 0x4003 ∧ r.msg.cls = 4) ∧
  (∀ g : Fin 3, (s.reg F.ENG_PWR_STATE_GRP_OK).testBit g.val = false → ∃ t, exec (.railRise g) s = .next t ∧
    t = ((s.putRegs t.regs).putPins { s.pins with faultN := true, portsStopped := true, c4At := t.pins.c4At }).putFaults t.faults ∧ s.memKept t ∧
    s.regsKept t [F.ENG_PWR_STATE_STATE.key 0, F.ENG_PWR_STATE_C4_CAUSE.key 0] ∧ t.reg F.ENG_PWR_STATE_STATE = 15 ∧
    t.reg F.ENG_PWR_STATE_C4_CAUSE = (if s.reg F.ENG_PWR_STATE_C4_CAUSE = 0 then 3
      else if s.pins.c4At = some (s.ck, s.toll) then min (s.reg F.ENG_PWR_STATE_C4_CAUSE) 3 else s.reg F.ENG_PWR_STATE_C4_CAUSE) ∧
    ∃ r, t.faults.hub = s.faults.hub ++ [r] ∧ r.msg.kind = 0x4004 ∧ r.msg.cls = 4)) ∧
  (∀ (rs : List Reading) (s : State), rs.length = 33 →
    (∀ i < 33, sxt 16 (rs.getD i ⟨0, 0, 0⟩).temp.toNat < 4 * s.tripC i) →
    (∀ i < 25, sxt 16 (rs.getD i ⟨0, 0, 0⟩).temp.toNat ≤
      4 * (((if i < 9 then s.reg F.ENG_THERM_CFG_THROTTLE_C else s.reg F.ENG_THERM_CFG_MEM_THROTTLE_C : Nat) : Int) - 5)) →
    ∃ t, exec (.sensorSample rs) s = .next t ∧
      t = (s.putRegs t.regs).putGov { s.gov with changed := t.gov.changed, was := t.gov.was } ∧ s.memKept t ∧ t.reg F.ENG_PWR_STATUS_THERM_FLOOR = 0 ∧
      (∀ i < 8, t.reg F.ENG_SENSE_REGION_TEMP i = (rs.getD i ⟨0, 0, 0⟩).temp.toNat ∧
        t.reg F.ENG_SENSE_REGION_VMAIN_MV i = (rs.getD i ⟨0, 0, 0⟩).vmain.toNat ∧
        t.reg F.ENG_SENSE_REGION_VAUX_MV i = (rs.getD i ⟨0, 0, 0⟩).vaux.toNat) ∧
      t.reg F.ENG_SENSE_HUB_TEMP = (rs.getD 8 ⟨0, 0, 0⟩).temp.toNat ∧
      (∀ i < 16, t.reg F.ENG_SENSE_MEM_TEMP i = (rs.getD (i + 9) ⟨0, 0, 0⟩).temp.toNat) ∧
      (∀ i < 8, t.reg F.ENG_SENSE_OE_TEMP i = (rs.getD (i + 25) ⟨0, 0, 0⟩).temp.toNat))

/-- A request for an orderly power-off (01 R50, R51, R52, R56): ignored while FAULTED; the bit is set; from RUNNING with no Score running it reaches
SAFE_OFF at once with every port stopped, with one running OFF_PENDING, HALT_REQ with cause DEVICE_STOP and a departure at the boundary; once no Score
runs, OFF_PENDING becomes SAFE_OFF with every port stopped. -/
def Obligations.OffRequestReachesSafeOff : Prop :=
  ∀ s : State,
  (s.reg F.ENG_PWR_STATE_STATE = 15 → exec .offReq s = .next s) ∧
  (s.reg F.ENG_PWR_STATE_STATE = 4 → s.reg F.BEAT_STATUS_STATE ≠ 2 → ∃ t, exec .offReq s = .next t ∧
    t = (s.putRegs t.regs).putPins { s.pins with portsStopped := true } ∧ s.memKept t ∧
    s.regsKept t [F.ENG_PWR_STATE_OFF_REQ.key 0, F.ENG_PWR_STATE_STATE.key 0] ∧ t.reg F.ENG_PWR_STATE_OFF_REQ = 1 ∧
    t.reg F.ENG_PWR_STATE_STATE = 6) ∧
  (s.reg F.ENG_PWR_STATE_STATE = 4 → s.reg F.BEAT_STATUS_STATE = 2 → ∃ t, exec .offReq s = .next t ∧
    t = (s.putRegs t.regs).putBeatU { s.beatU with haltReq := true, haltCause := s.beatU.haltCause ||| 0x400, leaveDue := true } ∧
    s.memKept t ∧ s.regsKept t [F.ENG_PWR_STATE_OFF_REQ.key 0, F.ENG_PWR_STATE_STATE.key 0] ∧ t.reg F.ENG_PWR_STATE_OFF_REQ = 1 ∧
    t.reg F.ENG_PWR_STATE_STATE = 5) ∧
  (s.reg F.ENG_PWR_STATE_STATE = 5 → s.reg F.BEAT_STATUS_STATE ≠ 2 → ∃ t, exec .safeOffReached s = .next t ∧
    t = (s.putRegs t.regs).putPins { s.pins with portsStopped := true } ∧ s.memKept t ∧
    s.regsKept t [F.ENG_PWR_STATE_STATE.key 0] ∧ t.reg F.ENG_PWR_STATE_STATE = 6)

/-- A governor sample (01 R31, R32): T goes up by one above LIMIT_W when it is below 15, down by one below LIMIT_W - HYST_W when it is above 0, else
holds, and changes only when 16 samples, 1 us apart, have passed since it last did. Beside that SAMPLE_W shows the sample, THR_US counts one taken at
a level above 0 (by this sample's own T, the model's choice: log entry 67), the level in force is kept through a 16-CK window in which it changes
(R32), and no other register and no memory changes. -/
def Obligations.GovernorSampleMovesThrottle : Prop :=
  ∀ (w : BitVec 12) (s : State), ∃ t, exec (.governorSample w) s = .next t ∧ t = ((s.putRegs t.regs).putGov t.gov).putFresh t.fresh ∧ s.memKept t ∧
    s.regsKept t [F.ENG_PWR_STATUS_SAMPLE_W.key 0, F.ENG_PWR_STATUS_AVG_W.key 0, F.ENG_PWR_STATUS_THROTTLE.key 0,
      F.ENG_PWR_THROTTLE_US_THR_US.key 0] ∧
    t.reg F.ENG_PWR_STATUS_SAMPLE_W = w.toNat ∧ t.gov.samples = (w.toNat :: s.gov.samples).take 1000 ∧
    (t.level ≠ s.level → s.gov.changed ≠ s.ck / 16 + 1 → t.gov.changed = s.ck / 16 + 1 ∧ t.gov.was = s.level) ∧
    (t.level = s.level ∨ s.gov.changed = s.ck / 16 + 1 → t.gov.changed = s.gov.changed ∧ t.gov.was = s.gov.was) ∧
    t.gov.sinceChange = (if t.reg F.ENG_PWR_STATUS_THROTTLE = s.reg F.ENG_PWR_STATUS_THROTTLE then min (s.gov.sinceChange + 1) 16 else 1) ∧
    t.reg F.ENG_PWR_STATUS_THROTTLE =
      (let n := s.reg F.ENG_PWR_STATUS_THROTTLE
       let limit := s.reg F.ENG_PWR_LIMIT_LIMIT_W
       if s.gov.sinceChange < 16 then n
       else if limit < w.toNat ∧ n < 15 then n + 1
       else if w.toNat + s.reg F.ENG_PWR_LIMIT_HYST_W < limit ∧ 0 < n then n - 1
       else n) ∧
    t.reg F.ENG_PWR_THROTTLE_US_THR_US =
      (if 0 < max (t.reg F.ENG_PWR_STATUS_THROTTLE) (s.reg F.ENG_PWR_STATUS_THERM_FLOOR) then
        min (s.reg F.ENG_PWR_THROTTLE_US_THR_US + 1) F.ENG_PWR_THROTTLE_US_THR_US.top
       else s.reg F.ENG_PWR_THROTTLE_US_THR_US)

/-- A write to OFF_REQ while STATE is FAULTED has no effect (01 R56), whichever party makes it. -/
def Obligations.OffReqWhileFaultedHasNoEffect : Prop :=
  ∀ (p : Party) (v : BitVec 64) (s : State), s.reg F.ENG_PWR_STATE_STATE = 15 →
    exec .offReq s = .next s ∧ exec (.registerWrite p 0x160418 v) s = .next s

/-! ### The Toll count, tick marks and Clave edges (spec/02 R68 to R75, R98, R99) -/

/-- A write of TOLL_PRESET (02 R68, R75): at the Gong root while FREE, with no Score running, it sets the count and the unit is LOCKED; in any other
case the count stays and PRESET_REJ is set. -/
def Obligations.TollPresetOnlyAtFreeRoot : Prop :=
  ∀ (v : BitVec 64) (s : State),
  (s.reg F.GONG_CFG_ROOT = 1 → s.reg F.TOLL_STATUS_STATE = 0 → s.reg F.BEAT_STATUS_STATE ≠ 2 → ∃ t, exec (.tollPreset v) s = .next t ∧
    s.onlyRegs t [F.TOLL_COUNT_COUNT.key 0, F.TOLL_STATUS_STATE.key 0] ∧ t.toll = v.toNat ∧ t.reg F.TOLL_STATUS_STATE = 2) ∧
  (¬(s.reg F.GONG_CFG_ROOT = 1 ∧ s.reg F.TOLL_STATUS_STATE = 0 ∧ s.reg F.BEAT_STATUS_STATE ≠ 2) → ∃ t, exec (.tollPreset v) s = .next t ∧
    s.onlyCounts t [F.TOLL_STATUS_PRESET_REJ.key 0] ∧ t.reg F.TOLL_STATUS_PRESET_REJ = 1)

/-- A TICK block from the parent port (02 R71, R72, R73; 14 R434, R436), its CRC good, taken in order on a READY link: while FREE, with no Score
running, the count becomes the block's count plus DELAY rounded to a whole CK and the unit is COARSE; in COARSE a sixteenth good mark in a row, its
offset at most 4 CK, makes it LOCKED, and OFFSET shows the offset; in LOCKED an offset above 16 CK makes it LOST, with RATE_PPB 0, and owes a device
reset. DEPTH is the block's DEPTH plus 1, and the link expects the next CSEQ. -/
def Obligations.TickMarkSetsAndLocksToll : Prop :=
  ∀ (k : Fin 256) (crc : BitVec 32) (cseq : BitVec 8) (count : BitVec 64) (depth : BitVec 8) (s : State),
  crc.toNat = blockCrc tyTick cseq.toNat (count.toNat + depth.toNat * 2 ^ 64) →
  s.reg F.PORT_LINK_STATE k = 6 → s.pins.portsStopped = false → s.reg F.GONG_CFG_ROOT = 0 → k.val / 2 = s.reg F.GONG_CFG_PARENT_PORT →
  cseq.toNat = (s.link k).cnext →
  (s.reg F.TOLL_STATUS_STATE = 0 → s.reg F.BEAT_STATUS_STATE ≠ 2 → ∃ t, exec (.tickMark ⟨k, crc⟩ cseq count depth) s = .next t ∧
    t = (((s.putRegs t.regs).putTollU t.tollU).putLinks t.links).putOut t.out ∧ s.memKept t ∧
    s.regsKept t [F.TOLL_COUNT_COUNT.key 0, F.TOLL_STATUS_STATE.key 0, F.TOLL_STATUS_OFFSET.key 0, F.TOLL_STATUS_DEPTH.key 0] ∧
    t.toll = ((16 * count.toNat + s.reg F.TOLL_DELAY_DELAY + 8) / 16) % 2 ^ 64 ∧ t.reg F.TOLL_STATUS_STATE = 1 ∧
    t.reg F.TOLL_STATUS_DEPTH = min (depth.toNat + 1) 255 ∧ (t.link k).cnext = (cseq.toNat + 1) % 256) ∧
  (s.reg F.TOLL_STATUS_STATE = 1 → 15 ≤ s.tollU.goodMarks →
    (16 * (count.toNat : Int) + s.reg F.TOLL_DELAY_DELAY - 16 * s.toll).natAbs ≤ 64 → ∃ t, exec (.tickMark ⟨k, crc⟩ cseq count depth) s = .next t ∧
    s.regsKept t [F.TOLL_STATUS_OFFSET.key 0, F.TOLL_STATUS_RATE_PPB.key 0, F.TOLL_STATUS_STATE.key 0, F.TOLL_STATUS_DEPTH.key 0] ∧
    t.reg F.TOLL_STATUS_STATE = 2 ∧ t.toll = s.toll ∧ s.memKept t ∧
    t.reg F.TOLL_STATUS_OFFSET = ((16 * (count.toNat : Int) + s.reg F.TOLL_DELAY_DELAY - 16 * s.toll) % 65536).toNat) ∧
  (s.reg F.TOLL_STATUS_STATE = 2 → 256 < (16 * (count.toNat : Int) + s.reg F.TOLL_DELAY_DELAY - 16 * s.toll).natAbs →
    ∃ t, exec (.tickMark ⟨k, crc⟩ cseq count depth) s = .next t ∧ t.reg F.TOLL_STATUS_STATE = 3 ∧ t.beatU.resetDue = true ∧
      t.reg F.TOLL_STATUS_RATE_PPB = 0 ∧ t.toll = s.toll ∧
    s.memKept t)

/-- No tick mark for 1,048,576 CK while LOCKED (02 R73; 17 R514, R516): the unit is LOST and makes no correction, a C3 message of kind TOLL_LOST goes
to the hub and a device reset is owed; while a Score runs HALT_REQ carries causes TOLL and DEVICE_STOP. In FREE or COARSE, and on the Toll reference,
which takes no mark (log entry 9), nothing happens. TICK_SEND (02 R71; 14 R435, R436): on every child port whose first link is READY a TICK block with
the Toll count and DEPTH leaves under the next CSEQ, or waits while 128 blocks are unacknowledged; no register and no memory byte changes. -/
def Obligations.TollIsLostAndTicksAreSent : Prop :=
  (∀ s : State,
  (s.reg F.TOLL_STATUS_STATE = 2 → s.reg F.GONG_CFG_ROOT = 0 → ∃ t, exec .tollMarkTimeout s = .next t ∧ t.reg F.TOLL_STATUS_STATE = 3 ∧
    t.beatU.resetDue = true ∧
    (∃ r, t.faults.hub = s.faults.hub ++ [r] ∧ r.msg.kind = 0x2001 ∧ r.msg.cls = 3) ∧
    (s.reg F.BEAT_STATUS_STATE = 2 → t.beatU.haltReq = true ∧ t.beatU.haltCause = s.beatU.haltCause ||| (0x100 ||| 0x400)) ∧ s.memKept t ∧
    t = (((((s.putRegs t.regs).putCk t.ck).putFresh t.fresh).putTollU { s.tollU with corr := 0 }).putFaults t.faults).putBeatU t.beatU ∧
    s.regsKept t [F.TOLL_COUNT_COUNT.key 0, F.TOLL_STATUS_STATE.key 0, F.TOLL_STATUS_RATE_PPB.key 0] ∧ t.reg F.TOLL_STATUS_RATE_PPB = 0) ∧
  (s.reg F.TOLL_STATUS_STATE = 0 ∨ s.reg F.TOLL_STATUS_STATE = 1 ∨ s.reg F.GONG_CFG_ROOT = 1 → exec .tollMarkTimeout s = .next s)) ∧
  (∀ s : State, s.pins.portsStopped = false → ∃ t, exec .tickSend s = .next t ∧ t = (s.putLinks t.links).putOut t.out ∧
    ∀ p ∈ s.childPorts, s.reg F.PORT_LINK_STATE (2 * p) = 6 →
      ((s.link (2 * p)).blocks.length < 128 → (t.link (2 * p)).csend = ((s.link (2 * p)).csend + 1) % 256 ∧
        (t.link (2 * p)).blocks = (s.link (2 * p)).blocks ++ [((s.link (2 * p)).csend, tyTick, s.toll + s.reg F.TOLL_STATUS_DEPTH * 2 ^ 64)] ∧
        .block (2 * p) (blockBits tyTick (s.link (2 * p)).csend (s.toll + s.reg F.TOLL_STATUS_DEPTH * 2 ^ 64)) ∈ t.out) ∧
      (128 ≤ (s.link (2 * p)).blocks.length → t.link (2 * p) = { s.link (2 * p) with
        waitq := (s.link (2 * p)).waitq ++ [(tyTick, s.toll + s.reg F.TOLL_STATUS_DEPTH * 2 ^ 64)] }))

/-- An active Clave edge (01 R61; 02 R98, R99): with MODE MONITOR or FOLLOW and no Score running in force it is accepted, EDGE shows it and ACCEPTED
goes up by one, unless it comes less than 32,768 CK of the package CK count after the last accepted one: then only DISCARDED goes up. -/
def Obligations.ClaveEdgeAcceptedOrDiscarded : Prop :=
  ∀ (edge : BitVec 64) (s : State), s.reg F.BEAT_STATUS_STATE ≠ 2 →
    s.reg F.BEAT_CLAVE_CFG_MODE = 1 ∨ s.reg F.BEAT_CLAVE_CFG_MODE = 2 →
  ((∀ e, s.beatU.edgeCk = some e → e + 32768 ≤ (s.ck : Int) + edge.toNat - s.toll) → ∃ t, exec (.claveEdge edge) s = .next t ∧
    t = ((s.putRegs t.regs).putFresh t.fresh).putBeatU { s.beatU with edgeCk := some ((s.ck : Int) + edge.toNat - s.toll) } ∧ s.memKept t ∧
    s.regsKept t [F.BEAT_CLAVE_EDGE_EDGE.key 0, F.BEAT_CLAVE_COUNTS_ACCEPTED.key 0, F.BEAT_CLAVE_STATUS_PEND.key 0] ∧
    t.reg F.BEAT_CLAVE_EDGE_EDGE = edge.toNat % 2 ^ F.BEAT_CLAVE_EDGE_EDGE.width ∧ t.reg F.BEAT_CLAVE_STATUS_PEND = 0 ∧
    t.reg F.BEAT_CLAVE_COUNTS_ACCEPTED = (s.reg F.BEAT_CLAVE_COUNTS_ACCEPTED + 1) % 2 ^ F.BEAT_CLAVE_COUNTS_ACCEPTED.width) ∧
  (∀ e, s.beatU.edgeCk = some e → (s.ck : Int) + edge.toNat - s.toll < e + 32768 → ∃ t, exec (.claveEdge edge) s = .next t ∧
    s.onlyCounts t [F.BEAT_CLAVE_COUNTS_DISCARDED.key 0] ∧
    t.reg F.BEAT_CLAVE_COUNTS_DISCARDED = (s.reg F.BEAT_CLAVE_COUNTS_DISCARDED + 1) % 2 ^ F.BEAT_CLAVE_COUNTS_DISCARDED.width)

/-! ### Beats, seals, Gong words, HOLD and the probe round (spec/02 R76 to R101; spec/07 R260, R264, R266, R268) -/

/-- An ARMED device at LAUNCH_TOLL (02 R78, R79, R80; 06 R206; 07 R241, R242, R264), not in SAFE_OFF (01 R52): the Toll count has reached LAUNCH_TOLL,
STATE is RUNNING, Beat START_BEAT begins there and ends a PERIOD later with no stretch, REPLAY_RUN is 0, every sequencer that the Score does not fence
runs, or, where the Beat is a drain Beat, has ended the list that the device supplies, and the launch descriptor completes DONE. -/
def Obligations.LaunchTollStartsFirstBeat : Prop :=
  ∀ (d : Desc) (q : ScoreParams) (s : State), s.reg F.BEAT_STATUS_STATE = 1 → s.reg F.ENG_PWR_STATE_STATE ≠ 6 →
    s.score.launch = some d → s.score.cur = some q →
  ∃ t, exec .launchTollReached s = .next t ∧ t.reg F.BEAT_STATUS_STATE = 2 ∧ t.reg F.BEAT_NUM_NUM = s.beatU.startBeat % 2 ^ 48 ∧
    t.reg F.BEAT_NEXT_BOUNDARY = (s.reg F.BEAT_LAUNCH_LAUNCH_TOLL + s.reg F.BEAT_PERIOD_PERIOD) % 2 ^ F.BEAT_NEXT_BOUNDARY.width ∧
    t.reg F.BEAT_STATUS_STRETCHES = 0 ∧ t.reg F.BEAT_STATUS_REPLAY_RUN = 0 ∧
    s.reg F.BEAT_LAUNCH_LAUNCH_TOLL ≤ t.toll ∧ t.beatU.start = s.reg F.BEAT_LAUNCH_LAUNCH_TOLL ∧ t.beatU.hasPrev = false ∧
    (∀ c < 64, t.reg F.SEQ_CLUSTER_STATE c = (if (q.fence.getD 1 0).testBit c then 0 else if s.drainBeat s.beatU.startBeat then 3 else 1)) ∧
    t.score.launch = none ∧ t.score.cur = some q ∧
    (∃ e, t.comps = s.comps ++ [e] ∧ e.code = 0 ∧ e.id = d.id.toNat)

/-- The boundary after SEAL_HALT (02 R90, R91, R93): the device is HALTED, or LEFT when a departure is due; the halt is no longer due, no seal effect
is left over, and no descriptor of a pause is left. The end of a drain Beat (07 R266, R267; 18 R547): the Score has ended, or has paused where the
drain Beat is PAUSE_BEAT and no end; BEAT_STATUS is IDLE, NEXT_V is set and NEXT_BEAT is the first Beat that has not committed; a pending pause
completes DONE. -/
def Obligations.HaltAndDrainEndTheScore : Prop :=
  (∀ s : State, s.reg F.BEAT_STATUS_STATE = 2 → s.beatU.haltDue = true → ∃ t, exec .beatBoundary s = .next t ∧
    t.reg F.BEAT_STATUS_STATE = (if s.beatU.leaveDue then 4 else 3) ∧ t.beatU.haltDue = false ∧ t.beatU.leaveDue = false ∧
    t.beatU.err = false ∧ t.beatU.haltReq = false ∧ t.beatU.stopped = true ∧ t.score.pause = none) ∧
  (∀ (q : ScoreParams) (s : State), s.reg F.BEAT_STATUS_STATE = 2 → s.beatU.haltDue = false → s.beatU.leaveDue = false →
    s.beatU.abandoned = false → (s.beatU.hasPrev = true → s.beatU.prevVerdict = 1) → s.beatU.drain = true → s.score.cur = some q →
    s.score.load = none →
  ∃ t, exec .beatBoundary s = .next t ∧ t.reg F.BEAT_STATUS_STATE = 0 ∧
    t.reg F.SEQ_SCORE_STATE = (if s.reg F.SEQ_PAUSE_PAUSE_BEAT = s.beat ∧ (q.beats = 0 ∨ s.beat < q.beats) then 5 else 6) ∧
    t.reg F.SEQ_PAUSE_PAUSE_BEAT = 0 ∧ t.reg F.CKPT_STATUS_NEXT_V = 1 ∧ t.score.pause = none ∧
    (s.beatU.hasPrev = true → t.reg F.CKPT_STATUS_NEXT_BEAT = (s.beat - 1 + 1) % 2 ^ F.CKPT_STATUS_NEXT_BEAT.width) ∧
    (∀ d, s.score.pause = some d → ∃ l e, t.comps = l ++ [e] ∧ e.code = 0 ∧ e.id = d.id.toNat))

/-- The Sexton vouches (02 R85, R114): the Beat it names is vouched for, with those it named before, and nothing else changes. The first seal of the
running Beat from a child that takes part (02 R81, R82, R84; 14 R434, R436): it is combined into the Beat's round, where the child is heard; FLAGS,
CAUSE and ADJ are those of the seal; the round stays open for the device's own seal. Registers and memory stay. At the root the first seal of another
Acre opens a round of that Acre, which stays open while a child that leads to it is not heard; when none is, the root's word for that Beat is its
verdict (R86). SEAL_WAIT runs out on a device that is not the root, its own seal in and some child of the Acre not heard, for the round whose
SEAL_WAIT ends first (02 R82, R84; 17 R516): the round is closed with MISSING in FLAGS and CAUSE, GONG_SEAL shows the combined seal, the Toll count
has reached the limit, and SEAL_MISSING goes to the hub. -/
def Obligations.SealsVouchCombineAndClose : Prop :=
  (∀ (b : BitVec 48) (s : State), ∃ t, exec (.gongVouch b) s = .next t ∧ t = s.putBeatU { s.beatU with vouched := t.beatU.vouched } ∧
    ∀ x, x ∈ t.beatU.vouched ↔ x = b.toNat ∨ x ∈ s.beatU.vouched) ∧
  (∀ (k : Fin 256) (crc : BitVec 32) (cseq : BitVec 8) (w : BitVec 128) (s : State), s.reg F.PORT_LINK_STATE k = 6 →
    s.pins.portsStopped = false → crc.toNat = blockCrc tySeal cseq.toNat w.toNat → cseq.toNat = (s.link k).cnext →
    s.roundOf (bitsOf w.toNat 35 26) (bitsOf w.toNat 127 80) = none →
  (s.reg F.BEAT_STATUS_STATE = 2 → s.ownAcre (bitsOf w.toNat 35 26) = true → k.val / 2 ∈ s.acreChildren (bitsOf w.toNat 35 26) →
    bitsOf w.toNat 127 80 = s.beat → s.beatU.drain = false → s.beatU.abandoned = false →
  ∃ t r, exec (.sealReceived k crc cseq w) s = .next t ∧
    t = ((s.putBeatU { s.beatU with rounds := s.beatU.rounds ++ [r] }).putLinks t.links).putOut t.out ∧
    s.memKept t ∧ r.acre = bitsOf w.toNat 35 26 ∧ r.beat = s.beat ∧ r.heard = [k.val / 2] ∧ r.own = false ∧ r.flags = bitsOf w.toNat 7 0 ∧
    r.cause = bitsOf w.toNat 79 64 ∧ r.adj = sxt 24 (bitsOf w.toNat 63 40) ∧ r.adjCnt = min 2 (bitsOf w.toNat 39 38) ∧
    (t.link k).cnext = (cseq.toNat + 1) % 256) ∧
  (s.reg F.GONG_CFG_ROOT = 1 → s.ownAcre (bitsOf w.toNat 35 26) = false → k.val / 2 ∈ s.childPorts →
    (s.treeBeat (bitsOf w.toNat 35 26) (bitsOf w.toNat 127 80)).done = false →
    ((∃ p ∈ s.treePorts (bitsOf w.toNat 35 26), p ≠ k.val / 2) →
      ∃ t r, exec (.sealReceived k crc cseq w) s = .next t ∧ t.beatU.rounds = s.beatU.rounds ++ [r] ∧ r.acre = bitsOf w.toNat 35 26 ∧
        r.beat = bitsOf w.toNat 127 80 ∧ r.heard = [k.val / 2] ∧ r.own = true ∧ r.flags = bitsOf w.toNat 7 0 ∧ r.boundary = s.toll ∧
        t = ((s.putBeatU t.beatU).putLinks t.links).putOut t.out ∧ s.memKept t) ∧
    ((∀ p ∈ s.treePorts (bitsOf w.toNat 35 26), p = k.val / 2) →
      ∃ t, exec (.sealReceived k crc cseq w) s = .next t ∧
        t.reg F.GONG_WORD_HI_WORD * 2 ^ 64 + t.reg F.GONG_WORD_LO_WORD =
          (let x := s.treeBeat (bitsOf w.toNat 35 26) (bitsOf w.toNat 127 80)
           let v := verdictOf (bitsOf w.toNat 7 0) x.run (min 2 (bitsOf w.toNat 39 38)) (sxt 24 (bitsOf w.toNat 63 40))
           gongBits (bitsOf w.toNat 127 80) (bitsOf w.toNat 79 64 ||| v.2.1) v.2.2 x.k (bitsOf w.toNat 35 26) (s.toll % 2 ^ 22) v.1) ∧
        s.memKept t))) ∧
  (∀ (r : Round) (s : State), s.firstRound = some r → s.ownAcre r.acre = true → s.reg F.GONG_CFG_ROOT = 0 → s.score.load = none →
    (∃ p ∈ s.acreChildren r.acre, p ∉ r.heard) →
  ∃ t, exec .sealWaitExpiry s = .next t ∧ t.beatU.rounds = s.beatU.rounds.filter (fun x => !(decide (x.acre = r.acre ∧ x.beat = r.beat))) ∧
    t.toll = (if s.toll < r.boundary + s.reg F.GONG_WAIT_SEAL_WAIT then (r.boundary + s.reg F.GONG_WAIT_SEAL_WAIT) % 2 ^ 64 else s.toll) ∧
    t.reg F.GONG_SEAL_LO_SEAL =
      sealBits r.beat (r.cause ||| 0x800) r.adj r.adjCnt s.scoreAcre 0 (r.flags ||| 32) % 2 ^ 64 ∧
    t.reg F.GONG_SEAL_HI_SEAL =
      sealBits r.beat (r.cause ||| 0x800) r.adj r.adjCnt s.scoreAcre 0 (r.flags ||| 32) / 2 ^ 64 % 2 ^ 64 ∧
    (∃ x, t.faults.hub = s.faults.hub ++ [x] ∧ x.msg.kind = 0x2002) ∧ s.memKept t)

/-- A Gong word of the running Acre with verdict SEAL_HALT from the parent (02 R81, R82, R90, R91, R114; 14 R436), at a device that takes no mark
(FREE or LOST): GONG_WORD shows it, its CAUSE joins CAUSE_ACC, and the halt is due at the boundary. -/
def Obligations.HaltWordMakesHaltDue : Prop :=
  ∀ (k : Fin 256) (crc : BitVec 32) (cseq : BitVec 8) (w : BitVec 128) (s : State), s.reg F.PORT_LINK_STATE k = 6 →
    s.pins.portsStopped = false → crc.toNat = blockCrc tyGong cseq.toNat w.toNat →
    cseq.toNat = (s.link k).cnext → s.reg F.GONG_CFG_ROOT = 0 → k.val / 2 = s.reg F.GONG_CFG_PARENT_PORT →
    s.reg F.TOLL_STATUS_STATE = 0 ∨ s.reg F.TOLL_STATUS_STATE = 3 →
    s.reg F.BEAT_STATUS_STATE = 2 → s.ownAcre (bitsOf w.toNat 35 26) = true → bitsOf w.toNat 3 0 = 4 →
  ∃ t, exec (.gongWord k crc cseq w) s = .next t ∧ t.beatU.haltDue = true ∧ t.reg F.GONG_WORD_LO_WORD = w.toNat % 2 ^ 64 ∧
    t.reg F.GONG_WORD_HI_WORD = w.toNat / 2 ^ 64 ∧
    t.reg F.GONG_CAUSES_CAUSE_ACC = (s.reg F.GONG_CAUSES_CAUSE_ACC ||| bitsOf w.toNat 79 64) % 2 ^ F.GONG_CAUSES_CAUSE_ACC.width ∧
    s.regsKept t [F.GONG_WORD_LO_WORD.key 0, F.GONG_WORD_HI_WORD.key 0, F.GONG_CAUSES_CAUSE_ACC.key 0, F.GONG_LAT_MAX_CK.key 0] ∧
    s.memKept t ∧ t = (((((s.putRegs t.regs).putFresh t.fresh).putBeatU t.beatU).putLinks t.links).putOut t.out)

/-- HOLD_LEAD before the end of a Beat on a device that is not the root, some cluster not past its hold mark (02 R94, R95, R97): the pair of Beat and
stretches of its Acre is raised once, and no register but the Toll count changes; with every cluster past its mark nothing is raised. A HOLDR block
from a child of a device that is not the root (02 R81, R94, R95; 14 R434, R436), of the running Beat or of another Acre: a new pair of its Acre is
kept and passed on, one that was passed on before is not passed on again; registers and memory stay. -/
def Obligations.HoldIsRaisedAndGoesUpOnce : Prop :=
  (∀ s : State, s.reg F.BEAT_STATUS_STATE = 2 → s.reg F.GONG_CFG_ROOT = 0 → s.beatU.abandoned = false → s.beatU.haltDue = false →
  ((∃ c < 64, s.pastHold c = false) → (s.scoreAcre % 1024, s.beat, s.reg F.BEAT_STATUS_STRETCHES) ∉ s.beatU.holds → ∃ t, exec .holdCheck s = .next t ∧
    t.beatU = { s.beatU with holds := s.beatU.holds ++ [(s.scoreAcre % 1024, s.beat, s.reg F.BEAT_STATUS_STRETCHES)] } ∧
      s.regsKept t [F.TOLL_COUNT_COUNT.key 0] ∧
    s.memKept t ∧ t = (((((s.putRegs t.regs).putCk t.ck).putFresh t.fresh).putBeatU t.beatU).putLinks t.links).putOut t.out) ∧
  ((∀ c < 64, s.pastHold c = true) → ∃ t, exec .holdCheck s = .next t ∧ t = ((s.putRegs t.regs).putCk t.ck).putFresh t.fresh ∧
    s.regsKept t [F.TOLL_COUNT_COUNT.key 0] ∧ s.memKept t)) ∧
  (∀ (k : Fin 256) (crc : BitVec 32) (cseq : BitVec 8) (w : BitVec 128) (s : State), s.reg F.PORT_LINK_STATE k = 6 →
    s.pins.portsStopped = false → crc.toNat = blockCrc tyHoldr cseq.toNat w.toNat →
    cseq.toNat = (s.link k).cnext → s.reg F.GONG_CFG_ROOT = 0 → k.val / 2 ∈ s.childPorts →
    (s.ownAcre (bitsOf w.toNat 35 26) = true → s.reg F.BEAT_STATUS_STATE = 2 ∧ bitsOf w.toNat 127 80 = s.beat ∧ s.beatU.abandoned = false ∧
      s.beatU.haltDue = false) →
  ∃ t, exec (.holdRound ⟨k, crc⟩ cseq w) s = .next t ∧ t = ((s.putBeatU t.beatU).putLinks t.links).putOut t.out ∧ s.memKept t ∧
    t.beatU = (if (bitsOf w.toNat 35 26, bitsOf w.toNat 127 80, bitsOf w.toNat 11 8) ∈ s.beatU.holds then s.beatU
      else { s.beatU with holds := s.beatU.holds ++ [(bitsOf w.toNat 35 26, bitsOf w.toNat 127 80, bitsOf w.toNat 11 8)] }) ∧
    (t.link k).cnext = (cseq.toNat + 1) % 256)

/-- A child's report in the probe round of a load (02 R88; 14 R434, R436) that does not end the round here: the child is heard and the largest value
is kept; SUBTREE_CK shows the time from this device's joining to the latest report, 0 before it has joined (an instant of the model's choice: log
entry 68). A load that has waited 2,500,000,000 CK since it joined (07 R260) ends with PROBE_TIMEOUT: its descriptor completes with it, LAST_CODE
shows it, SEQ_SCORE.STATE is what it was before the load. -/
def Obligations.ProbeReportsAndTimeout : Prop :=
  ∀ s : State,
  (∀ (k : Fin 256) (crc : BitVec 32) (cseq : BitVec 8) (acre : BitVec 10) (v : BitVec 32) (both : BitVec 4), s.reg F.PORT_LINK_STATE k = 6 →
    s.pins.portsStopped = false → crc.toNat = blockCrc tyProbe cseq.toNat (probeBody false acre.toNat v.toNat both.toNat) →
    cseq.toNat = (s.link k).cnext → k.val / 2 ∈ s.childPorts → acre.toNat = s.probeAcre →
    (s.probe.joined = false ∨ ∃ p ∈ s.acreChildren s.probeAcre, p ≠ k.val / 2 ∧ p ∉ s.probe.heard) → s.probe.heard ≠ [] →
    ∃ t, exec (.probeRound ⟨k, crc⟩ cseq false acre ⟨v, both⟩) s = .next t ∧
      t.probe.value = max s.probe.value v.toNat ∧ k.val / 2 ∈ t.probe.heard ∧ (∀ p ∈ s.probe.heard, p ∈ t.probe.heard) ∧
      t.reg F.GONG_WAIT_SUBTREE_CK = min (max (s.reg F.GONG_WAIT_SUBTREE_CK) (if s.probe.joined then s.toll - s.probe.since else 0)) 0xFFFFFF ∧
      s.regsKept t [F.GONG_WAIT_SUBTREE_CK.key 0] ∧ s.memKept t ∧
      t = (((s.putRegs t.regs).putProbe t.probe).putLinks t.links).putOut t.out) ∧
  (∀ l : Load, s.score.load = some l → s.probe.joined = true → ∃ t, exec .probeTimeout s = .next t ∧ t.score.load = none ∧
    t.probe.joined = false ∧ t.reg F.SEQ_SCORE_LAST_CODE = 0x4A ∧ t.reg F.SEQ_SCORE_STATE = l.back % 2 ^ F.SEQ_SCORE_STATE.width ∧
    s.memKept t ∧ s.regsKept t [F.TOLL_COUNT_COUNT.key 0, F.SEQ_SCORE_LAST_CODE.key 0, F.SEQ_SCORE_STATE.key 0,
      F.ACV_RSTAT_INFLIGHT.key l.desc.ring.val] ∧
    ∃ e, t.comps = s.comps ++ [e] ∧ e.code = 0x4A ∧ e.id = l.desc.id.toNat)

/-- ROLLBACK of one Beat once every started operation has completed (07 R252, R268): with one record in the Beat's log of die 0 and none in that of
die 1, no block of it poisoned nor that of the line's tag, the record's line holds the logged bytes again and its tag is cleared, every byte outside
the line stays, what is poisoned stays poisoned and so does a block that was poisoned when the line was logged (13 R421), both logs are empty and no
rollback is due. -/
def Obligations.RollbackRestoresTheLoggedLine : Prop :=
  ∀ (q : ScoreParams) (b : Nat) (s : State), s.opsDone = true → s.beatU.rollback = [b] → s.score.cur = some q →
    s.logCount 0 (b % 2) = 1 → s.logCount 1 (b % 2) = 0 → s.poisonRead (undoBase q 0 (b % 2)) 4160 = none →
    s.poisonRead (tagAddr (lineOf (s.word (undoBase q 0 (b % 2))))) 8 = none →
    (tagAddr (lineOf (s.word (undoBase q 0 (b % 2)))) / 64 * 64 + 64 ≤ s.word (undoBase q 0 (b % 2)) ∨
      s.word (undoBase q 0 (b % 2)) + 4096 ≤ tagAddr (lineOf (s.word (undoBase q 0 (b % 2)))) / 64 * 64) →
  ∃ t, exec .rollback s = .next t ∧ t.beatU.rollback = [] ∧ t.logCount 0 (b % 2) = 0 ∧ t.logCount 1 (b % 2) = 0 ∧
    (∀ i < 4096, t.byte (s.word (undoBase q 0 (b % 2)) + i) = s.byte (undoBase q 0 (b % 2) + 64 + i)) ∧
    s.memKeptOut t (s.word (undoBase q 0 (b % 2))) 4096 ∧ t.tag (lineOf (s.word (undoBase q 0 (b % 2)))) = tagNone ∧
    (∀ u ∈ s.poison, u ∈ t.poison) ∧
    ∀ i < 64, undoBase q 0 (b % 2) + 64 + 64 * i ∈ s.score.carried → s.word (undoBase q 0 (b % 2)) + 64 * i ∈ t.poison

/-! ### The sequencer (spec/06 R203 to R217, R230; spec/02 R106 to R112) -/

/-- The sequencer's arithmetic (06 R203, R205, R215, R217; 02 R113), once no register it reads is still to be written: Sd takes SA op SB modulo 2^64,
SA shifted left or logically right by SB[5:0], the low 64 bits of SA x SB, SA plus the sign-extended immediate, the immediate, the immediate in the
high half, the Beat number or the completion count; a write to S0 is ignored. Sd may be read 1 CK after issue, 3 for MUL. Before its operands may be
read an instruction stalls with STALL 4. LD and ST (06 R214, R217; 13 R416; 07 R243): the address SA + IMM is a multiple of 8 within working memory;
LD takes the 8 bytes there, when their word is not poisoned and holds no bad symbol, and Sd may be read 12 CK after issue; ST, outside the list area
and where no state line lies and no injected corruption is due, writes exactly those 8 bytes, whose word is then neither poisoned nor bad. -/
def Obligations.ScalarAndMemoryInstructions : Prop :=
  (∀ (c : Fin 64) (sd sa sb : BitVec 5) (imm : BitVec 32) (s : State), s.meets c →
  (s.readable c [sa, sb] → (∃ t, exec (.add c sd sa sb) s = .next t ∧ s.setsScalar t c sd (s.sreg c sa + s.sreg c sb) 1) ∧
  (∃ t, exec (.sub c sd sa sb) s = .next t ∧ s.setsScalar t c sd (s.sreg c sa - s.sreg c sb) 1) ∧
  (∃ t, exec (.and c sd sa sb) s = .next t ∧ s.setsScalar t c sd (s.sreg c sa &&& s.sreg c sb) 1) ∧
  (∃ t, exec (.or c sd sa sb) s = .next t ∧ s.setsScalar t c sd (s.sreg c sa ||| s.sreg c sb) 1) ∧
  (∃ t, exec (.xor c sd sa sb) s = .next t ∧ s.setsScalar t c sd (s.sreg c sa ^^^ s.sreg c sb) 1) ∧
  (∃ t, exec (.shl c sd sa sb) s = .next t ∧
    s.setsScalar t c sd (BitVec.ofNat 64 ((s.sreg c sa).toNat * 2 ^ ((s.sreg c sb).toNat % 64))) 1) ∧
  (∃ t, exec (.shr c sd sa sb) s = .next t ∧
    s.setsScalar t c sd (BitVec.ofNat 64 ((s.sreg c sa).toNat / 2 ^ ((s.sreg c sb).toNat % 64))) 1) ∧
  (∃ t, exec (.mul c sd sa sb) s = .next t ∧
    s.setsScalar t c sd (BitVec.ofNat 64 ((s.sreg c sa).toNat * (s.sreg c sb).toNat)) 3)) ∧
  (s.readable c [sa] → ∃ t, exec (.addi c sd sa imm) s = .next t ∧ s.setsScalar t c sd (s.sreg c sa + BitVec.ofInt 64 imm.toInt) 1) ∧
  (∃ t, exec (.li c sd imm) s = .next t ∧ s.setsScalar t c sd (BitVec.ofInt 64 imm.toInt) 1) ∧
  (s.readable c [sd] → ∃ t, exec (.lui c sd imm) s = .next t ∧
    s.setsScalar t c sd (BitVec.ofNat 64 (imm.toNat * 2 ^ 32 + (s.sreg c sd).toNat % 2 ^ 32)) 1) ∧
  (∃ t, exec (.seqBeat c sd) s = .next t ∧ s.setsScalar t c sd (BitVec.ofNat 64 (s.reg F.BEAT_NUM_NUM)) 1) ∧
  (∃ t, exec (.seqCcount c sd) s = .next t ∧ s.setsScalar t c sd (BitVec.ofNat 64 (s.cl c).ccount) 1) ∧
  (¬ s.readable c [sa, sb] → ∀ i ∈ [(.add c sd sa sb : Instr), .sub c sd sa sb, .and c sd sa sb, .or c sd sa sb, .xor c sd sa sb, .shl c sd sa sb,
      .shr c sd sa sb, .mul c sd sa sb, .st c sa sb imm, .beq c sa sb imm, .bne c sa sb imm, .blt c sa sb imm, .bge c sa sb imm],
    ∃ t, exec i s = .next t ∧ s.stalls t c 4)) ∧
  (∀ (c : Fin 64) (sd sa sb : BitVec 5) (imm : BitVec 32) (s : State) (off : Nat), s.meets c →
    (s.sreg c sa + BitVec.ofInt 64 imm.toInt).toNat = off → off % 8 = 0 → off + 8 ≤ 0x400000 → s.readable c [sa, sb] →
      (∀ u ∈ s.soft, poisonUnit u = u) →
  (wmBase c + off ∉ s.poison → wmBase c + off ∉ s.soft → ∃ t, exec (.ld c sd sa imm) s = .next t ∧
    s.setsScalar t c sd (BitVec.ofNat 64 (s.word (wmBase c + off))) 12) ∧
  (s.inList off 8 = false → s.stateOff (wmBase c + off) = none → s.inj.corrupt = [] → ∃ t, exec (.st c sa sb imm) s = .next t ∧
    t = (((s.putRegs t.regs).putMem t.mem).putPoison t.poison).putSoft t.soft ∧
    s.regsKept t [F.SEQ_CLUSTER_INDEX.key c, F.SEQ_CLUSTER_STALL.key c] ∧ s.memKeptOut t (wmBase c + off) 8 ∧
    t.word (wmBase c + off) = (s.sreg c sb).toNat ∧ t.poison = s.poison.filter (fun u => decide (u ≠ wmBase c + off)) ∧
    t.soft = s.soft.filter (fun u => decide (u ≠ wmBase c + off)) ∧
    t.reg F.SEQ_CLUSTER_INDEX c = (s.reg F.SEQ_CLUSTER_INDEX c + 1) % 2 ^ 24 ∧ t.reg F.SEQ_CLUSTER_STALL c = 0))

/-- Branches and marks (06 R207, R208, R217, R234). BEQ, BNE, BLT and BGE go to the current index + IMM when the condition holds, else to the next
instruction, and change nothing else (a register they read that is still to be written stalls them, as it does all others). SEQ.HOLD, SEQ.END and
SEQ.DRAIN issue once every queue is empty and every started instruction has completed: STATE is then 2, 3 or as before; until then they stall with
STALL 3 and nothing else changes. A sequencer that meets an encoding that R213 forbids stops (06 R213, R214, R217, R218): an LD or ST address that is
no multiple of 8 or lies outside working memory, an ST into the list area (07 R243), a reserved rounding mode or format in VADD, a condition 6 or 7 in
VCMP, an AFTER that is reserved in CH.ARRIVE or not 0 in CH.WAIT. The region collector's queue has room, and no load writes. -/
def Obligations.BranchesMarksAndForbiddenEncodings : Prop :=
  (∀ (c : Fin 64) (sa sb : BitVec 5) (imm : BitVec 32) (s : State), s.meets c →
  (s.readable c [sa, sb] →
    ∀ p ∈ [((.beq c sa sb imm : Instr), decide (s.sreg c sa = s.sreg c sb)), (.bne c sa sb imm, decide (s.sreg c sa ≠ s.sreg c sb)),
      (.blt c sa sb imm, decide ((s.sreg c sa).toInt < (s.sreg c sb).toInt)),
      (.bge c sa sb imm, decide ((s.sreg c sb).toInt ≤ (s.sreg c sa).toInt))],
    ∃ t, exec p.1 s = .next t ∧ s.onlyRegs t [F.SEQ_CLUSTER_INDEX.key c, F.SEQ_CLUSTER_STALL.key c] ∧ t.reg F.SEQ_CLUSTER_STALL c = 0 ∧
      (p.2 = true → (t.reg F.SEQ_CLUSTER_INDEX c : Int) = ((s.reg F.SEQ_CLUSTER_INDEX c : Int) + imm.toInt) % 2 ^ 24) ∧
      (p.2 = false → t.reg F.SEQ_CLUSTER_INDEX c = (s.reg F.SEQ_CLUSTER_INDEX c + 1) % 2 ^ 24)) ∧
  (∀ p ∈ [((.seqHold c : Instr), 2), (.seqEnd c, 3), (.seqDrain c, s.reg F.SEQ_CLUSTER_STATE c)],
    (s.allDone c → ∃ t, exec p.1 s = .next t ∧
      s.onlyRegs t [F.SEQ_CLUSTER_STATE.key c, F.SEQ_CLUSTER_INDEX.key c, F.SEQ_CLUSTER_STALL.key c] ∧
      t.reg F.SEQ_CLUSTER_STATE c = p.2 ∧ t.reg F.SEQ_CLUSTER_INDEX c = (s.reg F.SEQ_CLUSTER_INDEX c + 1) % 2 ^ 24 ∧
      t.reg F.SEQ_CLUSTER_STALL c = 0) ∧
    (¬ s.allDone c → ∃ t, exec p.1 s = .next t ∧ s.stalls t c 3))) ∧
  (∀ (c : Fin 64) (sd sa sb : BitVec 5) (imm : BitVec 32) (f : VF) (g : CF) (s : State), s.meets c → s.score.load = none →
    (s.faults.region.filter (fun e => decide (e.1 = c.val / 8))).length < 64 →
    s.readable c [sa, sb] →
    let off := (s.sreg c sa + BitVec.ofInt 64 imm.toInt).toNat;
  (off % 8 ≠ 0 ∨ 0x400000 < off + 8 → (∃ t, exec (.ld c sd sa imm) s = .next t ∧ s.stopsIllegal t c) ∧
    ∃ t, exec (.st c sa sb imm) s = .next t ∧ s.stopsIllegal t c) ∧
  (off % 8 = 0 → off + 8 ≤ 0x400000 → s.inList off 8 = true → ∃ t, exec (.st c sa sb imm) s = .next t ∧ s.stopsIllegal t c) ∧
  (f.rm = 3 ∨ 4 < f.ty.toNat → ∃ t, exec (.vadd c f) s = .next t ∧ s.stopsIllegal t c) ∧
  (5 < f.imm.toNat % 8 → ∃ t, exec (.vcmp c f) s = .next t ∧ s.stopsIllegal t c) ∧
  (7 < g.after.toNat → ∃ t, exec (.chArrive c g) s = .next t ∧ s.stopsIllegal t c) ∧
  (g.after ≠ 0 → ∃ t, exec (.chWait c g) s = .next t ∧ s.stopsIllegal t c))

/-- ARRIVE and RESET join the queue of the Chime unit with the Beat at issue (02 R106, R107, R108, R110, R112; 06 R215, R230): from a write to Chime
space and from CH.ARRIVE and CH.RESET, whose Chime is INDEX, or with INDIRECT (INDEX + SA[14:0]) mod 2^15, with AFTER 0 or naming a unit that is done.
While the unit of the Chime's die is full (256 beyond the four of a CK) a host write waits, with all that follow it, and the instruction stalls with
AFTER 0, or joins the queue AFTER names while that holds fewer than 32. QMAX may rise. A Chime unit applies its operations (02 R106, R107, R108, R109,
R111), where no Chime word is poisoned or bad and no injection is due: an ARRIVE of 0 has no effect; any other adds to COUNT; a sum above 0xFFFFFFFF
leaves COUNT there, sets OVF and, if it is the first, OVF_INDEX; a RESET clears COUNT and sets TARGET, and comes before an ARRIVE of the same CK; an
operation of another Beat on a Score Chime is only counted in STALE. CH.WAIT goes on when COUNT has reached TARGET, else it stalls with STALL 2 and
the Chime in WAIT_CHIME; an operation that brings COUNT to TARGET makes it resume 3 CK later, or 43 across the dies, and then it resumes whatever the
Chime holds. -/
def Obligations.ChimeOperationsQueueAndApply : Prop :=
  (∀ (i : BitVec 15) (n : BitVec 16) (c : Fin 64) (f : CF) (s : State),
    let k := if f.indirect then (f.index.toNat + (s.sreg c f.sa).toNat % 32768) % 32768 else f.index.toNat;
  (∀ p ∈ [((.chimeSpaceArrive i n : Instr), false), (.chimeSpaceReset i n, true)],
    ((s.chimeq.filter (fun o => decide (o.index / 16384 % 2 = i.toNat / 16384 % 2))).length < 260 → s.acv.held = [] → ∃ t, exec p.1 s = .next t ∧
      t = ((s.putRegs t.regs).putFresh t.fresh).putChimeq (s.chimeq ++ [⟨i.toNat, p.2, n.toNat, s.beat⟩]) ∧
      s.regsKept t [F.CHIME_STATUS_QMAX.key 0] ∧ s.memKept t) ∧
    (260 ≤ (s.chimeq.filter (fun o => decide (o.index / 16384 % 2 = i.toNat / 16384 % 2))).length ∨ s.acv.held ≠ [] → ∃ t x, exec p.1 s = .next t ∧
      t = s.putAcv { s.acv with held := s.acv.held ++ [x] })) ∧
  (s.meets c → f.after.toNat ≤ 7 → (f.indirect = true → s.readable c [f.sa]) →
    (∀ p ∈ [((.chArrive c f : Instr), false), (.chReset c f, true)],
      ((s.chimeq.filter (fun o => decide (o.index / 16384 % 2 = k / 16384 % 2))).length < 260 → s.unitQuiet c f.after.toNat = true →
        ∃ t, exec p.1 s = .next t ∧
        t = ((s.putRegs t.regs).putFresh t.fresh).putChimeq (s.chimeq ++ [⟨k, p.2, f.arg.toNat, s.beat⟩]) ∧ s.memKept t ∧
        s.regsKept t [F.SEQ_CLUSTER_INDEX.key c, F.SEQ_CLUSTER_STALL.key c, F.CHIME_STATUS_QMAX.key 0] ∧
        t.reg F.SEQ_CLUSTER_INDEX c = (s.reg F.SEQ_CLUSTER_INDEX c + 1) % 2 ^ 24 ∧ t.reg F.SEQ_CLUSTER_STALL c = 0) ∧
      (260 ≤ (s.chimeq.filter (fun o => decide (o.index / 16384 % 2 = k / 16384 % 2))).length ∨ s.unitQuiet c f.after.toNat = false →
        (f.after = 0 ∨ 32 ≤ s.unitLen c f.after.toNat → ∃ t, exec p.1 s = .next t ∧ s.stalls t c 1) ∧
        (f.after ≠ 0 → s.unitLen c f.after.toNat < 32 → ∃ t, exec p.1 s = .next t ∧ s.issued t c [] ∧
          t.clusters = (s.unitChime c f.after.toNat false ⟨k, p.2, f.arg.toNat, s.beat⟩).clusters))))) ∧
  (∀ (o : ChimeOp) (c : Fin 64) (f : CF) (s : State), s.inj.corrupt = [] → s.poison = [] → s.soft = [] →
    let d := decide (o.index / 16384 % 2 = 1);
    let stale := s.running && s.scoreChime o.index && decide (o.beat ≠ s.beat);
    let k := if f.indirect then (f.index.toNat + (s.sreg c f.sa).toNat % 32768) % 32768 else f.index.toNat;
  (s.chimeq = [o] → o.reset = false → o.arg = 0 → ∃ t, exec (.chimeOpApply d) s = .next t ∧ t = (s.putChimeq []).putClusters t.clusters) ∧
  (s.chimeq = [o] → stale = true → (o.reset = true ∨ 0 < o.arg) → ∃ t, exec (.chimeOpApply d) s = .next t ∧
    t = (((s.putRegs t.regs).putFresh t.fresh).putChimeq []).putClusters t.clusters ∧
    s.regsKept t [F.CHIME_STATUS_STALE.key 0] ∧ t.reg F.CHIME_STATUS_STALE = min (s.reg F.CHIME_STATUS_STALE + 1) F.CHIME_STATUS_STALE.top) ∧
  (s.chimeq = [o] → stale = false → o.reset = true → ∃ t, exec (.chimeOpApply d) s = .next t ∧
    t = ((s.putChimes t.chimes).putChimeq []).putClusters t.clusters ∧ (∀ x, t.chime x = if x = o.index then ⟨0, o.arg⟩ else s.chime x)) ∧
  (s.chimeq = [o] → stale = false → o.reset = false → (s.chime o.index).count + o.arg ≤ 0xFFFFFFFF →
    ∃ t, exec (.chimeOpApply d) s = .next t ∧ t = ((s.putChimes t.chimes).putChimeq []).putClusters t.clusters ∧
    (∀ x, t.chime x = if x = o.index then ⟨(s.chime o.index).count + o.arg, (s.chime o.index).target⟩ else s.chime x) ∧
    (∀ x, (s.cl x).wait = none → t.cl x = s.cl x) ∧
    (∀ x < 64, (s.cl x).wait = some o.index → (s.cl x).resume = none → (s.chime o.index).target ≤ (s.chime o.index).count + o.arg → 0 < o.arg →
      t.cl x = { s.cl x with resume := some (s.ck + if o.index / 16384 % 2 = x / 32 then 3 else 43) })) ∧
  (s.chimeq = [o] → stale = false → o.reset = false → 0xFFFFFFFF < (s.chime o.index).count + o.arg → s.score.load = none →
    ∃ t, exec (.chimeOpApply d) s = .next t ∧
    (∀ x, t.chime x = if x = o.index then ⟨0xFFFFFFFF, (s.chime x).target⟩ else s.chime x) ∧ t.reg F.CHIME_STATUS_OVF = 1 ∧
    (s.reg F.CHIME_STATUS_OVF = 0 → t.reg F.CHIME_STATUS_OVF_INDEX = o.index % 2 ^ F.CHIME_STATUS_OVF_INDEX.width) ∧
    (s.reg F.CHIME_STATUS_OVF ≠ 0 → t.reg F.CHIME_STATUS_OVF_INDEX = s.reg F.CHIME_STATUS_OVF_INDEX) ∧ s.memKept t) ∧
  (∀ (n g b : Nat), s.running = false → s.chimeq = [⟨o.index, false, n, b⟩, ⟨o.index, true, g, b⟩] → n ≤ 0xFFFFFFFF →
    ∃ t, exec (.chimeOpApply d) s = .next t ∧ t.chime o.index = ⟨n, g⟩) ∧
  (s.meets c → f.after = 0 → (f.indirect = true → s.readable c [f.sa]) →
    ((s.chime k).target ≤ (s.chime k).count → ∃ t, exec (.chWait c f) s = .next t ∧
      s.onlyRegs t [F.SEQ_CLUSTER_INDEX.key c, F.SEQ_CLUSTER_STALL.key c] ∧
      t.reg F.SEQ_CLUSTER_INDEX c = (s.reg F.SEQ_CLUSTER_INDEX c + 1) % 2 ^ 24 ∧ t.reg F.SEQ_CLUSTER_STALL c = 0) ∧
    ((s.chime k).count < (s.chime k).target → ∃ t, exec (.chWait c f) s = .next t ∧ t = (s.putRegs t.regs).putClusters t.clusters ∧
      t.cl c = { s.cl c with wait := some k } ∧ s.othersKept t c ∧ t.reg F.SEQ_CLUSTER_STALL c = 2 ∧
      t.reg F.SEQ_CLUSTER_WAIT_CHIME c = k)) ∧
  (∀ r, (s.cl c).resume = some r → ∃ t, exec (.chimeWaitResume c) s = .next t ∧
    t = (((s.putRegs t.regs).putCk t.ck).putFresh t.fresh).putClusters t.clusters ∧ t.cl c = { s.cl c with wait := none, resume := none } ∧
    s.othersKept t c ∧ s.regsKept t [F.SEQ_CLUSTER_STALL.key c, F.SEQ_CLUSTER_WAIT_CHIME.key c, F.TOLL_COUNT_COUNT.key 0] ∧
    t.toll = (s.toll + (r - s.ck)) % 2 ^ 64 ∧ t.reg F.SEQ_CLUSTER_STALL c = 0 ∧ t.reg F.SEQ_CLUSTER_WAIT_CHIME c = 0) ∧
  ((s.cl c).resume = none → exec (.chimeWaitResume c) s = .next s))

/-! ### Vector instructions (spec/06 R210, R211, R218 to R223, R235; spec/03) -/

/-- VADD, VSUB, VMUL, VFMA, VDIV, VSQRT and VRSQRT (06 R204, R211, R218, R219, R222; 03 R122, R131, R134 to R136): each selected element of VD is the
exact result for the elements of VA, VB and VC rounded once to TYPE with RM and SAT, and with the element's draw when RM is SR; DRAW_IDX then rises by
one. While the engine has instructions queued, or may not start one (its interval has not passed, or the governor holds it: 01 R32), any of these and
of the other vector instructions waits at the end of its queue of 32, and with that full stalls with STALL 1. VMIN, VMAX, VABS and VNEG (06 R211,
R218, R219; 03 R123, R124): the canonical NaN, with NANIN set, where an operand is NaN; else the smaller or larger element, and the element with its
sign bit cleared or inverted. -/
def Obligations.VectorArithmeticMinMaxAndSigns : Prop :=
  (∀ (c : Fin 64) (f : VF) (s : State), s.meets c → f.ok tyF = true →
  (s.runsVector c f → ∀ p : Instr × (Val → Val → Val → Val), p ∈ [((.vadd c f : Instr), fun x y _ => (valAdd x y).1),
      (.vsub c f, fun x y _ => (valAdd x (valNeg y)).1), (.vmul c f, fun x y _ => (valMul x y).1),
      (.vfma c f, fun x y z => (valAdd (valMul x y).1 z).1), (.vdiv c f, fun x y _ => (valDiv x y).1),
      (.vsqrt c f, fun x _ _ => (valSqrt x).1), (.vrsqrt c f, fun x _ _ => (valRsqrt x).1)] →
    ∃ t, exec p.1 s = .next t ∧ s.vecIssued t c f ∧
      s.setsElems t c f (fun j => (encodeCode f.ty.toNat (p.2 (decodeCode f.ty.toNat (s.elem c f f.va j))
        (decodeCode f.ty.toNat (s.elem c f f.vb j)) (decodeCode f.ty.toNat (s.elem c f f.vc j))) f.rm.toNat f.sat (s.vDraw c f j)).1) ∧
      s.drawsOne t c f) ∧
  (s.vxFenced (4 * c + f.ve.toNat) = false → (tabGet [] (s.cl c).vq f.ve.toNat ≠ [] ∨ s.vMayStart c f.ve.toNat = false) →
    ∀ i ∈ [(.vadd c f : Instr), .vsub c f, .vmul c f, .vfma c f, .vmin c f, .vmax c f, .vabs c f, .vneg c f, .vdiv c f, .vsqrt c f, .vrsqrt c f,
      .vramax c f, .vsel c f, .vand c f, .vor c f, .vxor c f, .pand c f, .por c f, .pnot c f, .vcrc c f],
    ((tabGet [] (s.cl c).vq f.ve.toNat).length < 32 → ∃ t, exec i s = .next t ∧ s.issued t c [] ∧
      t.cl c = { s.cl c with vq := (t.cl c).vq } ∧
      (∀ e, tabGet [] (t.cl c).vq e = if e = f.ve.toNat then tabGet [] (s.cl c).vq e ++ [.op ⟨i, s.reg F.SEQ_CLUSTER_INDEX c, 0, 0⟩]
        else tabGet [] (s.cl c).vq e)) ∧
    (32 ≤ (tabGet [] (s.cl c).vq f.ve.toNat).length → ∃ t, exec i s = .next t ∧ s.stalls t c 1))) ∧
  (∀ (c : Fin 64) (f : VF) (s : State), s.runsVector c f → f.ok tyF = true →
    let w := tyWidth f.ty.toNat;
    let dec := fun v => decodeCode f.ty.toNat v;
    let less := fun a b => valLt (dec a) (dec b) || (valEq (dec a) (dec b) && valSign (dec a) && !valSign (dec b));
    let nan := nanOf f.ty.toNat;
    let two := fun (g : Nat → Nat → Nat) j => (if valNan (dec (s.elem c f f.va j)) ∨ valNan (dec (s.elem c f f.vb j)) then nan
      else g (s.elem c f f.va j) (s.elem c f f.vb j));
    let one := fun (g : Nat → Nat) j => (if valNan (dec (s.elem c f f.va j)) then nan else g (s.elem c f f.va j));
    ∀ p : Instr × (Nat → Nat), p ∈ [((.vmin c f : Instr), two (fun a b => if less a b then a else b)),
      (.vmax c f, two (fun a b => if less a b then b else a)), (.vabs c f, one (fun a => a % 2 ^ (w - 1))),
      (.vneg c f, one (fun a => a ^^^ 2 ^ (w - 1)))] →
    ∃ t, exec p.1 s = .next t ∧ s.vecIssued t c f ∧ s.setsElems t c f p.2 ∧ s.drawsOne t c f ∧
      ((∃ j < elemCount f.ty.toNat, (s.preg c f.ve.toNat f.pred.toNat).testBit j = true ∧ valNan (dec (s.elem c f f.va j)) = true) →
        t.reg F.VXE_ENG_NANIN (4 * c.val + f.ve.toNat) = 1))

/-- VIADD, VSHL, VSHR, VAND, VOR, VXOR, VSEL and VBCAST (06 R211, R218, R219): sums modulo 2^32, shifts by IMM[4:0], bitwise results, the low bits of
S(IMM[4:0]), each on the selected elements; VSEL takes VA where the predicate is set and VB elsewhere; no flag changes. -/
def Obligations.VectorIntegerAndBitwise : Prop :=
  ∀ (c : Fin 64) (f : VF) (s : State), s.runsVector c f →
    let e := fun r j => s.elem c f r j;
  (f.ok tyI32 = true → ∀ p : Instr × (Nat → Nat), p ∈ [((.viadd c f : Instr), fun j => e f.va j + e f.vb j),
      (.vshl c f, fun j => e f.va j * 2 ^ (f.imm.toNat % 32)), (.vshr c f, fun j => e f.va j / 2 ^ (f.imm.toNat % 32))] →
    ∃ t, exec p.1 s = .next t ∧ s.vecIssued t c f ∧ s.setsElems t c f p.2 ∧ s.drawsOne t c f ∧
      s.regsKept t [F.SEQ_CLUSTER_INDEX.key c, F.SEQ_CLUSTER_STALL.key c]) ∧
  (f.ok tyAny = true → ∀ p : Instr × (Nat → Nat), p ∈ [((.vand c f : Instr), fun j => e f.va j &&& e f.vb j),
      (.vor c f, fun j => e f.va j ||| e f.vb j), (.vxor c f, fun j => e f.va j ^^^ e f.vb j),
      (.vbcast c f, fun _ => (s.sreg c (f.imm.setWidth 5)).toNat)] → s.readable c [f.imm.setWidth 5] →
    ∃ t, exec p.1 s = .next t ∧ s.vecIssued t c f ∧ s.setsElems t c f p.2 ∧ s.drawsOne t c f ∧
      s.regsKept t [F.SEQ_CLUSTER_INDEX.key c, F.SEQ_CLUSTER_STALL.key c]) ∧
  (f.ok tyAny = true → ∃ t, exec (.vsel c f) s = .next t ∧ s.vecIssued t c f ∧ s.vregsKept t c f.ve.toNat f.vd.toNat ∧ s.pregsKept t c ∧
    s.regsKept t [F.SEQ_CLUSTER_INDEX.key c, F.SEQ_CLUSTER_STALL.key c] ∧
    ∀ j < elemCount f.ty.toNat, t.elem c f f.vd j = if (s.preg c f.ve.toNat f.pred.toNat).testBit j then e f.va j else e f.vb j)

/-- VCMP, PAND, POR and PNOT (06 R210, R211, R218, R219): VCMP writes the condition of IMM[2:0] where the predicate is set and 0 elsewhere, a NaN
making NE true and the others false; the predicate instructions write the bits that PRED sets; P0 reads all ones and takes no write; no V register
changes. -/
def Obligations.VectorComparesAndPredicates : Prop :=
  ∀ (c : Fin 64) (f : VF) (s : State), s.runsVector c f →
    let d := f.vd.toNat % 8;
    let old := fun r => s.preg c f.ve.toNat (r % 8);
    let pr := s.preg c f.ve.toNat f.pred.toNat;
    let kept := fun (t : State) => s.vecIssued t c f ∧ (t.cl c).vregs = (s.cl c).vregs ∧ s.drawsOne t c f ∧
      (∀ e x, e < 4 → x < 8 → ¬(e = f.ve.toNat ∧ x = d) → t.preg c e x = s.preg c e x) ∧ t.preg c f.ve.toNat 0 = 2 ^ 512 - 1;
  (f.ok (fun k => tyF k || tyI32 k) = true → f.imm.toNat % 8 ≤ 5 → ∃ t, exec (.vcmp c f) s = .next t ∧ kept t ∧
    (d ≠ 0 → ∀ j < 512, (t.preg c f.ve.toNat d).testBit j = (decide (j < elemCount f.ty.toNat) && pr.testBit j &&
      (let x := decodeCode f.ty.toNat (s.elem c f f.va j);
       let y := decodeCode f.ty.toNat (s.elem c f f.vb j);
       match f.imm.toNat % 8 with
       | 0 => valEq x y | 1 => !valEq x y | 2 => valLt x y | 3 => valLt x y || valEq x y | 4 => valLt y x | _ => valLt y x || valEq x y)))) ∧
  (f.ok tyAny = true → ∀ p : Instr × (Nat → Bool), p ∈ [((.pand c f : Instr), fun j => (old f.va.toNat).testBit j && (old f.vb.toNat).testBit j),
      (.por c f, fun j => (old f.va.toNat).testBit j || (old f.vb.toNat).testBit j), (.pnot c f, fun j => !(old f.va.toNat).testBit j)] →
    ∃ t, exec p.1 s = .next t ∧ kept t ∧ s.regsKept t [F.SEQ_CLUSTER_INDEX.key c, F.SEQ_CLUSTER_STALL.key c] ∧
    (d ≠ 0 → ∀ j < 512, (t.preg c f.ve.toNat d).testBit j = if pr.testBit j then p.2 j else (s.preg c f.ve.toNat d).testBit j))

/-- VCVT between plain formats, VRSUM, VRAMAX and VCRC (06 R211, R220, R221, R223; 03 R127, R134, R135): VRSUM is the fixed tree over every element
position, a masked one +0, rounded once, and VRAMAX the largest selected magnitude with no NaN, both into element 0 with the rest of VD zero; VCRC
puts the CRC-32C of VA, chained from element 0 of VB, into element 0; VCVT rounds each selected element of a 32-bit source to the format that VB[3:0]
names, into segment VB[5:4] when that is narrower, and keeps every bit outside the segment. -/
def Obligations.VectorReductionsAndConversions : Prop :=
  ∀ (c : Fin 64) (f : VF) (s : State), s.runsVector c f →
    let ty := f.ty.toNat;
    let pr := s.preg c f.ve.toNat f.pred.toNat;
  (f.ok tySum = true → ∃ t, exec (.vrsum c f) s = .next t ∧ s.vecIssued t c f ∧ s.vregsKept t c f.ve.toNat f.vd.toNat ∧ s.pregsKept t c ∧
    t.vreg c f.ve.toNat f.vd.toNat = (encodeCode ty (treeSum (elemCount ty).log2 ((List.range (elemCount ty)).map (fun j =>
      if pr.testBit j then decodeCode ty (s.elem c f f.va j) else valZero))).1 f.rm.toNat f.sat (s.vDraw c f 0)).1 % 2 ^ 4096) ∧
  (f.ok tyF = true → (∀ j < elemCount ty, pr.testBit j = true → valNan (decodeCode ty (s.elem c f f.va j)) = false) →
    ∃ t, exec (.vramax c f) s = .next t ∧ s.vecIssued t c f ∧ s.vregsKept t c f.ve.toNat f.vd.toNat ∧ s.pregsKept t c ∧
    (∀ j < elemCount ty, pr.testBit j = true →
      s.elem c f f.va j % 2 ^ (tyWidth ty - 1) ≤ t.vreg c f.ve.toNat f.vd.toNat) ∧
    (t.vreg c f.ve.toNat f.vd.toNat = 0 ∨ ∃ j < elemCount ty, pr.testBit j = true ∧
      t.vreg c f.ve.toNat f.vd.toNat = s.elem c f f.va j % 2 ^ (tyWidth ty - 1))) ∧
  (f.ok tyAny = true → pr.testBit 0 = true → ∃ t, exec (.vcrc c f) s = .next t ∧ s.vecIssued t c f ∧
    s.vregsKept t c f.ve.toNat f.vd.toNat ∧ s.pregsKept t c ∧
    t.vreg c f.ve.toNat f.vd.toNat % 2 ^ 32 = (crcRun (s.vreg c f.ve.toNat f.vb.toNat % 2 ^ 32 ^^^ 0xFFFFFFFF)
      (leBytes 512 (s.vreg c f.ve.toNat f.va.toNat)) ^^^ 0xFFFFFFFF) % 2 ^ 32 ∧
    t.vreg c f.ve.toNat f.vd.toNat / 2 ^ 32 = s.vreg c f.ve.toNat f.vd.toNat / 2 ^ 32) ∧
  (f.rm ≠ 3 → ty = 0 → ∀ dst, f.vb.toNat % 16 = dst → dst ∈ [1, 2, 3, 4, 11] →
    (f.vb.toNat / 16 + 1) * 128 * tyWidth dst ≤ 4096 →
    ∃ t, exec (.vcvt c f) s = .next t ∧ s.vecIssued t c f ∧ s.vregsKept t c f.ve.toNat f.vd.toNat ∧ s.pregsKept t c ∧
    (∀ j < 128, elemOf (tyWidth dst) (t.vreg c f.ve.toNat f.vd.toNat) (f.vb.toNat / 16 * 128 + j) =
      if pr.testBit j then (encodeCode dst (decodeCode 0 (s.elem c f f.va j)) f.rm.toNat f.sat (s.vDraw c f j)).1 % 2 ^ tyWidth dst
      else elemOf (tyWidth dst) (s.vreg c f.ve.toNat f.vd.toNat) (f.vb.toNat / 16 * 128 + j)) ∧
    (∀ b < 4096, b < f.vb.toNat / 16 * 128 * tyWidth dst ∨ (f.vb.toNat / 16 + 1) * 128 * tyWidth dst ≤ b →
      (t.vreg c f.ve.toNat f.vd.toNat).testBit b = (s.vreg c f.ve.toNat f.vd.toNat).testBit b))

/-- VLD, VST and VSETSR (06 R210, R211, R218, R222; 07 R243): the address is S(IMM[4:0]) + IMM[15:5] x 512, a multiple of 512 within working memory;
VLD takes the 512 bytes there into the selected elements, when no word of them is poisoned; VST, outside the list area, state lines and poison, writes
the bytes of selected elements of 8, 16 or 32 bits and no others; VSETSR sets LANE_BASE and DRAW_IDX. -/
def Obligations.VectorLoadsStoresAndDraws : Prop :=
  ∀ (c : Fin 64) (f : VF) (s : State) (off : Nat), s.runsVector c f → f.ok tyAny = true →
    let pr := s.preg c f.ve.toNat f.pred.toNat;
    let sv := (s.sreg c (f.imm.setWidth 5)).toNat;
  ((sv + f.imm.toNat / 32 * 512) % 2 ^ 64 = off → off % 512 = 0 → off + 512 ≤ 0x400000 → s.poison = [] → s.soft = [] →
    s.readable c [f.imm.setWidth 5] →
    (∃ t, exec (.vld c f) s = .next t ∧ s.vecIssued t c f ∧
      s.setsElems t c f (fun j => elemOf (tyWidth f.ty.toNat) (leNat (s.bytes (wmBase c + off) 512)) j) ∧ s.drawsOne t c f) ∧
    (s.inList off 512 = false → (∀ b < 512, s.stateOff (wmBase c + off + b) = none) → tyWidth f.ty.toNat % 8 = 0 →
    ∃ t, exec (.vst c f) s = .next t ∧
      t = ((s.putRegs t.regs).putMem t.mem).putClusters t.clusters ∧ s.othersKept t c ∧ s.drawsOne t c f ∧
      t.cl c = { s.cl c with draw := (t.cl c).draw, vfree := (t.cl c).vfree, vdone := (t.cl c).vdone } ∧
        s.regsKept t [F.SEQ_CLUSTER_INDEX.key c, F.SEQ_CLUSTER_STALL.key c] ∧
      s.memKeptOut t (wmBase c + off) 512 ∧ t.reg F.SEQ_CLUSTER_INDEX c = (s.reg F.SEQ_CLUSTER_INDEX c + 1) % 2 ^ 24 ∧
      ∀ b < 512, (t.byte (wmBase c + off + b)).toNat =
        if pr.testBit (b / (tyWidth f.ty.toNat / 8)) then s.vreg c f.ve.toNat f.va.toNat / 2 ^ (8 * b) % 256
        else (s.byte (wmBase c + off + b)).toNat)) ∧
  (s.readable c [f.imm.setWidth 5] → ∃ t, exec (.vsetsr c f) s = .next t ∧ s.vecIssued t c f ∧ (t.cl c).vregs = (s.cl c).vregs ∧
    (t.cl c).pregs = (s.cl c).pregs ∧
    tabGet 0 (t.cl c).lane f.ve.toNat = sv % 2 ^ 32 ∧ tabGet 0 (t.cl c).draw f.ve.toNat =
      (if f.rm = 2 then (sv / 2 ^ 32 + 1) % 2 ^ 32 else sv / 2 ^ 32) ∧
    ∀ e < 4, e ≠ f.ve.toNat → tabGet 0 (t.cl c).lane e = tabGet 0 (s.cl c).lane e ∧ tabGet 0 (t.cl c).draw e = tabGet 0 (s.cl c).draw e)

/-! ### Matrix, tally and mover work of a cluster (spec/05; spec/04; spec/06 R224 to R229) -/

/-- MXE.OP and the issue of an operation (05 R174, R175, R178, R185, R189; 06 R204, R224 to R226): MXE.OP joins the matrix queue with S(SA) and its
list index, or stalls while the queue holds 32. An operation at the head leaves the queue with the eight words at its address: with M or N zero it
completes DONE_EMPTY at once and leaves no tile; within range, with no overlap and no REUSE it starts, with those words, unless two earlier ones have
a streaming row still to enter; its tiles join the feed, the first loads into an idle engine's array with its checksum rows while no row is replaced
(R194), one that makes a single pass leaves its tile for REUSE, and memory does not change. The completion of a matrix operation (03 R126 to R128,
R134; 05 R173, R178 to R180, R187, R188, R196; 06 R226), here of one element of D with plain formats, one pass and no INIT: its accumulator is the
pass sum in FP32, and D is that, rounded once to OUTFMT; then the completion entry, with code DONE, or CHECK_FAIL when a check failed with no Score
running, the completion count and the operation's Chime; no other byte of memory changes. An operation that met poison at issue writes no byte of D,
leaves no tile and completes MEM_UE (13 R421); one that was to reuse its tile will complete REUSE_BAD. -/
def Obligations.MatrixOperationsQueueStartAndComplete : Prop :=
  (∀ (c : Fin 64) (sa : BitVec 5) (s : State),
  (s.meets c → s.readable c [sa] → (s.cl c).mxq.length < 32 → ∃ t, exec (.mxeOp c sa) s = .next t ∧ s.issued t c [] ∧
    ∃ word, t.cl c = { s.cl c with mxq := (s.cl c).mxq ++ [.op (s.sreg c sa).toNat (s.reg F.SEQ_CLUSTER_INDEX c) word] }) ∧
  (s.meets c → s.readable c [sa] → 32 ≤ (s.cl c).mxq.length → ∃ t, exec (.mxeOp c sa) s = .next t ∧ s.stalls t c 1) ∧
  (∀ (addr index word : Nat) (rest : List QEntry), (s.cl c).mxq = .op addr index word :: rest → chimeFirst rest = false →
    s.mxFenced c = false → addr % 64 = 0 → addr + 64 ≤ 0x400000 → s.poison = [] → s.inj.corrupt = [] → s.soft = [] →
    (2 ≤ feeding (s.cl c).mxRun (s.cl c).feed.length → exec (.mxeOpIssue c) s = .next s) ∧
    (feeding (s.cl c).mxRun (s.cl c).feed.length < 2 →
    let ws := (List.range 8).map (fun i => s.word (wmBase c + addr + 8 * i));
    (mpM ws = 0 ∨ mpN ws = 0 → mpChime ws = none → ∃ t, exec (.mxeOpIssue c) s = .next t ∧ (t.cl c).mxRun = (s.cl c).mxRun ∧
      (t.cl c).mxq = rest ∧ (t.cl c).tile = none ∧ (t.cl c).ccount = (s.cl c).ccount + 1 ∧ s.othersKept t c ∧
      t.word (wmBase c + s.entryOff (s.cl c).ccount) = index % 2 ^ 24 * 2 ^ 40 + 2 * 2 ^ 32 + 1 ∧
      s.memKeptOut t (wmBase c + s.entryOff (s.cl c).ccount) 8 ∧ s.regsKept t [F.SEQ_CLUSTER_CCOUNT.key c] ∧ t.chimeq = s.chimeq) ∧
    (0 < mpM ws → 0 < mpN ws → s.mxInRange ws = true → mxOverlap ws = false → mpReuse ws = false → ∃ t r, exec (.mxeOpIssue c) s = .next t ∧
      t = s.putClusters t.clusters ∧ s.othersKept t c ∧
      t.cl c = { s.cl c with mxq := rest, mxRun := (s.cl c).mxRun ++ [r], feed := (s.cl c).feed ++ mxFeed ws, tile := (t.cl c).tile,
                             array := (t.cl c).array, shadow := (t.cl c).shadow } ∧ r.index = index ∧ r.words = ws ∧
      r.beat = s.beat ∧ r.code = (if mpK ws = 0 then 2 else 0) ∧ (t.cl c).tile.isSome = decide (mpK ws ≠ 0 ∧ mpK ws ≤ mxKt ws) ∧
      (mpK ws = 0 → (t.cl c).array = (s.cl c).array ∧ (t.cl c).shadow = (s.cl c).shadow) ∧
      (0 < mpK ws → (s.cl c).mxRun = [] → ∃ x, (t.cl c).array.tile = some x ∧
        (mpAxis ws = 0 → x.rows = min 128 (mpK ws) ∧ x.cols = mpN ws) ∧ (mpAxis ws = 1 → x.rows = mpN ws ∧ x.cols = min 64 (mpK ws)) ∧
        (s.repMap c = 0 → (t.cl c).array.spares = [(List.range x.cols).map (tileColSum x), (List.range (min x.rows 64)).map (tileRowSum x),
          (List.range (x.rows - 64)).map (fun i => tileRowSum x (64 + i)), []])))))) ∧
  (∀ (c : Fin 64) (r : MxRun) (rest : List MxRun) (s : State), (s.cl c).mxRun = r :: rest → chimeFirst (s.cl c).mxq = false →
    s.inj.corrupt = [] → s.poison = [] → s.soft = [] → s.score.load = none → (∀ d < 2, s.chimeFull d = false) →
    let ws := r.words;
    let w := tyWidth (mpOutfmt ws);
    let d := wmBase c + mpAddr ws 4;
    let e := wmBase c + s.entryOff (s.cl c).ccount;
    let done := fun (t : State) (q : List MxRun) => (t.cl c).mxRun = q ∧ (t.cl c).ccount = (s.cl c).ccount + 1 ∧ s.othersKept t c ∧
      t.reg F.SEQ_CLUSTER_CCOUNT c = min ((s.cl c).ccount + 1) 0xFFFF ∧
      t.chimeq = s.chimeq ++ (match mpChime ws with | some i => [⟨i % 32768, false, 1, r.beat⟩] | none => []);
  (r.code = 0 → mpM ws = 1 → mpN ws = 1 → 1 ≤ mpK ws → mpK ws ≤ 64 → mpInit ws = false → mpAfmt ws ≤ 4 → mpBfmt ws ≤ 4 → mpOutfmt ws ≤ 4 →
    r.a.length = mpK ws → r.b.length = mpK ws → s.stateOff d = none → (d + w / 8 ≤ e ∨ e + 8 ≤ d) → mpAddr ws 4 % 64 = 0 →
    let acc := (passFp valZero (r.a.map (decodeCode (mpAfmt ws))) (r.b.map (decodeCode (mpBfmt ws))) none).1;
    let bad := s.mxFails c r none;
    ∃ t, exec (.mxeOpComplete c) s = .next t ∧ done t rest ∧ (t.cl c).accs.headD 0 = (rneFp32 acc).1 ∧
      leNat (t.bytes d (w / 8)) = (encodeCode (mpOutfmt ws) acc (mpRm ws) (mpSat ws) (s.mxDraw r 0 0)).1 % 2 ^ w ∧
      t.reg F.MXE_ENG_CHECK_FAIL c = min (s.reg F.MXE_ENG_CHECK_FAIL c + bad) F.MXE_ENG_CHECK_FAIL.top ∧
      (∃ fl < 16, t.word e = r.index % 2 ^ 24 * 2 ^ 40 + 2 * 2 ^ 32 + fl * 2 ^ 16 + (if 0 < bad ∧ s.running = false then 0x21 else 0)) ∧
      (∀ x, (x < d ∨ d + w / 8 ≤ x) → (x < e ∨ e + 8 ≤ x) → t.byte x = s.byte x)) ∧
  (r.code = 0x15 → ∃ t, exec (.mxeOpComplete c) s = .next t ∧ done t (voidReuse rest) ∧ (rest = [] → (t.cl c).tile = none) ∧
    (∀ x y, rest = x :: y → x.code = 0 → mpReuse x.words = true → ∃ z, (t.cl c).mxRun = { x with code := 0x20 } :: z) ∧
    t.word e = r.index % 2 ^ 24 * 2 ^ 40 + 2 * 2 ^ 32 + 0x15 ∧ s.memKeptOut t e 8))

/-- The ramp and the repair map (05 R189 to R191, R197 to R199, R201, R202; 01 R32). One interval of 32 CK takes the feed on, min(STEP, 8) rows a
window of 8 CK with no throttle; with a row ready at its end the step rises to at most 8; with none it holds for two intervals of filler and then
falls; STATE follows unless the engine is fenced. A write of the map with valid entries first and their rows distinct, which while a Score runs keeps
every valid entry, is pending, and one made while a Score runs waits for a boundary; one with a valid entry above an invalid one sets REJ and leaves
what is pending; a pending map takes effect with LAT1, COVER and LAT once no row is in the array. -/
def Obligations.RampAndRepairFollowTheRules : Prop :=
  ∀ (c : Fin 64) (s : State),
    let st := s.reg F.MXE_ENG_STEP c;
    let ks := [F.MXE_ENG_STEP.key c, F.MXE_ENG_STATE.key c];
    let f := feedRun st s.levelNow 32 0 (s.cl c).feed;
    let shows := fun (t : State) (k : Nat) => t.reg F.MXE_ENG_STATE c = if s.mxFenced c then s.reg F.MXE_ENG_STATE c else k;
  (rowReady f = true → ∃ t, exec (.rampStep c) s = .next t ∧ t = (s.putRegs t.regs).putClusters t.clusters ∧ s.regsKept t ks ∧
    t.reg F.MXE_ENG_STEP c = min (st + 1) 8 ∧ shows t (if 7 ≤ st then 2 else 1) ∧ t.cl c = { s.cl c with feed := f, filler := 0 } ∧
    s.othersKept t c) ∧
  (rowReady f = false → ∃ t, exec (.rampStep c) s = .next t ∧ t = (s.putRegs t.regs).putClusters t.clusters ∧ s.regsKept t ks ∧
    s.othersKept t c ∧
    t.reg F.MXE_ENG_STEP c = (if st = 0 then 0 else if (s.cl c).filler < 2 then st else st - 1) ∧
    shows t (if st = 0 then 0 else if (s.cl c).filler < 2 then 3 else if st = 1 then 0 else 4) ∧
    t.cl c = { s.cl c with feed := f, filler := if st = 0 then 0 else if (s.cl c).filler < 2 then (s.cl c).filler + 1
                                               else if st = 1 then 0 else (s.cl c).filler }) ∧
  (∀ u : Nat, (s.cl c).feed = [(0, u)] → 32 < u → s.levelNow = 0 → ∃ t, exec (.rampStep c) s = .next t ∧
    (t.cl c).feed = [(0, u - 4 * min st 8)] ∧ t.reg F.MXE_ENG_STEP c = min (st + 1) 8) ∧
  (∀ v : BitVec 64, (s.running = true → ∀ i : Fin 4, (repEntry ((s.cl c).repair.getD (s.repMap c)) i).1 = true →
      repEntry v.toNat i = repEntry ((s.cl c).repair.getD (s.repMap c)) i) →
    (∀ i j : Fin 4, j < i → v.toNat.testBit (8 * i.val + 7) = true → v.toNat.testBit (8 * j.val + 7) = true ∧
      v.toNat / 2 ^ (8 * i.val) % 128 ≠ v.toNat / 2 ^ (8 * j.val) % 128) →
    ∃ t, exec (.engRepairWrite c v) s = .next t ∧ t = (s.putRegs t.regs).putClusters t.clusters ∧
      t.cl c = { s.cl c with repair := some (v.toNat % 2 ^ 32), repairWait := s.running } ∧ s.othersKept t c ∧ s.regsKept t [F.ENG_REPAIR_REJ.key c] ∧
      t.reg F.ENG_REPAIR_REJ c = (if v.toNat.testBit 33 then 0 else s.reg F.ENG_REPAIR_REJ c)) ∧
  (∀ v2 : BitVec 64, v2.toNat.testBit 15 = true → v2.toNat.testBit 7 = false → ∃ t, exec (.engRepairWrite c v2) s = .next t ∧
    s.onlyCounts t [F.ENG_REPAIR_REJ.key c] ∧ t.reg F.ENG_REPAIR_REJ c = 1) ∧
  ((s.cl c).repairWait = true → s.running = true → exec (.repairApply c) s = .next s) ∧
  (∀ v3 : Nat, (s.cl c).repair = some v3 → (s.cl c).mxRun = [] → ((s.cl c).repairWait = false ∨ s.running = false) →
    let k := b2n (v3.testBit 7) + b2n (v3.testBit 15) + b2n (v3.testBit 23) + b2n (v3.testBit 31);
    ∃ t, exec (.repairApply c) s = .next t ∧ t = (s.putRegs t.regs).putClusters t.clusters ∧
      t.cl c = { s.cl c with repair := none, repairWait := false, array := (t.cl c).array } ∧ (t.cl c).array.tile = (s.cl c).array.tile ∧
    t.reg F.ENG_REPAIR_SUB0_ROW c = v3 % 128 ∧ t.reg F.ENG_REPAIR_SUB0_V c = b2n (v3.testBit 7) ∧
    t.reg F.ENG_REPAIR_SUB1_ROW c = v3 / 2 ^ 8 % 128 ∧ t.reg F.ENG_REPAIR_SUB1_V c = b2n (v3.testBit 15) ∧
    t.reg F.ENG_REPAIR_SUB2_ROW c = v3 / 2 ^ 16 % 128 ∧ t.reg F.ENG_REPAIR_SUB2_V c = b2n (v3.testBit 23) ∧
    t.reg F.ENG_REPAIR_SUB3_ROW c = v3 / 2 ^ 24 % 128 ∧ t.reg F.ENG_REPAIR_SUB3_V c = b2n (v3.testBit 31) ∧
    t.reg F.ENG_REPAIR_LAT1 c = (if k = 0 then 0 else 1) ∧ t.reg F.ENG_REPAIR_COVER c = (if k ≤ 1 then 0 else if k = 2 then 1 else 2) ∧
    t.reg F.MXE_ENG_LAT c = (if k = 0 then 180 else 181) ∧
    s.regsKept t [F.ENG_REPAIR_SUB0_ROW.key c, F.ENG_REPAIR_SUB0_V.key c, F.ENG_REPAIR_SUB1_ROW.key c, F.ENG_REPAIR_SUB1_V.key c,
      F.ENG_REPAIR_SUB2_ROW.key c, F.ENG_REPAIR_SUB2_V.key c, F.ENG_REPAIR_SUB3_ROW.key c, F.ENG_REPAIR_SUB3_V.key c,
      F.ENG_REPAIR_LAT1.key c, F.ENG_REPAIR_COVER.key c, F.MXE_ENG_LAT.key c])

/-- Inputs of a tally engine (04 R140, R143, R145 to R149, R152, R157; 06 R226, R228). TALLY.PUT of a chunk of working memory in turn, with its slot
free, and a leaf cell that its record takes in turn join the engine's queue with the codes of the payload and take the chunk's slot; TALLY.PUT and
TALLY.ANY write a completion entry; TALLY.ANY sets ANY, or with an input taken before completes with 0x24 and sets nothing. An engine that holds
earlier instructions keeps them in its queue, at most 32 (06 R204). The tally engine, its parks and its limits (04 R148, R161, R166, R168; 09 R314,
R319). The first input of a chunk that is the left child of nothing yet, in turn at NODE_LO, becomes the one node of its slot, encoded to FP32, and
moves the turn past it; a parked input of one part in turn with its slot free is released to the engine; a chunk that has waited TIMEOUT_K x 1,024 CK
ends its collective with TALLY_TIMEOUT; a waiting cell past that limit is discarded and counted in EXPIRED. -/
def Obligations.TallyInputsQueueWorkAndTimeOut : Prop :=
  (∀ (c : Fin 64) (sa sb : BitVec 5) (r : BitVec 6) (s : State), s.inj.corrupt = [] → s.soft = [] →
    let e := wmBase c + s.entryOff (s.cl c).ccount;
    let done := fun (t : State) (code : Nat) => t.word e = s.reg F.SEQ_CLUSTER_INDEX c * 2 ^ 40 + 3 * 2 ^ 32 + code ∧
      s.memKeptOut t e 8 ∧ (t.cl c).ccount = (s.cl c).ccount + 1 ∧ s.othersKept t c ∧
      s.regsKept t [F.SEQ_CLUSTER_INDEX.key c, F.SEQ_CLUSTER_STALL.key c, F.SEQ_CLUSTER_CCOUNT.key c, F.TALLY_PARK_PARKED_D0.key 0,
        F.TALLY_PARK_PARKED_D1.key 0] ∧
      t.reg F.SEQ_CLUSTER_INDEX c = (s.reg F.SEQ_CLUSTER_INDEX c + 1) % 2 ^ 24;
    let b := (s.sreg c sb).toNat;
    let a := (s.sreg c sa).toNat;
    let free := fun (x : TallyIn) => decide (x.chunk ∈ (s.bushel (x.key / 64) (x.key % 64)).done) = false ∧
      s.haveLo (x.key / 64) x 0 = false ∧ s.turnOf (x.key / 64) (x.key % 64) x.chunk = x.lo ∧
      s.slotBusy (x.key / 64) (x.key % 64) x.chunk = false ∧ s.rAny (x.key / 64) (x.key % 64) = false;
  (s.meets c → s.readable c [sa, sb] → s.unitQuiet c 6 = true → s.taFenced c = false → s.rValid c r.toNat = true → b % 65536 = b / 65536 % 65536 →
    isNode (s.rN c r.toNat) (b % 65536) (b % 65536) = true →
    s.rLo c r.toNat ≤ b % 65536 → b % 65536 ≤ s.rHi c r.toNat → b / 2 ^ 32 % 2 ^ 23 < s.rChunks c r.toNat →
    b / 2 ^ 32 % 2 ^ 23 % max (s.rNb c r.toNat) 1 = s.rK c r.toNat → a + chunkBytes (s.rCfmt c r.toNat) ≤ 0x400000 → s.poison = [] →
    let d := leafData (s.rCfmt c r.toNat)
      (s.bytes (wmBase c + a) (chunkBytes (s.rCfmt c r.toNat)));
    let x : TallyIn := ⟨64 * c.val + r.toNat, b % 65536, b % 65536, b / 2 ^ 32 % 2 ^ 23, s.beat, true, d.1, d.2⟩;
    free x → ∃ t, exec (.tallyPut c sa sb r) s = .next t ∧ done t 0 ∧ (t.cl c).tallyq = (s.cl c).tallyq ++ [x] ∧
      (t.bushel c r.toNat).taken = true ∧ (slotFor (t.bushel c r.toNat) x.chunk).isSome = true ∧ (t.cl c).tlfree = s.ck + 3) ∧
  (s.meets c → s.unitQuiet c 6 = true → s.rValid c r.toNat = true → s.rScored c r.toNat = true → (s.bushel c r.toNat).taken = false →
    ∃ t, exec (.tallyAny c r) s = .next t ∧ done t 0 ∧ t.bushel c r.toNat = { s.bushel c r.toNat with any := true }) ∧
  (s.meets c → s.unitQuiet c 6 = true → s.rValid c r.toNat = true → s.rScored c r.toNat = true → (s.bushel c r.toNat).taken = true →
    ∃ t, exec (.tallyAny c r) s = .next t ∧ done t 0x24 ∧ t.bushels = s.bushels) ∧
  (s.meets c → s.readable c [sa, sb] → s.unitQuiet c 6 = false → ∀ p ∈ [((.tallyPut c sa sb r : Instr), (a, b)), (.tallyAny c r, (0, 0))],
    ((s.cl c).tlq.length < 32 → ∃ t, exec p.1 s = .next t ∧ s.issued t c [] ∧
      t.cl c = { s.cl c with tlq := (s.cl c).tlq ++ [.op ⟨p.1, s.reg F.SEQ_CLUSTER_INDEX c, p.2.1, p.2.2⟩] }) ∧
    (32 ≤ (s.cl c).tlq.length → ∃ t, exec p.1 s = .next t ∧ s.stalls t c 1)) ∧
  (∀ (die : Bool) (x : Cell) (key : Nat), tKind x = 0 → s.steer (tGroup x) (tSeq x) (tLo x) (tHi x) (tChunk x) = some key → key / 64 < 64 →
    csumGood x = true → (s.rScored (key / 64) (key % 64) = true → cBeat x = s.beat) → s.kindGood (key / 64) (key % 64) x = true →
    isNode (s.rN (key / 64) (key % 64)) (tLo x) (tHi x) = true → tChunk x < s.rChunks (key / 64) (key % 64) →
    let d := leafData (s.rCfmt (key / 64) (key % 64)) (cPay x);
    let y : TallyIn := ⟨key, tLo x, tHi x, tChunk x, cBeat x, true, d.1, d.2⟩;
    free y → ∃ t, exec (.tallyCellIn die x) s = .next t ∧ (t.cl (key / 64)).tallyq = (s.cl (key / 64)).tallyq ++ [y] ∧
      t = ((((s.putRegs t.regs).putClusters t.clusters).putBushels t.bushels).putDelivered (s.delivered.erase x)) ∧ s.othersKept t (key / 64) ∧
      s.regsKept t [F.TALLY_PARK_PARKED_D0.key 0, F.TALLY_PARK_PARKED_D1.key 0])) ∧
  (∀ (c : Fin 64) (r : BitVec 6) (s : State), s.inj.corrupt = [] →
  (∀ (x : TallyIn) (rest : List TallyIn) (sl : Slot), (s.cl c).tallyq = x :: rest → x.key = 64 * c.val + r.toNat →
    slotFor (s.bushel c r.toNat) x.chunk = some sl → sl.stack = [] → s.rAny c r.toNat = false → s.rValid c r.toNat = true →
    x.lo = s.rLo c r.toNat → x.hi < s.rHi c r.toNat → ∃ t, exec (.tallyOperation c) s = .next t ∧ (t.cl c).tallyq = rest ∧
      slotFor (t.bushel c r.toNat) x.chunk = some { sl with
        stack := [⟨x.lo, x.hi, (pushAcc (s.rCfmt c r.toNat) (inputVals (s.rCfmt c r.toNat) x)).1⟩], turn := x.hi + 1, beat := max sl.beat x.beat,
          last := s.toll } ∧
      t = ((((s.putRegs t.regs).putFresh t.fresh).putClusters t.clusters).putBushels t.bushels) ∧ s.memKept t) ∧
  (∀ p : Parked, s.parked.find? (s.releasable c) = some p → p.part = 0 → p.parts = 1 →
    (∀ q ∈ s.parked, q ≠ p → sameInput q.input p.input = false) → ∃ t, exec (.parkedRelease c) s = .next t ∧
    t.parked = s.parked.erase p ∧ (t.cl c).tallyq = (s.cl c).tallyq ++ [p.input] ∧ s.othersKept t c ∧ s.memKept t ∧
    s.regsKept t [F.TALLY_PARK_PARKED_D0.key 0, F.TALLY_PARK_PARKED_D1.key 0]) ∧
  (∀ y : Coll, s.collOf (64 * c.val + r.toNat) = some y → ∃ t, exec (.tallyTimeout c r) s = .next t ∧ t.colls = s.colls.erase y ∧
    t.toll = max s.toll (s.oldestChunk c r.toNat + 1024 * max (s.reg F.TALLY_CFG_TIMEOUT_K) 1) % 2 ^ 64 ∧
    (∃ e, t.comps = s.comps ++ [e] ∧ e.id = y.desc.id.toNat ∧ e.code = 0x33)) ∧
  (∀ p2 : Parked, s.parked = [p2] → p2.cell.isSome = true →
    p2.since + 1024 * max (s.reg F.TALLY_CFG_TIMEOUT_K) 1 < 2 ^ 64 → ∃ t, exec .parkedCellExpiry s = .next t ∧ t.parked = [] ∧
    t.reg F.COLL_COUNTS_EXPIRED = min (s.reg F.COLL_COUNTS_EXPIRED + 1) F.COLL_COUNTS_EXPIRED.top ∧ s.memKept t))

/-- The mover (06 R226, R227, R229; 10 R328, R331; 13 R422). A mover instruction that an idle mover may start is in progress with its block's Chime
and destination: a copy with the source bytes, a transposition with them at their new places, a send with the cells of its message on SC0, or OP0 for
the marked ones. At its completion the bytes stand at the destination, the entry is written, the completion count rises and the Chime receives
ARRIVE(1). -/
def Obligations.MoverStartsAndCompletes : Prop :=
  ∀ (c : Fin 64) (sa : BitVec 5) (s : State), s.poison = [] → s.soft = [] →
    let a := (s.sreg c sa).toNat;
    let ws := (List.range 8).map (fun i => s.word (wmBase c + a + 8 * i));
    let src := s.bytes (mvSrc ws) (mvLen ws);
  (s.meets c → s.readable c [sa] → (s.cl c).mvq = [] → (s.cl c).mvRun = none → s.clFenced c = false → s.fenced 8 c = false → a + 64 ≤ 0x400000 →
    wordOnly (mvSrc ws) = false → (∀ x < mvLen ws, inBushel (mvSrc ws + x) = false) →
    ∀ p : Instr × Nat, p ∈ [((.movCopy c sa : Instr), 1), (.movXpose c sa, 2), (.movSend c sa, 3), (.movSenda c sa, 4), (.movAadd c sa, 5)] →
      s.moverCheck p.2 ws = 0 → (p.2 = 5 → s.routeHome (mvRoute ws) = false) → ∃ t r, exec p.1 s = .next t ∧
      t = (((s.putRegs t.regs).putClusters t.clusters).putDraws t.draws) ∧ t.cl c = { s.cl c with mvRun := some r } ∧ s.othersKept t c ∧
      s.regsKept t [F.SEQ_CLUSTER_INDEX.key c, F.SEQ_CLUSTER_STALL.key c] ∧
      t.reg F.SEQ_CLUSTER_INDEX c = (s.reg F.SEQ_CLUSTER_INDEX c + 1) % 2 ^ 24 ∧ r.index = s.reg F.SEQ_CLUSTER_INDEX c ∧ r.code = 0 ∧
      r.beat = s.beat ∧ r.chime = mvChime ws ∧ r.dst = mvDst ws ∧ r.add = none ∧ r.sends = decide (3 ≤ p.2) ∧
      r.data = (if p.2 = 1 then src else if p.2 = 2 then xposeBytes ws src (xposeOrder ws) else []) ∧
      (p.2 ≤ 2 → r.cells = []) ∧
      (3 ≤ p.2 → ∃ msg, r.cells = s.moverCells c (if p.2 = 3 then 0 else 2) (mvRoute ws) msg src true)) ∧
  (∀ r : MvRun, (s.cl c).mvRun = some r → (s.cl c).mvq = [] → r.cells = [] → r.sends = false → r.add = none → r.code = 0 → s.inj.corrupt = [] →
    (∀ d < 2, s.chimeFull d = false) →
    inRegSpace r.dst = false → inChime r.dst = false → (∀ x < r.data.length, s.stateOff (r.dst + x) = none) →
    let e := wmBase c + s.entryOff (s.cl c).ccount;
    (r.dst + r.data.length ≤ e ∨ e + 8 ≤ r.dst) → ∃ t, exec (.moverComplete c) s = .next t ∧ t.bytes r.dst r.data.length = r.data ∧
      t.word e = r.index % 2 ^ 24 * 2 ^ 40 + 4 * 2 ^ 32 ∧
      (∀ x, (x < r.dst ∨ r.dst + r.data.length ≤ x) → (x < e ∨ e + 8 ≤ x) → t.byte x = s.byte x) ∧
      t.cl c = { s.cl c with mvRun := none, ccount := (s.cl c).ccount + 1 } ∧ s.othersKept t c ∧
      t.chimeq = s.chimeq ++ (match r.chime with | some i => [⟨i % 32768, false, 1, r.beat⟩] | none => []))

/-! ### The riding copy (spec/08), the switch (spec/10), control cells and drains (spec/11), telemetry and pools (spec/12), memory (spec/13) -/

/-- The riding copy (08 R295 to R298, R300; 10 R331; 13 R414): an open cell not joined for 64 CK closes, and leaves at once when its input point has
room, while no copy waits for its place; a ride cell from the source, of this Beat or the one before and well formed, becomes the next entry of its
Beat's buffer, and without HOLD is refused and counted; the end of a drain puts each block at its offset of the mirror, MIRROR_BEAT is the Beat, and
the mirror is consistent when no block was poisoned. -/
def Obligations.RidingCopyReachesTheMirror : Prop :=
  ∀ (die : Bool) (s : State), s.soft = [] →
  (∀ q : RideCell, s.ride.queue = [q] → s.ride.waits = [] → q.die = b2n die → q.closed = false → q.since + 64 < 2 ^ 64 →
    ((∀ x, s.mcCluster (b2n die) = some x → 16 ≤ s.scoredLen (b2n die) (64 + x % 32)) → ∃ t, exec (.rideCellTimeout die) s = .next t ∧
      t.ride = { s.ride with queue := [{ q with closed := true }] } ∧
      t.toll = max s.toll (q.since + 64) ∧ s.regsKept t [F.TOLL_COUNT_COUNT.key 0] ∧ s.memKept t) ∧
    (∀ x, s.mcCluster (b2n die) = some x → s.scoredLen (b2n die) (64 + x % 32) < 16 → ∃ t, exec (.rideCellTimeout die) s = .next t ∧
      t.ride = { s.ride with queue := [] } ∧ t.toll = max s.toll (q.since + 64) ∧ s.memKept t ∧
      t.reg F.OPT_RIDE_COUNTS_CELLS = min (s.reg F.OPT_RIDE_COUNTS_CELLS + 1) F.OPT_RIDE_COUNTS_CELLS.top)) ∧
  (∀ c : Cell,
    let off := leNat ((cPay c).take 8);
    let n := leNat (((cPay c).drop 8).take 1);
    let x := cBeat c;
    let a := 0x8C00000000 + x % 3 * 0x100000000 + 512 * s.rideCount x;
    (s.reg F.OPT_HOLD_CFG_HOLD = 0 → ∃ t, exec (.rideCellIn die c) s = .next t ∧
      t = ((s.putRegs t.regs).putFresh t.fresh).putDelivered (s.delivered.erase c) ∧ s.regsKept t [F.OPT_RIDE_COUNTS_REFUSED.key 0] ∧
      t.reg F.OPT_RIDE_COUNTS_REFUSED = min (s.reg F.OPT_RIDE_COUNTS_REFUSED + 1) F.OPT_RIDE_COUNTS_REFUSED.top) ∧
    (s.reg F.OPT_HOLD_CFG_HOLD = 1 → srcCoord (dSrc c) = s.reg F.OPT_HOLD_CFG_SOURCE → pcrcGood c = true → x = s.beat ∨ x + 1 = s.beat →
      off % 64 = 0 → 1 ≤ n → n ≤ 7 → off + 64 * n ≤ 448 * 2 ^ 30 → s.rideCount x < 8388608 →
      (∀ b ∈ s.ride.bufs, b.1 % 3 = x % 3 → b.1 = x) → ∃ t, exec (.rideCellIn die c) s = .next t ∧ t.bytes a 480 = cPay c ∧
      t.word (a + 480) = x ∧ s.memKeptOut t a 512 ∧ t.rideCount x = s.rideCount x + 1 ∧
      s.regsKept t [F.OPT_RIDE_STATUS_FILLED.key 0])) ∧
  (∀ b : Nat, s.ride.drain = some b → s.rideCount b = 1 → s.reg F.BEAT_STATUS_STATE = 2 → s.poison = [] →
    s.reg F.CKPT_STATUS_MIRROR_POISON = 0 →
    let a := 0x8C00000000 + b % 3 * 0x100000000;
    let m := 0x9000000000 + s.word a;
    (s.byte (a + 8)).toNat = 1 → ∃ t, exec .rideDrainDone s = .next t ∧ t.bytes m 64 = s.bytes (a + 32) 64 ∧ s.memKeptOut t m 64 ∧
      t.ride.drain = none ∧ t.reg F.OPT_MIRROR_BEAT_BEAT = b % 2 ^ F.OPT_MIRROR_BEAT_BEAT.width ∧ t.reg F.OPT_MIRROR_BEAT_VALID = 1 ∧
      t.reg F.OPT_RIDE_STATUS_DRAINING = 0 ∧ t.reg F.OPT_RIDE_STATUS_CONSISTENT = 1)

/-- Header mirroring (10 R353 to R355): a queued record goes to the ring at WPTR, which rises by one; with FULL set it is dropped and counted; a full
ring without WRAP sets FULL. A write of XBAR_MIR_CFG sets its fields; EN from 0 to 1 clears FULL and starts WPTR and the samples at 0. Telemetry and
shapers (12 R391, R396 to R399, R406; 10 R355). With one port below 64 and CTL selected and its queue empty, a sample writes one record of the due
Toll count, the port and VC and the cells sent, and WPTR rises; EN from 0 to 1 clears FULL and WPTR; a shaper write waits, and the next cell time sets
RATE, at most 65,536, and BURST, at least 1. -/
def Obligations.MirrorTelemetryAndShapers : Prop :=
  (∀ (die : Bool) (l : List Byte) (v : BitVec 64) (s : State),
    let k := s.reg F.XBAR_MIR_STATUS_WPTR;
    let n := 2 ^ s.reg F.XBAR_MIR_RING_SIZE_LOG2;
    let a := s.reg F.XBAR_MIR_RING_BASE * 4096 + 64 * (k % n);
  (s.sw.mirq = [(b2n die, l)] → s.reg F.XBAR_MIR_STATUS_FULL = 0 → ∃ t, exec (.mirrorRecordWrite die) s = .next t ∧
    t.bytes a l.length = l ∧ s.memKeptOut t a l.length ∧ t.sw = { s.sw with mirq := [] } ∧
    t.reg F.XBAR_MIR_STATUS_WPTR = (k + 1) % 2 ^ 48 ∧
    t.reg F.XBAR_MIR_STATUS_FULL = (if s.reg F.XBAR_MIR_CFG_WRAP = 0 ∧ n ≤ k + 1 then 1 else 0) ∧
    s.regsKept t [F.XBAR_MIR_STATUS_WPTR.key 0, F.XBAR_MIR_STATUS_FULL.key 0]) ∧
  (s.sw.mirq = [(b2n die, l)] → s.reg F.XBAR_MIR_STATUS_FULL = 1 → ∃ t, exec (.mirrorRecordWrite die) s = .next t ∧
    t = ((s.putRegs t.regs).putFresh t.fresh).putSw { s.sw with mirq := [] } ∧ s.regsKept t [F.XBAR_MIR_DROP_MIR_DROP.key 0] ∧
    t.reg F.XBAR_MIR_DROP_MIR_DROP = min (s.reg F.XBAR_MIR_DROP_MIR_DROP + 1) F.XBAR_MIR_DROP_MIR_DROP.top) ∧
  (∃ t, exec (.mirrorEnWrite v) s = .next t ∧ t = (s.putRegs t.regs).putSw t.sw ∧ t.reg F.XBAR_MIR_CFG_EN = v.toNat % 2 ∧
    t.reg F.XBAR_MIR_CFG_WRAP = v.toNat / 2 % 2 ∧ t.reg F.XBAR_MIR_CFG_DIR = v.toNat / 2 ^ 8 % 4 ∧
    t.reg F.XBAR_MIR_CFG_SAMPLE_LOG2 = v.toNat / 2 ^ 16 % 16 ∧
    (s.reg F.XBAR_MIR_CFG_EN = 0 → v.toNat % 2 = 1 → t.reg F.XBAR_MIR_STATUS_FULL = 0 ∧ t.reg F.XBAR_MIR_STATUS_WPTR = 0 ∧
      t.sw = { s.sw with mirCount := [] }) ∧
    (s.reg F.XBAR_MIR_CFG_EN = 1 → t.sw = s.sw ∧ t.reg F.XBAR_MIR_STATUS_WPTR = k))) ∧
  (∀ (v : BitVec 64) (kind : BitVec 2) (n : Fin 128) (s : State),
    let k := s.reg F.SHAPE_TEL_STATUS_WPTR;
    let a := s.reg F.SHAPE_TEL_RING_BASE * 4096 + 32 * (k % 2 ^ s.reg F.SHAPE_TEL_RING_SIZE_LOG2);
  (∀ p < 64, s.reg F.SHAPE_TEL_CFG_EN = 1 → s.reg F.SHAPE_TEL_PORT_LO_PORTS = 2 ^ p → s.reg F.SHAPE_TEL_PORT_HI_PORTS = 0 →
    s.reg F.SHAPE_TEL_CFG_VC_MASK = 4 → s.sw.voq = [] → s.reg F.SHAPE_TEL_STATUS_FULL = 0 → s.inj.corrupt = [] → s.poison = [] →
    s.toll ≤ s.sw.telNext → s.sw.telNext ≤ s.toll + 16384 → s.sw.telNext < 2 ^ 64 → ∃ t, exec .telemetrySample s = .next t ∧
      t.toll = s.sw.telNext ∧ t.word a = s.sw.telNext ∧ t.word (a + 8) = p + 512 ∧ t.word (a + 16) = 0 ∧
      t.word (a + 24) = min (tabGet 0 s.sw.sent (4 * p + 2)) 0xFFFFFFFF ∧ s.memKeptOut t a 32 ∧
      t.sw = { s.sw with sent := [], telNext := s.sw.telNext + 16384 } ∧ t.reg F.SHAPE_TEL_STATUS_WPTR = (k + 1) % 2 ^ 48) ∧
  (∃ t, exec (.telemetryEnWrite v) s = .next t ∧ t = (s.putRegs t.regs).putSw t.sw ∧ t.reg F.SHAPE_TEL_CFG_EN = v.toNat % 2 ∧
    t.reg F.SHAPE_TEL_CFG_WRAP = v.toNat / 2 % 2 ∧ t.reg F.SHAPE_TEL_CFG_VC_MASK = v.toNat / 2 ^ 8 % 16 ∧
    (s.reg F.SHAPE_TEL_CFG_EN = 0 → v.toNat % 2 = 1 → t.reg F.SHAPE_TEL_STATUS_FULL = 0 ∧ t.reg F.SHAPE_TEL_STATUS_WPTR = 0 ∧
      t.sw.sent = [])) ∧
  (exec (.shaperConfigWrite kind n v) s = .next (s.putSw { s.sw with shapers := s.sw.shapers ++ [(kind.toNat, n.val, v.toNat)] })) ∧
  (s.ride.queue = [] → s.clusters = [] → s.sw.voq = [] → s.score.calendar = [] → s.sw.shapers = [(1, n.val, v.toNat)] →
    ∃ t, exec .cellTime s = .next t ∧ t.sw.shapers = [] ∧ t.reg F.SHAPE_STOR_RATE n = min (v.toNat % 2 ^ 17) 65536 ∧
      t.reg F.SHAPE_STOR_BURST n = max (v.toNat / 2 ^ 32 % 2 ^ 12) 1 ∧ t.sw.time = s.sw.time + 1 ∧
      t.tokens 1 n ≤ 65536 * max (v.toNat / 2 ^ 32 % 2 ^ 12) 1))

/-- The switch (10 R335, R337, R339, R340, R348, R350, R351; 11 R379, R386; 12 R396; 14 R438). A scored cell of the port's own Acre in the next slot
of a READY link, of the present Beat and generation, joins its input point's queue with its exits, and the link expects the slot after it; a slot of a
link that is not READY or discards, and an idle slot, is not taken, an empty one only takes its number (14 R430); a bad header is counted; symbols
that FEC corrected are counted (14 R456). A cell time carries the cell a reservation finds, and takes 4 CK. Spill and the resequencer (10 R348 to
R351): a spilled cell whose queue holds fewer than 32 cells comes back to the pool, and takes 16/25 CK of its die's spill path, which moves nothing
while it is taken; a context whose oldest held cell has waited RESEQ_TO cell times skips its gap, which is counted, and delivers what follows; a
context that holds no cell and took none for 4 RESEQ_TO cell times is freed, and no other. -/
def Obligations.SwitchSpillAndResequencer : Prop :=
  (∀ (k : Fin 256) (lseq : BitVec 32) (csym : BitVec 16) (c : Cell) (s : State),
  (s.reg F.PORT_LINK_STATE k ≠ 6 ∨ (s.link k).discard = true ∨ slotIdle c = true →
    exec (.cellIngress k ⟨lseq, 0⟩ c) s = .next s ∧ ∃ t, exec (.cellIngress k ⟨lseq, csym⟩ c) s = .next t ∧ s.memKept t ∧ t.links = s.links ∧
      t.reg F.PORT_FEC_CSYM k = min (s.reg F.PORT_FEC_CSYM k + csym.toNat) F.PORT_FEC_CSYM.top) ∧
  (s.reg F.PORT_LINK_STATE k = 6 → s.pins.portsStopped = false → (s.link k).discard = false → lseq.toNat = (s.link k).lnext →
    s.reg F.XBAR_MIR_CFG_EN = 0 → slotIdle c = false → s.inj.corrupt = [] →
    (slotEmpty c = true → ∃ t, exec (.cellIngress k ⟨lseq, 0⟩ c) s = .next t ∧ (t.link k).lnext = (lseq.toNat + 1) % 2 ^ 32 ∧
      t = (s.putLinks t.links).putOut t.out) ∧
    (hdrGood c = false → slotEmpty c = false → ∃ t, exec (.cellIngress k ⟨lseq, 0⟩ c) s = .next t ∧
      (t.link k).lnext = (lseq.toNat + 1) % 2 ^ 32 ∧
      t = (((s.putRegs t.regs).putFresh t.fresh).putLinks t.links).putOut t.out ∧ s.regsKept t [F.XBAR_DROP_A_HDR_BAD.key 0] ∧
      t.reg F.XBAR_DROP_A_HDR_BAD = min (s.reg F.XBAR_DROP_A_HDR_BAD + 1) F.XBAR_DROP_A_HDR_BAD.top) ∧
    (∀ outs : List Nat, hdrGood c = true → slotEmpty c = false → cScored c = true → isMarker c = false → s.nbrKind (k.val / 2) ≠ 2 →
      portTagV (s.portRec (k.val / 2)) = true → portTag (s.portRec (k.val / 2)) = cAcre c → cGen c = s.genOf (cAcre c) →
      s.lookup (k.val / 2 / 64) (k.val / 2 % 64) c (s.travel (k.val / 2)) = some outs → outs ≠ [] → cBeat c = s.beat →
      s.scoredLen (k.val / 2 / 64) (k.val / 2 % 64) < 16 → ∃ t, exec (.cellIngress k ⟨lseq, 0⟩ c) s = .next t ∧
      t.sw = { s.sw with scored := s.sw.scored ++ [⟨k.val / 2 / 64, k.val / 2 % 64, c, outs, s.travel (k.val / 2), s.sw.time, s.sw.time⟩] } ∧
      (t.link k).lnext = (lseq.toNat + 1) % 2 ^ 32 ∧ t.regs = s.regs ∧ s.memKept t)) ∧
  (∀ (q : ScCell) (die : Fin 2) (out exit : Nat), s.ride.queue = [] → s.clusters = [] → s.sw.shapers = [] → s.sw.voq = [] →
    s.sw.entry = [] → s.sw.bad = [] → s.sw.scored = [q] → q.die = die.val → q.inp < 64 → q.since < s.sw.time → q.outs = [exit] → 128 ≤ exit →
      exit < 192 →
    exitDie exit = die.val → exitPoint exit = out → cType q.cell = 1 → s.reservations die (s.sw.time - s.sw.base) = [(q.inp, out)] →
    s.reservations (1 - die.val) (s.sw.time - s.sw.base) = [] → ∃ t, exec .cellTime s = .next t ∧ t.sw.scored = [] ∧
      t.delivered = s.delivered ++ [q.cell] ∧ t.sw.time = s.sw.time + 1 ∧ t.ck = (if s.pins.porstN then s.ck + 4 else s.ck) ∧
        t.toll = (s.toll + 4) % 2 ^ 64 ∧
      t.reg F.CAL_COUNTS_USED = min (s.reg F.CAL_COUNTS_USED + 1) F.CAL_COUNTS_USED.top ∧ s.memKept t)) ∧
  (∀ (die : Bool) (s : State),
  (∀ q : OpCell, s.sw.voq = [q] → q.die = b2n die → q.spilled = true → (∀ e ∈ s.links, e.2.owed = [0, 0, 0, 0]) →
    let p := tabGet 0 s.sw.spillT (b2n die);
    (p < 25 * (s.ck + 1) → exec (.spillReturn die) s = .next (s.putSw { s.sw with
      voq := [{ q with spilled := false }], spillT := tabSet 0 s.sw.spillT (b2n die) (max p (25 * s.ck) + 16) })) ∧
    (25 * (s.ck + 1) ≤ p → exec (.spillReturn die) s = .next s)) ∧
  (∀ (x : Reseq) (c : Cell) (i since born : Nat), s.sw.reseq = [x] → x.die = b2n die → x.held = [(i, since, born, c)] → i < 2 ^ 24 →
    since + max (s.reg F.XBAR_CFG_RESEQ_TO) 1 ≤ s.sw.time → 128 ≤ x.out → x.out < 192 → cLast c = true → s.inj.corrupt = [] →
    pcrcGood c = true → dEpoch c = 0 → ∃ t, exec (.reseqTimeout die) s = .next t ∧ t.sw = { s.sw with reseq := [] } ∧
      t.out = .done (x.out - 128) c :: s.out ∧ (cLen c = 0 → s.regsKept t [F.XBAR_DROP_B_RESEQ_GAP.key 0] ∧ s.memKept t) ∧
      t.reg F.XBAR_DROP_B_RESEQ_GAP = min (s.reg F.XBAR_DROP_B_RESEQ_GAP + 1) F.XBAR_DROP_B_RESEQ_GAP.top) ∧
  (∃ t, exec (.reseqIdleFree die) s = .next t ∧ t = s.putSw { s.sw with reseq := t.sw.reseq } ∧
    ∀ x : Reseq, x ∈ t.sw.reseq ↔ x ∈ s.sw.reseq ∧
      ¬(x.die = b2n die ∧ x.held = [] ∧ x.last + 4 * max (s.reg F.XBAR_CFG_RESEQ_TO) 1 ≤ s.sw.time)))

/-- Control cells and the drain (02 R106 to R108; 10 R332; 11 R375, R380 to R384). A Chime operation of a control cell is queued with the Beat of its
sender, or waits while its unit's queue is full; a DOWN marker from the parent at a device without children sets WAVE and answers UP on the parent
port, against a credit of CTL, or waits for one; a request at the root with no drain in progress starts wave 1; QUIET of an endpoint of the draining
Acre is kept; SWAP with GO gives the Acre its new generation, and without GO puts a draining device back in PREPARED with ROUTE_TIMEOUT; 4,096 CK
after a wave the root starts the next. -/
def Obligations.ControlCellsAndDrainMarkersAct : Prop :=
  ∀ (k : Fin 256) (c : Cell) (s : State),
  (∀ p ∈ [((.ctlChimeArrive c : Instr), false), (.ctlChimeReset c, true)],
    (s.chimeHolds c = false → ∃ t, exec p.1 s = .next t ∧
      t = (((s.putRegs t.regs).putFresh t.fresh).putDelivered (s.delivered.erase c)).putChimeq
        (s.chimeq ++ [⟨kChime c, p.2, kArg c, cBeat c⟩]) ∧ s.regsKept t [F.CHIME_STATUS_QMAX.key 0]) ∧
    (s.chimeHolds c = true → exec p.1 s = .next s)) ∧
  (s.reg F.GONG_CFG_ROOT = 0 → k.val / 2 = s.reg F.GONG_CFG_PARENT_PORT → s.childPorts = [] → s.reg F.PORT_LINK_STATE (2 * (k.val / 2)) = 6 →
    s.pins.portsStopped = false → ∃ t empty tx rx lseq, exec (.drainDown k c) s = .next t ∧ t.reg F.ROUTE_BANK_WAVE = kWave c ∧
      s.regsKept t [F.ROUTE_BANK_WAVE.key 0] ∧ t.route.wave = none ∧ s.memKept t ∧
      (s.route.marks = [] → s.ctlGoes (2 * (k.val / 2)) = true → t.route.marks = [] ∧
        (t.link (2 * (k.val / 2))).credit = (s.link (2 * (k.val / 2))).credit.modify 3 (· - 1) ∧
        (t.link (2 * (k.val / 2))).replay = (s.link (2 * (k.val / 2))).replay ++ [(lseq, s.marker (cAcre c) 1 (kWave c) empty 0 tx rx)]) ∧
      (s.ctlGoes (2 * (k.val / 2)) = false → t.links = s.links ∧
        t.route.marks = s.route.marks ++ [(k.val / 2, s.marker (cAcre c) 1 (kWave c) empty 0 tx rx)])) ∧
  (s.reg F.GONG_CFG_ROOT = 1 → k.val / 2 ∈ s.childPorts → kWave c = 0 → s.route.drain = none → s.route.requests = [] →
    ∃ t, exec (.drainUp k c) s = .next t ∧ t.route.drain = some ⟨cAcre c, 1, none, s.toll, none⟩ ∧ t.route.wave = some (cAcre c, 1) ∧
      t.reg F.ROUTE_BANK_WAVE = 1 ∧ s.regsKept t [F.ROUTE_BANK_WAVE.key 0] ∧ s.memKept t) ∧
  (s.reg F.ROUTE_BANK_STATE = 2 → s.reg F.ROUTE_BANK_PREP_ACRE = cAcre c → k.val / 2 ∈ s.acreEndpoints (cAcre c) →
    ∃ t, exec (.drainQuiet k c) s = .next t ∧ k.val / 2 ∈ t.route.quiet ∧
      t = (s.putRoute { s.route with quiet := t.route.quiet }).putDelivered (s.delivered.erase c)) ∧
  (s.reg F.GONG_CFG_ROOT = 0 → k.val / 2 = s.reg F.GONG_CFG_PARENT_PORT → s.childPorts = [] →
    (kFlag c = true → s.draining (cAcre c) = false → ∃ t, exec (.drainSwap k c) s = .next t ∧ t.regs = s.regs ∧
      ∀ a, t.genOf a = if a = cAcre c then kGen c else s.genOf a) ∧
    (∀ d : Desc, kFlag c = false → s.draining (cAcre c) = true → s.route.back = [] → s.route.swap = some d →
      ∃ t e, exec (.drainSwap k c) s = .next t ∧ t.reg F.ROUTE_BANK_STATE = 1 ∧ t.route.swap = none ∧ t.comps = s.comps ++ [e] ∧
        e.id = d.id.toNat ∧ e.code = 0x62 ∧ t.reg F.ROUTE_BANK_ACTIVE = s.reg F.ROUTE_BANK_ACTIVE) ∧
    (∀ d2 : Desc, kFlag c = true → s.draining (cAcre c) = true → s.route.back = [] → s.route.swap = some d2 →
      s.route.bank0.nbr = s.route.bank1.nbr → (∀ p < 128, s.nbrKind p ≠ 2) →
      ∃ t e, exec (.drainSwap k c) s = .next t ∧ t.reg F.ROUTE_BANK_STATE = 0 ∧ t.route.swap = none ∧ t.comps = s.comps ++ [e] ∧
        e.id = d2.id.toNat ∧ e.code = 0 ∧ t.reg F.ROUTE_BANK_ACTIVE = 1 - s.reg F.ROUTE_BANK_ACTIVE ∧ t.genOf (cAcre c) = kGen c)) ∧
  (∀ (dr : Drain) (t0 : Nat), s.route.drain = some dr → dr.wait = some t0 → s.childPorts ≠ [] → t0 + 4096 < 2 ^ 64 →
    ∃ t, exec .drainWaveTimer s = .next t ∧ t.toll = max s.toll (t0 + 4096) ∧
      t.route.drain = some { dr with wave := dr.wave % 255 + 1, wait := none } ∧ t.route.wave = some (dr.acre, dr.wave % 255 + 1) ∧
      t.reg F.ROUTE_BANK_WAVE = dr.wave % 255 + 1 ∧ s.memKept t)

/-- Buffer pools (12 R400 to R405, R407). A write of POOL_CFGn before the rings are live starts a build; its end leaves every buffer on a list in
rising order, HEAD 0 and FREE the count. An allocation takes the head of the smallest pool that fits, with its handle and address, or completes
POOL_EMPTY, POOL_TOO_BIG or DONE_EMPTY; a release puts its buffer at the head. The registers of other pools stay. -/
def Obligations.PoolsBuildAllocateAndFree : Prop :=
  ∀ (n : Fin 5) (v : BitVec 64) (d : Desc) (size : BitVec 64) (h : BitVec 32) (s : State), s.inj.corrupt = [] → s.poison = [] → s.soft = [] →
    let hd := s.reg F.POOL_STATE_HEAD n;
    let addr := fun (i : Nat) => s.reg F.POOL_CFG_BASE n * 4096 + i * (256 * 8 ^ n.val);
    let ks := [F.POOL_STATE_HEAD.key n, F.POOL_STATE_FREE.key n, F.POOL_STATE_BUILDING.key n];
  (s.reg F.ACV_LIVE_LIVE = 0 → poolCfgGood n v.toNat = true → ∃ t, exec (.poolCfgWrite n v) s = .next t ∧
    s.onlyRegs t [F.POOL_CFG_COUNT.key n, F.POOL_CFG_BASE.key n, F.POOL_STATE_BUILDING.key n] ∧
    t.reg F.POOL_CFG_COUNT n = v.toNat / 2 ^ 36 % 2 ^ 24 ∧ t.reg F.POOL_CFG_BASE n = v.toNat % 2 ^ 36 ∧
    t.reg F.POOL_STATE_BUILDING n = 1) ∧
  (s.reg F.ACV_LIVE_LIVE = 1 → exec (.poolCfgWrite n v) s = .next s) ∧
  (∀ k, s.reg F.POOL_STATE_BUILDING n = 1 → s.reg F.POOL_CFG_COUNT n = k → s.poolq = [] → addr k ≤ 0x9000000000 →
    (∀ i < k, s.stateOff (addr i) = none) → 0 < k → ∃ t, exec (.poolBuildDone n) s = .next t ∧ s.regsKept t ks ∧
      t.reg F.POOL_STATE_BUILDING n = 0 ∧ t.reg F.POOL_STATE_HEAD n = 0 ∧ t.reg F.POOL_STATE_FREE n = k ∧
      ∀ i < k, t.word (addr i) = n.val * 2 ^ 29 + (if i + 1 < k then i + 1 else 0xFFFFFF)) ∧
  (s.reg F.BOOT_STATUS_FAIL = 0 → s.held d.ring.val = [] → s.ringOpen d.ring.val d.fence = true → s.poolq = [] →
    s.reg F.POOL_STATE_BUILDING n = 0 →
    (0 < size.toNat → size.toNat ≤ 256 * 8 ^ n.val → (∀ m < n.val, 256 * 8 ^ m < size.toNat) →
      (hd ≠ 0xFFFFFF → addr hd < 0x9000000000 → ∃ t e, exec (.poolAlloc d size) s = .next t ∧ t = (s.putRegs t.regs).putComps (s.comps ++ [e]) ∧
        e.id = d.id.toNat ∧ e.code = 0 ∧ e.v0 = n.val * 2 ^ 29 + hd ∧ e.v1 = addr hd % 2 ^ 48 ∧
        s.regsKept t (F.ACV_RSTAT_INFLIGHT.key d.ring :: ks) ∧ t.reg F.POOL_STATE_HEAD n = s.word (addr hd) % 2 ^ 24 ∧
        t.reg F.POOL_STATE_FREE n = (s.reg F.POOL_STATE_FREE n + 0xFFFFFF) % 2 ^ 24) ∧
      (hd = 0xFFFFFF → ∃ t e, exec (.poolAlloc d size) s = .next t ∧ t.comps = s.comps ++ [e] ∧ e.id = d.id.toNat ∧ e.code = 0x63 ∧
        s.memKept t ∧ t.reg F.POOL_STATE_HEAD n = hd)) ∧
    (size = 0 ∨ 1048576 < size.toNat → ∃ t e, exec (.poolAlloc d size) s = .next t ∧ t.comps = s.comps ++ [e] ∧ e.id = d.id.toNat ∧
      e.code = (if size = 0 then 1 else 0x64) ∧ s.memKept t) ∧
    (h.toNat / 2 ^ 29 = n.val → addr (h.toNat % 2 ^ 24) < 0x9000000000 → s.stateOff (addr (h.toNat % 2 ^ 24)) = none →
      ∃ t e, exec (.poolFree d h) s = .next t ∧ t.comps = s.comps ++ [e] ∧ e.id = d.id.toNat ∧ e.code = 0 ∧
        t.reg F.POOL_STATE_HEAD n = h.toNat % 2 ^ 24 ∧ t.reg F.POOL_STATE_FREE n = (s.reg F.POOL_STATE_FREE n + 1) % 2 ^ 24 ∧
        t.word (addr (h.toNat % 2 ^ 24)) = n.val * 2 ^ 29 + hd ∧ s.memKeptOut t (addr (h.toNat % 2 ^ 24)) 8 ∧
        s.regsKept t (F.ACV_RSTAT_INFLIGHT.key d.ring :: ks)))

/-- Refresh, scrub and lasers (13 R417 to R421; 14 R425; 17 R516). A refresh window brings the Toll count into it, and with SCRUB_EN a completed pass
is counted and an uncorrectable block of that window's tier is poisoned and counted at its stack, one of the other tier is not met; with SCRUB_EN
clear nothing else happens. A laser input that goes low sets its bit of PORT_LASER with a message LASER_LOW to its region, once; light restored clears
it. -/
def Obligations.RefreshScrubAndLasers : Prop :=
  ∀ (second : Bool) (e : ScrubErr) (i : Fin 16) (s : State), s.score.load = none →
    let inWindow := fun (t : Nat) => (t + 8192 - (if second then 4096 else 0)) % 8192 < (if second then 720 else 416);
  (s.toll + 8192 < 2 ^ 64 → s.reg F.MEM_CFG_SCRUB_EN = 1 → (0x9000000000 ≤ e.addr.toNat ↔ second = false) →
    ∃ t, exec (.refreshWindow second [e] true) s = .next t ∧ inWindow t.toll ∧
    s.toll ≤ t.toll ∧ t.toll < s.toll + 8192 ∧ t = ((s.putRegs t.regs).putCk t.ck).putFresh t.fresh ∧
    t.reg F.MEM_SCRUB_PASSES = min (s.reg F.MEM_SCRUB_PASSES + 1) F.MEM_SCRUB_PASSES.top ∧
    s.regsKept t [F.TOLL_COUNT_COUNT.key 0, F.MEM_SCRUB_PASSES.key 0]) ∧
  (s.toll + 8192 < 2 ^ 64 → s.reg F.MEM_CFG_SCRUB_EN = 0 → ∃ t, exec (.refreshWindow second [e] true) s = .next t ∧ inWindow t.toll ∧
    t = ((s.putRegs t.regs).putCk t.ck).putFresh t.fresh ∧ s.regsKept t [F.TOLL_COUNT_COUNT.key 0]) ∧
  (e.bad = true → (0x9000000000 ≤ e.addr.toNat ↔ second = true) → e.addr.toNat < 0x11000000000 → s.reg F.MEM_CFG_SCRUB_EN = 1 →
    ∃ t, exec (.refreshWindow second [e] false) s = .next t ∧
    e.addr.toNat / 64 * 64 ∈ t.poison ∧ s.memKept t ∧ t.reg F.MEM_STACK_UE (stackOf e.addr.toNat) =
      min (s.reg F.MEM_STACK_UE (stackOf e.addr.toNat) + 1) F.MEM_STACK_UE.top) ∧
  ((s.reg F.PORT_LASER_LOW).testBit i = false → (s.faults.region.filter (fun x => decide (x.1 = i.val / 2))).length < 64 →
    ∃ t r, exec (.laserLow i) s = .next t ∧ t = (s.putRegs t.regs).putFaults t.faults ∧ s.regsKept t [F.PORT_LASER_LOW.key 0] ∧
      t.reg F.PORT_LASER_LOW = s.reg F.PORT_LASER_LOW + 2 ^ i.val ∧ t.faults.region = s.faults.region ++ [(i.val / 2, r)] ∧
      r.msg.kind = 0x0406 ∧ r.msg.cls = 1 ∧ r.msg.unit = 264 + i.val) ∧
  ((s.reg F.PORT_LASER_LOW).testBit i = true → exec (.laserLow i) s = .next s) ∧
  (∃ t, exec (.laserPowerRestored i) s = .next t ∧ s.onlyRegs t [F.PORT_LASER_LOW.key 0] ∧
    ∀ j < 16, (t.reg F.PORT_LASER_LOW).testBit j = (decide (j ≠ i.val) && (s.reg F.PORT_LASER_LOW).testBit j))

/-! ### Links (spec/14) -/

/-- Roll call, its start and its failure (14 R432, R441, R448, R449, R452, R453). TRAIN becomes LOCK; with every lane locked for three rounds, LANE
covered, SPLIT its own and the markers within 100 CK it goes to IDENT, with SKEW and an IDENT block; lost alignment or the time limit fails the
attempt: TRIES rises and the link trains anew, or is FAILED at ATTEMPTS, and a READY link that leaves is counted and drops what it holds. PORT_RETRAIN
puts the links of the ports named that have a neighbour in TRAIN with TRIES 0, and changes the state of no other. -/
def Obligations.RollCallTrainsAndFails : Prop :=
  ∀ (k : Fin 256) (lanes : List LaneMark) (skew : BitVec 8) (hi : Bool) (v : BitVec 64) (s : State),
    let st := s.reg F.PORT_LINK_STATE k;
    let split := decide (s.reg F.PORT_CFG_SPLIT (k.val / 2) = 1);
    let width := if split then 4 else 8;
    let al := lanes.length = width ∧ (∀ j < width, ∃ m ∈ lanes, m.lane.toNat = j) ∧ (∀ m ∈ lanes, m.split = split ∧ 3 ≤ m.rounds.toNat) ∧
      skew.toNat ≤ 100;
    let n := s.reg F.PORT_LINK_TRIES k + 1;
    let a := max (s.reg F.PORT_CFG_ATTEMPTS (k.val / 2)) 1;
  (st = 1 → ∃ t, exec (.linkTrained k) s = .next t ∧ s.onlyRegs t [F.PORT_LINK_STATE.key k] ∧ t.reg F.PORT_LINK_STATE k = 2) ∧
  (st ≠ 1 → exec (.linkTrained k) s = .next s) ∧
  (st = 2 → al → s.pins.portsStopped = false → ∃ t, exec (.linkAligned k ⟨lanes, skew⟩) s = .next t ∧
    t = ((s.putRegs t.regs).putLinks t.links).putOut (.block k (blockBits tyIdent 0 (s.identBody k false)) :: s.out) ∧
    s.regsKept t [F.PORT_LINK_STATE.key k, F.PORT_LINK_SKEW.key k] ∧ t.reg F.PORT_LINK_STATE k = 3 ∧
    t.reg F.PORT_LINK_SKEW k = skew.toNat ∧ (t.link k).since = s.ck ∧ (∀ j, j ≠ k.val → t.link j = s.link j)) ∧
  (st ≠ 2 ∨ ¬al → exec (.linkAligned k ⟨lanes, skew⟩) s = .next s) ∧
  (3 ≤ st → st ≤ 5 → n < a → ∃ t, exec (.linkAlignLost k) s = .next t ∧ t = (s.putRegs t.regs).putLinks t.links ∧
    s.regsKept t [F.PORT_LINK_STATE.key k, F.PORT_LINK_TRIES.key k] ∧ t.reg F.PORT_LINK_STATE k = 1 ∧ t.reg F.PORT_LINK_TRIES k = n ∧
    (t.link k).since = s.ck ∧ (∀ j, j ≠ k.val → t.link j = s.link j)) ∧
  (st = 6 → n < a → ∃ t, exec (.linkAlignLost k) s = .next t ∧ t.reg F.PORT_LINK_STATE k = 1 ∧ t.reg F.PORT_LINK_TRIES k = n ∧
    t.reg F.PORT_ERR_DOWNS k = min (s.reg F.PORT_ERR_DOWNS k + 1) 0xFFFF ∧ (t.link k).replay = [] ∧ (t.link k).blocks = [] ∧
    (s.score.load = none → s.linkMatters (k.val / 2) = true → s.running = true → t.beatU.haltReq = true ∧
      t.beatU.haltCause = s.beatU.haltCause ||| 4)) ∧
  (3 ≤ st → st ≤ 6 → a ≤ n → ∃ t, exec (.linkAlignLost k) s = .next t ∧ t.reg F.PORT_LINK_STATE k = 8 ∧
    t.reg F.PORT_LINK_TRIES k = min n 15) ∧
  (st < 3 ∨ 6 < st → exec (.linkAlignLost k) s = .next s) ∧
  (1 ≤ st → st ≤ 5 → n < a → ∃ t, exec (.rollCallTimeout k) s = .next t ∧
    t.ck = (if s.pins.porstN then max s.ck ((s.link k).since + if st ≤ 2 then 250000000 else 25000000) else s.ck) ∧ t.reg F.PORT_LINK_STATE k = 1 ∧
    t.reg F.PORT_LINK_TRIES k = n ∧ (t.link k).since = t.ck ∧
    s.regsKept t [F.PORT_LINK_STATE.key k, F.PORT_LINK_TRIES.key k, F.TOLL_COUNT_COUNT.key 0] ∧ s.memKept t) ∧
  (∃ t, exec (.portRetrain hi v) s = .next t ∧ s.memKept t ∧ ∀ j : Fin 256,
    let p := j.val / 2;
    let named := (p / 64 = if hi then 1 else 0) ∧ v.toNat.testBit (p % 64) = true ∧ s.nbrKind p ≠ 0 ∧ s.pins.portsStopped = false ∧
      (j.val % 2 = 0 ∨ s.reg F.PORT_CFG_SPLIT p = 1);
    (named → t.reg F.PORT_LINK_STATE j = 1 ∧ t.reg F.PORT_LINK_TRIES j = 0 ∧ t.reg F.PORT_LINK_QCAUSE j = 0) ∧
    (¬named → t.reg F.PORT_LINK_STATE j = s.reg F.PORT_LINK_STATE j))

/-- Roll call from IDENT to READY (00 R18; 14 R435, R437, R441 to R447, R454, R455). An IDENT of version 1.x goes to TIME, shows the peer and sends a
DREQ; one of version 0 is quarantined with cause VERSION. A DREQ is answered with its two times; each DRESP adds an exchange and asks again, and the
sixteenth gives DELAY, half the sum with a half rounded up, and a peer that passes the check is sent READY; an unanswered DREQ is sent again after
3,277 CK. READY sent and received makes the link READY, with TRIES 0, a REPLAY of slot 0 and the credit grant. The CRC of every block is good. -/
def Obligations.RollCallReachesReady : Prop :=
  ∀ (k : Fin 256) (crc : BitVec 32) (body : BitVec 128) (t1 t2 t3 : BitVec 64) (s : State), s.pins.portsStopped = false →
    let st := s.reg F.PORT_LINK_STATE k;
    let b := body.toNat;
    let l := s.link k;
    let a : Int := ((s.toll : Int) - l.t1.getD 0) - ((t3.toNat : Int) - t2.toNat);
    let good := fun (ty bits : Nat) => crc.toNat = blockCrc ty 0 bits;
    let sent := fun (ty bits : Nat) => Out.block k (blockBits ty 0 bits);
    let d := ((l.sum + a + 1) / 2).toNat;
  (good tyIdent b → st = 3 → bitsOf b 127 120 = 1 → bitsOf b 111 104 ≤ 1 → ∃ t, exec (.identReceived ⟨k, crc⟩ body) s = .next t ∧
    t = ((s.putRegs t.regs).putLinks t.links).putOut (sent tyDreq s.toll :: s.out) ∧ t.reg F.PORT_LINK_STATE k = 4 ∧
    t.reg F.PORT_LINK_VERSION k = 0x100 ∧ t.reg F.PORT_PEER_FEATURES k = bitsOf b 103 72 &&& 0x3F ∧
    t.reg F.PORT_LINK_PEER_PORT k = bitsOf b 63 56 ∧ t.reg F.PORT_LINK_PEER_EP k = bitsOf b 64 64 ∧
    t.reg F.PORT_PEER_COORD k = bitsOf b 55 24 ∧ (t.link k).t1 = some s.toll ∧ (t.link k).ident = some b ∧
    s.regsKept t [F.PORT_LINK_STATE.key k, F.PORT_LINK_VERSION.key k, F.PORT_PEER_FEATURES.key k, F.PORT_LINK_PEER_PORT.key k,
      F.PORT_LINK_PEER_EP.key k, F.PORT_PEER_COORD.key k]) ∧
  (good tyIdent b → st = 3 → bitsOf b 127 120 = 0 → ∃ t, exec (.identReceived ⟨k, crc⟩ body) s = .next t ∧ t.reg F.PORT_LINK_STATE k = 7 ∧
    t.reg F.PORT_LINK_QCAUSE k = 3) ∧
  (good tyIdent b → st < 3 ∨ 5 < st → exec (.identReceived ⟨k, crc⟩ body) s = .next s) ∧
  (good tyDreq t1.toNat → 4 ≤ st → st ≤ 6 →
    let c2 := s.advanceTo t2.toNat; let c3 := c2.advanceTo t3.toNat;
    exec (.dreqReceived ⟨k, crc⟩ t1 t2 t3) s = .next (c3.putOut (sent tyDresp (c2.toll + c3.toll * 2 ^ 64) :: s.out))) ∧
  (good tyDresp (t2.toNat + t3.toNat * 2 ^ 64) → st = 4 → l.t1.isSome = true → l.exch < 15 → ∃ t, exec (.drespReceived k crc t2 t3) s = .next t ∧
    t = (s.putLinks t.links).putOut (sent tyDreq s.toll :: s.out) ∧
    t.link k = { l with sum := l.sum + a, exch := l.exch + 1, t1 := some s.toll } ∧ (∀ j, j ≠ k.val → t.link j = s.link j)) ∧
  (good tyDresp (t2.toNat + t3.toNat * 2 ^ 64) → st = 4 → l.t1.isSome = true → l.exch = 15 → l.gotReady = false →
    s.wiring k (l.ident.getD 0) = 0 → d ≤ 40000 → ∃ t, exec (.drespReceived k crc t2 t3) s = .next t ∧
    t = ((s.putRegs t.regs).putLinks t.links).putOut (sent tyReady 0 :: s.out) ∧
    t.reg F.PORT_LINK_DELAY k = d ∧ t.reg F.PORT_LINK_STATE k = 5 ∧ (t.link k).sentReady = true ∧
    s.regsKept t [F.PORT_LINK_STATE.key k, F.PORT_LINK_DELAY.key k, F.TOLL_DELAY_DELAY.key 0] ∧
    t.reg F.TOLL_DELAY_DELAY = if s.fromParent k then d else s.reg F.TOLL_DELAY_DELAY) ∧
  (good tyDresp (t2.toNat + t3.toNat * 2 ^ 64) → st = 4 → l.t1.isSome = true → l.exch = 15 → 40000 < d →
    ∃ t, exec (.drespReceived k crc t2 t3) s = .next t ∧
    t.reg F.PORT_LINK_STATE k = 7 ∧ t.reg F.PORT_LINK_QCAUSE k = 6) ∧
  (∀ t0 : Nat, st = 4 → l.t1 = some t0 → t0 + 3277 < 2 ^ 64 → ∃ t, exec (.dreqTimeout k) s = .next t ∧ t.toll = max s.toll (t0 + 3277) ∧
    s.regsKept t [F.TOLL_COUNT_COUNT.key 0] ∧ t.out = sent tyDreq t.toll :: s.out ∧ t.link k = { l with t1 := some t.toll }) ∧
  (good tyReady 0 → 3 ≤ st → st ≤ 5 → (st = 5 → l.sentReady = false) → ∃ t, exec (.readyReceived ⟨k, crc⟩) s = .next t ∧ t = s.putLinks t.links ∧
    t.link k = { l with gotReady := true }) ∧
  (good tyReady 0 → st = 5 → l.sentReady = true → ∃ t, exec (.readyReceived ⟨k, crc⟩) s = .next t ∧ t.reg F.PORT_LINK_STATE k = 6 ∧
    t.reg F.PORT_LINK_TRIES k = 0 ∧
    t = ((s.putRegs t.regs).putLinks t.links).putOut (sent tyCredit (s.grantBody k) :: sent tyReplay 0 :: s.out) ∧
    s.regsKept t [F.PORT_LINK_STATE.key k, F.PORT_LINK_TRIES.key k] ∧ (t.link k).lsend = 0 ∧ (t.link k).lnext = 0 ∧
    (t.link k).replay = [] ∧ (t.link k).csend = 1 ∧ (t.link k).cnext = 0 ∧ (t.link k).credit = [0, 0, 0, 0])

/-- Retry and credit of a READY link (11 R375; 14 R434 to R436, R438 to R440, R456). An ACK drops what it acknowledges; with CNAK the blocks it does
not acknowledge leave again, their times new; with NAK it is answered by REPLAY and every slot from LNEXT on, counted, and above RETRY_LIMIT the link
is quarantined with cause ERRORS; REPLAY at or below LNEXT ends discarding; CREDIT in its turn adds to each VC's credit and is acknowledged; an
uncorrectable codeword is counted, starts discarding and sends NAK, and so does a bad marker, uncounted. A control block that fails its CRC (14 R434):
SEAL, GONG, HOLDR, ACK, REPLAY, READY, IDENT and CREDIT blocks whose CRC is not that of their bits are discarded and counted in CRC_BAD, which holds
at its largest value; nothing else changes. -/
def Obligations.RetryCreditAndBadBlocks : Prop :=
  (∀ (k : Fin 256) (crc lnext : BitVec 32) (cnext : BitVec 8) (c0 c1 c2 c3 : BitVec 16) (s : State), s.reg F.PORT_LINK_STATE k = 6 →
    s.pins.portsStopped = false →
    let l := s.link k;
    let left := l.replay.filter (fun e => !seqBelow (2 ^ 32) e.1 lnext.toNat);
    let n := (if l.nakInt = s.toll / 2 ^ 28 then l.naks else 0) + 1;
  (crc.toNat = blockCrc tyAck 0 (lnext.toNat + cnext.toNat * 2 ^ 32) → l.replay.length ≤ 1024 → l.waitq = [] →
    ∃ t, exec (.ackReceived k crc lnext cnext false false) s = .next t ∧
    t = s.putLinks t.links ∧ (∀ j, j ≠ k.val → t.link j = s.link j) ∧
    t.link k = { l with replay := left, blocks := l.blocks.filter (fun e => !seqBelow 256 e.1 cnext.toNat) }) ∧
  (∀ q ty body : Nat, crc.toNat = blockCrc tyAck 0 (lnext.toNat + cnext.toNat * 2 ^ 32 + 2 ^ 41) → l.replay.length ≤ 1024 → l.waitq = [] →
    l.blocks = [(q, ty, body)] → seqBelow 256 q cnext.toNat = false → ∃ t, exec (.ackReceived k crc lnext cnext false true) s = .next t ∧
    t = (s.putLinks t.links).putOut (.block k (blockBits ty q (s.restamp ty body)) :: s.out) ∧ (t.link k).blocks = l.blocks) ∧
  (crc.toNat = blockCrc tyAck 0 (lnext.toNat + cnext.toNat * 2 ^ 32 + 2 ^ 40) → l.replay.length ≤ 1024 → l.blocks = [] → l.waitq = [] →
    l.lastNak ≠ some lnext.toNat → n ≤ s.reg F.PORT_CFG_RETRY_LIMIT (k.val / 2) →
    ∃ t, exec (.ackReceived k crc lnext cnext true false) s = .next t ∧
    t.reg F.PORT_ERR_REPLAYS k = min (s.reg F.PORT_ERR_REPLAYS k + 1) 0xFFFF ∧ (t.link k).replay = left ∧ (t.link k).naks = n ∧
    t.out = (left.map (fun e => Out.cell k e.1 e.2)).reverse ++ .block k (blockBits tyReplay 0 lnext.toNat) :: s.out ∧
      t.reg F.PORT_LINK_STATE k = 6) ∧
  (crc.toNat = blockCrc tyAck 0 (lnext.toNat + cnext.toNat * 2 ^ 32 + 2 ^ 40) → l.lastNak ≠ some lnext.toNat →
    s.reg F.PORT_CFG_RETRY_LIMIT (k.val / 2) < n → ∃ t, exec (.ackReceived k crc lnext cnext true false) s = .next t ∧ t.reg F.PORT_LINK_STATE k = 7 ∧
      t.reg F.PORT_LINK_QCAUSE k = 4) ∧
  (crc.toNat = blockCrc tyReplay 0 lnext.toNat → lnext.toNat = l.lnext → ∃ t, exec (.replayReceived ⟨k, crc⟩ lnext) s = .next t ∧
    t = s.putLinks t.links ∧
    t.link k = { l with discard := false } ∧ (∀ j, j ≠ k.val → t.link j = s.link j)) ∧
  (crc.toNat = blockCrc tyCredit cnext.toNat (creditBody c0.toNat c1.toNat c2.toNat c3.toNat) → cnext.toNat = l.cnext →
    ∀ a b c d : Nat, l.credit = [a, b, c, d] → ∃ t, exec (.creditReceived k crc cnext c0 c1 c2 c3) s = .next t ∧
    t = (s.putLinks t.links).putOut (.block k (blockBits tyAck 0 (l.lnext + (l.cnext + 1) % 256 * 2 ^ 32 + b2n l.discard * 2 ^ 40)) :: s.out) ∧
    t.link k = { l with cnext := (l.cnext + 1) % 256, cmiss := false,
                        credit := [a + c0.toNat, b + c1.toNat, c + c2.toNat, d + c3.toNat] }) ∧
  (∀ m : Bool, ∃ t, exec (.uncorrectableCodeword k ⟨0, m⟩) s = .next t ∧
    t = (((s.putRegs t.regs).putFresh t.fresh).putLinks t.links).putOut t.out ∧ s.regsKept t [F.PORT_ERR_UCW.key k] ∧
    t.reg F.PORT_ERR_UCW k = (if m then s.reg F.PORT_ERR_UCW k else min (s.reg F.PORT_ERR_UCW k + 1) 0xFFFF) ∧
    t.link k = { l with discard := true } ∧
    t.out = .block k (blockBits tyAck 0 (l.lnext + l.cnext * 2 ^ 32 + 2 ^ 40 + b2n l.cmiss * 2 ^ 41)) :: s.out) ∧
  (c0 ≠ 0 → ∃ t, exec (.uncorrectableCodeword k ⟨c0, false⟩) s = .next t ∧ t.reg F.PORT_ERR_UCW k = min (s.reg F.PORT_ERR_UCW k + 1) 0xFFFF ∧
    t.reg F.PORT_FEC_CSYM k = min (s.reg F.PORT_FEC_CSYM k + c0.toNat) (2 ^ 64 - 1))) ∧
  (∀ (k : Fin 256) (crc : BitVec 32) (cseq cnext : BitVec 8) (w : BitVec 128) (lnext : BitVec 32) (nak cnak : Bool) (a b c d : BitVec 16)
    (s : State),
    let t := s.count F.PORT_ERR_CRC_BAD 1 k;
    s.onlyCounts t [F.PORT_ERR_CRC_BAD.key k] ∧ t.reg F.PORT_ERR_CRC_BAD k = min (s.reg F.PORT_ERR_CRC_BAD k + 1) 0xFFFF ∧
    (crc.toNat ≠ blockCrc tySeal cseq.toNat w.toNat → exec (.sealReceived k crc cseq w) s = .next t) ∧
    (crc.toNat ≠ blockCrc tyGong cseq.toNat w.toNat → exec (.gongWord k crc cseq w) s = .next t) ∧
    (crc.toNat ≠ blockCrc tyHoldr cseq.toNat w.toNat → exec (.holdRound ⟨k, crc⟩ cseq w) s = .next t) ∧
    (crc.toNat ≠ blockCrc tyAck 0 (lnext.toNat + cnext.toNat * 2 ^ 32 + b2n nak * 2 ^ 40 + b2n cnak * 2 ^ 41) →
      exec (.ackReceived k crc lnext cnext nak cnak) s = .next t) ∧
    (crc.toNat ≠ blockCrc tyReplay 0 lnext.toNat → exec (.replayReceived ⟨k, crc⟩ lnext) s = .next t) ∧
    (crc.toNat ≠ blockCrc tyReady 0 0 → exec (.readyReceived ⟨k, crc⟩) s = .next t) ∧
    (crc.toNat ≠ blockCrc tyIdent 0 w.toNat → exec (.identReceived ⟨k, crc⟩ w) s = .next t) ∧
    (crc.toNat ≠ blockCrc tyCredit cseq.toNat (creditBody a.toNat b.toNat c.toNat d.toNat) →
      exec (.creditReceived k crc cseq a b c d) s = .next t))

/-! ### The Acvel link, the rings and copies (spec/15) -/

/-- The Acvel link (15 R464, R467, R469 to R471, R480, R488). Lanes within 40 UI put TRAIN in HELLO; a HELLO is sent and, with its LCRC good, taken,
and both make the link UP, a fresh session with everything at 0; from a later state lost alignment, or no link UP within 2,500,000 CK, starts it in
TRAIN. An ACK frees what lies before NEXT; a NAK, or 25,000 CK after the oldest packet was last sent, resends every packet sent, or goes to TRAIN once
one of them was resent four times; a read unanswered for 250,000 CK fails, and that of a descriptor fetch stops its ring. -/
def Obligations.AcvelLinkComesUpAndRetries : Prop :=
  ∀ (skew : BitVec 8) (body : BitVec 64) (x : AcvHdr) (tag : BitVec 8) (s : State),
    let st := s.reg F.ACV_LINK_STATE;
    let l := s.acv;
    let h := body.toNat;
    let all := (l.unacked.map (fun p => Out.acv p.bytes)).reverse ++ s.out;
    let ce := F.ACV_ERR_CODE_ERR.key 0;
    let good := fun (ty : Nat) (data : List Byte) => x.codes = 0 ∧ lcrcGood x ty data = true;
  (∃ t, exec (.acvAligned skew) s = .next t ∧ s.onlyRegs t [F.ACV_LINK_STATE.key 0, F.ACV_LINK_SKEW_UI.key 0] ∧
    t.reg F.ACV_LINK_SKEW_UI = skew.toNat ∧ t.reg F.ACV_LINK_STATE = if st = 1 ∧ skew.toNat ≤ 40 then 3 else st) ∧
  (st < 2 → exec .acvAlignLost s = .next s) ∧
  (2 ≤ st → ∃ t, exec .acvAlignLost s = .next t ∧ t.reg F.ACV_LINK_STATE = 1 ∧
    t.acv = { l with sentHello := false, hello := none, since := s.toll } ∧ s.memKept t ∧
    (if st = 4 then ∃ r : Rep, r.msg.kind = 0x0407 ∧ r.msg.cls = 1 ∧ r.msg.level = 4 ∧ r.msg.unit = 3 ∧ t.faults.hub = s.faults.hub ++ [r]
     else t.faults = s.faults)) ∧
  (st = 3 → l.hello = none → exec .acvHelloSend s = .next ((s.putAcv { l with sentHello := true }).putOut
    (.acv (AcvPkt.bytes ⟨5, 0, 0, 0, 0, 0, leBytes 8 (2 ^ 24 + l.lnext % 4096 * 2 ^ 12 + b2n l.fresh * 2 ^ 11 + 0x100)⟩) :: s.out))) ∧
  (st ≠ 3 → exec .acvHelloSend s = .next s ∧ (good 5 (leBytes 8 h) → ∃ t, exec (.acvHelloReceived ⟨x, body⟩) s = .next t ∧ s.onlyCounts t [ce])) ∧
  (st = 3 → good 5 (leBytes 8 h) → bitsOf h 10 8 = 1 → bitsOf h 31 24 ≤ 1 → l.sentHello = false →
    ∃ t, exec (.acvHelloReceived ⟨x, body⟩) s = .next t ∧ t = ((s.putRegs t.regs).putFresh t.fresh).putAcv { l with hello := some h } ∧
      s.regsKept t [ce]) ∧
  (st ≠ 4 → ¬good 5 (leBytes 8 h) → ∃ t, exec (.acvHelloReceived ⟨x, body⟩) s = .next t ∧ s.onlyCounts t [ce, F.ACV_ERR_LCRC_BAD.key 0] ∧
    t.reg F.ACV_ERR_LCRC_BAD = min (s.reg F.ACV_ERR_LCRC_BAD + 1) 0xFFFF ∧
    t.reg F.ACV_ERR_CODE_ERR = min (s.reg F.ACV_ERR_CODE_ERR + x.codes.toNat + x.idle.toNat) 0xFFFF) ∧
  (st = 3 → good 5 (leBytes 8 h) → bitsOf h 10 8 = 1 → bitsOf h 31 24 ≤ 1 → l.sentHello = true → l.fresh = true ∨ h.testBit 11 = true →
    l.reads = [] → ∃ t, exec (.acvHelloReceived ⟨x, body⟩) s = .next t ∧ t = ((s.putRegs t.regs).putFresh t.fresh).putAcv { l with
        hello := some h, lsend := 0, unacked := [], tries := [], lnext := 0, fresh := false } ∧
      s.regsKept t [ce, F.ACV_LINK_STATE.key 0, F.ACV_LINK_VERSION.key 0] ∧ t.reg F.ACV_LINK_STATE = 4 ∧ t.reg F.ACV_LINK_VERSION = 0x100) ∧
  (1 ≤ st → st ≤ 3 → l.since + 2500000 < 2 ^ 64 → ∃ t, exec .acvTrainTimeout s = .next t ∧ t.toll = max s.toll (l.since + 2500000) ∧
    s.regsKept t [F.TOLL_COUNT_COUNT.key 0, F.ACV_LINK_STATE.key 0] ∧ t.reg F.ACV_LINK_STATE = 1 ∧
    t.acv = { l with sentHello := false, hello := none, since := t.toll }) ∧
  (∀ (p : AcvPkt) (rest : List AcvPkt), st = 4 → l.unacked = p :: rest → p.lseq < 4096 → l.sent = rest.length + 1 → rest.length < 2048 →
    let n := (x.lseq.toNat + 4096 - p.lseq) % 4096;
    (good 3 [] → 0 < n → n ≤ l.sent → ∃ t, exec (.acvAck x) s = .next t ∧ s.regsKept t [ce] ∧
      t = ((s.putRegs t.regs).putFresh t.fresh).putAcv { l with unacked := l.unacked.drop n, tries := l.tries.drop n }) ∧
    (good 4 [] → n = 0 → (∀ y ∈ l.tries, y.1 < 4) → ∃ t, exec (.acvNak x) s = .next t ∧ t.out = all ∧
      s.regsKept t [ce, F.ACV_ERR_REPLAYS.key 0] ∧ t.reg F.ACV_ERR_REPLAYS = min (s.reg F.ACV_ERR_REPLAYS + l.sent) 0xFFFF ∧
      t.acv = { l with tries := l.tries.map (fun y => (y.1 + 1, s.toll)) }) ∧
    (good 4 [] → n = 0 → (∃ y ∈ l.tries, 4 ≤ y.1) → ∃ t, exec (.acvNak x) s = .next t ∧ t.reg F.ACV_LINK_STATE = 1) ∧
    (∀ (y : Nat × Nat) (ys : List (Nat × Nat)), l.tries = y :: ys → y.2 + 25000 < 2 ^ 64 → (∀ z ∈ l.tries, z.1 < 4) →
      ∃ t, exec .acvResendTimeout s = .next t ∧ t.toll = max s.toll (y.2 + 25000) ∧ t.out = all ∧
      t.acv = { l with tries := l.tries.map (fun z => (z.1 + 1, t.toll)) } ∧
      s.regsKept t [F.TOLL_COUNT_COUNT.key 0, F.ACV_ERR_REPLAYS.key 0])) ∧
  (∀ r : HostRead, l.reads = [r] → r.tag = tag.toNat → r.sent + 250000 < 2 ^ 64 → ∃ t, exec (.acvReadTimeout tag) s = .next t ∧
    t.toll = max s.toll (r.sent + 250000) ∧ t.acv = { l with reads := [] } ∧ s.memKept t ∧
    (r.ring = 16 → s.regsKept t [F.TOLL_COUNT_COUNT.key 0]) ∧ (r.ring < 16 → t.reg F.ACV_RSTAT_STOPPED r.ring = 1))

/-- Packets of the host on a link that is UP and in its turn (13 R409, R421; 15 R461, R465 to R468, R472, R480, R481). A read of open device memory is
answered by CPL packets with its bytes in order; one of a closed range by STATUS 2; a write lands or, refused, is counted; one to Chime space whose
queue is full waits, and what comes after it (02 R107); the descriptors of a read are held until they are accepted, and raise CONS and INFLIGHT; a
packet that fails its LCRC or holds a code error is counted and answered by NAK, whatever its type. -/
def Obligations.AcvelPacketsReadAndWrite : Prop :=
  ∀ (h : AcvHdr) (data : List Byte) (s : State), s.reg F.ACV_LINK_STATE = 4 → s.soft = [] →
    let a := h.addr.toNat;
    let n := h.rlen.toNat;
    let l := s.acv;
    let ack := Out.acv (AcvPkt.bytes ⟨3, (l.lnext + 1) % 4096, 0, 0, 0, 0, []⟩);
    let ce := F.ACV_ERR_CODE_ERR.key 0;
  (h.codes = 0 → h.room = true → h.lseq.toNat = l.lnext →
    (l.held ≠ [] → ∀ p ∈ [((.acvMrd h : Instr), 0, ([] : List Byte)), (.acvMwr h data, 1, data), (.acvCpl h data, 2, data)],
      lcrcGood h p.2.1 p.2.2 = true → ∃ t, exec p.1 s = .next t ∧ t.out = ack :: s.out ∧ s.regsKept t [ce] ∧ s.memKept t ∧
      t.acv = { l with lnext := (l.lnext + 1) % 4096, held := l.held ++ [⟨p.2.1, h.lseq.toNat, a, n, h.tag.toNat, h.status.toNat, p.2.2⟩] }) ∧
    (l.held = [] → lcrcGood h 1 data = true → inChime a = true → s.chimeShut (a - chimeBase) (data.length / 8) = true →
      ∃ t, exec (.acvMwr h data) s = .next t ∧ t.chimeq = s.chimeq ∧ t.out = ack :: s.out ∧ s.regsKept t [ce] ∧
      t.acv = { l with lnext := (l.lnext + 1) % 4096, held := [⟨1, h.lseq.toNat, a, n, h.tag.toNat, h.status.toNat, data⟩] }) ∧
    (l.held = [] → lcrcGood h 0 [] = true → a % 8 = 0 → n % 8 = 0 → 0 < n → a % 4096 + n ≤ 4096 → s.readCode .host a n = 0 → wordOnly a = false →
      s.poisonRead a n = none →
      (span a n).any inBushel = false → l.unacked = [] → l.tries = [] → ∃ (t : State) (ps : List AcvPkt), exec (.acvMrd h) s = .next t ∧
      t.acv = { l with lnext := (l.lnext + 1) % 4096, lsend := (l.lsend + ps.length) % 4096, unacked := ps,
                       tries := ps.map (fun _ => (0, s.toll)) } ∧
      t.out = (ps.map (fun p => Out.acv p.bytes)).reverse ++ ack :: s.out ∧ (ps.map AcvPkt.data).flatten = s.bytes a n ∧
      (∀ p ∈ ps, p.ty = 2 ∧ p.tag = h.tag.toNat ∧ p.status = 0 ∧ p.data.length ≤ 256) ∧ s.regsKept t [ce] ∧ s.memKept t) ∧
    (l.held = [] → lcrcGood h 0 [] = true → a % 8 = 0 → n % 8 = 0 → 0 < n → a % 4096 + n ≤ 4096 → s.readCode .host a n = 0x12 →
      l.unacked = [] → l.tries = [] → l.lsend < 4096 → ∃ t, exec (.acvMrd h) s = .next t ∧
      t.out = .acv (AcvPkt.bytes ⟨2, l.lsend, 0, 0, h.tag.toNat, 2, []⟩) :: ack :: s.out ∧ s.regsKept t [ce] ∧ s.memKept t) ∧
    (l.held = [] → lcrcGood h 1 data = true → data ≠ [] → s.hostWriteCode a data.length = 0 → inChime a = false → inRegSpace a = false →
      s.poisonWrite a data.length = none →
      s.inj.corrupt = [] → ∃ t, exec (.acvMwr h data) s = .next t ∧ t.bytes a data.length = data ∧ s.memKeptOut t a data.length ∧
      s.regsKept t [ce] ∧ t.out = ack :: s.out ∧ t.acv = { l with lnext := (l.lnext + 1) % 4096 }) ∧
    (l.held = [] → lcrcGood h 1 data = true → data ≠ [] → s.hostWriteCode a data.length ≠ 0 → inChime a = false →
      ∃ t, exec (.acvMwr h data) s = .next t ∧ s.memKept t ∧ s.regsKept t [ce, F.ACV_COUNTS_WR_REFUSED.key 0] ∧
      t.reg F.ACV_COUNTS_WR_REFUSED = min (s.reg F.ACV_COUNTS_WR_REFUSED + 1) 0xFFFF) ∧
    (∀ r : HostRead, l.held = [] → lcrcGood h 2 data = true → l.reads = [r] → r.tag = h.tag.toNat → h.status = 0 → r.ring < 16 →
      r.got.length < r.len → r.len ≤ (r.got ++ data).length → ∃ t ds, exec (.acvCpl h data) s = .next t ∧
      t.acv = { l with lnext := (l.lnext + 1) % 4096, reads := [], descs := l.descs ++ ds } ∧ t.out = ack :: s.out ∧
      ds.length = r.len / 128 - r.got.length / 128 ∧ (∀ y ∈ ds, y.ring = r.ring ∧ y.since = s.toll) ∧
      s.regsKept t [ce, F.ACV_RCONS_CONS.key r.ring, F.ACV_RSTAT_INFLIGHT.key r.ring] ∧
      t.reg F.ACV_RCONS_CONS r.ring = (s.reg F.ACV_RCONS_CONS r.ring + ds.length) % 2 ^ 32 ∧
      t.reg F.ACV_RSTAT_INFLIGHT r.ring = (s.reg F.ACV_RSTAT_INFLIGHT r.ring + ds.length) % 2 ^ 7)) ∧
  (∀ p ∈ [((.acvMrd h : Instr), 0, ([] : List Byte)), (.acvMwr h data, 1, data), (.acvCpl h data, 2, data), (.acvAck h, 3, []), (.acvNak h, 4, [])],
    h.codes ≠ 0 ∨ lcrcGood h p.2.1 p.2.2 = false → l.lastNak = none → ∃ t, exec p.1 s = .next t ∧
    t.out = .acv (AcvPkt.bytes ⟨4, l.lnext, 0, 0, 0, 0, []⟩) :: s.out ∧ t.acv = { l with lastNak := some s.toll } ∧
    s.memKept t ∧ s.regsKept t [F.ACV_ERR_LCRC_BAD.key 0, F.ACV_ERR_CODE_ERR.key 0] ∧
    t.reg F.ACV_ERR_LCRC_BAD = min (s.reg F.ACV_ERR_LCRC_BAD + 1) 0xFFFF ∧
    t.reg F.ACV_ERR_CODE_ERR = min (s.reg F.ACV_ERR_CODE_ERR + h.codes.toNat + h.idle.toNat) 0xFFFF)

/-- The acceptance of descriptors, NOP, DESC_BAD and copies (13 R409, R421; 15 R472, R481 to R484; 19 R567). While a completion entry of its ring
waits, or FENCE holds it, a descriptor of any kind changes nothing; one that was fetched is taken out of what is held; the oldest of its ring that was
fetched is accepted no sooner than 8 CK after it came, and a command that names another one changes nothing. Once accepted, NOP completes with DONE
and DESC_BAD with DESC_BAD; with the start good, COPY_IN and COPY_OUT of 0 bytes complete with DONE_EMPTY; a copy between host memory and open device
memory moves every byte and completes with DONE and the byte count; one to a closed range completes with ADDR_BAD, and COPY_IN counts it. -/
def Obligations.PlainDescriptorsComplete : Prop :=
  ∀ (d : Desc) (host dev len : BitVec 64) (s : State), s.soft = [] →
    let n := len.toNat;
    let a := dev.toNat;
    let done := fun (t : State) (code v0 : Nat) => t.comps = s.comps ++ [⟨d.ring.val, d.slot.toNat, d.id.toNat, code, v0, 0, s.toll⟩];
    let q := F.ACV_RSTAT_INFLIGHT.key d.ring.val;
    let inflight := fun t : State => t.reg F.ACV_RSTAT_INFLIGHT d.ring.val = s.reg F.ACV_RSTAT_INFLIGHT d.ring.val - 1;
  (∀ c : Instr, descOf c = some d → s.ringOpen d.ring.val d.fence = false → exec c s = .next s) ∧
  (∀ (c : Instr) (f : Fetched), descOf c = some d → d.fence = false → s.ringOpen d.ring.val false = true → s.held d.ring.val = [f] →
    (∀ m < d.ring.val, s.held m = []) → f.names d = true → f.since + 8 ≤ s.toll →
    exec c s = exec c (s.putAcv { s.acv with descs := s.acv.descs.erase f })) ∧
  (∀ (f : Fetched) (rest : List Fetched), s.ringOpen d.ring.val d.fence = true → s.held d.ring.val = f :: rest → (∀ m < d.ring.val, s.held m = []) →
    f.since + 8 < 2 ^ 64 →
    (f.names d = true → ∃ t, exec (.nop d) s = .next t ∧ t.toll = max s.toll (f.since + 8) ∧ t.acv = { s.acv with descs := s.acv.descs.erase f } ∧
      t.comps = s.comps ++ [⟨d.ring.val, d.slot.toNat, d.id.toNat, 0, 0, 0, t.toll⟩] ∧ inflight t ∧ s.memKept t ∧
      s.regsKept t [q, F.TOLL_COUNT_COUNT.key 0]) ∧
    (f.names d = false → exec (.nop d) s = .next s)) ∧
  (s.held d.ring.val = [] → s.ringOpen d.ring.val d.fence = true →
  (∃ t, exec (.nop d) s = .next t ∧ done t 0 0 ∧ inflight t ∧ t = (s.putRegs t.regs).putComps t.comps ∧ s.regsKept t [q]) ∧
  (∃ t, exec (.descBad d) s = .next t ∧ done t 0x10 0 ∧ inflight t ∧ t = (s.putRegs t.regs).putComps t.comps ∧ s.regsKept t [q]) ∧
  (s.reg F.BOOT_STATUS_FAIL = 0 →
    (n = 0 → ∃ t, exec (.copyIn d host dev len none) s = .next t ∧ exec (.copyOut d dev host len none) s = .next t ∧ done t 1 0 ∧
      inflight t ∧ s.regsKept t [q] ∧ s.memKept t) ∧
    (0 < n → copyAligned host.toNat a n = true → s.hostWriteCode a n = 0 → inChime a = false → inRegSpace a = false →
      s.poisonWrite a n = none → s.inj.corrupt = [] → ∃ t, exec (.copyIn d host dev len none) s = .next t ∧ done t 0 n ∧ inflight t ∧
      t.bytes a n = s.hostBytes host.toNat n ∧ s.memKeptOut t a n ∧ s.regsKept t [q] ∧ t.host = s.host) ∧
    (0 < n → copyAligned host.toNat a n = true → s.hostWriteCode a n = 0x12 → ∃ t, exec (.copyIn d host dev len none) s = .next t ∧
      done t 0x12 0 ∧ s.memKept t ∧ s.regsKept t [q, F.ACV_COUNTS_WR_REFUSED.key 0] ∧
      t.reg F.ACV_COUNTS_WR_REFUSED = min (s.reg F.ACV_COUNTS_WR_REFUSED + 1) 0xFFFF) ∧
    (0 < n → n ≤ 524288 → copyAligned host.toNat a n = true → s.readCode .host a n = 0 → wordOnly a = false → s.poisonRead a n = none →
      (span a n).any inBushel = false → s.reg F.ACV_LINK_STATE = 4 → s.acv.unacked = [] → s.acv.tries = [] →
      ∃ t, exec (.copyOut d dev host len none) s = .next t ∧ done t 0 n ∧ inflight t ∧ t.hostBytes host.toNat n = s.bytes a n ∧
      (∀ x, x < host.toNat ∨ host.toNat + n ≤ x → tabGet 0 t.host x = tabGet 0 s.host x) ∧ s.memKept t ∧ s.regsKept t [q]) ∧
    (0 < n → copyAligned host.toNat a n = true → s.readCode .host a n = 0x12 → ∃ t, exec (.copyOut d dev host len none) s = .next t ∧
      done t 0x12 0 ∧ s.memKept t ∧ t.host = s.host ∧ s.regsKept t [q])))

/-- Rings (15 R474, R475, R479 to R481, R484, R485; 17 R528, R529, R533). GO with a good configuration makes the rings live with every count at 0,
with no doorbell only sets CFG_ERR, and does nothing once live; a poll asks for the doorbell at its due time or, with one outstanding, is counted; its
data fetch the new descriptors of a ring, in two reads where one would cross 4 KiB (R466), or stop a ring that overruns; a completion is written to
its entry when there is room, with PHASE; the hub's next message is written to the fault ring, and a record as 8 entries, whole or not at all. -/
def Obligations.RingsPollFetchAndComplete : Prop :=
  ∀ (r : Fin 16) (words : List (BitVec 64)) (s : State),
    let l := s.acv;
    let up := s.reg F.ACV_LIVE_LIVE = 1 ∧ s.reg F.ACV_LINK_STATE = 4;
    let free := l.unacked = [] ∧ l.tries = [];
    let fk := s.faults.written;
    let flog := s.reg F.ACV_FRING_FLOG2;
    let fa := s.reg F.ACV_FRING_BASE * 4096 + 64 * (fk % 2 ^ flog);
  (s.reg F.ACV_LIVE_LIVE = 1 → exec .acvLiveGo s = .next s) ∧
  (s.reg F.ACV_LIVE_LIVE = 0 → s.reg F.ACV_DOORBELL_BASE = 0 → ∃ t, exec .acvLiveGo s = .next t ∧
    s.onlyRegs t [F.ACV_LIVE_CFG_ERR.key 0] ∧ t.reg F.ACV_LIVE_CFG_ERR = 1) ∧
  (s.reg F.ACV_LIVE_LIVE = 0 → s.reg F.ACV_DOORBELL_BASE ≠ 0 → s.reg F.ACV_SQ_EN r = 1 →
    (∀ n < 16, s.reg F.ACV_SQ_EN n = 1 → 4 ≤ s.reg F.ACV_SQ_LOG2 n ∧ s.reg F.ACV_SQ_LOG2 n ≤ 12) → s.reg F.ACV_CFG_DESC_VER = 0x100 →
    6 ≤ flog → flog ≤ 16 → ∃ t, exec .acvLiveGo s = .next t ∧ t.reg F.ACV_LIVE_LIVE = 1 ∧ t.reg F.ACV_LIVE_CFG_ERR = 0 ∧
    (∀ n < 16, t.reg F.ACV_RCONS_CONS n = 0 ∧ t.reg F.ACV_RCONS_WRITTEN n = 0 ∧ t.reg F.ACV_RSTAT_INFLIGHT n = 0) ∧
    t = ((s.putRegs t.regs).putAcv { l with bell := [], nextPoll := s.toll }).putFaults { s.faults with written := 0, fcons := 0 } ∧
    s.regsKept t (F.ACV_LIVE_LIVE.key 0 :: F.ACV_LIVE_CFG_ERR.key 0 ::
      (List.range 16).flatMap (fun n => [F.ACV_RCONS_CONS.key n, F.ACV_RCONS_WRITTEN.key n, F.ACV_RSTAT_INFLIGHT.key n]))) ∧
  (¬up → exec .doorbellPoll s = .next s ∧ exec (.completionWrite r) s = .next s) ∧
  (up → free → l.reads = [] → l.nextPoll < 2 ^ 64 → ∃ t, exec .doorbellPoll s = .next t ∧ t.toll = max s.toll l.nextPoll ∧
    t.acv.nextPoll = t.toll + s.reg F.ACV_CFG_POLL_CK ∧
    t.acv.reads = [⟨l.tag, 16, s.reg F.ACV_DOORBELL_BASE * 256, 136, [], t.toll⟩] ∧
    t.out = .acv (AcvPkt.bytes ⟨0, l.lsend, s.reg F.ACV_DOORBELL_BASE * 256, 136, l.tag, 0, []⟩) :: s.out ∧ s.regsKept t [F.TOLL_COUNT_COUNT.key 0]) ∧
  (up → l.nextPoll < 2 ^ 64 → ∀ x : HostRead, x ∈ l.reads → x.ring = 16 → ∃ t, exec .doorbellPoll s = .next t ∧
    s.regsKept t [F.TOLL_COUNT_COUNT.key 0, F.ACV_COUNTS_POLL_SKIP.key 0] ∧ t.acv.reads = l.reads ∧ t.out = s.out ∧
    t.reg F.ACV_COUNTS_POLL_SKIP = min (s.reg F.ACV_COUNTS_POLL_SKIP + 1) 0xFFFF) ∧
  (∀ x2 : HostRead, l.reads = [x2] → x2.ring = 16 →
    exec (.doorbellData false words) s = .next (s.putAcv { l with reads := [] }) ∧
    ((∀ n < 16, n ≠ r.val → s.reg F.ACV_SQ_EN n = 0) → s.reg F.ACV_SQ_EN r = 1 → s.reg F.ACV_RSTAT_STOPPED r = 0 →
      let cons := s.reg F.ACV_RCONS_CONS r;
      let size := 2 ^ s.reg F.ACV_SQ_LOG2 r;
      let ahead := ((words.getD r.val 0).toNat % 2 ^ 32 + 2 ^ 32 - cons) % 2 ^ 32;
      (0 < ahead → ahead ≤ 16 → ahead ≤ 64 - s.reg F.ACV_RSTAT_INFLIGHT r → cons % size + ahead ≤ size →
        let a := s.reg F.ACV_SQ_BASE r * 4096 + 128 * (cons % size);
        let k := min ahead (32 - cons % size % 32);
        ∃ t, exec (.doorbellData true words) s = .next t ∧ t.acv.bell = words.map BitVec.toNat ∧ s.regsKept t [] ∧
        t.acv.reads = ⟨l.tag, r.val, a, 128 * k, [], s.toll⟩ ::
          (if k = ahead then [] else [⟨(l.tag + 1) % 256, r.val, a + 128 * k, 128 * (ahead - k), [], s.toll⟩])) ∧
      (size < ahead → ∃ t, exec (.doorbellData true words) s = .next t ∧ t.reg F.ACV_RSTAT_STOPPED r = 1 ∧ t.acv.reads = []))) ∧
  (∀ (c : Comp) (rest : List Comp), up → s.comps = c :: rest → c.ring = r.val →
    let k := s.reg F.ACV_RCONS_WRITTEN r;
    let log := s.reg F.ACV_SQ_LOG2 r;
    let a := s.reg F.ACV_CQ_BASE r * 4096 + 32 * (k % 2 ^ log);
    let used := (k + 2 ^ 32 - l.bell.getD r.val 0 / 2 ^ 32) % 2 ^ 32;
    (used < 2 ^ log → free → ∃ t, exec (.completionWrite r) s = .next t ∧ t.comps = rest ∧
      t.reg F.ACV_RCONS_WRITTEN r = (k + 1) % 2 ^ 32 ∧ s.regsKept t [F.ACV_RCONS_WRITTEN.key r] ∧ s.memKept t ∧
      t.hostBytes a 32 = leBytes 8 ((1 - k / 2 ^ log % 2) * 2 ^ 63 + c.slot % 4096 * 2 ^ 48 + c.code % 65536 * 2 ^ 32 + c.id % 2 ^ 32) ++
        leBytes 8 c.v0 ++ leBytes 8 c.v1 ++ leBytes 8 c.toll ∧
      (∀ x, x < a ∨ a + 32 ≤ x → tabGet 0 t.host x = tabGet 0 s.host x)) ∧
    (2 ^ log ≤ used → exec (.completionWrite r) s = .next s)) ∧
  (∀ (m : Rep) (rest2 : List Rep), s.faults.hub = m :: rest2 → m.msg.cls < 2 → outcomeOf m.msg.kind = 0 →
    (s.reg F.ACV_LIVE_LIVE = 0 → exec .faultRingWrite s = .next (s.putFaults { s.faults with hub := rest2, lost := true })) ∧
    (up → free → s.faults.waiting = [] → (fk + 2 ^ 32 - s.faults.fcons) % 2 ^ 32 < 2 ^ flog → ∃ t, exec .faultRingWrite s = .next t ∧
      t.faults = { s.faults with hub := rest2, written := (fk + 1) % 2 ^ 32, lost := false } ∧
      leNat (t.hostBytes fa 8) = (1 - fk / 2 ^ flog % 2) * 2 ^ 63 + b2n s.faults.lost * 2 ^ 48 + (if s.running then s.beat else 0) ∧
      leNat (t.hostBytes (fa + 8) 16) = m.msg.bits ∧ leNat (t.hostBytes (fa + 24) 8) = s.toll ∧ leNat (t.hostBytes (fa + 48) 8) = m.word % 2 ^ 64 ∧
      (∀ x, x < fa ∨ fa + 64 ≤ x → tabGet 0 t.host x = tabGet 0 s.host x) ∧ s.memKept t ∧ s.regsKept t [])) ∧
  (∀ b : List Byte, up → s.faults.hub = [] → s.faults.waiting = [b] →
    (free → (fk + 7 + 2 ^ 32 - s.faults.fcons) % 2 ^ 32 < 2 ^ flog → ∃ t, exec .faultRingWrite s = .next t ∧ t.faults.waiting = [] ∧
      t.faults.written = (fk + 8) % 2 ^ 32 ∧ s.memKept t ∧ s.regsKept t []) ∧
    (2 ^ flog ≤ (fk + 7 + 2 ^ 32 - s.faults.fcons) % 2 ^ 32 → ∃ t, exec .faultRingWrite s = .next t ∧ t.faults.waiting = [] ∧
      t.faults.written = fk ∧ t.host = s.host ∧ s.regsKept t [F.ACV_COUNTS_FRING_LOST.key 0] ∧
      t.reg F.ACV_COUNTS_FRING_LOST = min (s.reg F.ACV_COUNTS_FRING_LOST + 8) (2 ^ 32 - 1)))

/-! ### Scores (spec/07), collectives (spec/09) and routes (spec/11) -/

/-- A Score load, launch and pause descriptor (02 R76, R80, R111; 05 R201; 07 R258 to R260, R262, R264, R265, R267, R269; 18 R562; 19 R567). A load
completes with DONE_EMPTY without length (in every state: log entry 30), with SCORE_BUSY outside NONE, LOADED, PAUSED, ENDED and STOPPED, with
HOST_ERR on a failed read, and with the code of the first check that fails; else STATE is LOADING and the load waits for its probe round. The parts
that it fetched lie in the Score staging area, and no other byte changes. Its end fails with the code of a Beat check, or writes the registers and
starts the drain. A launch that passes its checks arms the Beat; a pause at least 2 Beats ahead sets PAUSE_BEAT; both refuse with a code and nothing
else. -/
def Obligations.ScoresLoadLaunchAndPause : Prop :=
  ∀ (d : Desc) (host len toll : BitVec 64) (ok : Bool) (beat : BitVec 48) (s : State),
    let st := s.reg F.SEQ_SCORE_STATE;
    let entry := fun (x : Desc) (code : Nat) => Comp.mk x.ring.val x.slot.toNat x.id.toNat code 0 0 s.toll;
    let ends := fun (t : State) (code : Nat) => t = (s.putRegs t.regs).putComps (s.comps ++ [entry d code]);
    let q := F.ACV_RSTAT_INFLIGHT.key d.ring.val;
    let f := s.fetchScore host.toNat;
    let code := s.scoreCode f len.toNat st;
    let idle := s.ckpt.op = none ∧ st ∈ [0, 2, 5, 6, 7] ∧ s.score.pause = none;
    let loads := fun (c : Nat) => ∃ t, exec (.scoreLoad d host len ok) s = .next t ∧ ends t c ∧
      s.regsKept t [q, F.SEQ_SCORE_LAST_CODE.key 0] ∧ t.reg F.SEQ_SCORE_LAST_CODE = c;
  (∀ l : Load, s.score.load = some l → s.probe.joined = false → l.writing = false → s.reg F.ROUTE_BANK_STATE ≠ 2 →
    (l.period < 2 * s.reg F.GONG_LAT_MEAS_CK → ∃ t, exec .scoreLoadFinish s = .next t ∧ t.score.load = none ∧
      t.reg F.SEQ_SCORE_STATE = l.back % 2 ^ 3 ∧ t.reg F.SEQ_SCORE_LAST_CODE = 0x4B ∧ t.comps = s.comps ++ [entry l.desc 0x4B] ∧ s.memKept t) ∧
    (s.beatCode l = 0 → s.route.wave = none → s.route.drain = none → s.route.requests = [] → ∃ t, exec .scoreLoadFinish s = .next t ∧
      t.score.load = some { l with writing := true } ∧ t.score.calendar = calendarTab l.calendar ∧ t.reg F.ROUTE_BANK_STATE = 2 ∧
      t.reg F.BEAT_PERIOD_PERIOD = l.period % 2 ^ F.BEAT_PERIOD_PERIOD.width ∧
      t.reg F.BEAT_PERIOD_STRETCH = l.stretch % 2 ^ F.BEAT_PERIOD_STRETCH.width ∧ t.reg F.MXE_CFG_FIXED_LAT = 1 ∧
      t.reg F.MXE_CFG_SCORED_LAT = 182 ∧ t.reg F.SEQ_UNDO_CAP = l.params.undoBytes / 4160 % 2 ^ F.SEQ_UNDO_CAP.width)) ∧
  (s.accepts d → s.reg F.BOOT_STATUS_FAIL = 0 →
  (len = 0 → loads 1) ∧
  (len ≠ 0 → st ∉ [0, 2, 5, 6, 7] → loads 0x40) ∧
  (idle → len ≠ 0 → ok = false → loads 0x14) ∧
  (f.hdr.take 8 ≠ ascii "UN9SCORE" → code = 0x41) ∧
  (idle → len ≠ 0 → ok = true → ∃ t, exec (.scoreLoad d host len ok) s = .next t ∧ s.memKeptOut t 0x4400000000 0x40000000 ∧
    (256 ≤ imgNat f.hdr 0x38 8 → 256 ≤ imgNat f.hdr 0x40 8 → (∀ e, f.entry = some e → 256 ≤ imgNat e 8 8) →
      t.bytes 0x4400000000 256 = f.hdr) ∧
    (code ≠ 0 → t.comps = s.comps ++ [entry d code] ∧ s.regsKept t [q, F.SEQ_SCORE_LAST_CODE.key 0] ∧ t.score = s.score ∧
      t.reg F.SEQ_SCORE_LAST_CODE = code) ∧
    (code = 0 → t.reg F.SEQ_SCORE_STATE = 1 ∧ t.score.cur = s.score.cur ∧ t.comps = s.comps ∧
      ∃ l, t.score.load = some l ∧ l.desc = d ∧ l.period = f.period ∧ l.stretch = f.stretch ∧ l.params.acre = f.acre ∧ l.writing = false ∧
        l.back = st)) ∧
  (s.launchCode toll.toNat beat.toNat = 0 → ∃ t, exec (.launch d toll beat) s = .next t ∧ t.reg F.SEQ_SCORE_STATE = 3 ∧
    t.reg F.BEAT_STATUS_STATE = 1 ∧ t.reg F.BEAT_LAUNCH_LAUNCH_TOLL = toll.toNat ∧ t.reg F.SEQ_PAUSE_PAUSE_BEAT = 0 ∧
    t.reg F.CKPT_STATUS_NEXT_V = 0 ∧
    t = ((s.putRegs t.regs).putBeatU { s.beatU with startBeat := beat.toNat }).putScore { s.score with launch := some d } ∧
    s.regsKept t (F.SEQ_SCORE_STATE.key 0 :: F.BEAT_STATUS_STATE.key 0 :: F.BEAT_LAUNCH_LAUNCH_TOLL.key 0 :: F.SEQ_PAUSE_PAUSE_BEAT.key 0 ::
      F.CKPT_STATUS_NEXT_V.key 0 :: (List.range 4).map F.SEQ_LAYOUT_DIGEST.key)) ∧
  (∀ lc : Nat, lc = s.launchCode toll.toNat beat.toNat → lc ≠ 0 → ∃ t, exec (.launch d toll beat) s = .next t ∧ ends t lc ∧ s.regsKept t [q]) ∧
  (s.reg F.BOOT_UPDATE_STATE ≠ 4 → s.ckpt.op = none →
    (s.score.cur = none ∨ st ∉ [2, 5, 6, 7] → ∃ t, exec (.launch d toll beat) s = .next t ∧ ends t 0x4E) ∧
    (∀ p : ScoreParams, s.score.cur = some p → st ∈ [2, 5, 6, 7] →
      (p.beats ≠ 0 → p.beats < beat.toNat → ∃ t, exec (.launch d toll beat) s = .next t ∧ ends t 0x4F))) ∧
  (∀ p2 : ScoreParams, s.score.cur = some p2 → st = 3 → s.score.pause = none → s.pauseBase + 2 ≤ beat.toNat →
    p2.beats = 0 ∨ beat.toNat ≤ p2.beats → ∃ t, exec (.pause d beat) s = .next t ∧
    t = (s.putRegs t.regs).putScore { s.score with pause := some d } ∧ t.reg F.SEQ_PAUSE_PAUSE_BEAT = beat.toNat ∧
    t.reg F.SEQ_SCORE_STATE = 4 ∧ s.regsKept t [F.SEQ_PAUSE_PAUSE_BEAT.key 0, F.SEQ_SCORE_STATE.key 0]) ∧
  (st ≠ 3 ∨ beat.toNat < s.pauseBase + 2 → ∃ t, exec (.pause d beat) s = .next t ∧ ends t 0x52 ∧ s.regsKept t [q]))

/-- Group, start and end descriptors of collectives (04 R160, R161; 09 R302 to R304, R310 to R312, R314, R315, R318; 19 R567). A group entry is
written or taken away, or refused with GROUP_BAD or GROUP_BUSY; a start without its group, or with a bad field, is refused and takes no number; one
that passes takes the group's next number: without elements it completes with DONE_EMPTY, else with one stripe it claims a record and Pecks of its
cluster and becomes active; an end completes the collective with CANCELLED and itself with DONE, or finds none. -/
def Obligations.CollectivesOpenAndEnd : Prop :=
  ∀ (d : Desc) (w0 w1 w2 w3 : BitVec 64) (ws : List (BitVec 64)) (g : BitVec 12) (seq : BitVec 16) (s : State), s.accepts d →
    let h := bitsOf w0.toNat 11 0;
    let e := Grp.mk w0.toNat (bitsOf w1.toNat 39 0) (bitsOf w2.toNat 39 0) 0;
    let a := collArgs (ws.map BitVec.toNat);
    let entry := fun (x : Desc) (code v0 v1 : Nat) => Comp.mk x.ring.val x.slot.toNat x.id.toNat code v0 v1 s.toll;
    let q := F.ACV_RSTAT_INFLIGHT.key d.ring.val;
    let plain := fun (c : Instr) (code v0 : Nat) => ∃ t, exec c s = .next t ∧
      t = (s.putRegs t.regs).putComps (s.comps ++ [entry d code v0 0]) ∧ s.regsKept t [q];
  s.reg F.BOOT_STATUS_FAIL = 0 →
  (w0.toNat.testBit 17 = false → s.groupBad (bitsOf w0.toNat 16 12) e.origin e.extent = true → plain (.group d w0 w1 w2 w3) 0x36 0) ∧
  (w0.toNat.testBit 17 = false → s.groupBad (bitsOf w0.toNat 16 12) e.origin e.extent = false → (s.group h).isSome = true →
    s.groupBusy h = true → plain (.group d w0 w1 w2 w3) 0x37 0) ∧
  (w0.toNat.testBit 17 = false → s.groupBad (bitsOf w0.toNat 16 12) e.origin e.extent = false → s.groupBusy h = false →
    ∃ t, exec (.group d w0 w1 w2 w3) s = .next t ∧ t.comps = s.comps ++ [entry d 0 0 0] ∧ t.group h = some e ∧
    (∀ x, x ≠ h → t.group x = s.group x) ∧ s.memKept t ∧ s.regsKept t [q, F.COLL_STATUS_GROUPS.key 0]) ∧
  (w0.toNat.testBit 17 = true → s.groupBusy h = false → ∃ t, exec (.group d w0 w1 w2 w3) s = .next t ∧
    t.comps = s.comps ++ [entry d 0 0 0] ∧ t.group h = none ∧ (∀ x, x ≠ h → t.group x = s.group x) ∧ s.memKept t ∧
    s.regsKept t [q, F.COLL_STATUS_GROUPS.key 0]) ∧
  (s.group a.group = none → plain (.collStart d ws) 0x36 a.tag) ∧
  (∀ x : Grp, s.group a.group = some x →
    (s.scoreNames a.group = true → plain (.collStart d ws) 0x37 a.tag) ∧
    (s.scoreNames a.group = false → grpDeviceMember x = true ∨ a.paths = 0 ∨ a.rm = 3 ∨ a.dkind = 3 ∨ grpSize x ≤ a.rootRank →
      plain (.collStart d ws) 0x38 a.tag) ∧
    (s.collCode a = 0 → a.op ≠ 7 → a.elems = 0 → ∃ t, exec (.collStart d ws) s = .next t ∧
      t.comps = s.comps ++ [entry d 1 a.tag (x.next + 2 ^ 16)] ∧ t.group a.group = some { x with next := (x.next + 1) % 65536 } ∧
      t.reg F.COLL_COUNTS_STARTED = min (s.reg F.COLL_COUNTS_STARTED + 1) F.COLL_COUNTS_STARTED.top ∧ s.memKept t) ∧
    (∀ (run : Nat × Nat) (r : Nat), s.collCode a = 0 → a.op = 7 ∨ a.elems ≠ 0 → s.stripes a = 1 → s.colls = [] → s.parked = [] →
      (s.freeRuns (a.cluster 0)).find? (fun y => decide (pecksOf a.w a.levels a.cfmt ≤ y.2)) = some run →
      s.freeRecord (a.cluster 0) = some r → pecksOf a.w a.levels a.cfmt ≤ 512 → ∃ t, exec (.collStart d ws) s = .next t ∧
      t.colls = [⟨d, a.group, x.next, a.tag, [(a.cluster 0, r)], [(a.cluster 0, r)], 0, a.dest, 1, a.chunks, none⟩] ∧
      t.comps = s.comps ∧ t.group a.group = some { x with next := (x.next + 1) % 65536 } ∧ t.reg F.COLL_STATUS_ACTIVE = 1 ∧
      s.memKeptOut t (recAddr (a.cluster 0) r) 64 ∧
      (∀ i < 8, t.recWord (a.cluster 0) r i = (a.record (grpSize x) x.next 1 0 (pecksOf a.w a.levels a.cfmt) run.1).getD i 0 % 2 ^ 64)) ∧
    (s.collCode a = 0 → a.op = 7 ∨ a.elems ≠ 0 → s.stripes a = 1 → s.colls = [] → s.parked = [] → s.freeRecord (a.cluster 0) = none →
      a.fallback = false → ∃ t, exec (.collStart d ws) s = .next t ∧ t.comps = s.comps ++ [entry d 0x30 a.tag (x.next + 2 ^ 16)] ∧
      t.group a.group = some { x with next := (x.next + 1) % 65536 } ∧ s.memKept t)) ∧
  (∀ x2 : Coll, s.colls = [x2] → x2.mode = 0 → x2.recs.length = x2.live.length → x2.group = g.toNat → x2.seq = seq.toNat → ∃ t,
    exec (.collEnd d g seq) s = .next t ∧ t.comps = s.comps ++ [entry x2.desc 0x35 x2.tag (x2.seq + 2 ^ 16), entry d 0 0 0] ∧ t.colls = [] ∧
    t.reg F.COLL_STATUS_ACTIVE = 0) ∧
  (s.colls = [] → plain (.collEnd d g seq) 0x3A 0)

/-- Route descriptors (11 R377, R378, R380, R389; 19 R565, R567). An image without length completes with DONE_EMPTY, a failed read with HOST_ERR, and
one that R378 refuses with ROUTE_BAD; else it makes the inactive bank, which is PREPARED for its Acre. A swap with nothing prepared is refused with
ROUTE_BUSY; else the device drains, asking its parent by a CTL cell against its credit; with every port OFF and no Score the banks change places at
once. -/
def Obligations.RouteImagesPrepareAndSwap : Prop :=
  ∀ (d : Desc) (host len : BitVec 64) (s : State), s.accepts d →
    let l := s.hostBytes host.toNat len.toNat;
    let entry := fun (code : Nat) => Comp.mk d.ring.val d.slot.toNat d.id.toNat code 0 0 s.toll;
    let q := F.ACV_RSTAT_INFLIGHT.key d.ring.val;
    let plain := fun (c : Instr) (code : Nat) => ∃ t, exec c s = .next t ∧ t = (s.putRegs t.regs).putComps (s.comps ++ [entry code]) ∧
      s.regsKept t [q];
  s.reg F.BOOT_STATUS_FAIL = 0 →
  (len = 0 → plain (.routeImage d host len true) 1) ∧
  (len ≠ 0 → plain (.routeImage d host len false) 0x14) ∧
  (len ≠ 0 → s.reg F.ROUTE_BANK_STATE ≠ 2 → s.imageBad (s.reg F.SEQ_SCORE_STATE) l = true → plain (.routeImage d host len true) 0x60) ∧
  (len ≠ 0 → s.reg F.ROUTE_BANK_STATE ≠ 2 → imgNat l 0 2 ≠ 0x0100 ∨ 1023 < imgAcre l → plain (.routeImage d host len true) 0x60) ∧
  (len ≠ 0 → s.reg F.ROUTE_BANK_STATE ≠ 2 → s.imageBad (s.reg F.SEQ_SCORE_STATE) l = false → ∃ t,
    exec (.routeImage d host len true) s = .next t ∧ t.comps = s.comps ++ [entry 0] ∧ t.reg F.ROUTE_BANK_STATE = 1 ∧
    t.reg F.ROUTE_BANK_PREP_ACRE = imgAcre l % 2 ^ F.ROUTE_BANK_PREP_ACRE.width ∧
    s.regsKept t [q, F.ROUTE_BANK_STATE.key 0, F.ROUTE_BANK_PREP_ACRE.key 0] ∧ t.bank = s.bank ∧
    (if s.reg F.ROUTE_BANK_ACTIVE = 0 then t.route.bank1 else t.route.bank0) = s.imageBank l ∧ s.memKept t) ∧
  (∀ k < 256, s.reg F.PORT_LINK_STATE k ≠ 0 → s.reg F.ROUTE_BANK_STATE ≠ 1 → plain (.routeSwap d) 0x61) ∧
  (∀ k < 256, s.reg F.PORT_LINK_STATE k ≠ 0 → s.reg F.ROUTE_BANK_STATE = 1 → s.running = false → s.reg F.GONG_CFG_ROOT = 0 →
    let p := s.parentPort;
    ∃ t, exec (.routeSwap d) s = .next t ∧ t.reg F.ROUTE_BANK_STATE = 2 ∧
    t.comps = s.comps ∧ s.regsKept t [F.ROUTE_BANK_STATE.key 0] ∧ s.memKept t ∧
    (s.ctlGoes (s.portLink p) = true → s.route.marks = [] → t.route = { s.route with quiet := [], swap := some d } ∧
      ∃ x : Out, t.out = x :: s.out) ∧
    (s.ctlGoes (s.portLink p) = false → t.out = s.out ∧ t.route = { s.route with quiet := [], swap := some d, marks := s.route.marks ++
      [(p, s.marker (s.reg F.ROUTE_BANK_PREP_ACRE) 1 0 false 0 0 0)] })) ∧
  ((∀ k < 256, s.reg F.PORT_LINK_STATE k = 0) → s.reg F.SEQ_SCORE_STATE = 0 → s.route.bank0.nbr = s.route.bank1.nbr → ∃ t,
    exec (.routeSwap d) s = .next t ∧ t.reg F.ROUTE_BANK_ACTIVE = 1 - s.reg F.ROUTE_BANK_ACTIVE ∧ t.reg F.ROUTE_BANK_STATE = 0 ∧
    t = (s.putRegs t.regs).putComps (s.comps ++ [entry 0]) ∧
    s.regsKept t [q, F.ROUTE_BANK_ACTIVE.key 0, F.ROUTE_BANK_STATE.key 0])

/-! ### Checkpoints (spec/18) -/

/-- Checkpoint descriptors and their drive commands and cells (18 R541, R545 to R549, R551 to R555, R563; 19 R567). A save or a fill outside PAUSED,
ENDED and STOPPED and a restore outside LOADED, PAUSED, ENDED and STOPPED complete with CKPT_BUSY; a save without a drive with NVME_ERR, a load
without one and an upload of an empty slot with NO_IMAGE. Else a save and a load start with their first drive command, a receive opens its window, and
a send, a fill and an upload leave whole and complete with DONE. A drive error ends its operation; the last Flush ends a save with DONE. A restore
cell without a window is counted; one that the window takes writes its block and sets DIRTY, and one whose block lies outside the areas is discarded
and reported (13 R409; 17 R516); the window closes with RESTORE_TIMEOUT. -/
def Obligations.CheckpointsSaveAndRestore : Prop :=
  ∀ (d : Desc) (ws : List (BitVec 64)) (die : Bool) (c : Cell) (s : State),
    let st := s.reg F.SEQ_SCORE_STATE;
    let entry := fun (x : Desc) (code : Nat) => Comp.mk x.ring.val x.slot.toNat x.id.toNat code 0 0 s.toll;
    let q := F.ACV_RSTAT_INFLIGHT.key d.ring.val;
    let plain := fun (x : Instr) (code : Nat) => ∃ t, exec x s = .next t ∧ t = (s.putRegs t.regs).putComps (s.comps ++ [entry d code]) ∧
      s.regsKept t [q];
    let whole := fun (x : Instr) (n : Nat) => ∃ t l, exec x s = .next t ∧ (∃ e : Comp, t.comps = l ++ [e] ∧ e.code = 0 ∧ e.id = d.id.toNat) ∧
      t.reg F.CKPT_PROGRESS_BYTES = n % 2 ^ 48;
    let w := fun i => (ws.getD i 0).toNat;
    let start := w 1 % 2 ^ 48;
    let ckeys := [F.CKPT_STATUS_OP.key 0, F.CKPT_PROGRESS_BYTES.key 0, F.CKPT_PROGRESS_SEGMENT.key 0];
    let off := leNat ((cPay c).take 8);
    let n := leNat (((cPay c).drop 8).take 1);
  (s.accepts d → s.reg F.BOOT_STATUS_FAIL = 0 →
    (st ∉ [5, 6, 7] → plain (.ckptSave d ws) 0x76 ∧ plain (.ckptFill d ws) 0x76) ∧
    (s.maySave = true → s.drives = 0 → plain (.ckptSave d ws) 0x77) ∧
    (s.maySave = true → s.drives ≠ 0 → s.imagePoison = none → ∃ t o, exec (.ckptSave d ws) s = .next t ∧ t.ckpt.op = some o ∧ o.desc = d ∧
      o.op = 1 ∧ o.slot = s.saveSlot ∧ o.start = s.reg F.CKPT_STATUS_NEXT_BEAT ∧ o.pos = 0 ∧ t.reg F.CKPT_STATUS_OP = 1 ∧
      t.out = .drive true s.saveSlot 0 :: s.out ∧ s.regsKept t ckeys ∧ s.memKept t ∧ t.comps = s.comps) ∧
    (s.maySave = true → s.imagePoison = none → whole (.ckptFill d ws) s.imageSize) ∧
    (s.mayRestore = false → plain (.ckptLoad d ws) 0x76 ∧ (w 0 % 4 < 2 → plain (.ckptReceive d ws) 0x76)) ∧
    (s.mayRestore = true → s.drives = 0 → plain (.ckptLoad d ws) 0x78) ∧
    (s.mayRestore = true → s.drives ≠ 0 → ∃ t o, exec (.ckptLoad d ws) s = .next t ∧ t.ckpt.op = some o ∧ o.desc = d ∧ o.op = 2 ∧
      o.slot = w 0 % 2 ∧ o.start = start ∧ t.reg F.CKPT_STATUS_OP = 2 ∧ t.out = .drive false (w 0 % 2) 0 :: s.out ∧ s.regsKept t ckeys ∧
      s.memKept t ∧ t.comps = s.comps) ∧
    (s.mayRestore = true → w 0 % 4 = 0 → ∃ t o, exec (.ckptReceive d ws) s = .next t ∧ t.ckpt.op = some o ∧ o.desc = d ∧ o.op = 3 ∧
      o.mode = 0 ∧ o.source = w 1 % 2 ^ 40 ∧ o.start = w 2 % 2 ^ 48 ∧ o.blocks = 0 ∧ o.last = s.toll ∧ t.reg F.CKPT_STATUS_OP = 3 ∧
      s.regsKept t ckeys ∧ s.memKept t ∧ t.comps = s.comps) ∧
    (w 2 % 2 ^ 48 = 0 → plain (.ckptSend d ws) 1) ∧
    (w 2 % 2 ^ 48 ≠ 0 → s.ckpt.op = none → st ∉ [1, 3, 4] → s.reg F.OPT_HOLD_CFG_HOLD = 0 → plain (.ckptSend d ws) 0x73) ∧
    (0 < w 2 % 2 ^ 48 → w 2 % 2 ^ 48 ≤ 448 * 2 ^ 30 → s.ckpt.op = none → st ∉ [1, 3, 4] → s.reg F.OPT_HOLD_CFG_HOLD = 1 →
      s.reg F.OPT_MIRROR_BEAT_VALID = 1 → s.reg F.OPT_MIRROR_BEAT_BEAT = (start + 2 ^ 48 - 1) % 2 ^ 48 →
      s.reg F.CKPT_STATUS_MIRROR_POISON = 0 → s.poison = [] → whole (.ckptSend d ws) (w 2 % 2 ^ 48)) ∧
    (s.ckpt.op = none → ∃ t, exec (.ckptUpload d ws) s = .next t ∧
      (s.slotValid (w 0 / 65536 % 2) = false → t = (s.putRegs t.regs).putComps (s.comps ++ [entry d 0x78]) ∧ s.regsKept t [q]) ∧
      (s.slotValid (w 0 / 65536 % 2) = true → t.reg F.CKPT_PROGRESS_BYTES = headBytes (s.slotHead (w 0 / 65536 % 2)) % 2 ^ 48 ∧
        ∃ (l : List Comp) (e : Comp), t.comps = l ++ [e] ∧ e.code = 0 ∧ e.id = d.id.toNat))) ∧
  (s.ckpt.op = none → exec (.nvmeCompletion true) s = .next s ∧ exec .restoreTimeout s = .next s ∧
    ∃ t, exec (.restoreCellIn die c) s = .next t ∧
      t = ((s.putRegs t.regs).putFresh t.fresh).putDelivered (s.delivered.erase c) ∧
      s.regsKept t [F.CKPT_COUNTS_STRAY.key 0] ∧ t.reg F.CKPT_COUNTS_STRAY = min (s.reg F.CKPT_COUNTS_STRAY + 1) 0xFFFF) ∧
  (∀ o : CkptOp, s.ckpt.op = some o →
    (o.op = 1 ∨ o.op = 2 → ∃ t, exec (.nvmeCompletion false) s = .next t ∧ t.ckpt.op = none ∧ t.comps = s.comps ++ [entry o.desc 0x77] ∧
      t.reg F.CKPT_STATUS_OP = 0 ∧ t.reg F.CKPT_COUNTS_NVME_FAIL = min (s.reg F.CKPT_COUNTS_NVME_FAIL + 1) 0xFFFF ∧ s.memKept t) ∧
    (o.op = 1 → o.pos < segments s.imageSize →
      let b := s.imageBytes (o.pos * 2 ^ 30) (segBytes s.imageSize o.pos);
      ∃ t, exec (.nvmeCompletion true) s = .next t ∧
      t.nvme = memWrite s.nvme (s.slotBase o.slot + 0x100000 + o.pos * 2 ^ 30) b ∧
      t.ckpt.op = some { o with pos := o.pos + 1, digests := o.digests ++ sha256 b } ∧ t.out = .drive true o.slot (o.pos + 1) :: s.out ∧
      s.memKept t) ∧
    (o.op = 1 → o.pos = segments s.imageSize + 3 → ∃ t, exec (.nvmeCompletion true) s = .next t ∧ t.ckpt.op = none ∧
      t.comps = s.comps ++ [entry o.desc 0] ∧ t.reg F.CKPT_STATUS_OP = 0 ∧ t.nvme = s.nvme ∧ s.memKept t) ∧
    (o.op = 2 → o.pos = 0 → s.slotValid o.slot = false → ∃ t, exec (.nvmeCompletion true) s = .next t ∧ t.ckpt.op = none ∧
      t.comps = s.comps ++ [entry o.desc 0x78] ∧ s.memKept t) ∧
    (∀ a : Nat, o.op = 3 → o.mode = 0 → o.source = dSrc c → off % 64 = 0 → off < 2 ^ 63 → n = 1 → pcrcGood c = true →
      o.headBlocks < 16384 → areaAddr s.areas off = some a → ∃ t, exec (.restoreCellIn die c) s = .next t ∧
      t.bytes a 64 = ((cPay c).drop 32).take 64 ∧ s.memKeptOut t a 64 ∧ t.ckpt.op = some { o with blocks := o.blocks + 1, last := s.toll } ∧
      t.reg F.CKPT_STATUS_DIRTY = 1 ∧ t.reg F.CKPT_PROGRESS_BYTES = 64 * (o.blocks + 1) % 2 ^ 48 ∧
      t.delivered = s.delivered.erase c) ∧
    (o.op = 3 → o.source = dSrc c → o.mode ≠ 2 → off % 64 = 0 → off < 2 ^ 63 → n = 1 → pcrcGood c = true → areaAddr s.areas off = none →
      (s.faults.die.filter (fun e => decide (e.1 = b2n die))).length < 64 → ∃ (t : State) (r : Rep), exec (.restoreCellIn die c) s = .next t ∧
      s.memKept t ∧ t.ckpt = s.ckpt ∧ t.comps = s.comps ∧ s.regsKept t [] ∧ t.delivered = s.delivered.erase c ∧
      t.faults.die = s.faults.die ++ [(b2n die, r)] ∧ r.msg.kind = 0x0207 ∧ r.msg.cls = 1 ∧ r.msg.level = 3 ∧ r.msg.unit = b2n die) ∧
    (o.op = 3 → o.source ≠ dSrc c → ∃ t, exec (.restoreCellIn die c) s = .next t ∧
      t = ((s.putRegs t.regs).putFresh t.fresh).putDelivered (s.delivered.erase c) ∧ s.regsKept t [F.CKPT_COUNTS_STRAY.key 0] ∧
      t.reg F.CKPT_COUNTS_STRAY = min (s.reg F.CKPT_COUNTS_STRAY + 1) 0xFFFF) ∧
    (let due := o.last + max (s.reg F.CKPT_CFG_TIMEOUT) 1 * 2 ^ 20;
     o.op = 3 → due < 2 ^ 64 → ∃ t, exec .restoreTimeout s = .next t ∧ t.toll = max s.toll due ∧ t.ckpt.op = none ∧
      t.comps = s.comps ++ [{ entry o.desc 0x74 with toll := t.toll }] ∧ t.reg F.CKPT_STATUS_OP = 0 ∧ s.memKept t))

/-! ### Boot, updates, attestation and debug (spec/19) -/

/-- A start (01 R54; 17 R510, R514, R516; 19 R564, R566, R567, R571, R576, R578; 20 R600). The mask ROM starts the first bank that passes, or latches
BOOT_UE; the first stage rejects a bank whose manifest fails, has BOOT_UE without a persistent copy, and else counts the boot and trains the memories;
training ends with READY, or with FAIL when a stack failed, and the Acvel link trains. The watchdog rejects the bank being tried, and later is a C3
fault; the reset after a C3 fault leaves reset values but for the always-on registers, tier 2 and the Sexton area. -/
def Obligations.StartsRunTheirSteps : Prop :=
  ∀ (failed : BitVec 16) (s : State),
    let b := s.boot.home;
    let s1 := s.startIdentity;
    let always := [F.ENG_PWR_STATE_STATE.key 0, F.ENG_PWR_STATE_GRP_OK.key 0, F.ENG_PWR_STATE_C4_CAUSE.key 0, F.ENG_PWR_STATE_OFF_REQ.key 0,
      F.OPT_MIRROR_BEAT_VALID.key 0, F.OPT_MIRROR_BEAT_BEAT.key 0, F.CKPT_STATUS_MIRROR_POISON.key 0];
    let bootUe := fun t : State => t.reg F.ENG_PWR_STATE_STATE = 15 ∧ t.boot.step = 0 ∧ t.pins.faultN = true ∧ t.pins.portsStopped = true ∧
      t.reg F.ENG_PWR_STATE_C4_CAUSE = if s.reg F.ENG_PWR_STATE_C4_CAUSE = 0 then 5
        else if s.pins.c4At = some (s.ck, s.toll) then min (s.reg F.ENG_PWR_STATE_C4_CAUSE) 5 else s.reg F.ENG_PWR_STATE_C4_CAUSE;
  (s.boot.step ≠ 2 → exec .romBankAccept s = .next s) ∧
  (s.boot.step = 2 → ∃ t, exec .romBankAccept s = .next t ∧ (s.romNext.find? s.headerGood = none → bootUe t) ∧
    (∀ x < 2, s.romNext.find? s.headerGood = some x →
      t = (s.putRegs t.regs).putBoot { s.boot with step := 3, home := x } ∧ t.reg F.BOOT_STATUS_STAGE = 1 ∧ t.reg F.BOOT_STATUS_BANK = x ∧
      t.reg F.BOOT_STATUS_FALLBACK = (if s.romOrder.head? = some x then 0 else 1) ∧
      s.regsKept t [F.BOOT_STATUS_STAGE.key 0, F.BOOT_STATUS_BANK.key 0, F.BOOT_STATUS_FALLBACK.key 0])) ∧
  (s.boot.step ≠ 3 → exec .firstStage s = .next s) ∧
  (s.boot.step = 3 → s.keyErased 0 = false → s.keyErased 1 = false → ∃ t, exec .firstStage s = .next t ∧
    (s.copyBank = none → bootUe t) ∧
    (s.copyBank ≠ none → s1.manifestGood b = false → t.boot.step = 2 ∧ t.boot.tried = b :: s.boot.tried ∧ t.reg F.BOOT_STATUS_STAGE = 0 ∧
      t.flash = s.flash) ∧
    (s.copyBank ≠ none → s1.manifestGood b = true → ((s1.startCopy b).loadParts b).1 = true →
      t.boot.step = 4 ∧ t.reg F.BOOT_STATUS_STAGE = 2 ∧ t.reg F.BOOT_STATUS_BANK = b % 2 ∧
      t.reg F.BOOT_STATUS_BOOT_COUNT = (s.copyNat 0x10 8 + 1) % 2 ^ 32 ∧ ∀ n < 16, t.reg F.MEM_STACK_STATE n = 1)) ∧
  (s.boot.step ≠ 4 → exec (.memTrainingEnd failed) s = .next s) ∧
  (s.boot.step = 4 → ∃ t, exec (.memTrainingEnd failed) s = .next t ∧ t.boot.step = 5 ∧ t.reg F.ACV_LINK_STATE = 1 ∧
    (∀ n < 16, t.reg F.MEM_STACK_STATE n = if failed.toNat.testBit n then 3 else 2) ∧
    t.reg F.BOOT_STATUS_STAGE = (if failed = 0 then 3 else 5) ∧ t.reg F.BOOT_STATUS_FAIL = (if failed = 0 then s.reg F.BOOT_STATUS_FAIL else 1)) ∧
  (s.boot.step = 0 → exec .sextonWdog s = .next s) ∧
  (s.boot.step = 3 → ∃ t, exec .sextonWdog s = .next t ∧ s.onlyRegs (t.putBoot s.boot) [F.BOOT_STATUS_STAGE.key 0] ∧
    t.boot = { s.boot with step := 2, tried := b :: s.boot.tried } ∧ t.reg F.BOOT_STATUS_STAGE = 0) ∧
  (3 < s.boot.step → ∃ t, exec .sextonWdog s = .next t ∧ t.beatU.resetDue = true ∧ s.memKept t) ∧
  (s.beatU.resetDue = false ∨ s.running = true → exec .deviceReset s = .next s) ∧
  (s.beatU.resetDue = true → s.running = false → ∃ t, exec .deviceReset s = .next t ∧ t.boot.step = 2 ∧ State.reset.regsKept t always ∧
    (∀ f ∈ [F.ENG_PWR_STATE_STATE, F.ENG_PWR_STATE_GRP_OK, F.ENG_PWR_STATE_C4_CAUSE, F.ENG_PWR_STATE_OFF_REQ, F.OPT_MIRROR_BEAT_VALID,
      F.OPT_MIRROR_BEAT_BEAT, F.CKPT_STATUS_MIRROR_POISON], t.reg f = s.reg f) ∧ t.beatU.resetDue = false ∧ t.pending = s.pending ∧
    t.flash = s.flash ∧ t.host = s.host ∧ t.nvme = s.nvme ∧ t.groups = [] ∧ t.links = [] ∧ t.clusters = [] ∧
    (∀ a, t.byte a = if (0x9000000000 ≤ a ∧ a < 0x11000000000) ∨ (0x8F00000000 ≤ a ∧ a < 0x9000000000) then s.byte a else 0))

/-- Firmware updates (19 R582, R583, R585 to R588, R591, R593). An image is staged while NONE or STAGED, and its end gives the code of its checks; at
UPDATE_TOLL a busy device goes back to STAGED and another restarts; the end of the restart is the trial, with no Score, or STAGED with the code of a
failed one; a commit ends the trial and raises COUNTER to its SVN; a revert, by descriptor or at REVERT_TOLL, restarts to the old firmware and ends
STAGED. -/
def Obligations.UpdatesStageTryCommitAndRevert : Prop :=
  ∀ (d : Desc) (ws : List (BitVec 64)) (ok : Bool) (s : State),
    let st := s.reg F.BOOT_UPDATE_STATE;
    let entry := fun (x : Desc) (code : Nat) => Comp.mk x.ring.val x.slot.toNat x.id.toNat code 0 0 s.toll;
    let q := F.ACV_RSTAT_INFLIGHT.key d.ring.val;
    let plain := fun (x : Instr) (code : Nat) => ∃ t, exec x s = .next t ∧ t = (s.putRegs t.regs).putComps (s.comps ++ [entry d code]) ∧
      s.regsKept t [q];
    let w := fun i => (ws.getD i 0).toNat;
    let b := 1 - s.boot.home;
    let staged := fun (t : State) (svn fw : Nat) => t.reg F.BOOT_STAGED_SVN = svn ∧ t.reg F.BOOT_STAGED_FW_VERSION = fw;
    let ukeys := [F.BOOT_UPDATE_STATE.key 0, F.BOOT_STAGED_SVN.key 0, F.BOOT_STAGED_FW_VERSION.key 0];
  (s.accepts d → w 1 = 0 → plain (.bootStage d ws ok) 1) ∧
  (s.accepts d → w 1 ≠ 0 → st ≠ 0 → st ≠ 2 → plain (.bootStage d ws ok) 0x84) ∧
  (s.accepts d → w 1 ≠ 0 → st = 0 ∨ st = 2 → 0x3F000000 < w 1 → plain (.bootStage d ws ok) 0x80) ∧
  (s.accepts d → w 1 ≠ 0 → st = 0 ∨ st = 2 → w 1 ≤ 0x3F000000 → ok = false → ∃ t, exec (.bootStage d ws ok) s = .next t ∧
    t.comps = s.comps ++ [entry d 0x14] ∧ t.reg F.BOOT_UPDATE_STATE = 0 ∧ staged t 0 0 ∧ s.regsKept t (q :: ukeys) ∧ t.flash = s.flash) ∧
  (s.accepts d → w 1 ≠ 0 → st = 0 ∨ st = 2 → w 1 ≤ 0x3F000000 → ok = true → ∃ t, exec (.bootStage d ws ok) s = .next t ∧
    t = (s.putRegs t.regs).putBoot t.boot ∧ t.boot.stage = some d ∧ t.boot.imageLen = w 1 ∧ t.reg F.BOOT_UPDATE_STATE = 1 ∧
    staged t 0 0 ∧ s.regsKept t ukeys) ∧
  (s.boot.stage = none → exec .bootStagingEnd s = .next s) ∧
  (∀ (x : Desc) (code : Nat), s.boot.stage = some x → code = (s.writeImage b).stageCode b (Config.flashOk s.draws) → ∃ t,
    exec .bootStagingEnd s = .next t ∧ t.flash = (s.writeImage b).flash ∧ t.comps = s.comps ++ [entry x code] ∧ t.boot.stage = none ∧
    t.reg F.BOOT_UPDATE_STATE = (if code = 0 then 2 else 0) ∧ s.memKept t ∧
    staged t (if code = 0 then t.manSvn b else 0) (if code = 0 then t.manFw b else 0)) ∧
  (st ≠ 3 → exec .updateTollReached s = .next s) ∧
  (st = 3 → s.boot.restart = 0 →
    (∀ x4 : Desc, s.boot.armed = some x4 → s.scoreBusy = true ∨ s.ckpt.op.isSome = true → ∃ t, exec .updateTollReached s = .next t ∧
      t.toll = max s.toll (s.reg F.BOOT_UPDATE_TOLL_TOLL) ∧ t.reg F.BOOT_UPDATE_STATE = 2 ∧ t.boot = { s.boot with armed := none } ∧
      t.comps = s.comps ++ [{ entry x4 0x84 with toll := t.toll }]) ∧
    (s.scoreBusy = false → s.ckpt.op = none → ∃ t, exec .updateTollReached s = .next t ∧ t.comps = s.comps ∧
      t.toll = max s.toll (s.reg F.BOOT_UPDATE_TOLL_TOLL) ∧ t.boot = { s.boot with restart := 1, revertDue := 0 } ∧
      t.reg F.BOOT_STATUS_STAGE = 4 ∧ s.regsKept t [F.TOLL_COUNT_COUNT.key 0, F.BOOT_STATUS_STAGE.key 0])) ∧
  (s.boot.restart = 0 → s.boot.revertDue = 0 → exec .firmwareRestartEnd s = .next s) ∧
  (∀ x3 : Desc, s.boot.restart = 1 → s.boot.armed = some x3 →
    ∃ t, exec .firmwareRestartEnd s = .next t ∧
    (s.manifestGood b = true → (s.loadParts b).1 = true → t.reg F.BOOT_UPDATE_STATE = 4 ∧
      t.comps = s.comps ++ [entry x3 0] ∧ t.score.cur = none ∧ t.reg F.SEQ_SCORE_STATE = 0 ∧ t.reg F.MXE_CFG_FIXED_LAT = 0 ∧
        t.reg F.BOOT_STATUS_BANK = b ∧
      t.reg F.BOOT_FW_SVN = s.manSvn b ∧ t.reg F.BOOT_FW_FW_VERSION = s.manFw b ∧ t.boot.restart = 0 ∧ t.boot.armed = none ∧
      t.reg F.BOOT_STATUS_STAGE = if s.reg F.BOOT_STATUS_FAIL = 0 then 3 else 5) ∧
    (s.manifestGood b = false → t.reg F.BOOT_UPDATE_STATE = 2 ∧ t.comps = s.comps ++ [entry x3 0x87] ∧
      t.boot = { s.boot with restart := 0, revertDue := 0, armed := none } ∧ t.score = s.score)) ∧
  (∀ x2 : Desc, s.boot.restart = 2 ∨ s.boot.restart = 3 → s.boot.revert = [x2] → ∃ t, exec .firmwareRestartEnd s = .next t ∧
    t.reg F.BOOT_UPDATE_STATE = 2 ∧ t.comps = s.comps ++ [entry x2 0] ∧ t.boot.revert = [] ∧ t.boot.restart = 0 ∧ t.score.cur = none ∧
    t.reg F.BOOT_STATUS_REVERTED = (if s.boot.restart = 2 then 1 else s.reg F.BOOT_STATUS_REVERTED) ∧
    t.reg F.BOOT_FW_SVN = s.manSvn s.boot.home) ∧
  (st ≠ 4 → exec .revertTollReached s = .next s) ∧
  (s.accepts d → st ≠ 4 → plain (.bootCommit d) 0x85 ∧ plain (.bootRevert d) 0x85) ∧
  (s.accepts d → st = 4 → s.reg F.BOOT_COUNTER_COUNTER < s.manSvn b → s.reg F.BOOT_STATUS_IDENTITY_V = 0 → plain (.bootCommit d) 0x88) ∧
  (s.accepts d → st = 4 → s.reg F.BOOT_STATUS_IDENTITY_V = 1 ∨ s.manSvn b ≤ s.reg F.BOOT_COUNTER_COUNTER → ∃ t, exec (.bootCommit d) s = .next t ∧
    t.comps = s.comps ++ [entry d 0] ∧ t.reg F.BOOT_UPDATE_STATE = 0 ∧ staged t 0 0 ∧
    t.reg F.BOOT_COUNTER_COUNTER = max (s.reg F.BOOT_COUNTER_COUNTER) (s.manSvn b) ∧ t.bankSeq b = (s.bankSeq s.boot.home + 1) % 2 ^ 64 ∧
    s.regsKept t (q :: F.BOOT_COUNTER_COUNTER.key 0 :: ukeys)) ∧
  (st = 4 → s.boot.restart = 0 → s.boot.revertDue = 0 → s.reg F.SEQ_SCORE_STATE ≠ 1 →
    (s.accepts d → ∃ t, exec (.bootRevert d) s = .next t ∧
      t = (s.putRegs t.regs).putBoot { s.boot with revert := s.boot.revert ++ [d], restart := 3 } ∧
      t.reg F.BOOT_STATUS_STAGE = 4 ∧ s.regsKept t [F.BOOT_STATUS_STAGE.key 0]) ∧
    (∃ t, exec .revertTollReached s = .next t ∧ t.toll = max s.toll (s.reg F.BOOT_REVERT_TOLL_TOLL) ∧
      t.boot = { s.boot with restart := 2 } ∧ t.reg F.BOOT_STATUS_STAGE = 4 ∧
      s.regsKept t [F.TOLL_COUNT_COUNT.key 0, F.BOOT_STATUS_STAGE.key 0])) ∧
  (s.accepts d → st = 4 → s.boot.restart = 0 → s.boot.revertDue = 0 → s.reg F.SEQ_SCORE_STATE = 1 →
    exec (.bootRevert d) s = .next (s.putBoot { s.boot with revert := s.boot.revert ++ [d], revertDue := 3 }))

/-- BOOT_ACTIVATE (19 R584) completes with NOT_STAGED unless STATE is STAGED, and with TOLL_BAD when UPDATE_TOLL is less than TOLL_COUNT + 25,000 or
REVERT_TOLL is less than UPDATE_TOLL + 12,500,000,000; otherwise STATE becomes ARMED, and the two counts that it carries are shown. -/
def Obligations.ActivationArmsAStagedUpdate : Prop :=
  ∀ (d : Desc) (upd rev : BitVec 64) (ws : List (BitVec 64)) (s : State), s.accepts d →
    let st := s.reg F.BOOT_UPDATE_STATE;
    let entry := fun code : Nat => Comp.mk d.ring.val d.slot.toNat d.id.toNat code 0 0 s.toll;
    let ends := fun code : Nat => ∃ t, exec (.bootActivate d (upd :: rev :: ws)) s = .next t ∧
      t = (s.putRegs t.regs).putComps (s.comps ++ [entry code]) ∧ s.regsKept t [F.ACV_RSTAT_INFLIGHT.key d.ring.val];
  (st ≠ 2 → ends 0x85) ∧
  (st = 2 → upd.toNat < s.toll + 25000 ∨ rev.toNat < upd.toNat + 12500000000 → ends 0x86) ∧
  (st = 2 → s.toll + 25000 ≤ upd.toNat → upd.toNat + 12500000000 ≤ rev.toNat → ∃ t, exec (.bootActivate d (upd :: rev :: ws)) s = .next t ∧
    t = (s.putRegs t.regs).putBoot { s.boot with armed := some d } ∧ t.reg F.BOOT_UPDATE_STATE = 3 ∧
    t.reg F.BOOT_UPDATE_TOLL_TOLL = upd.toNat ∧ t.reg F.BOOT_REVERT_TOLL_TOLL = rev.toNat ∧
    s.regsKept t [F.BOOT_UPDATE_STATE.key 0, F.BOOT_UPDATE_TOLL_TOLL.key 0, F.BOOT_REVERT_TOLL_TOLL.key 0])

/-- Attestation and debug (01 R67; 19 R580, R581, R590, R591). Without an identity ATTEST completes with NO_IDENTITY, a failed host access with
HOST_ERR; else the record lies in host memory, its magic, TOLL, nonce, DEVICE_ID, SVN, COUNTER and FW_VERSION where R580 puts them. DEBUG_OPEN is
refused while busy; else TRIES rises, and a certificate that passes opens debug and JTAG for good, ends the identity and erases its key in both
copies. -/
def Obligations.AttestAndDebugOpen : Prop :=
  ∀ (d : Desc) (ws : List (BitVec 64)) (s : State), s.accepts d →
    let entry := fun code : Nat => Comp.mk d.ring.val d.slot.toNat d.id.toNat code 0 0 s.toll;
    let q := F.ACV_RSTAT_INFLIGHT.key d.ring.val;
    let plain := fun (x : Instr) (code : Nat) => ∃ t, exec x s = .next t ∧ t = (s.putRegs t.regs).putComps (s.comps ++ [entry code]) ∧
      s.regsKept t [q];
    let host := (ws.getD 4 0).toNat;
    let cert := s.certGood (s.hostBytes (ws.getD 0 0).toNat 512) (s.digest F.BOOT_DBG_CHAL_DIGEST);
    let idle := s.scoreBusy = false ∧ s.bootBusy = false;
    let tries := fun t : State => t.reg F.BOOT_DEBUG_TRIES = (s.reg F.BOOT_DEBUG_TRIES + 1) % 2 ^ 32;
    let chal := (List.range 4).map F.BOOT_DBG_CHAL_DIGEST.key;
  (s.reg F.BOOT_STATUS_IDENTITY_V = 0 → plain (.attest d ws true) 0x88) ∧
  (s.reg F.BOOT_STATUS_IDENTITY_V = 1 → plain (.attest d ws false) 0x14) ∧
  (s.reg F.BOOT_STATUS_IDENTITY_V = 1 → 5 ≤ ws.length → s.reg F.ACV_LINK_STATE = 4 → s.acv.unacked = [] → s.acv.tries = [] → ∃ t,
    exec (.attest d ws true) s = .next t ∧ t.comps = s.comps ++ [entry 0] ∧ t.hostBytes host 8 = ascii "UN9ATTST" ∧
    leNat (t.hostBytes (host + 16) 8) = s.toll ∧ t.hostBytes (host + 24) 32 = (ws.take 4).flatMap (fun x => leBytes 8 x.toNat) ∧
    t.hostBytes (host + 56) 32 = s.digest F.BOOT_DEVICE_ID_DIGEST ∧ leNat (t.hostBytes (host + 88) 4) = s.reg F.BOOT_FW_SVN ∧
    leNat (t.hostBytes (host + 92) 4) = s.reg F.BOOT_COUNTER_COUNTER ∧ leNat (t.hostBytes (host + 96) 4) = s.reg F.BOOT_FW_FW_VERSION ∧
    (∀ x, x < host ∨ host + 832 ≤ x → tabGet 0 t.host x = tabGet 0 s.host x) ∧ s.memKept t ∧ s.regsKept t [q]) ∧
  (s.scoreBusy = true ∨ s.bootBusy = true → plain (.debugOpen d ws true) 0x8A) ∧
  (idle → ∃ t, exec (.debugOpen d ws false) s = .next t ∧ tries t ∧ t.comps = s.comps ++ [entry 0x14] ∧ t.flash = s.flash ∧
    s.regsKept t (q :: F.BOOT_DEBUG_TRIES.key 0 :: chal)) ∧
  (idle → ∃ t, exec (.debugOpen d ws true) s = .next t ∧ tries t ∧
    (cert = false → t.comps = s.comps ++ [entry 0x89] ∧ t.flash = s.flash ∧ t.pins = s.pins ∧
      s.regsKept t (q :: F.BOOT_DEBUG_TRIES.key 0 :: chal)) ∧
    (cert = true → t.comps = s.comps ++ [entry 0] ∧ t.reg F.BOOT_DEBUG_OPEN = 1 ∧ t.reg F.BOOT_STATUS_IDENTITY_V = 0 ∧
      t.pins = { s.pins with jtagOpen := true } ∧ t.keyErased 0 = true ∧ t.keyErased 1 = true ∧
      s.regsKept t (q :: F.BOOT_DEBUG_TRIES.key 0 :: F.BOOT_DEBUG_OPEN.key 0 :: F.BOOT_STATUS_IDENTITY_V.key 0 :: chal)))
/-! ### Fault collectors, injection and registers (spec/17, spec/20, spec/00) -/

/-- Collectors and diagnosis (07 R255; 17 R512, R520 to R523, R525 to R528, R530). A region collector opens its record with a message, or merges it,
and passes it on unless it merged one below C2; a die collector passes its next to the hub, which counts it; clearing a record that merged sends
MERGED, and a message taken in the same CK opens the next (00 R17); a repeat that passes is TRANSIENT below its limit, one whose sibling fails
UNRESOLVED, and a suspect of another unit is PERMANENT and fenced; host software sets fence bits only where no Score runs, loads or is being paused.
-/
def Obligations.CollectorsMergeForwardAndDiagnose : Prop :=
  ∀ (n : Fin 8) (d : Bool) (r : Rep) (c : Fin 64) (row : Option (BitVec 7)) (j : Fin 10) (v : BitVec 64) (s : State),
    let die := n.val / 4;
    let room := (s.faults.die.filter (fun e => decide (e.1 = die))).length < 64;
    let rg := [F.FLT_RG_STAT_VALID.key n, F.FLT_RG_STAT_KIND_OR.key n, F.FLT_RG_STAT_MERGES.key n, F.FLT_RG_LO_MSG.key n,
      F.FLT_RG_HI_MSG.key n];
    let merges := s.reg F.FLT_RG_STAT_MERGES n;
    let fresh := tabFind s.fresh (F.FLT_RG_STAT_VALID.key n);
    let opened := fun (t : State) (x : Rep) => t.reg F.FLT_RG_STAT_VALID n = 1 ∧ t.reg F.FLT_RG_STAT_KIND_OR n = x.msg.kind % 2 ^ 16 ∧
      t.reg F.FLT_RG_STAT_MERGES n = 0 ∧ t.reg F.FLT_RG_LO_MSG n = x.msg.bits % 2 ^ 64 ∧
      t.reg F.FLT_RG_HI_MSG n = x.msg.bits / 2 ^ 64 % 2 ^ 64;
  (s.faults.region = [] → exec (.regionCollectorTake n) s = .next s) ∧
  (s.faults.region = [(n.val, r)] → room →
    (s.reg F.FLT_RG_STAT_VALID n = 0 → ∃ t, exec (.regionCollectorTake n) s = .next t ∧
      t = ((s.putRegs t.regs).putFresh t.fresh).putFaults { s.faults with region := [], die := s.faults.die ++ [(die, r)] } ∧
      s.regsKept t rg ∧ opened t r) ∧
    (s.reg F.FLT_RG_STAT_VALID n = 1 → ∃ t, exec (.regionCollectorTake n) s = .next t ∧
      t = ((s.putRegs t.regs).putFresh t.fresh).putFaults { s.faults with
        region := [], die := s.faults.die ++ (if 2 ≤ r.msg.cls then [(die, r)] else [])
        joined := s.faults.joined.filter (fun x => decide (x.1 ≠ n.val)) ++ [(n.val, merges, s.reg F.FLT_RG_STAT_KIND_OR n, r)] } ∧
      s.regsKept t [F.FLT_RG_STAT_KIND_OR.key n, F.FLT_RG_STAT_MERGES.key n] ∧ t.reg F.FLT_RG_STAT_MERGES n = min (merges + 1) 0xFFFF ∧
      t.reg F.FLT_RG_STAT_KIND_OR n = (s.reg F.FLT_RG_STAT_KIND_OR n ||| r.msg.kind) % 2 ^ 16)) ∧
  (s.faults.die = [(b2n d, r)] → ∃ t, exec (.dieCollectorTake d) s = .next t ∧
    t = ((s.putRegs t.regs).putFresh t.fresh).putFaults { s.faults with die := [], hub := s.faults.hub ++ [r] } ∧
    s.regsKept t [F.FLT_COUNTS_C0.key 0, F.FLT_COUNTS_C1.key 0, F.FLT_COUNTS_C2.key 0] ∧
    t.reg F.FLT_COUNTS_C0 = (if r.msg.cls = 0 then min (s.reg F.FLT_COUNTS_C0 + 1) F.FLT_COUNTS_C0.top else s.reg F.FLT_COUNTS_C0) ∧
    t.reg F.FLT_COUNTS_C1 = (if r.msg.cls = 1 then min (s.reg F.FLT_COUNTS_C1 + 1) F.FLT_COUNTS_C1.top else s.reg F.FLT_COUNTS_C1) ∧
    t.reg F.FLT_COUNTS_C2 = (if r.msg.cls = 2 then min (s.reg F.FLT_COUNTS_C2 + 1) F.FLT_COUNTS_C2.top else s.reg F.FLT_COUNTS_C2)) ∧
  (s.reg F.FLT_RG_STAT_VALID n = 0 → exec (.regionRecordClear n) s = .next s) ∧
  (s.reg F.FLT_RG_STAT_VALID n = 1 → fresh ≠ none → s.faults.joined = [] → exec (.regionRecordClear n) s = .next s) ∧
  (∀ (p : Nat × Nat) (k : Nat) (y : Rep), s.reg F.FLT_RG_STAT_VALID n = 1 → fresh = some p → p.1 ≠ 0 → s.faults.joined = [(n.val, 0, k, y)] →
    room → ∃ t, exec (.regionRecordClear n) s = .next t ∧ s.regsKept t rg ∧ opened t y ∧
    t.faults = { s.faults with die := s.faults.die ++ (if 2 ≤ y.msg.cls then [] else [(die, y)]) }) ∧
  (s.reg F.FLT_RG_STAT_VALID n = 1 → fresh = none → merges = 0 → ∃ t, exec (.regionRecordClear n) s = .next t ∧
    s.onlyRegs t [F.FLT_RG_STAT_VALID.key n] ∧ t.reg F.FLT_RG_STAT_VALID n = 0) ∧
  (s.reg F.FLT_RG_STAT_VALID n = 1 → fresh = none → merges ≠ 0 → room → ∃ t m, exec (.regionRecordClear n) s = .next t ∧
    t.reg F.FLT_RG_STAT_VALID n = 0 ∧ s.regsKept t [F.FLT_RG_STAT_VALID.key n] ∧ t.faults = { s.faults with die := s.faults.die ++ [(die, m)] } ∧
    m.msg.kind = 0x8001 ∧ m.msg.cls = 0 ∧ m.msg.level = 2 ∧ m.msg.unit = 288 + n.val ∧ m.msg.addrV = true ∧
    m.msg.addr = merges + s.reg F.FLT_RG_STAT_KIND_OR n * 2 ^ 16) ∧
  (∀ x : Diag, s.faults.diag = [(c.val, x)] → s.running = false → x.slot < 6 →
    (s.transCount (8 * c.val + x.slot) + 1 < s.reg F.FLT_CFG_TRANS_LIMIT → ∃ t m, exec (.diagnosis c true false row) s = .next t ∧
      t.faults.diag = [] ∧ t.faults.hub = s.faults.hub ++ [m] ∧ m.msg.kind = 0x8002 ∧ m.msg.unit = 8 * c.val + x.slot ∧
      t.reg F.FLT_DIAG_STATE c = 0 ∧ t.transCount (8 * c.val + x.slot) = (s.transCount (8 * c.val + x.slot) + 1) % 2 ^ 32 ∧
      t.reg F.FLT_DIAG_TRANSIENT c = min (s.reg F.FLT_DIAG_TRANSIENT c + 1) F.FLT_DIAG_TRANSIENT.top ∧ s.memKept t) ∧
    (∃ t m, exec (.diagnosis c false false row) s = .next t ∧ t.faults.diag = [] ∧ t.faults.hub = s.faults.hub ++ [m] ∧
      m.msg.kind = 0x8004 ∧ m.msg.unit = 8 * c.val + x.slot ∧ t.reg F.FLT_DIAG_STATE c = 0 ∧
      t.reg F.FLT_DIAG_UNRESOLVED c = min (s.reg F.FLT_DIAG_UNRESOLVED c + 1) F.FLT_DIAG_UNRESOLVED.top ∧ s.memKept t) ∧
    (∃ t m, exec (.diagnosis c false true none) s = .next t ∧ t.faults.diag = [] ∧ t.faults.hub = s.faults.hub ++ [m] ∧
      m.msg.kind = 0x8003 ∧ m.msg.cls = 2 ∧ m.msg.unit = 8 * c.val + x.slot ∧ t.reg F.FLT_DIAG_STATE c = 0 ∧
      t.reg F.FLT_DIAG_PERMANENT c = min (s.reg F.FLT_DIAG_PERMANENT c + 1) F.FLT_DIAG_PERMANENT.top ∧
      (x.slot = 0 → t.mxFenced c.val = true) ∧ (∀ e < 4, x.slot = e + 1 → t.vxFenced (4 * c.val + e) = true) ∧
      (x.slot = 5 → t.taFenced c.val = true) ∧ s.memKept t)) ∧
  (∀ x2 : Diag, s.faults.diag = [(c.val, x2)] → s.running = true → s.reg F.SEQ_CLUSTER_STATE c < 3 →
    exec (.diagnosis c true false row) s = .next s) ∧
  (s.reg F.SEQ_SCORE_STATE ∈ [0, 2, 5, 6, 7] → ∃ t, exec (.fenceMapWrite j v) s = .next t ∧ s.onlyRegs t [F.FLT_FENCE_MAP.key j] ∧
    t.reg F.FLT_FENCE_MAP j = s.reg F.FLT_FENCE_MAP j ||| v.toNat) ∧
  (s.reg F.SEQ_SCORE_STATE ∉ [0, 2, 5, 6, 7] → exec (.fenceMapWrite j v) s = .next s)

/-- Fault injection (17 R531, R532, R539). The three keys in turn, by one party within 2,500 CK, arm for 2,500,000,000 CK; a wrong key clears the
progress. GO while armed is taken when its target may fire and else sets REJ; the firing sends the message at its time and disarms, or leaves its
corruptions to be made. -/
def Obligations.InjectionArmsAndFires : Prop :=
  ∀ (host : Bool) (key v : BitVec 64) (s : State),
    let i := s.inj;
    let k := key.toNat % 65536;
    let x := v.toNat;
    let same := 0 < i.keys ∧ i.host = host ∧ s.ck ≤ i.first + 2500;
    let fields := fun t : State => t.reg F.INJ_TARGET_GRAVE = bitsOf x 62 62 ∧ t.reg F.INJ_TARGET_MODE = bitsOf x 61 60 ∧
      t.reg F.INJ_TARGET_COUNT = bitsOf x 59 48 ∧ t.reg F.INJ_TARGET_LEVEL = bitsOf x 47 45 ∧ t.reg F.INJ_TARGET_UNIT = bitsOf x 44 34 ∧
      t.reg F.INJ_TARGET_KIND = bitsOf x 33 18;
    let keys := [F.INJ_TARGET_GRAVE.key 0, F.INJ_TARGET_MODE.key 0, F.INJ_TARGET_COUNT.key 0, F.INJ_TARGET_LEVEL.key 0,
      F.INJ_TARGET_UNIT.key 0, F.INJ_TARGET_KIND.key 0];
    let tgt := i.target;
    let events := max (bitsOf tgt 59 48) 1;
    let one := (bitsOf tgt 33 18, bitsOf tgt 61 60, bitsOf tgt 47 45, bitsOf tgt 44 34);
    let at_ := if i.due = 0 then s.toll else max s.toll i.due;
  (i.keys = 0 → k = 0x5EA1 → exec (.injArm host key) s = .next (s.putInj { i with keys := 1, host := host, first := s.ck })) ∧
  (same → i.keys = 1 → k = 0x7B0D → exec (.injArm host key) s = .next (s.putInj { i with keys := 2 })) ∧
  (same → i.keys = 2 → k = 0x3C6F → ∃ t, exec (.injArm host key) s = .next t ∧
    t = (s.putRegs t.regs).putInj { i with keys := 0, limit := s.ck + 2500000000 } ∧ s.regsKept t [F.INJ_STATUS_ARMED.key 0] ∧
    t.reg F.INJ_STATUS_ARMED = 1) ∧
  (¬same → k ≠ 0x5EA1 → exec (.injArm host key) s = .next (s.putInj { i with keys := 0 })) ∧
  (s.reg F.INJ_STATUS_ARMED = 0 → exec .injArmExpiry s = .next s) ∧
  (s.reg F.INJ_STATUS_ARMED = 1 → ∃ t, exec .injArmExpiry s = .next t ∧
    t = ((s.putRegs t.regs).putCk (if s.pins.porstN then max s.ck i.limit else s.ck)).putFresh t.fresh ∧
    t.reg F.INJ_STATUS_ARMED = 0 ∧ s.regsKept t [F.INJ_STATUS_ARMED.key 0, F.TOLL_COUNT_COUNT.key 0]) ∧
  (x.testBit 63 = false ∨ s.reg F.INJ_STATUS_ARMED = 0 ∨ i.fire = true → ∃ t, exec (.injGo host v) s = .next t ∧
    t = (s.putRegs t.regs).putInj { i with keys := 0 } ∧ s.regsKept t keys ∧ fields t) ∧
  (x.testBit 63 = true → s.reg F.INJ_STATUS_ARMED = 1 → i.fire = false →
    (targetGood x = false → ∃ t, exec (.injGo host v) s = .next t ∧ t = ((s.putRegs t.regs).putFresh t.fresh).putInj { i with keys := 0 } ∧
      t.reg F.INJ_STATUS_REJ = 1 ∧ fields t ∧ s.regsKept t (F.INJ_STATUS_REJ.key 0 :: keys)) ∧
    (targetGood x = true → ∃ t, exec (.injGo host v) s = .next t ∧
      t = (s.putRegs t.regs).putInj { i with keys := 0, fire := true, target := x, due := s.reg F.INJ_TOLL_WHEN } ∧ fields t ∧
      t.reg F.INJ_TARGET_GO = 1 ∧ t.reg F.INJ_STATUS_PENDING = (i.corrupt.length + max (bitsOf x 59 48) 1) % 2 ^ 16 ∧
      s.regsKept t (F.INJ_TARGET_GO.key 0 :: F.INJ_STATUS_PENDING.key 0 :: keys))) ∧
  (i.fire = false → exec .injFire s = .next s) ∧
  (i.fire = true → i.due < 2 ^ 64 → bitsOf tgt 61 60 = 1 ∨ bitsOf tgt 61 60 = 2 → bitsOf tgt 33 18 ≠ 0x0401 → bitsOf tgt 33 18 ≠ 0x0402 →
    ∃ t, exec .injFire s = .next t ∧ t.toll = at_ ∧ t.reg F.INJ_STATUS_ARMED = 0 ∧ t.reg F.INJ_TARGET_GO = 0 ∧
    s.regsKept t [F.TOLL_COUNT_COUNT.key 0, F.INJ_STATUS_ARMED.key 0, F.INJ_TARGET_GO.key 0] ∧ s.memKept t ∧
    t.inj = { i with fire := false, corrupt := i.corrupt ++ List.replicate events one }) ∧
  (i.fire = true → i.due < 2 ^ 64 → bitsOf tgt 61 60 = 0 → bitsOf tgt 59 48 ≤ 1 → bitsOf tgt 47 45 = 4 → ∃ t m, exec .injFire s = .next t ∧
    t.toll = at_ ∧ t.reg F.INJ_STATUS_ARMED = 0 ∧ t.reg F.INJ_TARGET_GO = 0 ∧ t.inj = { i with fire := false } ∧
    t.reg F.INJ_STATUS_FIRED = min (s.reg F.INJ_STATUS_FIRED + 1) 0xFFFF ∧ t.faults.hub = s.faults.hub ++ [m] ∧
    m.msg.kind = bitsOf tgt 33 18 ∧ m.msg.unit = bitsOf tgt 44 34 ∧ m.msg.injected = true ∧ m.msg.toll = at_ ∧ s.memKept t)

/-- Register access (00 R9, R14, R16, R17; 15 R474, R476; 20 R594 to R597, R599). A write that is not of a whole aligned word is not performed; one of
an unmapped address is counted when it comes over the Acvel link; cells write nothing and the management target nothing but OFF_REQ. An RW register
takes a write of the Acvel link before the rings are live and not after, unless it stays writable; W1S bits are only set, RO registers stay. A read
changes no register but its own; it clears RC counters, and a write of 1 a W1C bit, but neither what the same CK adds; MGMT_READ captures the whole
word of an ENG register, and none for other codes or without group 1 (01 R48). -/
def Obligations.RegistersReadAndWrite : Prop :=
  ∀ (p : Party) (a : BitVec 28) (v : BitVec 64) (code : BitVec 8) (s : State),
    let x := v.toNat;
    let left := fun f : Field => s.freshPart f 0 % 2 ^ f.width;
  (a.toNat % 8 ≠ 0 → exec (.registerWrite p a v) s = .next s ∧ exec (.registerRead a) s = .next s) ∧
  (a.toNat % 8 = 0 → 0x170000 ≤ a.toNat → exec (.registerRead a) s = .next s ∧
    (p ≠ .acvel → exec (.registerWrite p a v) s = .next s) ∧
    ∃ t, exec (.registerWrite .acvel a v) s = .next t ∧ s.onlyCounts t [F.ACV_COUNTS_WR_REFUSED.key 0] ∧
      t.reg F.ACV_COUNTS_WR_REFUSED = min (s.reg F.ACV_COUNTS_WR_REFUSED + 1) 0xFFFF) ∧
  (a.toNat < 0x170000 → exec (.registerWrite .cell a v) s = .next s ∧
    (F.ENG_PWR_STATE_OFF_REQ.at a.toNat = false ∨ x.testBit 4 = false ∨ s.mgmtUp = false → exec (.registerWrite .mgmt a v) s = .next s)) ∧
  (s.reg F.ACV_LIVE_LIVE = 0 → ∃ t, exec (.registerWrite .acvel 0x80000 v) s = .next t ∧ s.onlyRegs t [F.COLL_CFG_COLL_THRESH.key 0] ∧
    t.reg F.COLL_CFG_COLL_THRESH = x % 2 ^ 32) ∧
  (s.reg F.ACV_LIVE_LIVE = 1 → ∃ t, exec (.registerWrite .acvel 0x80000 v) s = .next t ∧ s.onlyRegs t []) ∧
  (∃ t, exec (.registerWrite .acvel 0x80018 v) s = .next t ∧ s.onlyRegs t [F.COLL_SEQ_SEL_HANDLE.key 0] ∧
    t.reg F.COLL_SEQ_SEL_HANDLE = x % 2 ^ 12) ∧
  (∃ t, exec (.registerWrite .acvel 0x70050 v) s = .next t ∧ s.onlyRegs t [F.SEQ_LOAD_CFG_STRICT.key 0] ∧
    t.reg F.SEQ_LOAD_CFG_STRICT = (if x.testBit 0 then 1 else s.reg F.SEQ_LOAD_CFG_STRICT)) ∧
  (∃ t, exec (.registerWrite .acvel 0x18 v) s = .next t ∧ s.onlyRegs t []) ∧
  (a.toNat % 8 = 0 → a.toNat < 0x170000 → ∃ t, exec (.registerRead a) s = .next t ∧
    s.onlyCounts t ((fieldsAt a.toNat).map (fun f => f.key (f.inst a.toNat)))) ∧
  (∃ t, exec (.registerWrite .acvel 0x140008 v) s = .next t ∧ s.onlyRegs t [F.CKPT_STATUS_DIRTY.key 0] ∧
    t.reg F.CKPT_STATUS_DIRTY = (if x.testBit 49 then 0 else s.reg F.CKPT_STATUS_DIRTY) ||| left F.CKPT_STATUS_DIRTY) ∧
  (∃ t, exec (.registerRead 0x110010) s = .next t ∧ (∀ f ∈ [F.ACV_ERR_CODE_ERR, F.ACV_ERR_LCRC_BAD, F.ACV_ERR_REPLAYS, F.ACV_ERR_NOROOM],
      t.reg f = left f) ∧ (s.fresh = [] → t.reg F.ACV_ERR_CODE_ERR = 0) ∧ s.onlyCounts t
      [F.ACV_ERR_CODE_ERR.key 0, F.ACV_ERR_LCRC_BAD.key 0, F.ACV_ERR_REPLAYS.key 0, F.ACV_ERR_NOROOM.key 0]) ∧
  (s.mgmtUp = true → 0x80 ≤ code.toNat → code.toNat ≤ 0xB7 → ∃ t, exec (.mgmtRead code) s = .next t ∧
    t = ((s.putRegs t.regs).putFresh t.fresh).putMgmt (s.regWord (0x160000 + 8 * code.toNat)) ∧
    s.regsKept t ((fieldsAt (0x160000 + 8 * code.toNat)).map (fun f => f.key (f.inst (0x160000 + 8 * code.toNat))))) ∧
  (s.mgmtUp = false ∨ code.toNat < 0x80 ∨ 0xB7 < code.toNat → exec (.mgmtRead code) s = .next s)

/-! ### Headlines -/

/-- Every well-formed instruction of a list is what its own word decodes to, in some cluster, with every operand at every value that the encoding of
06 R212, R213, R215, R217, R218, R224, R228, R229, R230 admits. -/
def Obligations.EncodedInstructionsDecodeBack : Prop :=
  ∀ (i : Instr) (w : Word), encodeInsn i = some w → i.wf = true → ∃ c : Fin 64, decodeInsn c w = some i

/-- Words written out from the tables of 06 R212, R215, R217, R218 R224, R228, R229 and R230 decode to the instructions they stand for, one of each
unit: the VFMA of R216, LI of 7 into S1, SEQ.END, MXE.OP of the block at S3, TALLY.PUT of S4 and S5 into record 2, MOV.COPY of the block at S7, and
CH.ARRIVE of 3 on Chime 9 after the matrix queue; a word with a reserved RM, and one of a reserved unit, decode to none (R213, R214). -/
def Obligations.WrittenWordsDecode : Prop :=
  decodeInsn 0 0x1040000C10830000 = some (.vfma 0 ⟨0, 0, 0, false, 3, 1, 2, 3, 0, 0⟩) ∧
  decodeInsn 5 0x00A0100000000007 = some (.li 5 1 7) ∧ decodeInsn 5 0x0210000000000000 = some (.seqEnd 5) ∧
  decodeInsn 5 0x2010300000000000 = some (.mxeOp 5 3) ∧ decodeInsn 5 0x3010428400000000 = some (.tallyPut 5 4 5 2) ∧
  decodeInsn 5 0x4010700000000000 = some (.movCopy 5 7) ∧ decodeInsn 5 0x5010002401000003 = some (.chArrive 5 ⟨9, 0, false, 1, 3⟩) ∧
  decodeInsn 0 0x7000000000000000 = none ∧ decodeInsn 0 0x1040060C10830000 = none

/-- A step that runs a command of the power, thermal and pin family keeps the pins in agreement with the power state, from every state in which they
agree (01 R46, R51, R52, R54 to R56): FAULTED holds FAULT_N and stops every port until group 1 is lost, a thermal trip is held with it, and SAFE_OFF
stops every port. -/
def Obligations.PowerStepsKeepPinsAgreeing : Prop :=
  ∀ (sel : Bool) (g : Fin 3) (ok : BitVec 4) (w : BitVec 12) (rs : List Reading) (rest : List Instr) (s t : State),
    ∀ c ∈ [.group1Regulation sel, .group1Loss, .railRise g, .groupsInRegulation ok, .railsDown, .porstRise, .porstFall, .regulatorFault,
      .governorSample w, .sensorSample rs, .offReq, (.safeOffReached : Instr)],
    s.pending = c :: rest → s.pinsAgree → step s = .next t → t.pinsAgree

/-- Every step keeps the memories canonical (the model's own form of a memory: log entry 2): from every state in which the device's memory, boot
flash, the drives' and the host's memory list strictly rising addresses and no byte that an unlisted address reads as, every command at the front of
the queue, and the idle step, leave them so, whatever it stores, restores, clears or copies (07 R252; 13 R408, R412; 19 R577). -/
def Obligations.EveryStepKeepsMemoriesCanonical : Prop :=
  ∀ s t : State, s.memoriesWf → step s = .next t → t.memoriesWf
end

