-- ==== Sys2Proof/Laws/Tab.lean ====
section
/-!
SUPPORT. Laws/Tab.lean: a table reads back what was written and nothing else changes; every table operation keeps the
canonical form.
-/
namespace Sys2Proof.Machine

variable {α : Type}

@[simp] theorem tabFind_nil (k : Nat) : tabFind ([] : Tab α) k = none := rfl

theorem tabFind_erase_same (t : Tab α) (k : Nat) : tabFind (tabErase t k) k = none := by
  induction t with
  | nil => rfl
  | cons e t ih =>
    unfold tabErase at ih ⊢
    by_cases h : e.1 = k
    · rw [List.filter_cons_of_neg (by simp [h])]; exact ih
    · rw [List.filter_cons_of_pos (by simp [h])]; simpa [tabFind, h] using ih

theorem tabFind_erase_other (t : Tab α) {k j : Nat} (h : j ≠ k) : tabFind (tabErase t k) j = tabFind t j := by
  induction t with
  | nil => rfl
  | cons e t ih =>
    unfold tabErase at ih ⊢
    by_cases h1 : e.1 = k
    · rw [List.filter_cons_of_neg (by simp [h1]), ih]
      have h2 : e.1 ≠ j := fun h3 => h (h3.symm.trans h1)
      simp [tabFind, h2]
    · rw [List.filter_cons_of_pos (by simp [h1])]
      by_cases h2 : e.1 = j
      · simp [tabFind, h2]
      · simpa [tabFind, h2] using ih

theorem tabFind_insert_same (t : Tab α) (k : Nat) (x : α) : tabFind (tabInsert t k x) k = some x := by
  induction t with
  | nil => simp [tabInsert, tabFind]
  | cons e t ih =>
    obtain ⟨j, v⟩ := e
    by_cases h1 : j = k
    · simp [tabInsert, tabFind, h1]
    · by_cases h2 : k < j
      · simp [tabInsert, tabFind, h1, h2]
      · simpa [tabInsert, tabFind, h1, h2] using ih

theorem tabFind_insert_other (t : Tab α) {k j : Nat} (x : α) (h : j ≠ k) : tabFind (tabInsert t k x) j = tabFind t j := by
  have h' : k ≠ j := fun e => h e.symm
  induction t with
  | nil => simp [tabInsert, tabFind, h']
  | cons e t ih =>
    obtain ⟨i, v⟩ := e
    by_cases h1 : i = k
    · subst h1; simp [tabInsert, tabFind, h']
    · by_cases h2 : k < i
      · simp [tabInsert, tabFind, h1, h2, h']
      · by_cases h3 : i = j
        · subst h3; simp [tabInsert, tabFind, h1, h2]
        · simpa [tabInsert, tabFind, h1, h2, h3] using ih

/-- A key reads as the value written to it. -/
@[simp] theorem tabGet_tabSet_same [DecidableEq α] (d : α) (t : Tab α) (k : Nat) (x : α) : tabGet d (tabSet d t k x) k = x := by
  by_cases h : x = d
  · simp [tabGet, tabSet, h, tabFind_erase_same]
  · simp [tabGet, tabSet, h, tabFind_insert_same]

/-- Every other key reads as before, whatever default it is read with. -/
theorem tabGet_tabSet_other [DecidableEq α] (d d' : α) (t : Tab α) {k j : Nat} (x : α) (h : j ≠ k) :
    tabGet d' (tabSet d t k x) j = tabGet d' t j := by
  by_cases h1 : x = d
  · simp [tabGet, tabSet, h1, tabFind_erase_other t h]
  · simp [tabGet, tabSet, h1, tabFind_insert_other t x h]

/-! ### The canonical form -/

theorem tabSorted_iff (t : Tab α) : tabSorted t = true ↔ (t.map (·.1)).Pairwise (· < ·) := by
  induction t with
  | nil => simp [tabSorted]
  | cons e t ih =>
    cases t with
    | nil => simp [tabSorted]
    | cons f t =>
      obtain ⟨j, v⟩ := e
      obtain ⟨k, w⟩ := f
      simp only [tabSorted, Bool.and_eq_true, decide_eq_true_eq, ih, List.map_cons, List.pairwise_cons, List.mem_cons]
      constructor
      · rintro ⟨h1, h2, h3⟩
        refine ⟨fun a ha => ?_, h2, h3⟩
        rcases ha with rfl | ha
        · exact h1
        · exact lt_trans h1 (h2 a ha)
      · rintro ⟨h1, h2, h3⟩
        exact ⟨h1 k (Or.inl rfl), h2, h3⟩

theorem tabErase_keys_sorted {t : Tab α} (k : Nat) (h : (t.map (·.1)).Pairwise (· < ·)) :
    ((tabErase t k).map (·.1)).Pairwise (· < ·) := by
  unfold tabErase
  exact List.Pairwise.sublist (List.Sublist.map _ List.filter_sublist) h

theorem tabInsert_keys {t : Tab α} {k : Nat} {x : α} {j : Nat} (h : j ∈ (tabInsert t k x).map (·.1)) :
    j = k ∨ j ∈ t.map (·.1) := by
  induction t with
  | nil => simpa [tabInsert] using h
  | cons e t ih =>
    obtain ⟨i, v⟩ := e
    by_cases h1 : i = k
    · simp only [tabInsert, h1, if_true, List.map_cons, List.mem_cons] at h ⊢
      rcases h with h | h
      · exact Or.inl h
      · exact Or.inr (Or.inr h)
    · by_cases h2 : k < i
      · simp only [tabInsert, h1, h2, if_true, if_false, List.map_cons, List.mem_cons] at h ⊢
        exact h
      · simp only [tabInsert, h1, h2, if_false, List.map_cons, List.mem_cons] at h ⊢
        rcases h with h | h
        · exact Or.inr (Or.inl h)
        · exact (ih h).imp_right Or.inr

theorem tabInsert_keys_sorted {t : Tab α} (k : Nat) (x : α) (h : (t.map (·.1)).Pairwise (· < ·)) :
    ((tabInsert t k x).map (·.1)).Pairwise (· < ·) := by
  induction t with
  | nil => simp [tabInsert]
  | cons e t ih =>
    obtain ⟨i, v⟩ := e
    simp only [List.map_cons, List.pairwise_cons] at h
    by_cases h1 : i = k
    · subst h1; simpa [tabInsert] using h
    · by_cases h2 : k < i
      · simp only [tabInsert, h1, h2, if_true, if_false, List.map_cons, List.pairwise_cons, List.mem_cons]
        refine ⟨fun a ha => ?_, h⟩
        rcases ha with rfl | ha
        · exact h2
        · exact lt_trans h2 (h.1 a ha)
      · simp only [tabInsert, h1, h2, if_false, List.map_cons, List.pairwise_cons]
        refine ⟨fun a ha => ?_, ih h.2⟩
        rcases tabInsert_keys ha with rfl | ha
        · omega
        · exact h.1 a ha

theorem tabInsert_vals {t : Tab α} {k : Nat} {x : α} {e : Nat × α} (h : e ∈ tabInsert t k x) : e.2 = x ∨ e ∈ t := by
  induction t with
  | nil => left; simp only [tabInsert, List.mem_singleton] at h; rw [h]
  | cons f t ih =>
    obtain ⟨i, v⟩ := f
    by_cases h1 : i = k
    · simp only [tabInsert, h1, if_true, List.mem_cons] at h
      rcases h with h | h
      · left; rw [h]
      · right; exact List.mem_cons_of_mem _ h
    · by_cases h2 : k < i
      · simp only [tabInsert, h1, h2, if_true, if_false, List.mem_cons] at h
        rcases h with h | h
        · left; rw [h]
        · right; exact List.mem_cons.mpr h
      · simp only [tabInsert, h1, h2, if_false, List.mem_cons] at h
        rcases h with h | h
        · right; exact List.mem_cons.mpr (Or.inl h)
        · exact (ih h).imp_right (List.mem_cons_of_mem _)

theorem tabWf_iff [DecidableEq α] (d : α) (t : Tab α) :
    tabWf d t = true ↔ (t.map (·.1)).Pairwise (· < ·) ∧ ∀ e ∈ t, e.2 ≠ d := by
  simp [tabWf, tabSorted_iff]

/-- Writing a key keeps the canonical form. -/
theorem tabSet_wf [DecidableEq α] (d : α) {t : Tab α} (k : Nat) (x : α) (h : tabWf d t = true) :
    tabWf d (tabSet d t k x) = true := by
  rw [tabWf_iff] at h ⊢
  unfold tabSet
  split
  · exact ⟨tabErase_keys_sorted k h.1, fun e he => h.2 e (List.mem_of_mem_filter he)⟩
  · rename_i hx
    refine ⟨tabInsert_keys_sorted k x h.1, fun e he => ?_⟩
    rcases tabInsert_vals he with h1 | h1
    · rw [h1]; exact hx
    · exact h.2 e h1

/-- Clearing a range keeps the canonical form. -/
theorem tabClear_wf [DecidableEq α] (d : α) {t : Tab α} (lo hi : Nat) (h : tabWf d t = true) :
    tabWf d (tabClear t lo hi) = true := by
  rw [tabWf_iff] at h ⊢
  unfold tabClear
  exact ⟨List.Pairwise.sublist (List.Sublist.map _ List.filter_sublist) h.1, fun e he => h.2 e (List.mem_of_mem_filter he)⟩

/-- Any part of a table in canonical form that a filter leaves is in canonical form. -/
theorem filter_wf [DecidableEq α] (d : α) {t : Tab α} (p : Nat × α → Bool) (h : tabWf d t = true) :
    tabWf d (t.filter p) = true := by
  rw [tabWf_iff] at h ⊢
  exact ⟨List.Pairwise.sublist (List.Sublist.map _ List.filter_sublist) h.1, fun e he => h.2 e (List.mem_of_mem_filter he)⟩

end Sys2Proof.Machine
end

