-- ==== Sys2Proof/Laws/State.lean ====
section
/-!
SUPPORT. Laws/State.lean: what each update of the state leaves alone, one lemma for each field and each update, and what a register field
reads as after one is set.
-/
namespace Sys2Proof.Machine

/-! ### putPending -/

@[simp] theorem State.putPending_pending (s : State) (x : List Instr) : (s.putPending x).pending = x := rfl
@[simp] theorem State.putPending_regs (s : State) (x : List Instr) : (s.putPending x).regs = s.regs := rfl
@[simp] theorem State.putPending_fresh (s : State) (x : List Instr) : (s.putPending x).fresh = s.fresh := rfl
@[simp] theorem State.putPending_mem (s : State) (x : List Instr) : (s.putPending x).mem = s.mem := rfl
@[simp] theorem State.putPending_poison (s : State) (x : List Instr) : (s.putPending x).poison = s.poison := rfl
@[simp] theorem State.putPending_soft (s : State) (x : List Instr) : (s.putPending x).soft = s.soft := rfl
@[simp] theorem State.putPending_tags (s : State) (x : List Instr) : (s.putPending x).tags = s.tags := rfl
@[simp] theorem State.putPending_host (s : State) (x : List Instr) : (s.putPending x).host = s.host := rfl
@[simp] theorem State.putPending_nvme (s : State) (x : List Instr) : (s.putPending x).nvme = s.nvme := rfl
@[simp] theorem State.putPending_flash (s : State) (x : List Instr) : (s.putPending x).flash = s.flash := rfl
@[simp] theorem State.putPending_ck (s : State) (x : List Instr) : (s.putPending x).ck = s.ck := rfl
@[simp] theorem State.putPending_mgmt (s : State) (x : List Instr) : (s.putPending x).mgmt = s.mgmt := rfl
@[simp] theorem State.putPending_draws (s : State) (x : List Instr) : (s.putPending x).draws = s.draws := rfl
@[simp] theorem State.putPending_pins (s : State) (x : List Instr) : (s.putPending x).pins = s.pins := rfl
@[simp] theorem State.putPending_gov (s : State) (x : List Instr) : (s.putPending x).gov = s.gov := rfl
@[simp] theorem State.putPending_tollU (s : State) (x : List Instr) : (s.putPending x).tollU = s.tollU := rfl
@[simp] theorem State.putPending_beatU (s : State) (x : List Instr) : (s.putPending x).beatU = s.beatU := rfl
@[simp] theorem State.putPending_probe (s : State) (x : List Instr) : (s.putPending x).probe = s.probe := rfl
@[simp] theorem State.putPending_chimes (s : State) (x : List Instr) : (s.putPending x).chimes = s.chimes := rfl
@[simp] theorem State.putPending_chimeq (s : State) (x : List Instr) : (s.putPending x).chimeq = s.chimeq := rfl
@[simp] theorem State.putPending_clusters (s : State) (x : List Instr) : (s.putPending x).clusters = s.clusters := rfl
@[simp] theorem State.putPending_bushels (s : State) (x : List Instr) : (s.putPending x).bushels = s.bushels := rfl
@[simp] theorem State.putPending_parked (s : State) (x : List Instr) : (s.putPending x).parked = s.parked := rfl
@[simp] theorem State.putPending_groups (s : State) (x : List Instr) : (s.putPending x).groups = s.groups := rfl
@[simp] theorem State.putPending_colls (s : State) (x : List Instr) : (s.putPending x).colls = s.colls := rfl
@[simp] theorem State.putPending_sw (s : State) (x : List Instr) : (s.putPending x).sw = s.sw := rfl
@[simp] theorem State.putPending_route (s : State) (x : List Instr) : (s.putPending x).route = s.route := rfl
@[simp] theorem State.putPending_links (s : State) (x : List Instr) : (s.putPending x).links = s.links := rfl
@[simp] theorem State.putPending_acv (s : State) (x : List Instr) : (s.putPending x).acv = s.acv := rfl
@[simp] theorem State.putPending_comps (s : State) (x : List Instr) : (s.putPending x).comps = s.comps := rfl
@[simp] theorem State.putPending_poolq (s : State) (x : List Instr) : (s.putPending x).poolq = s.poolq := rfl
@[simp] theorem State.putPending_faults (s : State) (x : List Instr) : (s.putPending x).faults = s.faults := rfl
@[simp] theorem State.putPending_inj (s : State) (x : List Instr) : (s.putPending x).inj = s.inj := rfl
@[simp] theorem State.putPending_score (s : State) (x : List Instr) : (s.putPending x).score = s.score := rfl
@[simp] theorem State.putPending_ride (s : State) (x : List Instr) : (s.putPending x).ride = s.ride := rfl
@[simp] theorem State.putPending_ckpt (s : State) (x : List Instr) : (s.putPending x).ckpt = s.ckpt := rfl
@[simp] theorem State.putPending_boot (s : State) (x : List Instr) : (s.putPending x).boot = s.boot := rfl
@[simp] theorem State.putPending_out (s : State) (x : List Instr) : (s.putPending x).out = s.out := rfl
@[simp] theorem State.putPending_delivered (s : State) (x : List Instr) : (s.putPending x).delivered = s.delivered := rfl

/-! ### putRegs -/

@[simp] theorem State.putRegs_regs (s : State) (x : Tab Nat) : (s.putRegs x).regs = x := rfl
@[simp] theorem State.putRegs_pending (s : State) (x : Tab Nat) : (s.putRegs x).pending = s.pending := rfl
@[simp] theorem State.putRegs_fresh (s : State) (x : Tab Nat) : (s.putRegs x).fresh = s.fresh := rfl
@[simp] theorem State.putRegs_mem (s : State) (x : Tab Nat) : (s.putRegs x).mem = s.mem := rfl
@[simp] theorem State.putRegs_poison (s : State) (x : Tab Nat) : (s.putRegs x).poison = s.poison := rfl
@[simp] theorem State.putRegs_soft (s : State) (x : Tab Nat) : (s.putRegs x).soft = s.soft := rfl
@[simp] theorem State.putRegs_tags (s : State) (x : Tab Nat) : (s.putRegs x).tags = s.tags := rfl
@[simp] theorem State.putRegs_host (s : State) (x : Tab Nat) : (s.putRegs x).host = s.host := rfl
@[simp] theorem State.putRegs_nvme (s : State) (x : Tab Nat) : (s.putRegs x).nvme = s.nvme := rfl
@[simp] theorem State.putRegs_flash (s : State) (x : Tab Nat) : (s.putRegs x).flash = s.flash := rfl
@[simp] theorem State.putRegs_ck (s : State) (x : Tab Nat) : (s.putRegs x).ck = s.ck := rfl
@[simp] theorem State.putRegs_mgmt (s : State) (x : Tab Nat) : (s.putRegs x).mgmt = s.mgmt := rfl
@[simp] theorem State.putRegs_draws (s : State) (x : Tab Nat) : (s.putRegs x).draws = s.draws := rfl
@[simp] theorem State.putRegs_pins (s : State) (x : Tab Nat) : (s.putRegs x).pins = s.pins := rfl
@[simp] theorem State.putRegs_gov (s : State) (x : Tab Nat) : (s.putRegs x).gov = s.gov := rfl
@[simp] theorem State.putRegs_tollU (s : State) (x : Tab Nat) : (s.putRegs x).tollU = s.tollU := rfl
@[simp] theorem State.putRegs_beatU (s : State) (x : Tab Nat) : (s.putRegs x).beatU = s.beatU := rfl
@[simp] theorem State.putRegs_probe (s : State) (x : Tab Nat) : (s.putRegs x).probe = s.probe := rfl
@[simp] theorem State.putRegs_chimes (s : State) (x : Tab Nat) : (s.putRegs x).chimes = s.chimes := rfl
@[simp] theorem State.putRegs_chimeq (s : State) (x : Tab Nat) : (s.putRegs x).chimeq = s.chimeq := rfl
@[simp] theorem State.putRegs_clusters (s : State) (x : Tab Nat) : (s.putRegs x).clusters = s.clusters := rfl
@[simp] theorem State.putRegs_bushels (s : State) (x : Tab Nat) : (s.putRegs x).bushels = s.bushels := rfl
@[simp] theorem State.putRegs_parked (s : State) (x : Tab Nat) : (s.putRegs x).parked = s.parked := rfl
@[simp] theorem State.putRegs_groups (s : State) (x : Tab Nat) : (s.putRegs x).groups = s.groups := rfl
@[simp] theorem State.putRegs_colls (s : State) (x : Tab Nat) : (s.putRegs x).colls = s.colls := rfl
@[simp] theorem State.putRegs_sw (s : State) (x : Tab Nat) : (s.putRegs x).sw = s.sw := rfl
@[simp] theorem State.putRegs_route (s : State) (x : Tab Nat) : (s.putRegs x).route = s.route := rfl
@[simp] theorem State.putRegs_links (s : State) (x : Tab Nat) : (s.putRegs x).links = s.links := rfl
@[simp] theorem State.putRegs_acv (s : State) (x : Tab Nat) : (s.putRegs x).acv = s.acv := rfl
@[simp] theorem State.putRegs_comps (s : State) (x : Tab Nat) : (s.putRegs x).comps = s.comps := rfl
@[simp] theorem State.putRegs_poolq (s : State) (x : Tab Nat) : (s.putRegs x).poolq = s.poolq := rfl
@[simp] theorem State.putRegs_faults (s : State) (x : Tab Nat) : (s.putRegs x).faults = s.faults := rfl
@[simp] theorem State.putRegs_inj (s : State) (x : Tab Nat) : (s.putRegs x).inj = s.inj := rfl
@[simp] theorem State.putRegs_score (s : State) (x : Tab Nat) : (s.putRegs x).score = s.score := rfl
@[simp] theorem State.putRegs_ride (s : State) (x : Tab Nat) : (s.putRegs x).ride = s.ride := rfl
@[simp] theorem State.putRegs_ckpt (s : State) (x : Tab Nat) : (s.putRegs x).ckpt = s.ckpt := rfl
@[simp] theorem State.putRegs_boot (s : State) (x : Tab Nat) : (s.putRegs x).boot = s.boot := rfl
@[simp] theorem State.putRegs_out (s : State) (x : Tab Nat) : (s.putRegs x).out = s.out := rfl
@[simp] theorem State.putRegs_delivered (s : State) (x : Tab Nat) : (s.putRegs x).delivered = s.delivered := rfl

/-! ### putFresh -/

@[simp] theorem State.putFresh_fresh (s : State) (x : Tab (Nat × Nat)) : (s.putFresh x).fresh = x := rfl
@[simp] theorem State.putFresh_pending (s : State) (x : Tab (Nat × Nat)) : (s.putFresh x).pending = s.pending := rfl
@[simp] theorem State.putFresh_regs (s : State) (x : Tab (Nat × Nat)) : (s.putFresh x).regs = s.regs := rfl
@[simp] theorem State.putFresh_mem (s : State) (x : Tab (Nat × Nat)) : (s.putFresh x).mem = s.mem := rfl
@[simp] theorem State.putFresh_poison (s : State) (x : Tab (Nat × Nat)) : (s.putFresh x).poison = s.poison := rfl
@[simp] theorem State.putFresh_soft (s : State) (x : Tab (Nat × Nat)) : (s.putFresh x).soft = s.soft := rfl
@[simp] theorem State.putFresh_tags (s : State) (x : Tab (Nat × Nat)) : (s.putFresh x).tags = s.tags := rfl
@[simp] theorem State.putFresh_host (s : State) (x : Tab (Nat × Nat)) : (s.putFresh x).host = s.host := rfl
@[simp] theorem State.putFresh_nvme (s : State) (x : Tab (Nat × Nat)) : (s.putFresh x).nvme = s.nvme := rfl
@[simp] theorem State.putFresh_flash (s : State) (x : Tab (Nat × Nat)) : (s.putFresh x).flash = s.flash := rfl
@[simp] theorem State.putFresh_ck (s : State) (x : Tab (Nat × Nat)) : (s.putFresh x).ck = s.ck := rfl
@[simp] theorem State.putFresh_mgmt (s : State) (x : Tab (Nat × Nat)) : (s.putFresh x).mgmt = s.mgmt := rfl
@[simp] theorem State.putFresh_draws (s : State) (x : Tab (Nat × Nat)) : (s.putFresh x).draws = s.draws := rfl
@[simp] theorem State.putFresh_pins (s : State) (x : Tab (Nat × Nat)) : (s.putFresh x).pins = s.pins := rfl
@[simp] theorem State.putFresh_gov (s : State) (x : Tab (Nat × Nat)) : (s.putFresh x).gov = s.gov := rfl
@[simp] theorem State.putFresh_tollU (s : State) (x : Tab (Nat × Nat)) : (s.putFresh x).tollU = s.tollU := rfl
@[simp] theorem State.putFresh_beatU (s : State) (x : Tab (Nat × Nat)) : (s.putFresh x).beatU = s.beatU := rfl
@[simp] theorem State.putFresh_probe (s : State) (x : Tab (Nat × Nat)) : (s.putFresh x).probe = s.probe := rfl
@[simp] theorem State.putFresh_chimes (s : State) (x : Tab (Nat × Nat)) : (s.putFresh x).chimes = s.chimes := rfl
@[simp] theorem State.putFresh_chimeq (s : State) (x : Tab (Nat × Nat)) : (s.putFresh x).chimeq = s.chimeq := rfl
@[simp] theorem State.putFresh_clusters (s : State) (x : Tab (Nat × Nat)) : (s.putFresh x).clusters = s.clusters := rfl
@[simp] theorem State.putFresh_bushels (s : State) (x : Tab (Nat × Nat)) : (s.putFresh x).bushels = s.bushels := rfl
@[simp] theorem State.putFresh_parked (s : State) (x : Tab (Nat × Nat)) : (s.putFresh x).parked = s.parked := rfl
@[simp] theorem State.putFresh_groups (s : State) (x : Tab (Nat × Nat)) : (s.putFresh x).groups = s.groups := rfl
@[simp] theorem State.putFresh_colls (s : State) (x : Tab (Nat × Nat)) : (s.putFresh x).colls = s.colls := rfl
@[simp] theorem State.putFresh_sw (s : State) (x : Tab (Nat × Nat)) : (s.putFresh x).sw = s.sw := rfl
@[simp] theorem State.putFresh_route (s : State) (x : Tab (Nat × Nat)) : (s.putFresh x).route = s.route := rfl
@[simp] theorem State.putFresh_links (s : State) (x : Tab (Nat × Nat)) : (s.putFresh x).links = s.links := rfl
@[simp] theorem State.putFresh_acv (s : State) (x : Tab (Nat × Nat)) : (s.putFresh x).acv = s.acv := rfl
@[simp] theorem State.putFresh_comps (s : State) (x : Tab (Nat × Nat)) : (s.putFresh x).comps = s.comps := rfl
@[simp] theorem State.putFresh_poolq (s : State) (x : Tab (Nat × Nat)) : (s.putFresh x).poolq = s.poolq := rfl
@[simp] theorem State.putFresh_faults (s : State) (x : Tab (Nat × Nat)) : (s.putFresh x).faults = s.faults := rfl
@[simp] theorem State.putFresh_inj (s : State) (x : Tab (Nat × Nat)) : (s.putFresh x).inj = s.inj := rfl
@[simp] theorem State.putFresh_score (s : State) (x : Tab (Nat × Nat)) : (s.putFresh x).score = s.score := rfl
@[simp] theorem State.putFresh_ride (s : State) (x : Tab (Nat × Nat)) : (s.putFresh x).ride = s.ride := rfl
@[simp] theorem State.putFresh_ckpt (s : State) (x : Tab (Nat × Nat)) : (s.putFresh x).ckpt = s.ckpt := rfl
@[simp] theorem State.putFresh_boot (s : State) (x : Tab (Nat × Nat)) : (s.putFresh x).boot = s.boot := rfl
@[simp] theorem State.putFresh_out (s : State) (x : Tab (Nat × Nat)) : (s.putFresh x).out = s.out := rfl
@[simp] theorem State.putFresh_delivered (s : State) (x : Tab (Nat × Nat)) : (s.putFresh x).delivered = s.delivered := rfl

/-! ### putMem -/

@[simp] theorem State.putMem_mem (s : State) (x : List Host.Cell) : (s.putMem x).mem = x := rfl
@[simp] theorem State.putMem_pending (s : State) (x : List Host.Cell) : (s.putMem x).pending = s.pending := rfl
@[simp] theorem State.putMem_regs (s : State) (x : List Host.Cell) : (s.putMem x).regs = s.regs := rfl
@[simp] theorem State.putMem_fresh (s : State) (x : List Host.Cell) : (s.putMem x).fresh = s.fresh := rfl
@[simp] theorem State.putMem_poison (s : State) (x : List Host.Cell) : (s.putMem x).poison = s.poison := rfl
@[simp] theorem State.putMem_soft (s : State) (x : List Host.Cell) : (s.putMem x).soft = s.soft := rfl
@[simp] theorem State.putMem_tags (s : State) (x : List Host.Cell) : (s.putMem x).tags = s.tags := rfl
@[simp] theorem State.putMem_host (s : State) (x : List Host.Cell) : (s.putMem x).host = s.host := rfl
@[simp] theorem State.putMem_nvme (s : State) (x : List Host.Cell) : (s.putMem x).nvme = s.nvme := rfl
@[simp] theorem State.putMem_flash (s : State) (x : List Host.Cell) : (s.putMem x).flash = s.flash := rfl
@[simp] theorem State.putMem_ck (s : State) (x : List Host.Cell) : (s.putMem x).ck = s.ck := rfl
@[simp] theorem State.putMem_mgmt (s : State) (x : List Host.Cell) : (s.putMem x).mgmt = s.mgmt := rfl
@[simp] theorem State.putMem_draws (s : State) (x : List Host.Cell) : (s.putMem x).draws = s.draws := rfl
@[simp] theorem State.putMem_pins (s : State) (x : List Host.Cell) : (s.putMem x).pins = s.pins := rfl
@[simp] theorem State.putMem_gov (s : State) (x : List Host.Cell) : (s.putMem x).gov = s.gov := rfl
@[simp] theorem State.putMem_tollU (s : State) (x : List Host.Cell) : (s.putMem x).tollU = s.tollU := rfl
@[simp] theorem State.putMem_beatU (s : State) (x : List Host.Cell) : (s.putMem x).beatU = s.beatU := rfl
@[simp] theorem State.putMem_probe (s : State) (x : List Host.Cell) : (s.putMem x).probe = s.probe := rfl
@[simp] theorem State.putMem_chimes (s : State) (x : List Host.Cell) : (s.putMem x).chimes = s.chimes := rfl
@[simp] theorem State.putMem_chimeq (s : State) (x : List Host.Cell) : (s.putMem x).chimeq = s.chimeq := rfl
@[simp] theorem State.putMem_clusters (s : State) (x : List Host.Cell) : (s.putMem x).clusters = s.clusters := rfl
@[simp] theorem State.putMem_bushels (s : State) (x : List Host.Cell) : (s.putMem x).bushels = s.bushels := rfl
@[simp] theorem State.putMem_parked (s : State) (x : List Host.Cell) : (s.putMem x).parked = s.parked := rfl
@[simp] theorem State.putMem_groups (s : State) (x : List Host.Cell) : (s.putMem x).groups = s.groups := rfl
@[simp] theorem State.putMem_colls (s : State) (x : List Host.Cell) : (s.putMem x).colls = s.colls := rfl
@[simp] theorem State.putMem_sw (s : State) (x : List Host.Cell) : (s.putMem x).sw = s.sw := rfl
@[simp] theorem State.putMem_route (s : State) (x : List Host.Cell) : (s.putMem x).route = s.route := rfl
@[simp] theorem State.putMem_links (s : State) (x : List Host.Cell) : (s.putMem x).links = s.links := rfl
@[simp] theorem State.putMem_acv (s : State) (x : List Host.Cell) : (s.putMem x).acv = s.acv := rfl
@[simp] theorem State.putMem_comps (s : State) (x : List Host.Cell) : (s.putMem x).comps = s.comps := rfl
@[simp] theorem State.putMem_poolq (s : State) (x : List Host.Cell) : (s.putMem x).poolq = s.poolq := rfl
@[simp] theorem State.putMem_faults (s : State) (x : List Host.Cell) : (s.putMem x).faults = s.faults := rfl
@[simp] theorem State.putMem_inj (s : State) (x : List Host.Cell) : (s.putMem x).inj = s.inj := rfl
@[simp] theorem State.putMem_score (s : State) (x : List Host.Cell) : (s.putMem x).score = s.score := rfl
@[simp] theorem State.putMem_ride (s : State) (x : List Host.Cell) : (s.putMem x).ride = s.ride := rfl
@[simp] theorem State.putMem_ckpt (s : State) (x : List Host.Cell) : (s.putMem x).ckpt = s.ckpt := rfl
@[simp] theorem State.putMem_boot (s : State) (x : List Host.Cell) : (s.putMem x).boot = s.boot := rfl
@[simp] theorem State.putMem_out (s : State) (x : List Host.Cell) : (s.putMem x).out = s.out := rfl
@[simp] theorem State.putMem_delivered (s : State) (x : List Host.Cell) : (s.putMem x).delivered = s.delivered := rfl

/-! ### putPoison -/

@[simp] theorem State.putPoison_poison (s : State) (x : List Nat) : (s.putPoison x).poison = x := rfl
@[simp] theorem State.putPoison_pending (s : State) (x : List Nat) : (s.putPoison x).pending = s.pending := rfl
@[simp] theorem State.putPoison_regs (s : State) (x : List Nat) : (s.putPoison x).regs = s.regs := rfl
@[simp] theorem State.putPoison_fresh (s : State) (x : List Nat) : (s.putPoison x).fresh = s.fresh := rfl
@[simp] theorem State.putPoison_mem (s : State) (x : List Nat) : (s.putPoison x).mem = s.mem := rfl
@[simp] theorem State.putPoison_soft (s : State) (x : List Nat) : (s.putPoison x).soft = s.soft := rfl
@[simp] theorem State.putPoison_tags (s : State) (x : List Nat) : (s.putPoison x).tags = s.tags := rfl
@[simp] theorem State.putPoison_host (s : State) (x : List Nat) : (s.putPoison x).host = s.host := rfl
@[simp] theorem State.putPoison_nvme (s : State) (x : List Nat) : (s.putPoison x).nvme = s.nvme := rfl
@[simp] theorem State.putPoison_flash (s : State) (x : List Nat) : (s.putPoison x).flash = s.flash := rfl
@[simp] theorem State.putPoison_ck (s : State) (x : List Nat) : (s.putPoison x).ck = s.ck := rfl
@[simp] theorem State.putPoison_mgmt (s : State) (x : List Nat) : (s.putPoison x).mgmt = s.mgmt := rfl
@[simp] theorem State.putPoison_draws (s : State) (x : List Nat) : (s.putPoison x).draws = s.draws := rfl
@[simp] theorem State.putPoison_pins (s : State) (x : List Nat) : (s.putPoison x).pins = s.pins := rfl
@[simp] theorem State.putPoison_gov (s : State) (x : List Nat) : (s.putPoison x).gov = s.gov := rfl
@[simp] theorem State.putPoison_tollU (s : State) (x : List Nat) : (s.putPoison x).tollU = s.tollU := rfl
@[simp] theorem State.putPoison_beatU (s : State) (x : List Nat) : (s.putPoison x).beatU = s.beatU := rfl
@[simp] theorem State.putPoison_probe (s : State) (x : List Nat) : (s.putPoison x).probe = s.probe := rfl
@[simp] theorem State.putPoison_chimes (s : State) (x : List Nat) : (s.putPoison x).chimes = s.chimes := rfl
@[simp] theorem State.putPoison_chimeq (s : State) (x : List Nat) : (s.putPoison x).chimeq = s.chimeq := rfl
@[simp] theorem State.putPoison_clusters (s : State) (x : List Nat) : (s.putPoison x).clusters = s.clusters := rfl
@[simp] theorem State.putPoison_bushels (s : State) (x : List Nat) : (s.putPoison x).bushels = s.bushels := rfl
@[simp] theorem State.putPoison_parked (s : State) (x : List Nat) : (s.putPoison x).parked = s.parked := rfl
@[simp] theorem State.putPoison_groups (s : State) (x : List Nat) : (s.putPoison x).groups = s.groups := rfl
@[simp] theorem State.putPoison_colls (s : State) (x : List Nat) : (s.putPoison x).colls = s.colls := rfl
@[simp] theorem State.putPoison_sw (s : State) (x : List Nat) : (s.putPoison x).sw = s.sw := rfl
@[simp] theorem State.putPoison_route (s : State) (x : List Nat) : (s.putPoison x).route = s.route := rfl
@[simp] theorem State.putPoison_links (s : State) (x : List Nat) : (s.putPoison x).links = s.links := rfl
@[simp] theorem State.putPoison_acv (s : State) (x : List Nat) : (s.putPoison x).acv = s.acv := rfl
@[simp] theorem State.putPoison_comps (s : State) (x : List Nat) : (s.putPoison x).comps = s.comps := rfl
@[simp] theorem State.putPoison_poolq (s : State) (x : List Nat) : (s.putPoison x).poolq = s.poolq := rfl
@[simp] theorem State.putPoison_faults (s : State) (x : List Nat) : (s.putPoison x).faults = s.faults := rfl
@[simp] theorem State.putPoison_inj (s : State) (x : List Nat) : (s.putPoison x).inj = s.inj := rfl
@[simp] theorem State.putPoison_score (s : State) (x : List Nat) : (s.putPoison x).score = s.score := rfl
@[simp] theorem State.putPoison_ride (s : State) (x : List Nat) : (s.putPoison x).ride = s.ride := rfl
@[simp] theorem State.putPoison_ckpt (s : State) (x : List Nat) : (s.putPoison x).ckpt = s.ckpt := rfl
@[simp] theorem State.putPoison_boot (s : State) (x : List Nat) : (s.putPoison x).boot = s.boot := rfl
@[simp] theorem State.putPoison_out (s : State) (x : List Nat) : (s.putPoison x).out = s.out := rfl
@[simp] theorem State.putPoison_delivered (s : State) (x : List Nat) : (s.putPoison x).delivered = s.delivered := rfl

/-! ### putSoft -/

@[simp] theorem State.putSoft_soft (s : State) (x : List Nat) : (s.putSoft x).soft = x := rfl
@[simp] theorem State.putSoft_pending (s : State) (x : List Nat) : (s.putSoft x).pending = s.pending := rfl
@[simp] theorem State.putSoft_regs (s : State) (x : List Nat) : (s.putSoft x).regs = s.regs := rfl
@[simp] theorem State.putSoft_fresh (s : State) (x : List Nat) : (s.putSoft x).fresh = s.fresh := rfl
@[simp] theorem State.putSoft_mem (s : State) (x : List Nat) : (s.putSoft x).mem = s.mem := rfl
@[simp] theorem State.putSoft_poison (s : State) (x : List Nat) : (s.putSoft x).poison = s.poison := rfl
@[simp] theorem State.putSoft_tags (s : State) (x : List Nat) : (s.putSoft x).tags = s.tags := rfl
@[simp] theorem State.putSoft_host (s : State) (x : List Nat) : (s.putSoft x).host = s.host := rfl
@[simp] theorem State.putSoft_nvme (s : State) (x : List Nat) : (s.putSoft x).nvme = s.nvme := rfl
@[simp] theorem State.putSoft_flash (s : State) (x : List Nat) : (s.putSoft x).flash = s.flash := rfl
@[simp] theorem State.putSoft_ck (s : State) (x : List Nat) : (s.putSoft x).ck = s.ck := rfl
@[simp] theorem State.putSoft_mgmt (s : State) (x : List Nat) : (s.putSoft x).mgmt = s.mgmt := rfl
@[simp] theorem State.putSoft_draws (s : State) (x : List Nat) : (s.putSoft x).draws = s.draws := rfl
@[simp] theorem State.putSoft_pins (s : State) (x : List Nat) : (s.putSoft x).pins = s.pins := rfl
@[simp] theorem State.putSoft_gov (s : State) (x : List Nat) : (s.putSoft x).gov = s.gov := rfl
@[simp] theorem State.putSoft_tollU (s : State) (x : List Nat) : (s.putSoft x).tollU = s.tollU := rfl
@[simp] theorem State.putSoft_beatU (s : State) (x : List Nat) : (s.putSoft x).beatU = s.beatU := rfl
@[simp] theorem State.putSoft_probe (s : State) (x : List Nat) : (s.putSoft x).probe = s.probe := rfl
@[simp] theorem State.putSoft_chimes (s : State) (x : List Nat) : (s.putSoft x).chimes = s.chimes := rfl
@[simp] theorem State.putSoft_chimeq (s : State) (x : List Nat) : (s.putSoft x).chimeq = s.chimeq := rfl
@[simp] theorem State.putSoft_clusters (s : State) (x : List Nat) : (s.putSoft x).clusters = s.clusters := rfl
@[simp] theorem State.putSoft_bushels (s : State) (x : List Nat) : (s.putSoft x).bushels = s.bushels := rfl
@[simp] theorem State.putSoft_parked (s : State) (x : List Nat) : (s.putSoft x).parked = s.parked := rfl
@[simp] theorem State.putSoft_groups (s : State) (x : List Nat) : (s.putSoft x).groups = s.groups := rfl
@[simp] theorem State.putSoft_colls (s : State) (x : List Nat) : (s.putSoft x).colls = s.colls := rfl
@[simp] theorem State.putSoft_sw (s : State) (x : List Nat) : (s.putSoft x).sw = s.sw := rfl
@[simp] theorem State.putSoft_route (s : State) (x : List Nat) : (s.putSoft x).route = s.route := rfl
@[simp] theorem State.putSoft_links (s : State) (x : List Nat) : (s.putSoft x).links = s.links := rfl
@[simp] theorem State.putSoft_acv (s : State) (x : List Nat) : (s.putSoft x).acv = s.acv := rfl
@[simp] theorem State.putSoft_comps (s : State) (x : List Nat) : (s.putSoft x).comps = s.comps := rfl
@[simp] theorem State.putSoft_poolq (s : State) (x : List Nat) : (s.putSoft x).poolq = s.poolq := rfl
@[simp] theorem State.putSoft_faults (s : State) (x : List Nat) : (s.putSoft x).faults = s.faults := rfl
@[simp] theorem State.putSoft_inj (s : State) (x : List Nat) : (s.putSoft x).inj = s.inj := rfl
@[simp] theorem State.putSoft_score (s : State) (x : List Nat) : (s.putSoft x).score = s.score := rfl
@[simp] theorem State.putSoft_ride (s : State) (x : List Nat) : (s.putSoft x).ride = s.ride := rfl
@[simp] theorem State.putSoft_ckpt (s : State) (x : List Nat) : (s.putSoft x).ckpt = s.ckpt := rfl
@[simp] theorem State.putSoft_boot (s : State) (x : List Nat) : (s.putSoft x).boot = s.boot := rfl
@[simp] theorem State.putSoft_out (s : State) (x : List Nat) : (s.putSoft x).out = s.out := rfl
@[simp] theorem State.putSoft_delivered (s : State) (x : List Nat) : (s.putSoft x).delivered = s.delivered := rfl

/-! ### putTags -/

@[simp] theorem State.putTags_tags (s : State) (x : Tab Nat) : (s.putTags x).tags = x := rfl
@[simp] theorem State.putTags_pending (s : State) (x : Tab Nat) : (s.putTags x).pending = s.pending := rfl
@[simp] theorem State.putTags_regs (s : State) (x : Tab Nat) : (s.putTags x).regs = s.regs := rfl
@[simp] theorem State.putTags_fresh (s : State) (x : Tab Nat) : (s.putTags x).fresh = s.fresh := rfl
@[simp] theorem State.putTags_mem (s : State) (x : Tab Nat) : (s.putTags x).mem = s.mem := rfl
@[simp] theorem State.putTags_poison (s : State) (x : Tab Nat) : (s.putTags x).poison = s.poison := rfl
@[simp] theorem State.putTags_soft (s : State) (x : Tab Nat) : (s.putTags x).soft = s.soft := rfl
@[simp] theorem State.putTags_host (s : State) (x : Tab Nat) : (s.putTags x).host = s.host := rfl
@[simp] theorem State.putTags_nvme (s : State) (x : Tab Nat) : (s.putTags x).nvme = s.nvme := rfl
@[simp] theorem State.putTags_flash (s : State) (x : Tab Nat) : (s.putTags x).flash = s.flash := rfl
@[simp] theorem State.putTags_ck (s : State) (x : Tab Nat) : (s.putTags x).ck = s.ck := rfl
@[simp] theorem State.putTags_mgmt (s : State) (x : Tab Nat) : (s.putTags x).mgmt = s.mgmt := rfl
@[simp] theorem State.putTags_draws (s : State) (x : Tab Nat) : (s.putTags x).draws = s.draws := rfl
@[simp] theorem State.putTags_pins (s : State) (x : Tab Nat) : (s.putTags x).pins = s.pins := rfl
@[simp] theorem State.putTags_gov (s : State) (x : Tab Nat) : (s.putTags x).gov = s.gov := rfl
@[simp] theorem State.putTags_tollU (s : State) (x : Tab Nat) : (s.putTags x).tollU = s.tollU := rfl
@[simp] theorem State.putTags_beatU (s : State) (x : Tab Nat) : (s.putTags x).beatU = s.beatU := rfl
@[simp] theorem State.putTags_probe (s : State) (x : Tab Nat) : (s.putTags x).probe = s.probe := rfl
@[simp] theorem State.putTags_chimes (s : State) (x : Tab Nat) : (s.putTags x).chimes = s.chimes := rfl
@[simp] theorem State.putTags_chimeq (s : State) (x : Tab Nat) : (s.putTags x).chimeq = s.chimeq := rfl
@[simp] theorem State.putTags_clusters (s : State) (x : Tab Nat) : (s.putTags x).clusters = s.clusters := rfl
@[simp] theorem State.putTags_bushels (s : State) (x : Tab Nat) : (s.putTags x).bushels = s.bushels := rfl
@[simp] theorem State.putTags_parked (s : State) (x : Tab Nat) : (s.putTags x).parked = s.parked := rfl
@[simp] theorem State.putTags_groups (s : State) (x : Tab Nat) : (s.putTags x).groups = s.groups := rfl
@[simp] theorem State.putTags_colls (s : State) (x : Tab Nat) : (s.putTags x).colls = s.colls := rfl
@[simp] theorem State.putTags_sw (s : State) (x : Tab Nat) : (s.putTags x).sw = s.sw := rfl
@[simp] theorem State.putTags_route (s : State) (x : Tab Nat) : (s.putTags x).route = s.route := rfl
@[simp] theorem State.putTags_links (s : State) (x : Tab Nat) : (s.putTags x).links = s.links := rfl
@[simp] theorem State.putTags_acv (s : State) (x : Tab Nat) : (s.putTags x).acv = s.acv := rfl
@[simp] theorem State.putTags_comps (s : State) (x : Tab Nat) : (s.putTags x).comps = s.comps := rfl
@[simp] theorem State.putTags_poolq (s : State) (x : Tab Nat) : (s.putTags x).poolq = s.poolq := rfl
@[simp] theorem State.putTags_faults (s : State) (x : Tab Nat) : (s.putTags x).faults = s.faults := rfl
@[simp] theorem State.putTags_inj (s : State) (x : Tab Nat) : (s.putTags x).inj = s.inj := rfl
@[simp] theorem State.putTags_score (s : State) (x : Tab Nat) : (s.putTags x).score = s.score := rfl
@[simp] theorem State.putTags_ride (s : State) (x : Tab Nat) : (s.putTags x).ride = s.ride := rfl
@[simp] theorem State.putTags_ckpt (s : State) (x : Tab Nat) : (s.putTags x).ckpt = s.ckpt := rfl
@[simp] theorem State.putTags_boot (s : State) (x : Tab Nat) : (s.putTags x).boot = s.boot := rfl
@[simp] theorem State.putTags_out (s : State) (x : Tab Nat) : (s.putTags x).out = s.out := rfl
@[simp] theorem State.putTags_delivered (s : State) (x : Tab Nat) : (s.putTags x).delivered = s.delivered := rfl

/-! ### putHost -/

@[simp] theorem State.putHost_host (s : State) (x : List Host.Cell) : (s.putHost x).host = x := rfl
@[simp] theorem State.putHost_pending (s : State) (x : List Host.Cell) : (s.putHost x).pending = s.pending := rfl
@[simp] theorem State.putHost_regs (s : State) (x : List Host.Cell) : (s.putHost x).regs = s.regs := rfl
@[simp] theorem State.putHost_fresh (s : State) (x : List Host.Cell) : (s.putHost x).fresh = s.fresh := rfl
@[simp] theorem State.putHost_mem (s : State) (x : List Host.Cell) : (s.putHost x).mem = s.mem := rfl
@[simp] theorem State.putHost_poison (s : State) (x : List Host.Cell) : (s.putHost x).poison = s.poison := rfl
@[simp] theorem State.putHost_soft (s : State) (x : List Host.Cell) : (s.putHost x).soft = s.soft := rfl
@[simp] theorem State.putHost_tags (s : State) (x : List Host.Cell) : (s.putHost x).tags = s.tags := rfl
@[simp] theorem State.putHost_nvme (s : State) (x : List Host.Cell) : (s.putHost x).nvme = s.nvme := rfl
@[simp] theorem State.putHost_flash (s : State) (x : List Host.Cell) : (s.putHost x).flash = s.flash := rfl
@[simp] theorem State.putHost_ck (s : State) (x : List Host.Cell) : (s.putHost x).ck = s.ck := rfl
@[simp] theorem State.putHost_mgmt (s : State) (x : List Host.Cell) : (s.putHost x).mgmt = s.mgmt := rfl
@[simp] theorem State.putHost_draws (s : State) (x : List Host.Cell) : (s.putHost x).draws = s.draws := rfl
@[simp] theorem State.putHost_pins (s : State) (x : List Host.Cell) : (s.putHost x).pins = s.pins := rfl
@[simp] theorem State.putHost_gov (s : State) (x : List Host.Cell) : (s.putHost x).gov = s.gov := rfl
@[simp] theorem State.putHost_tollU (s : State) (x : List Host.Cell) : (s.putHost x).tollU = s.tollU := rfl
@[simp] theorem State.putHost_beatU (s : State) (x : List Host.Cell) : (s.putHost x).beatU = s.beatU := rfl
@[simp] theorem State.putHost_probe (s : State) (x : List Host.Cell) : (s.putHost x).probe = s.probe := rfl
@[simp] theorem State.putHost_chimes (s : State) (x : List Host.Cell) : (s.putHost x).chimes = s.chimes := rfl
@[simp] theorem State.putHost_chimeq (s : State) (x : List Host.Cell) : (s.putHost x).chimeq = s.chimeq := rfl
@[simp] theorem State.putHost_clusters (s : State) (x : List Host.Cell) : (s.putHost x).clusters = s.clusters := rfl
@[simp] theorem State.putHost_bushels (s : State) (x : List Host.Cell) : (s.putHost x).bushels = s.bushels := rfl
@[simp] theorem State.putHost_parked (s : State) (x : List Host.Cell) : (s.putHost x).parked = s.parked := rfl
@[simp] theorem State.putHost_groups (s : State) (x : List Host.Cell) : (s.putHost x).groups = s.groups := rfl
@[simp] theorem State.putHost_colls (s : State) (x : List Host.Cell) : (s.putHost x).colls = s.colls := rfl
@[simp] theorem State.putHost_sw (s : State) (x : List Host.Cell) : (s.putHost x).sw = s.sw := rfl
@[simp] theorem State.putHost_route (s : State) (x : List Host.Cell) : (s.putHost x).route = s.route := rfl
@[simp] theorem State.putHost_links (s : State) (x : List Host.Cell) : (s.putHost x).links = s.links := rfl
@[simp] theorem State.putHost_acv (s : State) (x : List Host.Cell) : (s.putHost x).acv = s.acv := rfl
@[simp] theorem State.putHost_comps (s : State) (x : List Host.Cell) : (s.putHost x).comps = s.comps := rfl
@[simp] theorem State.putHost_poolq (s : State) (x : List Host.Cell) : (s.putHost x).poolq = s.poolq := rfl
@[simp] theorem State.putHost_faults (s : State) (x : List Host.Cell) : (s.putHost x).faults = s.faults := rfl
@[simp] theorem State.putHost_inj (s : State) (x : List Host.Cell) : (s.putHost x).inj = s.inj := rfl
@[simp] theorem State.putHost_score (s : State) (x : List Host.Cell) : (s.putHost x).score = s.score := rfl
@[simp] theorem State.putHost_ride (s : State) (x : List Host.Cell) : (s.putHost x).ride = s.ride := rfl
@[simp] theorem State.putHost_ckpt (s : State) (x : List Host.Cell) : (s.putHost x).ckpt = s.ckpt := rfl
@[simp] theorem State.putHost_boot (s : State) (x : List Host.Cell) : (s.putHost x).boot = s.boot := rfl
@[simp] theorem State.putHost_out (s : State) (x : List Host.Cell) : (s.putHost x).out = s.out := rfl
@[simp] theorem State.putHost_delivered (s : State) (x : List Host.Cell) : (s.putHost x).delivered = s.delivered := rfl

/-! ### putNvme -/

@[simp] theorem State.putNvme_nvme (s : State) (x : List Host.Cell) : (s.putNvme x).nvme = x := rfl
@[simp] theorem State.putNvme_pending (s : State) (x : List Host.Cell) : (s.putNvme x).pending = s.pending := rfl
@[simp] theorem State.putNvme_regs (s : State) (x : List Host.Cell) : (s.putNvme x).regs = s.regs := rfl
@[simp] theorem State.putNvme_fresh (s : State) (x : List Host.Cell) : (s.putNvme x).fresh = s.fresh := rfl
@[simp] theorem State.putNvme_mem (s : State) (x : List Host.Cell) : (s.putNvme x).mem = s.mem := rfl
@[simp] theorem State.putNvme_poison (s : State) (x : List Host.Cell) : (s.putNvme x).poison = s.poison := rfl
@[simp] theorem State.putNvme_soft (s : State) (x : List Host.Cell) : (s.putNvme x).soft = s.soft := rfl
@[simp] theorem State.putNvme_tags (s : State) (x : List Host.Cell) : (s.putNvme x).tags = s.tags := rfl
@[simp] theorem State.putNvme_host (s : State) (x : List Host.Cell) : (s.putNvme x).host = s.host := rfl
@[simp] theorem State.putNvme_flash (s : State) (x : List Host.Cell) : (s.putNvme x).flash = s.flash := rfl
@[simp] theorem State.putNvme_ck (s : State) (x : List Host.Cell) : (s.putNvme x).ck = s.ck := rfl
@[simp] theorem State.putNvme_mgmt (s : State) (x : List Host.Cell) : (s.putNvme x).mgmt = s.mgmt := rfl
@[simp] theorem State.putNvme_draws (s : State) (x : List Host.Cell) : (s.putNvme x).draws = s.draws := rfl
@[simp] theorem State.putNvme_pins (s : State) (x : List Host.Cell) : (s.putNvme x).pins = s.pins := rfl
@[simp] theorem State.putNvme_gov (s : State) (x : List Host.Cell) : (s.putNvme x).gov = s.gov := rfl
@[simp] theorem State.putNvme_tollU (s : State) (x : List Host.Cell) : (s.putNvme x).tollU = s.tollU := rfl
@[simp] theorem State.putNvme_beatU (s : State) (x : List Host.Cell) : (s.putNvme x).beatU = s.beatU := rfl
@[simp] theorem State.putNvme_probe (s : State) (x : List Host.Cell) : (s.putNvme x).probe = s.probe := rfl
@[simp] theorem State.putNvme_chimes (s : State) (x : List Host.Cell) : (s.putNvme x).chimes = s.chimes := rfl
@[simp] theorem State.putNvme_chimeq (s : State) (x : List Host.Cell) : (s.putNvme x).chimeq = s.chimeq := rfl
@[simp] theorem State.putNvme_clusters (s : State) (x : List Host.Cell) : (s.putNvme x).clusters = s.clusters := rfl
@[simp] theorem State.putNvme_bushels (s : State) (x : List Host.Cell) : (s.putNvme x).bushels = s.bushels := rfl
@[simp] theorem State.putNvme_parked (s : State) (x : List Host.Cell) : (s.putNvme x).parked = s.parked := rfl
@[simp] theorem State.putNvme_groups (s : State) (x : List Host.Cell) : (s.putNvme x).groups = s.groups := rfl
@[simp] theorem State.putNvme_colls (s : State) (x : List Host.Cell) : (s.putNvme x).colls = s.colls := rfl
@[simp] theorem State.putNvme_sw (s : State) (x : List Host.Cell) : (s.putNvme x).sw = s.sw := rfl
@[simp] theorem State.putNvme_route (s : State) (x : List Host.Cell) : (s.putNvme x).route = s.route := rfl
@[simp] theorem State.putNvme_links (s : State) (x : List Host.Cell) : (s.putNvme x).links = s.links := rfl
@[simp] theorem State.putNvme_acv (s : State) (x : List Host.Cell) : (s.putNvme x).acv = s.acv := rfl
@[simp] theorem State.putNvme_comps (s : State) (x : List Host.Cell) : (s.putNvme x).comps = s.comps := rfl
@[simp] theorem State.putNvme_poolq (s : State) (x : List Host.Cell) : (s.putNvme x).poolq = s.poolq := rfl
@[simp] theorem State.putNvme_faults (s : State) (x : List Host.Cell) : (s.putNvme x).faults = s.faults := rfl
@[simp] theorem State.putNvme_inj (s : State) (x : List Host.Cell) : (s.putNvme x).inj = s.inj := rfl
@[simp] theorem State.putNvme_score (s : State) (x : List Host.Cell) : (s.putNvme x).score = s.score := rfl
@[simp] theorem State.putNvme_ride (s : State) (x : List Host.Cell) : (s.putNvme x).ride = s.ride := rfl
@[simp] theorem State.putNvme_ckpt (s : State) (x : List Host.Cell) : (s.putNvme x).ckpt = s.ckpt := rfl
@[simp] theorem State.putNvme_boot (s : State) (x : List Host.Cell) : (s.putNvme x).boot = s.boot := rfl
@[simp] theorem State.putNvme_out (s : State) (x : List Host.Cell) : (s.putNvme x).out = s.out := rfl
@[simp] theorem State.putNvme_delivered (s : State) (x : List Host.Cell) : (s.putNvme x).delivered = s.delivered := rfl

/-! ### putFlash -/

@[simp] theorem State.putFlash_flash (s : State) (x : List Host.Cell) : (s.putFlash x).flash = x := rfl
@[simp] theorem State.putFlash_pending (s : State) (x : List Host.Cell) : (s.putFlash x).pending = s.pending := rfl
@[simp] theorem State.putFlash_regs (s : State) (x : List Host.Cell) : (s.putFlash x).regs = s.regs := rfl
@[simp] theorem State.putFlash_fresh (s : State) (x : List Host.Cell) : (s.putFlash x).fresh = s.fresh := rfl
@[simp] theorem State.putFlash_mem (s : State) (x : List Host.Cell) : (s.putFlash x).mem = s.mem := rfl
@[simp] theorem State.putFlash_poison (s : State) (x : List Host.Cell) : (s.putFlash x).poison = s.poison := rfl
@[simp] theorem State.putFlash_soft (s : State) (x : List Host.Cell) : (s.putFlash x).soft = s.soft := rfl
@[simp] theorem State.putFlash_tags (s : State) (x : List Host.Cell) : (s.putFlash x).tags = s.tags := rfl
@[simp] theorem State.putFlash_host (s : State) (x : List Host.Cell) : (s.putFlash x).host = s.host := rfl
@[simp] theorem State.putFlash_nvme (s : State) (x : List Host.Cell) : (s.putFlash x).nvme = s.nvme := rfl
@[simp] theorem State.putFlash_ck (s : State) (x : List Host.Cell) : (s.putFlash x).ck = s.ck := rfl
@[simp] theorem State.putFlash_mgmt (s : State) (x : List Host.Cell) : (s.putFlash x).mgmt = s.mgmt := rfl
@[simp] theorem State.putFlash_draws (s : State) (x : List Host.Cell) : (s.putFlash x).draws = s.draws := rfl
@[simp] theorem State.putFlash_pins (s : State) (x : List Host.Cell) : (s.putFlash x).pins = s.pins := rfl
@[simp] theorem State.putFlash_gov (s : State) (x : List Host.Cell) : (s.putFlash x).gov = s.gov := rfl
@[simp] theorem State.putFlash_tollU (s : State) (x : List Host.Cell) : (s.putFlash x).tollU = s.tollU := rfl
@[simp] theorem State.putFlash_beatU (s : State) (x : List Host.Cell) : (s.putFlash x).beatU = s.beatU := rfl
@[simp] theorem State.putFlash_probe (s : State) (x : List Host.Cell) : (s.putFlash x).probe = s.probe := rfl
@[simp] theorem State.putFlash_chimes (s : State) (x : List Host.Cell) : (s.putFlash x).chimes = s.chimes := rfl
@[simp] theorem State.putFlash_chimeq (s : State) (x : List Host.Cell) : (s.putFlash x).chimeq = s.chimeq := rfl
@[simp] theorem State.putFlash_clusters (s : State) (x : List Host.Cell) : (s.putFlash x).clusters = s.clusters := rfl
@[simp] theorem State.putFlash_bushels (s : State) (x : List Host.Cell) : (s.putFlash x).bushels = s.bushels := rfl
@[simp] theorem State.putFlash_parked (s : State) (x : List Host.Cell) : (s.putFlash x).parked = s.parked := rfl
@[simp] theorem State.putFlash_groups (s : State) (x : List Host.Cell) : (s.putFlash x).groups = s.groups := rfl
@[simp] theorem State.putFlash_colls (s : State) (x : List Host.Cell) : (s.putFlash x).colls = s.colls := rfl
@[simp] theorem State.putFlash_sw (s : State) (x : List Host.Cell) : (s.putFlash x).sw = s.sw := rfl
@[simp] theorem State.putFlash_route (s : State) (x : List Host.Cell) : (s.putFlash x).route = s.route := rfl
@[simp] theorem State.putFlash_links (s : State) (x : List Host.Cell) : (s.putFlash x).links = s.links := rfl
@[simp] theorem State.putFlash_acv (s : State) (x : List Host.Cell) : (s.putFlash x).acv = s.acv := rfl
@[simp] theorem State.putFlash_comps (s : State) (x : List Host.Cell) : (s.putFlash x).comps = s.comps := rfl
@[simp] theorem State.putFlash_poolq (s : State) (x : List Host.Cell) : (s.putFlash x).poolq = s.poolq := rfl
@[simp] theorem State.putFlash_faults (s : State) (x : List Host.Cell) : (s.putFlash x).faults = s.faults := rfl
@[simp] theorem State.putFlash_inj (s : State) (x : List Host.Cell) : (s.putFlash x).inj = s.inj := rfl
@[simp] theorem State.putFlash_score (s : State) (x : List Host.Cell) : (s.putFlash x).score = s.score := rfl
@[simp] theorem State.putFlash_ride (s : State) (x : List Host.Cell) : (s.putFlash x).ride = s.ride := rfl
@[simp] theorem State.putFlash_ckpt (s : State) (x : List Host.Cell) : (s.putFlash x).ckpt = s.ckpt := rfl
@[simp] theorem State.putFlash_boot (s : State) (x : List Host.Cell) : (s.putFlash x).boot = s.boot := rfl
@[simp] theorem State.putFlash_out (s : State) (x : List Host.Cell) : (s.putFlash x).out = s.out := rfl
@[simp] theorem State.putFlash_delivered (s : State) (x : List Host.Cell) : (s.putFlash x).delivered = s.delivered := rfl

/-! ### putCk -/

@[simp] theorem State.putCk_ck (s : State) (x : Nat) : (s.putCk x).ck = x := rfl
@[simp] theorem State.putCk_pending (s : State) (x : Nat) : (s.putCk x).pending = s.pending := rfl
@[simp] theorem State.putCk_regs (s : State) (x : Nat) : (s.putCk x).regs = s.regs := rfl
@[simp] theorem State.putCk_fresh (s : State) (x : Nat) : (s.putCk x).fresh = s.fresh := rfl
@[simp] theorem State.putCk_mem (s : State) (x : Nat) : (s.putCk x).mem = s.mem := rfl
@[simp] theorem State.putCk_poison (s : State) (x : Nat) : (s.putCk x).poison = s.poison := rfl
@[simp] theorem State.putCk_soft (s : State) (x : Nat) : (s.putCk x).soft = s.soft := rfl
@[simp] theorem State.putCk_tags (s : State) (x : Nat) : (s.putCk x).tags = s.tags := rfl
@[simp] theorem State.putCk_host (s : State) (x : Nat) : (s.putCk x).host = s.host := rfl
@[simp] theorem State.putCk_nvme (s : State) (x : Nat) : (s.putCk x).nvme = s.nvme := rfl
@[simp] theorem State.putCk_flash (s : State) (x : Nat) : (s.putCk x).flash = s.flash := rfl
@[simp] theorem State.putCk_mgmt (s : State) (x : Nat) : (s.putCk x).mgmt = s.mgmt := rfl
@[simp] theorem State.putCk_draws (s : State) (x : Nat) : (s.putCk x).draws = s.draws := rfl
@[simp] theorem State.putCk_pins (s : State) (x : Nat) : (s.putCk x).pins = s.pins := rfl
@[simp] theorem State.putCk_gov (s : State) (x : Nat) : (s.putCk x).gov = s.gov := rfl
@[simp] theorem State.putCk_tollU (s : State) (x : Nat) : (s.putCk x).tollU = s.tollU := rfl
@[simp] theorem State.putCk_beatU (s : State) (x : Nat) : (s.putCk x).beatU = s.beatU := rfl
@[simp] theorem State.putCk_probe (s : State) (x : Nat) : (s.putCk x).probe = s.probe := rfl
@[simp] theorem State.putCk_chimes (s : State) (x : Nat) : (s.putCk x).chimes = s.chimes := rfl
@[simp] theorem State.putCk_chimeq (s : State) (x : Nat) : (s.putCk x).chimeq = s.chimeq := rfl
@[simp] theorem State.putCk_clusters (s : State) (x : Nat) : (s.putCk x).clusters = s.clusters := rfl
@[simp] theorem State.putCk_bushels (s : State) (x : Nat) : (s.putCk x).bushels = s.bushels := rfl
@[simp] theorem State.putCk_parked (s : State) (x : Nat) : (s.putCk x).parked = s.parked := rfl
@[simp] theorem State.putCk_groups (s : State) (x : Nat) : (s.putCk x).groups = s.groups := rfl
@[simp] theorem State.putCk_colls (s : State) (x : Nat) : (s.putCk x).colls = s.colls := rfl
@[simp] theorem State.putCk_sw (s : State) (x : Nat) : (s.putCk x).sw = s.sw := rfl
@[simp] theorem State.putCk_route (s : State) (x : Nat) : (s.putCk x).route = s.route := rfl
@[simp] theorem State.putCk_links (s : State) (x : Nat) : (s.putCk x).links = s.links := rfl
@[simp] theorem State.putCk_acv (s : State) (x : Nat) : (s.putCk x).acv = s.acv := rfl
@[simp] theorem State.putCk_comps (s : State) (x : Nat) : (s.putCk x).comps = s.comps := rfl
@[simp] theorem State.putCk_poolq (s : State) (x : Nat) : (s.putCk x).poolq = s.poolq := rfl
@[simp] theorem State.putCk_faults (s : State) (x : Nat) : (s.putCk x).faults = s.faults := rfl
@[simp] theorem State.putCk_inj (s : State) (x : Nat) : (s.putCk x).inj = s.inj := rfl
@[simp] theorem State.putCk_score (s : State) (x : Nat) : (s.putCk x).score = s.score := rfl
@[simp] theorem State.putCk_ride (s : State) (x : Nat) : (s.putCk x).ride = s.ride := rfl
@[simp] theorem State.putCk_ckpt (s : State) (x : Nat) : (s.putCk x).ckpt = s.ckpt := rfl
@[simp] theorem State.putCk_boot (s : State) (x : Nat) : (s.putCk x).boot = s.boot := rfl
@[simp] theorem State.putCk_out (s : State) (x : Nat) : (s.putCk x).out = s.out := rfl
@[simp] theorem State.putCk_delivered (s : State) (x : Nat) : (s.putCk x).delivered = s.delivered := rfl

/-! ### putMgmt -/

@[simp] theorem State.putMgmt_mgmt (s : State) (x : Nat) : (s.putMgmt x).mgmt = x := rfl
@[simp] theorem State.putMgmt_pending (s : State) (x : Nat) : (s.putMgmt x).pending = s.pending := rfl
@[simp] theorem State.putMgmt_regs (s : State) (x : Nat) : (s.putMgmt x).regs = s.regs := rfl
@[simp] theorem State.putMgmt_fresh (s : State) (x : Nat) : (s.putMgmt x).fresh = s.fresh := rfl
@[simp] theorem State.putMgmt_mem (s : State) (x : Nat) : (s.putMgmt x).mem = s.mem := rfl
@[simp] theorem State.putMgmt_poison (s : State) (x : Nat) : (s.putMgmt x).poison = s.poison := rfl
@[simp] theorem State.putMgmt_soft (s : State) (x : Nat) : (s.putMgmt x).soft = s.soft := rfl
@[simp] theorem State.putMgmt_tags (s : State) (x : Nat) : (s.putMgmt x).tags = s.tags := rfl
@[simp] theorem State.putMgmt_host (s : State) (x : Nat) : (s.putMgmt x).host = s.host := rfl
@[simp] theorem State.putMgmt_nvme (s : State) (x : Nat) : (s.putMgmt x).nvme = s.nvme := rfl
@[simp] theorem State.putMgmt_flash (s : State) (x : Nat) : (s.putMgmt x).flash = s.flash := rfl
@[simp] theorem State.putMgmt_ck (s : State) (x : Nat) : (s.putMgmt x).ck = s.ck := rfl
@[simp] theorem State.putMgmt_draws (s : State) (x : Nat) : (s.putMgmt x).draws = s.draws := rfl
@[simp] theorem State.putMgmt_pins (s : State) (x : Nat) : (s.putMgmt x).pins = s.pins := rfl
@[simp] theorem State.putMgmt_gov (s : State) (x : Nat) : (s.putMgmt x).gov = s.gov := rfl
@[simp] theorem State.putMgmt_tollU (s : State) (x : Nat) : (s.putMgmt x).tollU = s.tollU := rfl
@[simp] theorem State.putMgmt_beatU (s : State) (x : Nat) : (s.putMgmt x).beatU = s.beatU := rfl
@[simp] theorem State.putMgmt_probe (s : State) (x : Nat) : (s.putMgmt x).probe = s.probe := rfl
@[simp] theorem State.putMgmt_chimes (s : State) (x : Nat) : (s.putMgmt x).chimes = s.chimes := rfl
@[simp] theorem State.putMgmt_chimeq (s : State) (x : Nat) : (s.putMgmt x).chimeq = s.chimeq := rfl
@[simp] theorem State.putMgmt_clusters (s : State) (x : Nat) : (s.putMgmt x).clusters = s.clusters := rfl
@[simp] theorem State.putMgmt_bushels (s : State) (x : Nat) : (s.putMgmt x).bushels = s.bushels := rfl
@[simp] theorem State.putMgmt_parked (s : State) (x : Nat) : (s.putMgmt x).parked = s.parked := rfl
@[simp] theorem State.putMgmt_groups (s : State) (x : Nat) : (s.putMgmt x).groups = s.groups := rfl
@[simp] theorem State.putMgmt_colls (s : State) (x : Nat) : (s.putMgmt x).colls = s.colls := rfl
@[simp] theorem State.putMgmt_sw (s : State) (x : Nat) : (s.putMgmt x).sw = s.sw := rfl
@[simp] theorem State.putMgmt_route (s : State) (x : Nat) : (s.putMgmt x).route = s.route := rfl
@[simp] theorem State.putMgmt_links (s : State) (x : Nat) : (s.putMgmt x).links = s.links := rfl
@[simp] theorem State.putMgmt_acv (s : State) (x : Nat) : (s.putMgmt x).acv = s.acv := rfl
@[simp] theorem State.putMgmt_comps (s : State) (x : Nat) : (s.putMgmt x).comps = s.comps := rfl
@[simp] theorem State.putMgmt_poolq (s : State) (x : Nat) : (s.putMgmt x).poolq = s.poolq := rfl
@[simp] theorem State.putMgmt_faults (s : State) (x : Nat) : (s.putMgmt x).faults = s.faults := rfl
@[simp] theorem State.putMgmt_inj (s : State) (x : Nat) : (s.putMgmt x).inj = s.inj := rfl
@[simp] theorem State.putMgmt_score (s : State) (x : Nat) : (s.putMgmt x).score = s.score := rfl
@[simp] theorem State.putMgmt_ride (s : State) (x : Nat) : (s.putMgmt x).ride = s.ride := rfl
@[simp] theorem State.putMgmt_ckpt (s : State) (x : Nat) : (s.putMgmt x).ckpt = s.ckpt := rfl
@[simp] theorem State.putMgmt_boot (s : State) (x : Nat) : (s.putMgmt x).boot = s.boot := rfl
@[simp] theorem State.putMgmt_out (s : State) (x : Nat) : (s.putMgmt x).out = s.out := rfl
@[simp] theorem State.putMgmt_delivered (s : State) (x : Nat) : (s.putMgmt x).delivered = s.delivered := rfl

/-! ### putDraws -/

@[simp] theorem State.putDraws_draws (s : State) (x : Nat) : (s.putDraws x).draws = x := rfl
@[simp] theorem State.putDraws_pending (s : State) (x : Nat) : (s.putDraws x).pending = s.pending := rfl
@[simp] theorem State.putDraws_regs (s : State) (x : Nat) : (s.putDraws x).regs = s.regs := rfl
@[simp] theorem State.putDraws_fresh (s : State) (x : Nat) : (s.putDraws x).fresh = s.fresh := rfl
@[simp] theorem State.putDraws_mem (s : State) (x : Nat) : (s.putDraws x).mem = s.mem := rfl
@[simp] theorem State.putDraws_poison (s : State) (x : Nat) : (s.putDraws x).poison = s.poison := rfl
@[simp] theorem State.putDraws_soft (s : State) (x : Nat) : (s.putDraws x).soft = s.soft := rfl
@[simp] theorem State.putDraws_tags (s : State) (x : Nat) : (s.putDraws x).tags = s.tags := rfl
@[simp] theorem State.putDraws_host (s : State) (x : Nat) : (s.putDraws x).host = s.host := rfl
@[simp] theorem State.putDraws_nvme (s : State) (x : Nat) : (s.putDraws x).nvme = s.nvme := rfl
@[simp] theorem State.putDraws_flash (s : State) (x : Nat) : (s.putDraws x).flash = s.flash := rfl
@[simp] theorem State.putDraws_ck (s : State) (x : Nat) : (s.putDraws x).ck = s.ck := rfl
@[simp] theorem State.putDraws_mgmt (s : State) (x : Nat) : (s.putDraws x).mgmt = s.mgmt := rfl
@[simp] theorem State.putDraws_pins (s : State) (x : Nat) : (s.putDraws x).pins = s.pins := rfl
@[simp] theorem State.putDraws_gov (s : State) (x : Nat) : (s.putDraws x).gov = s.gov := rfl
@[simp] theorem State.putDraws_tollU (s : State) (x : Nat) : (s.putDraws x).tollU = s.tollU := rfl
@[simp] theorem State.putDraws_beatU (s : State) (x : Nat) : (s.putDraws x).beatU = s.beatU := rfl
@[simp] theorem State.putDraws_probe (s : State) (x : Nat) : (s.putDraws x).probe = s.probe := rfl
@[simp] theorem State.putDraws_chimes (s : State) (x : Nat) : (s.putDraws x).chimes = s.chimes := rfl
@[simp] theorem State.putDraws_chimeq (s : State) (x : Nat) : (s.putDraws x).chimeq = s.chimeq := rfl
@[simp] theorem State.putDraws_clusters (s : State) (x : Nat) : (s.putDraws x).clusters = s.clusters := rfl
@[simp] theorem State.putDraws_bushels (s : State) (x : Nat) : (s.putDraws x).bushels = s.bushels := rfl
@[simp] theorem State.putDraws_parked (s : State) (x : Nat) : (s.putDraws x).parked = s.parked := rfl
@[simp] theorem State.putDraws_groups (s : State) (x : Nat) : (s.putDraws x).groups = s.groups := rfl
@[simp] theorem State.putDraws_colls (s : State) (x : Nat) : (s.putDraws x).colls = s.colls := rfl
@[simp] theorem State.putDraws_sw (s : State) (x : Nat) : (s.putDraws x).sw = s.sw := rfl
@[simp] theorem State.putDraws_route (s : State) (x : Nat) : (s.putDraws x).route = s.route := rfl
@[simp] theorem State.putDraws_links (s : State) (x : Nat) : (s.putDraws x).links = s.links := rfl
@[simp] theorem State.putDraws_acv (s : State) (x : Nat) : (s.putDraws x).acv = s.acv := rfl
@[simp] theorem State.putDraws_comps (s : State) (x : Nat) : (s.putDraws x).comps = s.comps := rfl
@[simp] theorem State.putDraws_poolq (s : State) (x : Nat) : (s.putDraws x).poolq = s.poolq := rfl
@[simp] theorem State.putDraws_faults (s : State) (x : Nat) : (s.putDraws x).faults = s.faults := rfl
@[simp] theorem State.putDraws_inj (s : State) (x : Nat) : (s.putDraws x).inj = s.inj := rfl
@[simp] theorem State.putDraws_score (s : State) (x : Nat) : (s.putDraws x).score = s.score := rfl
@[simp] theorem State.putDraws_ride (s : State) (x : Nat) : (s.putDraws x).ride = s.ride := rfl
@[simp] theorem State.putDraws_ckpt (s : State) (x : Nat) : (s.putDraws x).ckpt = s.ckpt := rfl
@[simp] theorem State.putDraws_boot (s : State) (x : Nat) : (s.putDraws x).boot = s.boot := rfl
@[simp] theorem State.putDraws_out (s : State) (x : Nat) : (s.putDraws x).out = s.out := rfl
@[simp] theorem State.putDraws_delivered (s : State) (x : Nat) : (s.putDraws x).delivered = s.delivered := rfl

/-! ### putPins -/

@[simp] theorem State.putPins_pins (s : State) (x : Pins) : (s.putPins x).pins = x := rfl
@[simp] theorem State.putPins_pending (s : State) (x : Pins) : (s.putPins x).pending = s.pending := rfl
@[simp] theorem State.putPins_regs (s : State) (x : Pins) : (s.putPins x).regs = s.regs := rfl
@[simp] theorem State.putPins_fresh (s : State) (x : Pins) : (s.putPins x).fresh = s.fresh := rfl
@[simp] theorem State.putPins_mem (s : State) (x : Pins) : (s.putPins x).mem = s.mem := rfl
@[simp] theorem State.putPins_poison (s : State) (x : Pins) : (s.putPins x).poison = s.poison := rfl
@[simp] theorem State.putPins_soft (s : State) (x : Pins) : (s.putPins x).soft = s.soft := rfl
@[simp] theorem State.putPins_tags (s : State) (x : Pins) : (s.putPins x).tags = s.tags := rfl
@[simp] theorem State.putPins_host (s : State) (x : Pins) : (s.putPins x).host = s.host := rfl
@[simp] theorem State.putPins_nvme (s : State) (x : Pins) : (s.putPins x).nvme = s.nvme := rfl
@[simp] theorem State.putPins_flash (s : State) (x : Pins) : (s.putPins x).flash = s.flash := rfl
@[simp] theorem State.putPins_ck (s : State) (x : Pins) : (s.putPins x).ck = s.ck := rfl
@[simp] theorem State.putPins_mgmt (s : State) (x : Pins) : (s.putPins x).mgmt = s.mgmt := rfl
@[simp] theorem State.putPins_draws (s : State) (x : Pins) : (s.putPins x).draws = s.draws := rfl
@[simp] theorem State.putPins_gov (s : State) (x : Pins) : (s.putPins x).gov = s.gov := rfl
@[simp] theorem State.putPins_tollU (s : State) (x : Pins) : (s.putPins x).tollU = s.tollU := rfl
@[simp] theorem State.putPins_beatU (s : State) (x : Pins) : (s.putPins x).beatU = s.beatU := rfl
@[simp] theorem State.putPins_probe (s : State) (x : Pins) : (s.putPins x).probe = s.probe := rfl
@[simp] theorem State.putPins_chimes (s : State) (x : Pins) : (s.putPins x).chimes = s.chimes := rfl
@[simp] theorem State.putPins_chimeq (s : State) (x : Pins) : (s.putPins x).chimeq = s.chimeq := rfl
@[simp] theorem State.putPins_clusters (s : State) (x : Pins) : (s.putPins x).clusters = s.clusters := rfl
@[simp] theorem State.putPins_bushels (s : State) (x : Pins) : (s.putPins x).bushels = s.bushels := rfl
@[simp] theorem State.putPins_parked (s : State) (x : Pins) : (s.putPins x).parked = s.parked := rfl
@[simp] theorem State.putPins_groups (s : State) (x : Pins) : (s.putPins x).groups = s.groups := rfl
@[simp] theorem State.putPins_colls (s : State) (x : Pins) : (s.putPins x).colls = s.colls := rfl
@[simp] theorem State.putPins_sw (s : State) (x : Pins) : (s.putPins x).sw = s.sw := rfl
@[simp] theorem State.putPins_route (s : State) (x : Pins) : (s.putPins x).route = s.route := rfl
@[simp] theorem State.putPins_links (s : State) (x : Pins) : (s.putPins x).links = s.links := rfl
@[simp] theorem State.putPins_acv (s : State) (x : Pins) : (s.putPins x).acv = s.acv := rfl
@[simp] theorem State.putPins_comps (s : State) (x : Pins) : (s.putPins x).comps = s.comps := rfl
@[simp] theorem State.putPins_poolq (s : State) (x : Pins) : (s.putPins x).poolq = s.poolq := rfl
@[simp] theorem State.putPins_faults (s : State) (x : Pins) : (s.putPins x).faults = s.faults := rfl
@[simp] theorem State.putPins_inj (s : State) (x : Pins) : (s.putPins x).inj = s.inj := rfl
@[simp] theorem State.putPins_score (s : State) (x : Pins) : (s.putPins x).score = s.score := rfl
@[simp] theorem State.putPins_ride (s : State) (x : Pins) : (s.putPins x).ride = s.ride := rfl
@[simp] theorem State.putPins_ckpt (s : State) (x : Pins) : (s.putPins x).ckpt = s.ckpt := rfl
@[simp] theorem State.putPins_boot (s : State) (x : Pins) : (s.putPins x).boot = s.boot := rfl
@[simp] theorem State.putPins_out (s : State) (x : Pins) : (s.putPins x).out = s.out := rfl
@[simp] theorem State.putPins_delivered (s : State) (x : Pins) : (s.putPins x).delivered = s.delivered := rfl

/-! ### putGov -/

@[simp] theorem State.putGov_gov (s : State) (x : Governor) : (s.putGov x).gov = x := rfl
@[simp] theorem State.putGov_pending (s : State) (x : Governor) : (s.putGov x).pending = s.pending := rfl
@[simp] theorem State.putGov_regs (s : State) (x : Governor) : (s.putGov x).regs = s.regs := rfl
@[simp] theorem State.putGov_fresh (s : State) (x : Governor) : (s.putGov x).fresh = s.fresh := rfl
@[simp] theorem State.putGov_mem (s : State) (x : Governor) : (s.putGov x).mem = s.mem := rfl
@[simp] theorem State.putGov_poison (s : State) (x : Governor) : (s.putGov x).poison = s.poison := rfl
@[simp] theorem State.putGov_soft (s : State) (x : Governor) : (s.putGov x).soft = s.soft := rfl
@[simp] theorem State.putGov_tags (s : State) (x : Governor) : (s.putGov x).tags = s.tags := rfl
@[simp] theorem State.putGov_host (s : State) (x : Governor) : (s.putGov x).host = s.host := rfl
@[simp] theorem State.putGov_nvme (s : State) (x : Governor) : (s.putGov x).nvme = s.nvme := rfl
@[simp] theorem State.putGov_flash (s : State) (x : Governor) : (s.putGov x).flash = s.flash := rfl
@[simp] theorem State.putGov_ck (s : State) (x : Governor) : (s.putGov x).ck = s.ck := rfl
@[simp] theorem State.putGov_mgmt (s : State) (x : Governor) : (s.putGov x).mgmt = s.mgmt := rfl
@[simp] theorem State.putGov_draws (s : State) (x : Governor) : (s.putGov x).draws = s.draws := rfl
@[simp] theorem State.putGov_pins (s : State) (x : Governor) : (s.putGov x).pins = s.pins := rfl
@[simp] theorem State.putGov_tollU (s : State) (x : Governor) : (s.putGov x).tollU = s.tollU := rfl
@[simp] theorem State.putGov_beatU (s : State) (x : Governor) : (s.putGov x).beatU = s.beatU := rfl
@[simp] theorem State.putGov_probe (s : State) (x : Governor) : (s.putGov x).probe = s.probe := rfl
@[simp] theorem State.putGov_chimes (s : State) (x : Governor) : (s.putGov x).chimes = s.chimes := rfl
@[simp] theorem State.putGov_chimeq (s : State) (x : Governor) : (s.putGov x).chimeq = s.chimeq := rfl
@[simp] theorem State.putGov_clusters (s : State) (x : Governor) : (s.putGov x).clusters = s.clusters := rfl
@[simp] theorem State.putGov_bushels (s : State) (x : Governor) : (s.putGov x).bushels = s.bushels := rfl
@[simp] theorem State.putGov_parked (s : State) (x : Governor) : (s.putGov x).parked = s.parked := rfl
@[simp] theorem State.putGov_groups (s : State) (x : Governor) : (s.putGov x).groups = s.groups := rfl
@[simp] theorem State.putGov_colls (s : State) (x : Governor) : (s.putGov x).colls = s.colls := rfl
@[simp] theorem State.putGov_sw (s : State) (x : Governor) : (s.putGov x).sw = s.sw := rfl
@[simp] theorem State.putGov_route (s : State) (x : Governor) : (s.putGov x).route = s.route := rfl
@[simp] theorem State.putGov_links (s : State) (x : Governor) : (s.putGov x).links = s.links := rfl
@[simp] theorem State.putGov_acv (s : State) (x : Governor) : (s.putGov x).acv = s.acv := rfl
@[simp] theorem State.putGov_comps (s : State) (x : Governor) : (s.putGov x).comps = s.comps := rfl
@[simp] theorem State.putGov_poolq (s : State) (x : Governor) : (s.putGov x).poolq = s.poolq := rfl
@[simp] theorem State.putGov_faults (s : State) (x : Governor) : (s.putGov x).faults = s.faults := rfl
@[simp] theorem State.putGov_inj (s : State) (x : Governor) : (s.putGov x).inj = s.inj := rfl
@[simp] theorem State.putGov_score (s : State) (x : Governor) : (s.putGov x).score = s.score := rfl
@[simp] theorem State.putGov_ride (s : State) (x : Governor) : (s.putGov x).ride = s.ride := rfl
@[simp] theorem State.putGov_ckpt (s : State) (x : Governor) : (s.putGov x).ckpt = s.ckpt := rfl
@[simp] theorem State.putGov_boot (s : State) (x : Governor) : (s.putGov x).boot = s.boot := rfl
@[simp] theorem State.putGov_out (s : State) (x : Governor) : (s.putGov x).out = s.out := rfl
@[simp] theorem State.putGov_delivered (s : State) (x : Governor) : (s.putGov x).delivered = s.delivered := rfl

/-! ### putTollU -/

@[simp] theorem State.putTollU_tollU (s : State) (x : TollUnit) : (s.putTollU x).tollU = x := rfl
@[simp] theorem State.putTollU_pending (s : State) (x : TollUnit) : (s.putTollU x).pending = s.pending := rfl
@[simp] theorem State.putTollU_regs (s : State) (x : TollUnit) : (s.putTollU x).regs = s.regs := rfl
@[simp] theorem State.putTollU_fresh (s : State) (x : TollUnit) : (s.putTollU x).fresh = s.fresh := rfl
@[simp] theorem State.putTollU_mem (s : State) (x : TollUnit) : (s.putTollU x).mem = s.mem := rfl
@[simp] theorem State.putTollU_poison (s : State) (x : TollUnit) : (s.putTollU x).poison = s.poison := rfl
@[simp] theorem State.putTollU_soft (s : State) (x : TollUnit) : (s.putTollU x).soft = s.soft := rfl
@[simp] theorem State.putTollU_tags (s : State) (x : TollUnit) : (s.putTollU x).tags = s.tags := rfl
@[simp] theorem State.putTollU_host (s : State) (x : TollUnit) : (s.putTollU x).host = s.host := rfl
@[simp] theorem State.putTollU_nvme (s : State) (x : TollUnit) : (s.putTollU x).nvme = s.nvme := rfl
@[simp] theorem State.putTollU_flash (s : State) (x : TollUnit) : (s.putTollU x).flash = s.flash := rfl
@[simp] theorem State.putTollU_ck (s : State) (x : TollUnit) : (s.putTollU x).ck = s.ck := rfl
@[simp] theorem State.putTollU_mgmt (s : State) (x : TollUnit) : (s.putTollU x).mgmt = s.mgmt := rfl
@[simp] theorem State.putTollU_draws (s : State) (x : TollUnit) : (s.putTollU x).draws = s.draws := rfl
@[simp] theorem State.putTollU_pins (s : State) (x : TollUnit) : (s.putTollU x).pins = s.pins := rfl
@[simp] theorem State.putTollU_gov (s : State) (x : TollUnit) : (s.putTollU x).gov = s.gov := rfl
@[simp] theorem State.putTollU_beatU (s : State) (x : TollUnit) : (s.putTollU x).beatU = s.beatU := rfl
@[simp] theorem State.putTollU_probe (s : State) (x : TollUnit) : (s.putTollU x).probe = s.probe := rfl
@[simp] theorem State.putTollU_chimes (s : State) (x : TollUnit) : (s.putTollU x).chimes = s.chimes := rfl
@[simp] theorem State.putTollU_chimeq (s : State) (x : TollUnit) : (s.putTollU x).chimeq = s.chimeq := rfl
@[simp] theorem State.putTollU_clusters (s : State) (x : TollUnit) : (s.putTollU x).clusters = s.clusters := rfl
@[simp] theorem State.putTollU_bushels (s : State) (x : TollUnit) : (s.putTollU x).bushels = s.bushels := rfl
@[simp] theorem State.putTollU_parked (s : State) (x : TollUnit) : (s.putTollU x).parked = s.parked := rfl
@[simp] theorem State.putTollU_groups (s : State) (x : TollUnit) : (s.putTollU x).groups = s.groups := rfl
@[simp] theorem State.putTollU_colls (s : State) (x : TollUnit) : (s.putTollU x).colls = s.colls := rfl
@[simp] theorem State.putTollU_sw (s : State) (x : TollUnit) : (s.putTollU x).sw = s.sw := rfl
@[simp] theorem State.putTollU_route (s : State) (x : TollUnit) : (s.putTollU x).route = s.route := rfl
@[simp] theorem State.putTollU_links (s : State) (x : TollUnit) : (s.putTollU x).links = s.links := rfl
@[simp] theorem State.putTollU_acv (s : State) (x : TollUnit) : (s.putTollU x).acv = s.acv := rfl
@[simp] theorem State.putTollU_comps (s : State) (x : TollUnit) : (s.putTollU x).comps = s.comps := rfl
@[simp] theorem State.putTollU_poolq (s : State) (x : TollUnit) : (s.putTollU x).poolq = s.poolq := rfl
@[simp] theorem State.putTollU_faults (s : State) (x : TollUnit) : (s.putTollU x).faults = s.faults := rfl
@[simp] theorem State.putTollU_inj (s : State) (x : TollUnit) : (s.putTollU x).inj = s.inj := rfl
@[simp] theorem State.putTollU_score (s : State) (x : TollUnit) : (s.putTollU x).score = s.score := rfl
@[simp] theorem State.putTollU_ride (s : State) (x : TollUnit) : (s.putTollU x).ride = s.ride := rfl
@[simp] theorem State.putTollU_ckpt (s : State) (x : TollUnit) : (s.putTollU x).ckpt = s.ckpt := rfl
@[simp] theorem State.putTollU_boot (s : State) (x : TollUnit) : (s.putTollU x).boot = s.boot := rfl
@[simp] theorem State.putTollU_out (s : State) (x : TollUnit) : (s.putTollU x).out = s.out := rfl
@[simp] theorem State.putTollU_delivered (s : State) (x : TollUnit) : (s.putTollU x).delivered = s.delivered := rfl

/-! ### putBeatU -/

@[simp] theorem State.putBeatU_beatU (s : State) (x : BeatUnit) : (s.putBeatU x).beatU = x := rfl
@[simp] theorem State.putBeatU_pending (s : State) (x : BeatUnit) : (s.putBeatU x).pending = s.pending := rfl
@[simp] theorem State.putBeatU_regs (s : State) (x : BeatUnit) : (s.putBeatU x).regs = s.regs := rfl
@[simp] theorem State.putBeatU_fresh (s : State) (x : BeatUnit) : (s.putBeatU x).fresh = s.fresh := rfl
@[simp] theorem State.putBeatU_mem (s : State) (x : BeatUnit) : (s.putBeatU x).mem = s.mem := rfl
@[simp] theorem State.putBeatU_poison (s : State) (x : BeatUnit) : (s.putBeatU x).poison = s.poison := rfl
@[simp] theorem State.putBeatU_soft (s : State) (x : BeatUnit) : (s.putBeatU x).soft = s.soft := rfl
@[simp] theorem State.putBeatU_tags (s : State) (x : BeatUnit) : (s.putBeatU x).tags = s.tags := rfl
@[simp] theorem State.putBeatU_host (s : State) (x : BeatUnit) : (s.putBeatU x).host = s.host := rfl
@[simp] theorem State.putBeatU_nvme (s : State) (x : BeatUnit) : (s.putBeatU x).nvme = s.nvme := rfl
@[simp] theorem State.putBeatU_flash (s : State) (x : BeatUnit) : (s.putBeatU x).flash = s.flash := rfl
@[simp] theorem State.putBeatU_ck (s : State) (x : BeatUnit) : (s.putBeatU x).ck = s.ck := rfl
@[simp] theorem State.putBeatU_mgmt (s : State) (x : BeatUnit) : (s.putBeatU x).mgmt = s.mgmt := rfl
@[simp] theorem State.putBeatU_draws (s : State) (x : BeatUnit) : (s.putBeatU x).draws = s.draws := rfl
@[simp] theorem State.putBeatU_pins (s : State) (x : BeatUnit) : (s.putBeatU x).pins = s.pins := rfl
@[simp] theorem State.putBeatU_gov (s : State) (x : BeatUnit) : (s.putBeatU x).gov = s.gov := rfl
@[simp] theorem State.putBeatU_tollU (s : State) (x : BeatUnit) : (s.putBeatU x).tollU = s.tollU := rfl
@[simp] theorem State.putBeatU_probe (s : State) (x : BeatUnit) : (s.putBeatU x).probe = s.probe := rfl
@[simp] theorem State.putBeatU_chimes (s : State) (x : BeatUnit) : (s.putBeatU x).chimes = s.chimes := rfl
@[simp] theorem State.putBeatU_chimeq (s : State) (x : BeatUnit) : (s.putBeatU x).chimeq = s.chimeq := rfl
@[simp] theorem State.putBeatU_clusters (s : State) (x : BeatUnit) : (s.putBeatU x).clusters = s.clusters := rfl
@[simp] theorem State.putBeatU_bushels (s : State) (x : BeatUnit) : (s.putBeatU x).bushels = s.bushels := rfl
@[simp] theorem State.putBeatU_parked (s : State) (x : BeatUnit) : (s.putBeatU x).parked = s.parked := rfl
@[simp] theorem State.putBeatU_groups (s : State) (x : BeatUnit) : (s.putBeatU x).groups = s.groups := rfl
@[simp] theorem State.putBeatU_colls (s : State) (x : BeatUnit) : (s.putBeatU x).colls = s.colls := rfl
@[simp] theorem State.putBeatU_sw (s : State) (x : BeatUnit) : (s.putBeatU x).sw = s.sw := rfl
@[simp] theorem State.putBeatU_route (s : State) (x : BeatUnit) : (s.putBeatU x).route = s.route := rfl
@[simp] theorem State.putBeatU_links (s : State) (x : BeatUnit) : (s.putBeatU x).links = s.links := rfl
@[simp] theorem State.putBeatU_acv (s : State) (x : BeatUnit) : (s.putBeatU x).acv = s.acv := rfl
@[simp] theorem State.putBeatU_comps (s : State) (x : BeatUnit) : (s.putBeatU x).comps = s.comps := rfl
@[simp] theorem State.putBeatU_poolq (s : State) (x : BeatUnit) : (s.putBeatU x).poolq = s.poolq := rfl
@[simp] theorem State.putBeatU_faults (s : State) (x : BeatUnit) : (s.putBeatU x).faults = s.faults := rfl
@[simp] theorem State.putBeatU_inj (s : State) (x : BeatUnit) : (s.putBeatU x).inj = s.inj := rfl
@[simp] theorem State.putBeatU_score (s : State) (x : BeatUnit) : (s.putBeatU x).score = s.score := rfl
@[simp] theorem State.putBeatU_ride (s : State) (x : BeatUnit) : (s.putBeatU x).ride = s.ride := rfl
@[simp] theorem State.putBeatU_ckpt (s : State) (x : BeatUnit) : (s.putBeatU x).ckpt = s.ckpt := rfl
@[simp] theorem State.putBeatU_boot (s : State) (x : BeatUnit) : (s.putBeatU x).boot = s.boot := rfl
@[simp] theorem State.putBeatU_out (s : State) (x : BeatUnit) : (s.putBeatU x).out = s.out := rfl
@[simp] theorem State.putBeatU_delivered (s : State) (x : BeatUnit) : (s.putBeatU x).delivered = s.delivered := rfl

/-! ### putProbe -/

@[simp] theorem State.putProbe_probe (s : State) (x : Probe) : (s.putProbe x).probe = x := rfl
@[simp] theorem State.putProbe_pending (s : State) (x : Probe) : (s.putProbe x).pending = s.pending := rfl
@[simp] theorem State.putProbe_regs (s : State) (x : Probe) : (s.putProbe x).regs = s.regs := rfl
@[simp] theorem State.putProbe_fresh (s : State) (x : Probe) : (s.putProbe x).fresh = s.fresh := rfl
@[simp] theorem State.putProbe_mem (s : State) (x : Probe) : (s.putProbe x).mem = s.mem := rfl
@[simp] theorem State.putProbe_poison (s : State) (x : Probe) : (s.putProbe x).poison = s.poison := rfl
@[simp] theorem State.putProbe_soft (s : State) (x : Probe) : (s.putProbe x).soft = s.soft := rfl
@[simp] theorem State.putProbe_tags (s : State) (x : Probe) : (s.putProbe x).tags = s.tags := rfl
@[simp] theorem State.putProbe_host (s : State) (x : Probe) : (s.putProbe x).host = s.host := rfl
@[simp] theorem State.putProbe_nvme (s : State) (x : Probe) : (s.putProbe x).nvme = s.nvme := rfl
@[simp] theorem State.putProbe_flash (s : State) (x : Probe) : (s.putProbe x).flash = s.flash := rfl
@[simp] theorem State.putProbe_ck (s : State) (x : Probe) : (s.putProbe x).ck = s.ck := rfl
@[simp] theorem State.putProbe_mgmt (s : State) (x : Probe) : (s.putProbe x).mgmt = s.mgmt := rfl
@[simp] theorem State.putProbe_draws (s : State) (x : Probe) : (s.putProbe x).draws = s.draws := rfl
@[simp] theorem State.putProbe_pins (s : State) (x : Probe) : (s.putProbe x).pins = s.pins := rfl
@[simp] theorem State.putProbe_gov (s : State) (x : Probe) : (s.putProbe x).gov = s.gov := rfl
@[simp] theorem State.putProbe_tollU (s : State) (x : Probe) : (s.putProbe x).tollU = s.tollU := rfl
@[simp] theorem State.putProbe_beatU (s : State) (x : Probe) : (s.putProbe x).beatU = s.beatU := rfl
@[simp] theorem State.putProbe_chimes (s : State) (x : Probe) : (s.putProbe x).chimes = s.chimes := rfl
@[simp] theorem State.putProbe_chimeq (s : State) (x : Probe) : (s.putProbe x).chimeq = s.chimeq := rfl
@[simp] theorem State.putProbe_clusters (s : State) (x : Probe) : (s.putProbe x).clusters = s.clusters := rfl
@[simp] theorem State.putProbe_bushels (s : State) (x : Probe) : (s.putProbe x).bushels = s.bushels := rfl
@[simp] theorem State.putProbe_parked (s : State) (x : Probe) : (s.putProbe x).parked = s.parked := rfl
@[simp] theorem State.putProbe_groups (s : State) (x : Probe) : (s.putProbe x).groups = s.groups := rfl
@[simp] theorem State.putProbe_colls (s : State) (x : Probe) : (s.putProbe x).colls = s.colls := rfl
@[simp] theorem State.putProbe_sw (s : State) (x : Probe) : (s.putProbe x).sw = s.sw := rfl
@[simp] theorem State.putProbe_route (s : State) (x : Probe) : (s.putProbe x).route = s.route := rfl
@[simp] theorem State.putProbe_links (s : State) (x : Probe) : (s.putProbe x).links = s.links := rfl
@[simp] theorem State.putProbe_acv (s : State) (x : Probe) : (s.putProbe x).acv = s.acv := rfl
@[simp] theorem State.putProbe_comps (s : State) (x : Probe) : (s.putProbe x).comps = s.comps := rfl
@[simp] theorem State.putProbe_poolq (s : State) (x : Probe) : (s.putProbe x).poolq = s.poolq := rfl
@[simp] theorem State.putProbe_faults (s : State) (x : Probe) : (s.putProbe x).faults = s.faults := rfl
@[simp] theorem State.putProbe_inj (s : State) (x : Probe) : (s.putProbe x).inj = s.inj := rfl
@[simp] theorem State.putProbe_score (s : State) (x : Probe) : (s.putProbe x).score = s.score := rfl
@[simp] theorem State.putProbe_ride (s : State) (x : Probe) : (s.putProbe x).ride = s.ride := rfl
@[simp] theorem State.putProbe_ckpt (s : State) (x : Probe) : (s.putProbe x).ckpt = s.ckpt := rfl
@[simp] theorem State.putProbe_boot (s : State) (x : Probe) : (s.putProbe x).boot = s.boot := rfl
@[simp] theorem State.putProbe_out (s : State) (x : Probe) : (s.putProbe x).out = s.out := rfl
@[simp] theorem State.putProbe_delivered (s : State) (x : Probe) : (s.putProbe x).delivered = s.delivered := rfl

/-! ### putChimes -/

@[simp] theorem State.putChimes_chimes (s : State) (x : Tab Chime) : (s.putChimes x).chimes = x := rfl
@[simp] theorem State.putChimes_pending (s : State) (x : Tab Chime) : (s.putChimes x).pending = s.pending := rfl
@[simp] theorem State.putChimes_regs (s : State) (x : Tab Chime) : (s.putChimes x).regs = s.regs := rfl
@[simp] theorem State.putChimes_fresh (s : State) (x : Tab Chime) : (s.putChimes x).fresh = s.fresh := rfl
@[simp] theorem State.putChimes_mem (s : State) (x : Tab Chime) : (s.putChimes x).mem = s.mem := rfl
@[simp] theorem State.putChimes_poison (s : State) (x : Tab Chime) : (s.putChimes x).poison = s.poison := rfl
@[simp] theorem State.putChimes_soft (s : State) (x : Tab Chime) : (s.putChimes x).soft = s.soft := rfl
@[simp] theorem State.putChimes_tags (s : State) (x : Tab Chime) : (s.putChimes x).tags = s.tags := rfl
@[simp] theorem State.putChimes_host (s : State) (x : Tab Chime) : (s.putChimes x).host = s.host := rfl
@[simp] theorem State.putChimes_nvme (s : State) (x : Tab Chime) : (s.putChimes x).nvme = s.nvme := rfl
@[simp] theorem State.putChimes_flash (s : State) (x : Tab Chime) : (s.putChimes x).flash = s.flash := rfl
@[simp] theorem State.putChimes_ck (s : State) (x : Tab Chime) : (s.putChimes x).ck = s.ck := rfl
@[simp] theorem State.putChimes_mgmt (s : State) (x : Tab Chime) : (s.putChimes x).mgmt = s.mgmt := rfl
@[simp] theorem State.putChimes_draws (s : State) (x : Tab Chime) : (s.putChimes x).draws = s.draws := rfl
@[simp] theorem State.putChimes_pins (s : State) (x : Tab Chime) : (s.putChimes x).pins = s.pins := rfl
@[simp] theorem State.putChimes_gov (s : State) (x : Tab Chime) : (s.putChimes x).gov = s.gov := rfl
@[simp] theorem State.putChimes_tollU (s : State) (x : Tab Chime) : (s.putChimes x).tollU = s.tollU := rfl
@[simp] theorem State.putChimes_beatU (s : State) (x : Tab Chime) : (s.putChimes x).beatU = s.beatU := rfl
@[simp] theorem State.putChimes_probe (s : State) (x : Tab Chime) : (s.putChimes x).probe = s.probe := rfl
@[simp] theorem State.putChimes_chimeq (s : State) (x : Tab Chime) : (s.putChimes x).chimeq = s.chimeq := rfl
@[simp] theorem State.putChimes_clusters (s : State) (x : Tab Chime) : (s.putChimes x).clusters = s.clusters := rfl
@[simp] theorem State.putChimes_bushels (s : State) (x : Tab Chime) : (s.putChimes x).bushels = s.bushels := rfl
@[simp] theorem State.putChimes_parked (s : State) (x : Tab Chime) : (s.putChimes x).parked = s.parked := rfl
@[simp] theorem State.putChimes_groups (s : State) (x : Tab Chime) : (s.putChimes x).groups = s.groups := rfl
@[simp] theorem State.putChimes_colls (s : State) (x : Tab Chime) : (s.putChimes x).colls = s.colls := rfl
@[simp] theorem State.putChimes_sw (s : State) (x : Tab Chime) : (s.putChimes x).sw = s.sw := rfl
@[simp] theorem State.putChimes_route (s : State) (x : Tab Chime) : (s.putChimes x).route = s.route := rfl
@[simp] theorem State.putChimes_links (s : State) (x : Tab Chime) : (s.putChimes x).links = s.links := rfl
@[simp] theorem State.putChimes_acv (s : State) (x : Tab Chime) : (s.putChimes x).acv = s.acv := rfl
@[simp] theorem State.putChimes_comps (s : State) (x : Tab Chime) : (s.putChimes x).comps = s.comps := rfl
@[simp] theorem State.putChimes_poolq (s : State) (x : Tab Chime) : (s.putChimes x).poolq = s.poolq := rfl
@[simp] theorem State.putChimes_faults (s : State) (x : Tab Chime) : (s.putChimes x).faults = s.faults := rfl
@[simp] theorem State.putChimes_inj (s : State) (x : Tab Chime) : (s.putChimes x).inj = s.inj := rfl
@[simp] theorem State.putChimes_score (s : State) (x : Tab Chime) : (s.putChimes x).score = s.score := rfl
@[simp] theorem State.putChimes_ride (s : State) (x : Tab Chime) : (s.putChimes x).ride = s.ride := rfl
@[simp] theorem State.putChimes_ckpt (s : State) (x : Tab Chime) : (s.putChimes x).ckpt = s.ckpt := rfl
@[simp] theorem State.putChimes_boot (s : State) (x : Tab Chime) : (s.putChimes x).boot = s.boot := rfl
@[simp] theorem State.putChimes_out (s : State) (x : Tab Chime) : (s.putChimes x).out = s.out := rfl
@[simp] theorem State.putChimes_delivered (s : State) (x : Tab Chime) : (s.putChimes x).delivered = s.delivered := rfl

/-! ### putChimeq -/

@[simp] theorem State.putChimeq_chimeq (s : State) (x : List ChimeOp) : (s.putChimeq x).chimeq = x := rfl
@[simp] theorem State.putChimeq_pending (s : State) (x : List ChimeOp) : (s.putChimeq x).pending = s.pending := rfl
@[simp] theorem State.putChimeq_regs (s : State) (x : List ChimeOp) : (s.putChimeq x).regs = s.regs := rfl
@[simp] theorem State.putChimeq_fresh (s : State) (x : List ChimeOp) : (s.putChimeq x).fresh = s.fresh := rfl
@[simp] theorem State.putChimeq_mem (s : State) (x : List ChimeOp) : (s.putChimeq x).mem = s.mem := rfl
@[simp] theorem State.putChimeq_poison (s : State) (x : List ChimeOp) : (s.putChimeq x).poison = s.poison := rfl
@[simp] theorem State.putChimeq_soft (s : State) (x : List ChimeOp) : (s.putChimeq x).soft = s.soft := rfl
@[simp] theorem State.putChimeq_tags (s : State) (x : List ChimeOp) : (s.putChimeq x).tags = s.tags := rfl
@[simp] theorem State.putChimeq_host (s : State) (x : List ChimeOp) : (s.putChimeq x).host = s.host := rfl
@[simp] theorem State.putChimeq_nvme (s : State) (x : List ChimeOp) : (s.putChimeq x).nvme = s.nvme := rfl
@[simp] theorem State.putChimeq_flash (s : State) (x : List ChimeOp) : (s.putChimeq x).flash = s.flash := rfl
@[simp] theorem State.putChimeq_ck (s : State) (x : List ChimeOp) : (s.putChimeq x).ck = s.ck := rfl
@[simp] theorem State.putChimeq_mgmt (s : State) (x : List ChimeOp) : (s.putChimeq x).mgmt = s.mgmt := rfl
@[simp] theorem State.putChimeq_draws (s : State) (x : List ChimeOp) : (s.putChimeq x).draws = s.draws := rfl
@[simp] theorem State.putChimeq_pins (s : State) (x : List ChimeOp) : (s.putChimeq x).pins = s.pins := rfl
@[simp] theorem State.putChimeq_gov (s : State) (x : List ChimeOp) : (s.putChimeq x).gov = s.gov := rfl
@[simp] theorem State.putChimeq_tollU (s : State) (x : List ChimeOp) : (s.putChimeq x).tollU = s.tollU := rfl
@[simp] theorem State.putChimeq_beatU (s : State) (x : List ChimeOp) : (s.putChimeq x).beatU = s.beatU := rfl
@[simp] theorem State.putChimeq_probe (s : State) (x : List ChimeOp) : (s.putChimeq x).probe = s.probe := rfl
@[simp] theorem State.putChimeq_chimes (s : State) (x : List ChimeOp) : (s.putChimeq x).chimes = s.chimes := rfl
@[simp] theorem State.putChimeq_clusters (s : State) (x : List ChimeOp) : (s.putChimeq x).clusters = s.clusters := rfl
@[simp] theorem State.putChimeq_bushels (s : State) (x : List ChimeOp) : (s.putChimeq x).bushels = s.bushels := rfl
@[simp] theorem State.putChimeq_parked (s : State) (x : List ChimeOp) : (s.putChimeq x).parked = s.parked := rfl
@[simp] theorem State.putChimeq_groups (s : State) (x : List ChimeOp) : (s.putChimeq x).groups = s.groups := rfl
@[simp] theorem State.putChimeq_colls (s : State) (x : List ChimeOp) : (s.putChimeq x).colls = s.colls := rfl
@[simp] theorem State.putChimeq_sw (s : State) (x : List ChimeOp) : (s.putChimeq x).sw = s.sw := rfl
@[simp] theorem State.putChimeq_route (s : State) (x : List ChimeOp) : (s.putChimeq x).route = s.route := rfl
@[simp] theorem State.putChimeq_links (s : State) (x : List ChimeOp) : (s.putChimeq x).links = s.links := rfl
@[simp] theorem State.putChimeq_acv (s : State) (x : List ChimeOp) : (s.putChimeq x).acv = s.acv := rfl
@[simp] theorem State.putChimeq_comps (s : State) (x : List ChimeOp) : (s.putChimeq x).comps = s.comps := rfl
@[simp] theorem State.putChimeq_poolq (s : State) (x : List ChimeOp) : (s.putChimeq x).poolq = s.poolq := rfl
@[simp] theorem State.putChimeq_faults (s : State) (x : List ChimeOp) : (s.putChimeq x).faults = s.faults := rfl
@[simp] theorem State.putChimeq_inj (s : State) (x : List ChimeOp) : (s.putChimeq x).inj = s.inj := rfl
@[simp] theorem State.putChimeq_score (s : State) (x : List ChimeOp) : (s.putChimeq x).score = s.score := rfl
@[simp] theorem State.putChimeq_ride (s : State) (x : List ChimeOp) : (s.putChimeq x).ride = s.ride := rfl
@[simp] theorem State.putChimeq_ckpt (s : State) (x : List ChimeOp) : (s.putChimeq x).ckpt = s.ckpt := rfl
@[simp] theorem State.putChimeq_boot (s : State) (x : List ChimeOp) : (s.putChimeq x).boot = s.boot := rfl
@[simp] theorem State.putChimeq_out (s : State) (x : List ChimeOp) : (s.putChimeq x).out = s.out := rfl
@[simp] theorem State.putChimeq_delivered (s : State) (x : List ChimeOp) : (s.putChimeq x).delivered = s.delivered := rfl

/-! ### putClusters -/

@[simp] theorem State.putClusters_clusters (s : State) (x : Tab Cluster) : (s.putClusters x).clusters = x := rfl
@[simp] theorem State.putClusters_pending (s : State) (x : Tab Cluster) : (s.putClusters x).pending = s.pending := rfl
@[simp] theorem State.putClusters_regs (s : State) (x : Tab Cluster) : (s.putClusters x).regs = s.regs := rfl
@[simp] theorem State.putClusters_fresh (s : State) (x : Tab Cluster) : (s.putClusters x).fresh = s.fresh := rfl
@[simp] theorem State.putClusters_mem (s : State) (x : Tab Cluster) : (s.putClusters x).mem = s.mem := rfl
@[simp] theorem State.putClusters_poison (s : State) (x : Tab Cluster) : (s.putClusters x).poison = s.poison := rfl
@[simp] theorem State.putClusters_soft (s : State) (x : Tab Cluster) : (s.putClusters x).soft = s.soft := rfl
@[simp] theorem State.putClusters_tags (s : State) (x : Tab Cluster) : (s.putClusters x).tags = s.tags := rfl
@[simp] theorem State.putClusters_host (s : State) (x : Tab Cluster) : (s.putClusters x).host = s.host := rfl
@[simp] theorem State.putClusters_nvme (s : State) (x : Tab Cluster) : (s.putClusters x).nvme = s.nvme := rfl
@[simp] theorem State.putClusters_flash (s : State) (x : Tab Cluster) : (s.putClusters x).flash = s.flash := rfl
@[simp] theorem State.putClusters_ck (s : State) (x : Tab Cluster) : (s.putClusters x).ck = s.ck := rfl
@[simp] theorem State.putClusters_mgmt (s : State) (x : Tab Cluster) : (s.putClusters x).mgmt = s.mgmt := rfl
@[simp] theorem State.putClusters_draws (s : State) (x : Tab Cluster) : (s.putClusters x).draws = s.draws := rfl
@[simp] theorem State.putClusters_pins (s : State) (x : Tab Cluster) : (s.putClusters x).pins = s.pins := rfl
@[simp] theorem State.putClusters_gov (s : State) (x : Tab Cluster) : (s.putClusters x).gov = s.gov := rfl
@[simp] theorem State.putClusters_tollU (s : State) (x : Tab Cluster) : (s.putClusters x).tollU = s.tollU := rfl
@[simp] theorem State.putClusters_beatU (s : State) (x : Tab Cluster) : (s.putClusters x).beatU = s.beatU := rfl
@[simp] theorem State.putClusters_probe (s : State) (x : Tab Cluster) : (s.putClusters x).probe = s.probe := rfl
@[simp] theorem State.putClusters_chimes (s : State) (x : Tab Cluster) : (s.putClusters x).chimes = s.chimes := rfl
@[simp] theorem State.putClusters_chimeq (s : State) (x : Tab Cluster) : (s.putClusters x).chimeq = s.chimeq := rfl
@[simp] theorem State.putClusters_bushels (s : State) (x : Tab Cluster) : (s.putClusters x).bushels = s.bushels := rfl
@[simp] theorem State.putClusters_parked (s : State) (x : Tab Cluster) : (s.putClusters x).parked = s.parked := rfl
@[simp] theorem State.putClusters_groups (s : State) (x : Tab Cluster) : (s.putClusters x).groups = s.groups := rfl
@[simp] theorem State.putClusters_colls (s : State) (x : Tab Cluster) : (s.putClusters x).colls = s.colls := rfl
@[simp] theorem State.putClusters_sw (s : State) (x : Tab Cluster) : (s.putClusters x).sw = s.sw := rfl
@[simp] theorem State.putClusters_route (s : State) (x : Tab Cluster) : (s.putClusters x).route = s.route := rfl
@[simp] theorem State.putClusters_links (s : State) (x : Tab Cluster) : (s.putClusters x).links = s.links := rfl
@[simp] theorem State.putClusters_acv (s : State) (x : Tab Cluster) : (s.putClusters x).acv = s.acv := rfl
@[simp] theorem State.putClusters_comps (s : State) (x : Tab Cluster) : (s.putClusters x).comps = s.comps := rfl
@[simp] theorem State.putClusters_poolq (s : State) (x : Tab Cluster) : (s.putClusters x).poolq = s.poolq := rfl
@[simp] theorem State.putClusters_faults (s : State) (x : Tab Cluster) : (s.putClusters x).faults = s.faults := rfl
@[simp] theorem State.putClusters_inj (s : State) (x : Tab Cluster) : (s.putClusters x).inj = s.inj := rfl
@[simp] theorem State.putClusters_score (s : State) (x : Tab Cluster) : (s.putClusters x).score = s.score := rfl
@[simp] theorem State.putClusters_ride (s : State) (x : Tab Cluster) : (s.putClusters x).ride = s.ride := rfl
@[simp] theorem State.putClusters_ckpt (s : State) (x : Tab Cluster) : (s.putClusters x).ckpt = s.ckpt := rfl
@[simp] theorem State.putClusters_boot (s : State) (x : Tab Cluster) : (s.putClusters x).boot = s.boot := rfl
@[simp] theorem State.putClusters_out (s : State) (x : Tab Cluster) : (s.putClusters x).out = s.out := rfl
@[simp] theorem State.putClusters_delivered (s : State) (x : Tab Cluster) : (s.putClusters x).delivered = s.delivered := rfl

/-! ### putBushels -/

@[simp] theorem State.putBushels_bushels (s : State) (x : Tab Bushel) : (s.putBushels x).bushels = x := rfl
@[simp] theorem State.putBushels_pending (s : State) (x : Tab Bushel) : (s.putBushels x).pending = s.pending := rfl
@[simp] theorem State.putBushels_regs (s : State) (x : Tab Bushel) : (s.putBushels x).regs = s.regs := rfl
@[simp] theorem State.putBushels_fresh (s : State) (x : Tab Bushel) : (s.putBushels x).fresh = s.fresh := rfl
@[simp] theorem State.putBushels_mem (s : State) (x : Tab Bushel) : (s.putBushels x).mem = s.mem := rfl
@[simp] theorem State.putBushels_poison (s : State) (x : Tab Bushel) : (s.putBushels x).poison = s.poison := rfl
@[simp] theorem State.putBushels_soft (s : State) (x : Tab Bushel) : (s.putBushels x).soft = s.soft := rfl
@[simp] theorem State.putBushels_tags (s : State) (x : Tab Bushel) : (s.putBushels x).tags = s.tags := rfl
@[simp] theorem State.putBushels_host (s : State) (x : Tab Bushel) : (s.putBushels x).host = s.host := rfl
@[simp] theorem State.putBushels_nvme (s : State) (x : Tab Bushel) : (s.putBushels x).nvme = s.nvme := rfl
@[simp] theorem State.putBushels_flash (s : State) (x : Tab Bushel) : (s.putBushels x).flash = s.flash := rfl
@[simp] theorem State.putBushels_ck (s : State) (x : Tab Bushel) : (s.putBushels x).ck = s.ck := rfl
@[simp] theorem State.putBushels_mgmt (s : State) (x : Tab Bushel) : (s.putBushels x).mgmt = s.mgmt := rfl
@[simp] theorem State.putBushels_draws (s : State) (x : Tab Bushel) : (s.putBushels x).draws = s.draws := rfl
@[simp] theorem State.putBushels_pins (s : State) (x : Tab Bushel) : (s.putBushels x).pins = s.pins := rfl
@[simp] theorem State.putBushels_gov (s : State) (x : Tab Bushel) : (s.putBushels x).gov = s.gov := rfl
@[simp] theorem State.putBushels_tollU (s : State) (x : Tab Bushel) : (s.putBushels x).tollU = s.tollU := rfl
@[simp] theorem State.putBushels_beatU (s : State) (x : Tab Bushel) : (s.putBushels x).beatU = s.beatU := rfl
@[simp] theorem State.putBushels_probe (s : State) (x : Tab Bushel) : (s.putBushels x).probe = s.probe := rfl
@[simp] theorem State.putBushels_chimes (s : State) (x : Tab Bushel) : (s.putBushels x).chimes = s.chimes := rfl
@[simp] theorem State.putBushels_chimeq (s : State) (x : Tab Bushel) : (s.putBushels x).chimeq = s.chimeq := rfl
@[simp] theorem State.putBushels_clusters (s : State) (x : Tab Bushel) : (s.putBushels x).clusters = s.clusters := rfl
@[simp] theorem State.putBushels_parked (s : State) (x : Tab Bushel) : (s.putBushels x).parked = s.parked := rfl
@[simp] theorem State.putBushels_groups (s : State) (x : Tab Bushel) : (s.putBushels x).groups = s.groups := rfl
@[simp] theorem State.putBushels_colls (s : State) (x : Tab Bushel) : (s.putBushels x).colls = s.colls := rfl
@[simp] theorem State.putBushels_sw (s : State) (x : Tab Bushel) : (s.putBushels x).sw = s.sw := rfl
@[simp] theorem State.putBushels_route (s : State) (x : Tab Bushel) : (s.putBushels x).route = s.route := rfl
@[simp] theorem State.putBushels_links (s : State) (x : Tab Bushel) : (s.putBushels x).links = s.links := rfl
@[simp] theorem State.putBushels_acv (s : State) (x : Tab Bushel) : (s.putBushels x).acv = s.acv := rfl
@[simp] theorem State.putBushels_comps (s : State) (x : Tab Bushel) : (s.putBushels x).comps = s.comps := rfl
@[simp] theorem State.putBushels_poolq (s : State) (x : Tab Bushel) : (s.putBushels x).poolq = s.poolq := rfl
@[simp] theorem State.putBushels_faults (s : State) (x : Tab Bushel) : (s.putBushels x).faults = s.faults := rfl
@[simp] theorem State.putBushels_inj (s : State) (x : Tab Bushel) : (s.putBushels x).inj = s.inj := rfl
@[simp] theorem State.putBushels_score (s : State) (x : Tab Bushel) : (s.putBushels x).score = s.score := rfl
@[simp] theorem State.putBushels_ride (s : State) (x : Tab Bushel) : (s.putBushels x).ride = s.ride := rfl
@[simp] theorem State.putBushels_ckpt (s : State) (x : Tab Bushel) : (s.putBushels x).ckpt = s.ckpt := rfl
@[simp] theorem State.putBushels_boot (s : State) (x : Tab Bushel) : (s.putBushels x).boot = s.boot := rfl
@[simp] theorem State.putBushels_out (s : State) (x : Tab Bushel) : (s.putBushels x).out = s.out := rfl
@[simp] theorem State.putBushels_delivered (s : State) (x : Tab Bushel) : (s.putBushels x).delivered = s.delivered := rfl

/-! ### putParked -/

@[simp] theorem State.putParked_parked (s : State) (x : List Parked) : (s.putParked x).parked = x := rfl
@[simp] theorem State.putParked_pending (s : State) (x : List Parked) : (s.putParked x).pending = s.pending := rfl
@[simp] theorem State.putParked_regs (s : State) (x : List Parked) : (s.putParked x).regs = s.regs := rfl
@[simp] theorem State.putParked_fresh (s : State) (x : List Parked) : (s.putParked x).fresh = s.fresh := rfl
@[simp] theorem State.putParked_mem (s : State) (x : List Parked) : (s.putParked x).mem = s.mem := rfl
@[simp] theorem State.putParked_poison (s : State) (x : List Parked) : (s.putParked x).poison = s.poison := rfl
@[simp] theorem State.putParked_soft (s : State) (x : List Parked) : (s.putParked x).soft = s.soft := rfl
@[simp] theorem State.putParked_tags (s : State) (x : List Parked) : (s.putParked x).tags = s.tags := rfl
@[simp] theorem State.putParked_host (s : State) (x : List Parked) : (s.putParked x).host = s.host := rfl
@[simp] theorem State.putParked_nvme (s : State) (x : List Parked) : (s.putParked x).nvme = s.nvme := rfl
@[simp] theorem State.putParked_flash (s : State) (x : List Parked) : (s.putParked x).flash = s.flash := rfl
@[simp] theorem State.putParked_ck (s : State) (x : List Parked) : (s.putParked x).ck = s.ck := rfl
@[simp] theorem State.putParked_mgmt (s : State) (x : List Parked) : (s.putParked x).mgmt = s.mgmt := rfl
@[simp] theorem State.putParked_draws (s : State) (x : List Parked) : (s.putParked x).draws = s.draws := rfl
@[simp] theorem State.putParked_pins (s : State) (x : List Parked) : (s.putParked x).pins = s.pins := rfl
@[simp] theorem State.putParked_gov (s : State) (x : List Parked) : (s.putParked x).gov = s.gov := rfl
@[simp] theorem State.putParked_tollU (s : State) (x : List Parked) : (s.putParked x).tollU = s.tollU := rfl
@[simp] theorem State.putParked_beatU (s : State) (x : List Parked) : (s.putParked x).beatU = s.beatU := rfl
@[simp] theorem State.putParked_probe (s : State) (x : List Parked) : (s.putParked x).probe = s.probe := rfl
@[simp] theorem State.putParked_chimes (s : State) (x : List Parked) : (s.putParked x).chimes = s.chimes := rfl
@[simp] theorem State.putParked_chimeq (s : State) (x : List Parked) : (s.putParked x).chimeq = s.chimeq := rfl
@[simp] theorem State.putParked_clusters (s : State) (x : List Parked) : (s.putParked x).clusters = s.clusters := rfl
@[simp] theorem State.putParked_bushels (s : State) (x : List Parked) : (s.putParked x).bushels = s.bushels := rfl
@[simp] theorem State.putParked_groups (s : State) (x : List Parked) : (s.putParked x).groups = s.groups := rfl
@[simp] theorem State.putParked_colls (s : State) (x : List Parked) : (s.putParked x).colls = s.colls := rfl
@[simp] theorem State.putParked_sw (s : State) (x : List Parked) : (s.putParked x).sw = s.sw := rfl
@[simp] theorem State.putParked_route (s : State) (x : List Parked) : (s.putParked x).route = s.route := rfl
@[simp] theorem State.putParked_links (s : State) (x : List Parked) : (s.putParked x).links = s.links := rfl
@[simp] theorem State.putParked_acv (s : State) (x : List Parked) : (s.putParked x).acv = s.acv := rfl
@[simp] theorem State.putParked_comps (s : State) (x : List Parked) : (s.putParked x).comps = s.comps := rfl
@[simp] theorem State.putParked_poolq (s : State) (x : List Parked) : (s.putParked x).poolq = s.poolq := rfl
@[simp] theorem State.putParked_faults (s : State) (x : List Parked) : (s.putParked x).faults = s.faults := rfl
@[simp] theorem State.putParked_inj (s : State) (x : List Parked) : (s.putParked x).inj = s.inj := rfl
@[simp] theorem State.putParked_score (s : State) (x : List Parked) : (s.putParked x).score = s.score := rfl
@[simp] theorem State.putParked_ride (s : State) (x : List Parked) : (s.putParked x).ride = s.ride := rfl
@[simp] theorem State.putParked_ckpt (s : State) (x : List Parked) : (s.putParked x).ckpt = s.ckpt := rfl
@[simp] theorem State.putParked_boot (s : State) (x : List Parked) : (s.putParked x).boot = s.boot := rfl
@[simp] theorem State.putParked_out (s : State) (x : List Parked) : (s.putParked x).out = s.out := rfl
@[simp] theorem State.putParked_delivered (s : State) (x : List Parked) : (s.putParked x).delivered = s.delivered := rfl

/-! ### putGroups -/

@[simp] theorem State.putGroups_groups (s : State) (x : Tab (Option Grp)) : (s.putGroups x).groups = x := rfl
@[simp] theorem State.putGroups_pending (s : State) (x : Tab (Option Grp)) : (s.putGroups x).pending = s.pending := rfl
@[simp] theorem State.putGroups_regs (s : State) (x : Tab (Option Grp)) : (s.putGroups x).regs = s.regs := rfl
@[simp] theorem State.putGroups_fresh (s : State) (x : Tab (Option Grp)) : (s.putGroups x).fresh = s.fresh := rfl
@[simp] theorem State.putGroups_mem (s : State) (x : Tab (Option Grp)) : (s.putGroups x).mem = s.mem := rfl
@[simp] theorem State.putGroups_poison (s : State) (x : Tab (Option Grp)) : (s.putGroups x).poison = s.poison := rfl
@[simp] theorem State.putGroups_soft (s : State) (x : Tab (Option Grp)) : (s.putGroups x).soft = s.soft := rfl
@[simp] theorem State.putGroups_tags (s : State) (x : Tab (Option Grp)) : (s.putGroups x).tags = s.tags := rfl
@[simp] theorem State.putGroups_host (s : State) (x : Tab (Option Grp)) : (s.putGroups x).host = s.host := rfl
@[simp] theorem State.putGroups_nvme (s : State) (x : Tab (Option Grp)) : (s.putGroups x).nvme = s.nvme := rfl
@[simp] theorem State.putGroups_flash (s : State) (x : Tab (Option Grp)) : (s.putGroups x).flash = s.flash := rfl
@[simp] theorem State.putGroups_ck (s : State) (x : Tab (Option Grp)) : (s.putGroups x).ck = s.ck := rfl
@[simp] theorem State.putGroups_mgmt (s : State) (x : Tab (Option Grp)) : (s.putGroups x).mgmt = s.mgmt := rfl
@[simp] theorem State.putGroups_draws (s : State) (x : Tab (Option Grp)) : (s.putGroups x).draws = s.draws := rfl
@[simp] theorem State.putGroups_pins (s : State) (x : Tab (Option Grp)) : (s.putGroups x).pins = s.pins := rfl
@[simp] theorem State.putGroups_gov (s : State) (x : Tab (Option Grp)) : (s.putGroups x).gov = s.gov := rfl
@[simp] theorem State.putGroups_tollU (s : State) (x : Tab (Option Grp)) : (s.putGroups x).tollU = s.tollU := rfl
@[simp] theorem State.putGroups_beatU (s : State) (x : Tab (Option Grp)) : (s.putGroups x).beatU = s.beatU := rfl
@[simp] theorem State.putGroups_probe (s : State) (x : Tab (Option Grp)) : (s.putGroups x).probe = s.probe := rfl
@[simp] theorem State.putGroups_chimes (s : State) (x : Tab (Option Grp)) : (s.putGroups x).chimes = s.chimes := rfl
@[simp] theorem State.putGroups_chimeq (s : State) (x : Tab (Option Grp)) : (s.putGroups x).chimeq = s.chimeq := rfl
@[simp] theorem State.putGroups_clusters (s : State) (x : Tab (Option Grp)) : (s.putGroups x).clusters = s.clusters := rfl
@[simp] theorem State.putGroups_bushels (s : State) (x : Tab (Option Grp)) : (s.putGroups x).bushels = s.bushels := rfl
@[simp] theorem State.putGroups_parked (s : State) (x : Tab (Option Grp)) : (s.putGroups x).parked = s.parked := rfl
@[simp] theorem State.putGroups_colls (s : State) (x : Tab (Option Grp)) : (s.putGroups x).colls = s.colls := rfl
@[simp] theorem State.putGroups_sw (s : State) (x : Tab (Option Grp)) : (s.putGroups x).sw = s.sw := rfl
@[simp] theorem State.putGroups_route (s : State) (x : Tab (Option Grp)) : (s.putGroups x).route = s.route := rfl
@[simp] theorem State.putGroups_links (s : State) (x : Tab (Option Grp)) : (s.putGroups x).links = s.links := rfl
@[simp] theorem State.putGroups_acv (s : State) (x : Tab (Option Grp)) : (s.putGroups x).acv = s.acv := rfl
@[simp] theorem State.putGroups_comps (s : State) (x : Tab (Option Grp)) : (s.putGroups x).comps = s.comps := rfl
@[simp] theorem State.putGroups_poolq (s : State) (x : Tab (Option Grp)) : (s.putGroups x).poolq = s.poolq := rfl
@[simp] theorem State.putGroups_faults (s : State) (x : Tab (Option Grp)) : (s.putGroups x).faults = s.faults := rfl
@[simp] theorem State.putGroups_inj (s : State) (x : Tab (Option Grp)) : (s.putGroups x).inj = s.inj := rfl
@[simp] theorem State.putGroups_score (s : State) (x : Tab (Option Grp)) : (s.putGroups x).score = s.score := rfl
@[simp] theorem State.putGroups_ride (s : State) (x : Tab (Option Grp)) : (s.putGroups x).ride = s.ride := rfl
@[simp] theorem State.putGroups_ckpt (s : State) (x : Tab (Option Grp)) : (s.putGroups x).ckpt = s.ckpt := rfl
@[simp] theorem State.putGroups_boot (s : State) (x : Tab (Option Grp)) : (s.putGroups x).boot = s.boot := rfl
@[simp] theorem State.putGroups_out (s : State) (x : Tab (Option Grp)) : (s.putGroups x).out = s.out := rfl
@[simp] theorem State.putGroups_delivered (s : State) (x : Tab (Option Grp)) : (s.putGroups x).delivered = s.delivered := rfl

/-! ### putColls -/

@[simp] theorem State.putColls_colls (s : State) (x : List Coll) : (s.putColls x).colls = x := rfl
@[simp] theorem State.putColls_pending (s : State) (x : List Coll) : (s.putColls x).pending = s.pending := rfl
@[simp] theorem State.putColls_regs (s : State) (x : List Coll) : (s.putColls x).regs = s.regs := rfl
@[simp] theorem State.putColls_fresh (s : State) (x : List Coll) : (s.putColls x).fresh = s.fresh := rfl
@[simp] theorem State.putColls_mem (s : State) (x : List Coll) : (s.putColls x).mem = s.mem := rfl
@[simp] theorem State.putColls_poison (s : State) (x : List Coll) : (s.putColls x).poison = s.poison := rfl
@[simp] theorem State.putColls_soft (s : State) (x : List Coll) : (s.putColls x).soft = s.soft := rfl
@[simp] theorem State.putColls_tags (s : State) (x : List Coll) : (s.putColls x).tags = s.tags := rfl
@[simp] theorem State.putColls_host (s : State) (x : List Coll) : (s.putColls x).host = s.host := rfl
@[simp] theorem State.putColls_nvme (s : State) (x : List Coll) : (s.putColls x).nvme = s.nvme := rfl
@[simp] theorem State.putColls_flash (s : State) (x : List Coll) : (s.putColls x).flash = s.flash := rfl
@[simp] theorem State.putColls_ck (s : State) (x : List Coll) : (s.putColls x).ck = s.ck := rfl
@[simp] theorem State.putColls_mgmt (s : State) (x : List Coll) : (s.putColls x).mgmt = s.mgmt := rfl
@[simp] theorem State.putColls_draws (s : State) (x : List Coll) : (s.putColls x).draws = s.draws := rfl
@[simp] theorem State.putColls_pins (s : State) (x : List Coll) : (s.putColls x).pins = s.pins := rfl
@[simp] theorem State.putColls_gov (s : State) (x : List Coll) : (s.putColls x).gov = s.gov := rfl
@[simp] theorem State.putColls_tollU (s : State) (x : List Coll) : (s.putColls x).tollU = s.tollU := rfl
@[simp] theorem State.putColls_beatU (s : State) (x : List Coll) : (s.putColls x).beatU = s.beatU := rfl
@[simp] theorem State.putColls_probe (s : State) (x : List Coll) : (s.putColls x).probe = s.probe := rfl
@[simp] theorem State.putColls_chimes (s : State) (x : List Coll) : (s.putColls x).chimes = s.chimes := rfl
@[simp] theorem State.putColls_chimeq (s : State) (x : List Coll) : (s.putColls x).chimeq = s.chimeq := rfl
@[simp] theorem State.putColls_clusters (s : State) (x : List Coll) : (s.putColls x).clusters = s.clusters := rfl
@[simp] theorem State.putColls_bushels (s : State) (x : List Coll) : (s.putColls x).bushels = s.bushels := rfl
@[simp] theorem State.putColls_parked (s : State) (x : List Coll) : (s.putColls x).parked = s.parked := rfl
@[simp] theorem State.putColls_groups (s : State) (x : List Coll) : (s.putColls x).groups = s.groups := rfl
@[simp] theorem State.putColls_sw (s : State) (x : List Coll) : (s.putColls x).sw = s.sw := rfl
@[simp] theorem State.putColls_route (s : State) (x : List Coll) : (s.putColls x).route = s.route := rfl
@[simp] theorem State.putColls_links (s : State) (x : List Coll) : (s.putColls x).links = s.links := rfl
@[simp] theorem State.putColls_acv (s : State) (x : List Coll) : (s.putColls x).acv = s.acv := rfl
@[simp] theorem State.putColls_comps (s : State) (x : List Coll) : (s.putColls x).comps = s.comps := rfl
@[simp] theorem State.putColls_poolq (s : State) (x : List Coll) : (s.putColls x).poolq = s.poolq := rfl
@[simp] theorem State.putColls_faults (s : State) (x : List Coll) : (s.putColls x).faults = s.faults := rfl
@[simp] theorem State.putColls_inj (s : State) (x : List Coll) : (s.putColls x).inj = s.inj := rfl
@[simp] theorem State.putColls_score (s : State) (x : List Coll) : (s.putColls x).score = s.score := rfl
@[simp] theorem State.putColls_ride (s : State) (x : List Coll) : (s.putColls x).ride = s.ride := rfl
@[simp] theorem State.putColls_ckpt (s : State) (x : List Coll) : (s.putColls x).ckpt = s.ckpt := rfl
@[simp] theorem State.putColls_boot (s : State) (x : List Coll) : (s.putColls x).boot = s.boot := rfl
@[simp] theorem State.putColls_out (s : State) (x : List Coll) : (s.putColls x).out = s.out := rfl
@[simp] theorem State.putColls_delivered (s : State) (x : List Coll) : (s.putColls x).delivered = s.delivered := rfl

/-! ### putSw -/

@[simp] theorem State.putSw_sw (s : State) (x : Switch) : (s.putSw x).sw = x := rfl
@[simp] theorem State.putSw_pending (s : State) (x : Switch) : (s.putSw x).pending = s.pending := rfl
@[simp] theorem State.putSw_regs (s : State) (x : Switch) : (s.putSw x).regs = s.regs := rfl
@[simp] theorem State.putSw_fresh (s : State) (x : Switch) : (s.putSw x).fresh = s.fresh := rfl
@[simp] theorem State.putSw_mem (s : State) (x : Switch) : (s.putSw x).mem = s.mem := rfl
@[simp] theorem State.putSw_poison (s : State) (x : Switch) : (s.putSw x).poison = s.poison := rfl
@[simp] theorem State.putSw_soft (s : State) (x : Switch) : (s.putSw x).soft = s.soft := rfl
@[simp] theorem State.putSw_tags (s : State) (x : Switch) : (s.putSw x).tags = s.tags := rfl
@[simp] theorem State.putSw_host (s : State) (x : Switch) : (s.putSw x).host = s.host := rfl
@[simp] theorem State.putSw_nvme (s : State) (x : Switch) : (s.putSw x).nvme = s.nvme := rfl
@[simp] theorem State.putSw_flash (s : State) (x : Switch) : (s.putSw x).flash = s.flash := rfl
@[simp] theorem State.putSw_ck (s : State) (x : Switch) : (s.putSw x).ck = s.ck := rfl
@[simp] theorem State.putSw_mgmt (s : State) (x : Switch) : (s.putSw x).mgmt = s.mgmt := rfl
@[simp] theorem State.putSw_draws (s : State) (x : Switch) : (s.putSw x).draws = s.draws := rfl
@[simp] theorem State.putSw_pins (s : State) (x : Switch) : (s.putSw x).pins = s.pins := rfl
@[simp] theorem State.putSw_gov (s : State) (x : Switch) : (s.putSw x).gov = s.gov := rfl
@[simp] theorem State.putSw_tollU (s : State) (x : Switch) : (s.putSw x).tollU = s.tollU := rfl
@[simp] theorem State.putSw_beatU (s : State) (x : Switch) : (s.putSw x).beatU = s.beatU := rfl
@[simp] theorem State.putSw_probe (s : State) (x : Switch) : (s.putSw x).probe = s.probe := rfl
@[simp] theorem State.putSw_chimes (s : State) (x : Switch) : (s.putSw x).chimes = s.chimes := rfl
@[simp] theorem State.putSw_chimeq (s : State) (x : Switch) : (s.putSw x).chimeq = s.chimeq := rfl
@[simp] theorem State.putSw_clusters (s : State) (x : Switch) : (s.putSw x).clusters = s.clusters := rfl
@[simp] theorem State.putSw_bushels (s : State) (x : Switch) : (s.putSw x).bushels = s.bushels := rfl
@[simp] theorem State.putSw_parked (s : State) (x : Switch) : (s.putSw x).parked = s.parked := rfl
@[simp] theorem State.putSw_groups (s : State) (x : Switch) : (s.putSw x).groups = s.groups := rfl
@[simp] theorem State.putSw_colls (s : State) (x : Switch) : (s.putSw x).colls = s.colls := rfl
@[simp] theorem State.putSw_route (s : State) (x : Switch) : (s.putSw x).route = s.route := rfl
@[simp] theorem State.putSw_links (s : State) (x : Switch) : (s.putSw x).links = s.links := rfl
@[simp] theorem State.putSw_acv (s : State) (x : Switch) : (s.putSw x).acv = s.acv := rfl
@[simp] theorem State.putSw_comps (s : State) (x : Switch) : (s.putSw x).comps = s.comps := rfl
@[simp] theorem State.putSw_poolq (s : State) (x : Switch) : (s.putSw x).poolq = s.poolq := rfl
@[simp] theorem State.putSw_faults (s : State) (x : Switch) : (s.putSw x).faults = s.faults := rfl
@[simp] theorem State.putSw_inj (s : State) (x : Switch) : (s.putSw x).inj = s.inj := rfl
@[simp] theorem State.putSw_score (s : State) (x : Switch) : (s.putSw x).score = s.score := rfl
@[simp] theorem State.putSw_ride (s : State) (x : Switch) : (s.putSw x).ride = s.ride := rfl
@[simp] theorem State.putSw_ckpt (s : State) (x : Switch) : (s.putSw x).ckpt = s.ckpt := rfl
@[simp] theorem State.putSw_boot (s : State) (x : Switch) : (s.putSw x).boot = s.boot := rfl
@[simp] theorem State.putSw_out (s : State) (x : Switch) : (s.putSw x).out = s.out := rfl
@[simp] theorem State.putSw_delivered (s : State) (x : Switch) : (s.putSw x).delivered = s.delivered := rfl

/-! ### putRoute -/

@[simp] theorem State.putRoute_route (s : State) (x : RouteUnit) : (s.putRoute x).route = x := rfl
@[simp] theorem State.putRoute_pending (s : State) (x : RouteUnit) : (s.putRoute x).pending = s.pending := rfl
@[simp] theorem State.putRoute_regs (s : State) (x : RouteUnit) : (s.putRoute x).regs = s.regs := rfl
@[simp] theorem State.putRoute_fresh (s : State) (x : RouteUnit) : (s.putRoute x).fresh = s.fresh := rfl
@[simp] theorem State.putRoute_mem (s : State) (x : RouteUnit) : (s.putRoute x).mem = s.mem := rfl
@[simp] theorem State.putRoute_poison (s : State) (x : RouteUnit) : (s.putRoute x).poison = s.poison := rfl
@[simp] theorem State.putRoute_soft (s : State) (x : RouteUnit) : (s.putRoute x).soft = s.soft := rfl
@[simp] theorem State.putRoute_tags (s : State) (x : RouteUnit) : (s.putRoute x).tags = s.tags := rfl
@[simp] theorem State.putRoute_host (s : State) (x : RouteUnit) : (s.putRoute x).host = s.host := rfl
@[simp] theorem State.putRoute_nvme (s : State) (x : RouteUnit) : (s.putRoute x).nvme = s.nvme := rfl
@[simp] theorem State.putRoute_flash (s : State) (x : RouteUnit) : (s.putRoute x).flash = s.flash := rfl
@[simp] theorem State.putRoute_ck (s : State) (x : RouteUnit) : (s.putRoute x).ck = s.ck := rfl
@[simp] theorem State.putRoute_mgmt (s : State) (x : RouteUnit) : (s.putRoute x).mgmt = s.mgmt := rfl
@[simp] theorem State.putRoute_draws (s : State) (x : RouteUnit) : (s.putRoute x).draws = s.draws := rfl
@[simp] theorem State.putRoute_pins (s : State) (x : RouteUnit) : (s.putRoute x).pins = s.pins := rfl
@[simp] theorem State.putRoute_gov (s : State) (x : RouteUnit) : (s.putRoute x).gov = s.gov := rfl
@[simp] theorem State.putRoute_tollU (s : State) (x : RouteUnit) : (s.putRoute x).tollU = s.tollU := rfl
@[simp] theorem State.putRoute_beatU (s : State) (x : RouteUnit) : (s.putRoute x).beatU = s.beatU := rfl
@[simp] theorem State.putRoute_probe (s : State) (x : RouteUnit) : (s.putRoute x).probe = s.probe := rfl
@[simp] theorem State.putRoute_chimes (s : State) (x : RouteUnit) : (s.putRoute x).chimes = s.chimes := rfl
@[simp] theorem State.putRoute_chimeq (s : State) (x : RouteUnit) : (s.putRoute x).chimeq = s.chimeq := rfl
@[simp] theorem State.putRoute_clusters (s : State) (x : RouteUnit) : (s.putRoute x).clusters = s.clusters := rfl
@[simp] theorem State.putRoute_bushels (s : State) (x : RouteUnit) : (s.putRoute x).bushels = s.bushels := rfl
@[simp] theorem State.putRoute_parked (s : State) (x : RouteUnit) : (s.putRoute x).parked = s.parked := rfl
@[simp] theorem State.putRoute_groups (s : State) (x : RouteUnit) : (s.putRoute x).groups = s.groups := rfl
@[simp] theorem State.putRoute_colls (s : State) (x : RouteUnit) : (s.putRoute x).colls = s.colls := rfl
@[simp] theorem State.putRoute_sw (s : State) (x : RouteUnit) : (s.putRoute x).sw = s.sw := rfl
@[simp] theorem State.putRoute_links (s : State) (x : RouteUnit) : (s.putRoute x).links = s.links := rfl
@[simp] theorem State.putRoute_acv (s : State) (x : RouteUnit) : (s.putRoute x).acv = s.acv := rfl
@[simp] theorem State.putRoute_comps (s : State) (x : RouteUnit) : (s.putRoute x).comps = s.comps := rfl
@[simp] theorem State.putRoute_poolq (s : State) (x : RouteUnit) : (s.putRoute x).poolq = s.poolq := rfl
@[simp] theorem State.putRoute_faults (s : State) (x : RouteUnit) : (s.putRoute x).faults = s.faults := rfl
@[simp] theorem State.putRoute_inj (s : State) (x : RouteUnit) : (s.putRoute x).inj = s.inj := rfl
@[simp] theorem State.putRoute_score (s : State) (x : RouteUnit) : (s.putRoute x).score = s.score := rfl
@[simp] theorem State.putRoute_ride (s : State) (x : RouteUnit) : (s.putRoute x).ride = s.ride := rfl
@[simp] theorem State.putRoute_ckpt (s : State) (x : RouteUnit) : (s.putRoute x).ckpt = s.ckpt := rfl
@[simp] theorem State.putRoute_boot (s : State) (x : RouteUnit) : (s.putRoute x).boot = s.boot := rfl
@[simp] theorem State.putRoute_out (s : State) (x : RouteUnit) : (s.putRoute x).out = s.out := rfl
@[simp] theorem State.putRoute_delivered (s : State) (x : RouteUnit) : (s.putRoute x).delivered = s.delivered := rfl

/-! ### putLinks -/

@[simp] theorem State.putLinks_links (s : State) (x : Tab Link) : (s.putLinks x).links = x := rfl
@[simp] theorem State.putLinks_pending (s : State) (x : Tab Link) : (s.putLinks x).pending = s.pending := rfl
@[simp] theorem State.putLinks_regs (s : State) (x : Tab Link) : (s.putLinks x).regs = s.regs := rfl
@[simp] theorem State.putLinks_fresh (s : State) (x : Tab Link) : (s.putLinks x).fresh = s.fresh := rfl
@[simp] theorem State.putLinks_mem (s : State) (x : Tab Link) : (s.putLinks x).mem = s.mem := rfl
@[simp] theorem State.putLinks_poison (s : State) (x : Tab Link) : (s.putLinks x).poison = s.poison := rfl
@[simp] theorem State.putLinks_soft (s : State) (x : Tab Link) : (s.putLinks x).soft = s.soft := rfl
@[simp] theorem State.putLinks_tags (s : State) (x : Tab Link) : (s.putLinks x).tags = s.tags := rfl
@[simp] theorem State.putLinks_host (s : State) (x : Tab Link) : (s.putLinks x).host = s.host := rfl
@[simp] theorem State.putLinks_nvme (s : State) (x : Tab Link) : (s.putLinks x).nvme = s.nvme := rfl
@[simp] theorem State.putLinks_flash (s : State) (x : Tab Link) : (s.putLinks x).flash = s.flash := rfl
@[simp] theorem State.putLinks_ck (s : State) (x : Tab Link) : (s.putLinks x).ck = s.ck := rfl
@[simp] theorem State.putLinks_mgmt (s : State) (x : Tab Link) : (s.putLinks x).mgmt = s.mgmt := rfl
@[simp] theorem State.putLinks_draws (s : State) (x : Tab Link) : (s.putLinks x).draws = s.draws := rfl
@[simp] theorem State.putLinks_pins (s : State) (x : Tab Link) : (s.putLinks x).pins = s.pins := rfl
@[simp] theorem State.putLinks_gov (s : State) (x : Tab Link) : (s.putLinks x).gov = s.gov := rfl
@[simp] theorem State.putLinks_tollU (s : State) (x : Tab Link) : (s.putLinks x).tollU = s.tollU := rfl
@[simp] theorem State.putLinks_beatU (s : State) (x : Tab Link) : (s.putLinks x).beatU = s.beatU := rfl
@[simp] theorem State.putLinks_probe (s : State) (x : Tab Link) : (s.putLinks x).probe = s.probe := rfl
@[simp] theorem State.putLinks_chimes (s : State) (x : Tab Link) : (s.putLinks x).chimes = s.chimes := rfl
@[simp] theorem State.putLinks_chimeq (s : State) (x : Tab Link) : (s.putLinks x).chimeq = s.chimeq := rfl
@[simp] theorem State.putLinks_clusters (s : State) (x : Tab Link) : (s.putLinks x).clusters = s.clusters := rfl
@[simp] theorem State.putLinks_bushels (s : State) (x : Tab Link) : (s.putLinks x).bushels = s.bushels := rfl
@[simp] theorem State.putLinks_parked (s : State) (x : Tab Link) : (s.putLinks x).parked = s.parked := rfl
@[simp] theorem State.putLinks_groups (s : State) (x : Tab Link) : (s.putLinks x).groups = s.groups := rfl
@[simp] theorem State.putLinks_colls (s : State) (x : Tab Link) : (s.putLinks x).colls = s.colls := rfl
@[simp] theorem State.putLinks_sw (s : State) (x : Tab Link) : (s.putLinks x).sw = s.sw := rfl
@[simp] theorem State.putLinks_route (s : State) (x : Tab Link) : (s.putLinks x).route = s.route := rfl
@[simp] theorem State.putLinks_acv (s : State) (x : Tab Link) : (s.putLinks x).acv = s.acv := rfl
@[simp] theorem State.putLinks_comps (s : State) (x : Tab Link) : (s.putLinks x).comps = s.comps := rfl
@[simp] theorem State.putLinks_poolq (s : State) (x : Tab Link) : (s.putLinks x).poolq = s.poolq := rfl
@[simp] theorem State.putLinks_faults (s : State) (x : Tab Link) : (s.putLinks x).faults = s.faults := rfl
@[simp] theorem State.putLinks_inj (s : State) (x : Tab Link) : (s.putLinks x).inj = s.inj := rfl
@[simp] theorem State.putLinks_score (s : State) (x : Tab Link) : (s.putLinks x).score = s.score := rfl
@[simp] theorem State.putLinks_ride (s : State) (x : Tab Link) : (s.putLinks x).ride = s.ride := rfl
@[simp] theorem State.putLinks_ckpt (s : State) (x : Tab Link) : (s.putLinks x).ckpt = s.ckpt := rfl
@[simp] theorem State.putLinks_boot (s : State) (x : Tab Link) : (s.putLinks x).boot = s.boot := rfl
@[simp] theorem State.putLinks_out (s : State) (x : Tab Link) : (s.putLinks x).out = s.out := rfl
@[simp] theorem State.putLinks_delivered (s : State) (x : Tab Link) : (s.putLinks x).delivered = s.delivered := rfl

/-! ### putAcv -/

@[simp] theorem State.putAcv_acv (s : State) (x : AcvLink) : (s.putAcv x).acv = x := rfl
@[simp] theorem State.putAcv_pending (s : State) (x : AcvLink) : (s.putAcv x).pending = s.pending := rfl
@[simp] theorem State.putAcv_regs (s : State) (x : AcvLink) : (s.putAcv x).regs = s.regs := rfl
@[simp] theorem State.putAcv_fresh (s : State) (x : AcvLink) : (s.putAcv x).fresh = s.fresh := rfl
@[simp] theorem State.putAcv_mem (s : State) (x : AcvLink) : (s.putAcv x).mem = s.mem := rfl
@[simp] theorem State.putAcv_poison (s : State) (x : AcvLink) : (s.putAcv x).poison = s.poison := rfl
@[simp] theorem State.putAcv_soft (s : State) (x : AcvLink) : (s.putAcv x).soft = s.soft := rfl
@[simp] theorem State.putAcv_tags (s : State) (x : AcvLink) : (s.putAcv x).tags = s.tags := rfl
@[simp] theorem State.putAcv_host (s : State) (x : AcvLink) : (s.putAcv x).host = s.host := rfl
@[simp] theorem State.putAcv_nvme (s : State) (x : AcvLink) : (s.putAcv x).nvme = s.nvme := rfl
@[simp] theorem State.putAcv_flash (s : State) (x : AcvLink) : (s.putAcv x).flash = s.flash := rfl
@[simp] theorem State.putAcv_ck (s : State) (x : AcvLink) : (s.putAcv x).ck = s.ck := rfl
@[simp] theorem State.putAcv_mgmt (s : State) (x : AcvLink) : (s.putAcv x).mgmt = s.mgmt := rfl
@[simp] theorem State.putAcv_draws (s : State) (x : AcvLink) : (s.putAcv x).draws = s.draws := rfl
@[simp] theorem State.putAcv_pins (s : State) (x : AcvLink) : (s.putAcv x).pins = s.pins := rfl
@[simp] theorem State.putAcv_gov (s : State) (x : AcvLink) : (s.putAcv x).gov = s.gov := rfl
@[simp] theorem State.putAcv_tollU (s : State) (x : AcvLink) : (s.putAcv x).tollU = s.tollU := rfl
@[simp] theorem State.putAcv_beatU (s : State) (x : AcvLink) : (s.putAcv x).beatU = s.beatU := rfl
@[simp] theorem State.putAcv_probe (s : State) (x : AcvLink) : (s.putAcv x).probe = s.probe := rfl
@[simp] theorem State.putAcv_chimes (s : State) (x : AcvLink) : (s.putAcv x).chimes = s.chimes := rfl
@[simp] theorem State.putAcv_chimeq (s : State) (x : AcvLink) : (s.putAcv x).chimeq = s.chimeq := rfl
@[simp] theorem State.putAcv_clusters (s : State) (x : AcvLink) : (s.putAcv x).clusters = s.clusters := rfl
@[simp] theorem State.putAcv_bushels (s : State) (x : AcvLink) : (s.putAcv x).bushels = s.bushels := rfl
@[simp] theorem State.putAcv_parked (s : State) (x : AcvLink) : (s.putAcv x).parked = s.parked := rfl
@[simp] theorem State.putAcv_groups (s : State) (x : AcvLink) : (s.putAcv x).groups = s.groups := rfl
@[simp] theorem State.putAcv_colls (s : State) (x : AcvLink) : (s.putAcv x).colls = s.colls := rfl
@[simp] theorem State.putAcv_sw (s : State) (x : AcvLink) : (s.putAcv x).sw = s.sw := rfl
@[simp] theorem State.putAcv_route (s : State) (x : AcvLink) : (s.putAcv x).route = s.route := rfl
@[simp] theorem State.putAcv_links (s : State) (x : AcvLink) : (s.putAcv x).links = s.links := rfl
@[simp] theorem State.putAcv_comps (s : State) (x : AcvLink) : (s.putAcv x).comps = s.comps := rfl
@[simp] theorem State.putAcv_poolq (s : State) (x : AcvLink) : (s.putAcv x).poolq = s.poolq := rfl
@[simp] theorem State.putAcv_faults (s : State) (x : AcvLink) : (s.putAcv x).faults = s.faults := rfl
@[simp] theorem State.putAcv_inj (s : State) (x : AcvLink) : (s.putAcv x).inj = s.inj := rfl
@[simp] theorem State.putAcv_score (s : State) (x : AcvLink) : (s.putAcv x).score = s.score := rfl
@[simp] theorem State.putAcv_ride (s : State) (x : AcvLink) : (s.putAcv x).ride = s.ride := rfl
@[simp] theorem State.putAcv_ckpt (s : State) (x : AcvLink) : (s.putAcv x).ckpt = s.ckpt := rfl
@[simp] theorem State.putAcv_boot (s : State) (x : AcvLink) : (s.putAcv x).boot = s.boot := rfl
@[simp] theorem State.putAcv_out (s : State) (x : AcvLink) : (s.putAcv x).out = s.out := rfl
@[simp] theorem State.putAcv_delivered (s : State) (x : AcvLink) : (s.putAcv x).delivered = s.delivered := rfl

/-! ### putComps -/

@[simp] theorem State.putComps_comps (s : State) (x : List Comp) : (s.putComps x).comps = x := rfl
@[simp] theorem State.putComps_pending (s : State) (x : List Comp) : (s.putComps x).pending = s.pending := rfl
@[simp] theorem State.putComps_regs (s : State) (x : List Comp) : (s.putComps x).regs = s.regs := rfl
@[simp] theorem State.putComps_fresh (s : State) (x : List Comp) : (s.putComps x).fresh = s.fresh := rfl
@[simp] theorem State.putComps_mem (s : State) (x : List Comp) : (s.putComps x).mem = s.mem := rfl
@[simp] theorem State.putComps_poison (s : State) (x : List Comp) : (s.putComps x).poison = s.poison := rfl
@[simp] theorem State.putComps_soft (s : State) (x : List Comp) : (s.putComps x).soft = s.soft := rfl
@[simp] theorem State.putComps_tags (s : State) (x : List Comp) : (s.putComps x).tags = s.tags := rfl
@[simp] theorem State.putComps_host (s : State) (x : List Comp) : (s.putComps x).host = s.host := rfl
@[simp] theorem State.putComps_nvme (s : State) (x : List Comp) : (s.putComps x).nvme = s.nvme := rfl
@[simp] theorem State.putComps_flash (s : State) (x : List Comp) : (s.putComps x).flash = s.flash := rfl
@[simp] theorem State.putComps_ck (s : State) (x : List Comp) : (s.putComps x).ck = s.ck := rfl
@[simp] theorem State.putComps_mgmt (s : State) (x : List Comp) : (s.putComps x).mgmt = s.mgmt := rfl
@[simp] theorem State.putComps_draws (s : State) (x : List Comp) : (s.putComps x).draws = s.draws := rfl
@[simp] theorem State.putComps_pins (s : State) (x : List Comp) : (s.putComps x).pins = s.pins := rfl
@[simp] theorem State.putComps_gov (s : State) (x : List Comp) : (s.putComps x).gov = s.gov := rfl
@[simp] theorem State.putComps_tollU (s : State) (x : List Comp) : (s.putComps x).tollU = s.tollU := rfl
@[simp] theorem State.putComps_beatU (s : State) (x : List Comp) : (s.putComps x).beatU = s.beatU := rfl
@[simp] theorem State.putComps_probe (s : State) (x : List Comp) : (s.putComps x).probe = s.probe := rfl
@[simp] theorem State.putComps_chimes (s : State) (x : List Comp) : (s.putComps x).chimes = s.chimes := rfl
@[simp] theorem State.putComps_chimeq (s : State) (x : List Comp) : (s.putComps x).chimeq = s.chimeq := rfl
@[simp] theorem State.putComps_clusters (s : State) (x : List Comp) : (s.putComps x).clusters = s.clusters := rfl
@[simp] theorem State.putComps_bushels (s : State) (x : List Comp) : (s.putComps x).bushels = s.bushels := rfl
@[simp] theorem State.putComps_parked (s : State) (x : List Comp) : (s.putComps x).parked = s.parked := rfl
@[simp] theorem State.putComps_groups (s : State) (x : List Comp) : (s.putComps x).groups = s.groups := rfl
@[simp] theorem State.putComps_colls (s : State) (x : List Comp) : (s.putComps x).colls = s.colls := rfl
@[simp] theorem State.putComps_sw (s : State) (x : List Comp) : (s.putComps x).sw = s.sw := rfl
@[simp] theorem State.putComps_route (s : State) (x : List Comp) : (s.putComps x).route = s.route := rfl
@[simp] theorem State.putComps_links (s : State) (x : List Comp) : (s.putComps x).links = s.links := rfl
@[simp] theorem State.putComps_acv (s : State) (x : List Comp) : (s.putComps x).acv = s.acv := rfl
@[simp] theorem State.putComps_poolq (s : State) (x : List Comp) : (s.putComps x).poolq = s.poolq := rfl
@[simp] theorem State.putComps_faults (s : State) (x : List Comp) : (s.putComps x).faults = s.faults := rfl
@[simp] theorem State.putComps_inj (s : State) (x : List Comp) : (s.putComps x).inj = s.inj := rfl
@[simp] theorem State.putComps_score (s : State) (x : List Comp) : (s.putComps x).score = s.score := rfl
@[simp] theorem State.putComps_ride (s : State) (x : List Comp) : (s.putComps x).ride = s.ride := rfl
@[simp] theorem State.putComps_ckpt (s : State) (x : List Comp) : (s.putComps x).ckpt = s.ckpt := rfl
@[simp] theorem State.putComps_boot (s : State) (x : List Comp) : (s.putComps x).boot = s.boot := rfl
@[simp] theorem State.putComps_out (s : State) (x : List Comp) : (s.putComps x).out = s.out := rfl
@[simp] theorem State.putComps_delivered (s : State) (x : List Comp) : (s.putComps x).delivered = s.delivered := rfl

/-! ### putPoolq -/

@[simp] theorem State.putPoolq_poolq (s : State) (x : List PoolReq) : (s.putPoolq x).poolq = x := rfl
@[simp] theorem State.putPoolq_pending (s : State) (x : List PoolReq) : (s.putPoolq x).pending = s.pending := rfl
@[simp] theorem State.putPoolq_regs (s : State) (x : List PoolReq) : (s.putPoolq x).regs = s.regs := rfl
@[simp] theorem State.putPoolq_fresh (s : State) (x : List PoolReq) : (s.putPoolq x).fresh = s.fresh := rfl
@[simp] theorem State.putPoolq_mem (s : State) (x : List PoolReq) : (s.putPoolq x).mem = s.mem := rfl
@[simp] theorem State.putPoolq_poison (s : State) (x : List PoolReq) : (s.putPoolq x).poison = s.poison := rfl
@[simp] theorem State.putPoolq_soft (s : State) (x : List PoolReq) : (s.putPoolq x).soft = s.soft := rfl
@[simp] theorem State.putPoolq_tags (s : State) (x : List PoolReq) : (s.putPoolq x).tags = s.tags := rfl
@[simp] theorem State.putPoolq_host (s : State) (x : List PoolReq) : (s.putPoolq x).host = s.host := rfl
@[simp] theorem State.putPoolq_nvme (s : State) (x : List PoolReq) : (s.putPoolq x).nvme = s.nvme := rfl
@[simp] theorem State.putPoolq_flash (s : State) (x : List PoolReq) : (s.putPoolq x).flash = s.flash := rfl
@[simp] theorem State.putPoolq_ck (s : State) (x : List PoolReq) : (s.putPoolq x).ck = s.ck := rfl
@[simp] theorem State.putPoolq_mgmt (s : State) (x : List PoolReq) : (s.putPoolq x).mgmt = s.mgmt := rfl
@[simp] theorem State.putPoolq_draws (s : State) (x : List PoolReq) : (s.putPoolq x).draws = s.draws := rfl
@[simp] theorem State.putPoolq_pins (s : State) (x : List PoolReq) : (s.putPoolq x).pins = s.pins := rfl
@[simp] theorem State.putPoolq_gov (s : State) (x : List PoolReq) : (s.putPoolq x).gov = s.gov := rfl
@[simp] theorem State.putPoolq_tollU (s : State) (x : List PoolReq) : (s.putPoolq x).tollU = s.tollU := rfl
@[simp] theorem State.putPoolq_beatU (s : State) (x : List PoolReq) : (s.putPoolq x).beatU = s.beatU := rfl
@[simp] theorem State.putPoolq_probe (s : State) (x : List PoolReq) : (s.putPoolq x).probe = s.probe := rfl
@[simp] theorem State.putPoolq_chimes (s : State) (x : List PoolReq) : (s.putPoolq x).chimes = s.chimes := rfl
@[simp] theorem State.putPoolq_chimeq (s : State) (x : List PoolReq) : (s.putPoolq x).chimeq = s.chimeq := rfl
@[simp] theorem State.putPoolq_clusters (s : State) (x : List PoolReq) : (s.putPoolq x).clusters = s.clusters := rfl
@[simp] theorem State.putPoolq_bushels (s : State) (x : List PoolReq) : (s.putPoolq x).bushels = s.bushels := rfl
@[simp] theorem State.putPoolq_parked (s : State) (x : List PoolReq) : (s.putPoolq x).parked = s.parked := rfl
@[simp] theorem State.putPoolq_groups (s : State) (x : List PoolReq) : (s.putPoolq x).groups = s.groups := rfl
@[simp] theorem State.putPoolq_colls (s : State) (x : List PoolReq) : (s.putPoolq x).colls = s.colls := rfl
@[simp] theorem State.putPoolq_sw (s : State) (x : List PoolReq) : (s.putPoolq x).sw = s.sw := rfl
@[simp] theorem State.putPoolq_route (s : State) (x : List PoolReq) : (s.putPoolq x).route = s.route := rfl
@[simp] theorem State.putPoolq_links (s : State) (x : List PoolReq) : (s.putPoolq x).links = s.links := rfl
@[simp] theorem State.putPoolq_acv (s : State) (x : List PoolReq) : (s.putPoolq x).acv = s.acv := rfl
@[simp] theorem State.putPoolq_comps (s : State) (x : List PoolReq) : (s.putPoolq x).comps = s.comps := rfl
@[simp] theorem State.putPoolq_faults (s : State) (x : List PoolReq) : (s.putPoolq x).faults = s.faults := rfl
@[simp] theorem State.putPoolq_inj (s : State) (x : List PoolReq) : (s.putPoolq x).inj = s.inj := rfl
@[simp] theorem State.putPoolq_score (s : State) (x : List PoolReq) : (s.putPoolq x).score = s.score := rfl
@[simp] theorem State.putPoolq_ride (s : State) (x : List PoolReq) : (s.putPoolq x).ride = s.ride := rfl
@[simp] theorem State.putPoolq_ckpt (s : State) (x : List PoolReq) : (s.putPoolq x).ckpt = s.ckpt := rfl
@[simp] theorem State.putPoolq_boot (s : State) (x : List PoolReq) : (s.putPoolq x).boot = s.boot := rfl
@[simp] theorem State.putPoolq_out (s : State) (x : List PoolReq) : (s.putPoolq x).out = s.out := rfl
@[simp] theorem State.putPoolq_delivered (s : State) (x : List PoolReq) : (s.putPoolq x).delivered = s.delivered := rfl

/-! ### putFaults -/

@[simp] theorem State.putFaults_faults (s : State) (x : FaultUnit) : (s.putFaults x).faults = x := rfl
@[simp] theorem State.putFaults_pending (s : State) (x : FaultUnit) : (s.putFaults x).pending = s.pending := rfl
@[simp] theorem State.putFaults_regs (s : State) (x : FaultUnit) : (s.putFaults x).regs = s.regs := rfl
@[simp] theorem State.putFaults_fresh (s : State) (x : FaultUnit) : (s.putFaults x).fresh = s.fresh := rfl
@[simp] theorem State.putFaults_mem (s : State) (x : FaultUnit) : (s.putFaults x).mem = s.mem := rfl
@[simp] theorem State.putFaults_poison (s : State) (x : FaultUnit) : (s.putFaults x).poison = s.poison := rfl
@[simp] theorem State.putFaults_soft (s : State) (x : FaultUnit) : (s.putFaults x).soft = s.soft := rfl
@[simp] theorem State.putFaults_tags (s : State) (x : FaultUnit) : (s.putFaults x).tags = s.tags := rfl
@[simp] theorem State.putFaults_host (s : State) (x : FaultUnit) : (s.putFaults x).host = s.host := rfl
@[simp] theorem State.putFaults_nvme (s : State) (x : FaultUnit) : (s.putFaults x).nvme = s.nvme := rfl
@[simp] theorem State.putFaults_flash (s : State) (x : FaultUnit) : (s.putFaults x).flash = s.flash := rfl
@[simp] theorem State.putFaults_ck (s : State) (x : FaultUnit) : (s.putFaults x).ck = s.ck := rfl
@[simp] theorem State.putFaults_mgmt (s : State) (x : FaultUnit) : (s.putFaults x).mgmt = s.mgmt := rfl
@[simp] theorem State.putFaults_draws (s : State) (x : FaultUnit) : (s.putFaults x).draws = s.draws := rfl
@[simp] theorem State.putFaults_pins (s : State) (x : FaultUnit) : (s.putFaults x).pins = s.pins := rfl
@[simp] theorem State.putFaults_gov (s : State) (x : FaultUnit) : (s.putFaults x).gov = s.gov := rfl
@[simp] theorem State.putFaults_tollU (s : State) (x : FaultUnit) : (s.putFaults x).tollU = s.tollU := rfl
@[simp] theorem State.putFaults_beatU (s : State) (x : FaultUnit) : (s.putFaults x).beatU = s.beatU := rfl
@[simp] theorem State.putFaults_probe (s : State) (x : FaultUnit) : (s.putFaults x).probe = s.probe := rfl
@[simp] theorem State.putFaults_chimes (s : State) (x : FaultUnit) : (s.putFaults x).chimes = s.chimes := rfl
@[simp] theorem State.putFaults_chimeq (s : State) (x : FaultUnit) : (s.putFaults x).chimeq = s.chimeq := rfl
@[simp] theorem State.putFaults_clusters (s : State) (x : FaultUnit) : (s.putFaults x).clusters = s.clusters := rfl
@[simp] theorem State.putFaults_bushels (s : State) (x : FaultUnit) : (s.putFaults x).bushels = s.bushels := rfl
@[simp] theorem State.putFaults_parked (s : State) (x : FaultUnit) : (s.putFaults x).parked = s.parked := rfl
@[simp] theorem State.putFaults_groups (s : State) (x : FaultUnit) : (s.putFaults x).groups = s.groups := rfl
@[simp] theorem State.putFaults_colls (s : State) (x : FaultUnit) : (s.putFaults x).colls = s.colls := rfl
@[simp] theorem State.putFaults_sw (s : State) (x : FaultUnit) : (s.putFaults x).sw = s.sw := rfl
@[simp] theorem State.putFaults_route (s : State) (x : FaultUnit) : (s.putFaults x).route = s.route := rfl
@[simp] theorem State.putFaults_links (s : State) (x : FaultUnit) : (s.putFaults x).links = s.links := rfl
@[simp] theorem State.putFaults_acv (s : State) (x : FaultUnit) : (s.putFaults x).acv = s.acv := rfl
@[simp] theorem State.putFaults_comps (s : State) (x : FaultUnit) : (s.putFaults x).comps = s.comps := rfl
@[simp] theorem State.putFaults_poolq (s : State) (x : FaultUnit) : (s.putFaults x).poolq = s.poolq := rfl
@[simp] theorem State.putFaults_inj (s : State) (x : FaultUnit) : (s.putFaults x).inj = s.inj := rfl
@[simp] theorem State.putFaults_score (s : State) (x : FaultUnit) : (s.putFaults x).score = s.score := rfl
@[simp] theorem State.putFaults_ride (s : State) (x : FaultUnit) : (s.putFaults x).ride = s.ride := rfl
@[simp] theorem State.putFaults_ckpt (s : State) (x : FaultUnit) : (s.putFaults x).ckpt = s.ckpt := rfl
@[simp] theorem State.putFaults_boot (s : State) (x : FaultUnit) : (s.putFaults x).boot = s.boot := rfl
@[simp] theorem State.putFaults_out (s : State) (x : FaultUnit) : (s.putFaults x).out = s.out := rfl
@[simp] theorem State.putFaults_delivered (s : State) (x : FaultUnit) : (s.putFaults x).delivered = s.delivered := rfl

/-! ### putInj -/

@[simp] theorem State.putInj_inj (s : State) (x : Inject) : (s.putInj x).inj = x := rfl
@[simp] theorem State.putInj_pending (s : State) (x : Inject) : (s.putInj x).pending = s.pending := rfl
@[simp] theorem State.putInj_regs (s : State) (x : Inject) : (s.putInj x).regs = s.regs := rfl
@[simp] theorem State.putInj_fresh (s : State) (x : Inject) : (s.putInj x).fresh = s.fresh := rfl
@[simp] theorem State.putInj_mem (s : State) (x : Inject) : (s.putInj x).mem = s.mem := rfl
@[simp] theorem State.putInj_poison (s : State) (x : Inject) : (s.putInj x).poison = s.poison := rfl
@[simp] theorem State.putInj_soft (s : State) (x : Inject) : (s.putInj x).soft = s.soft := rfl
@[simp] theorem State.putInj_tags (s : State) (x : Inject) : (s.putInj x).tags = s.tags := rfl
@[simp] theorem State.putInj_host (s : State) (x : Inject) : (s.putInj x).host = s.host := rfl
@[simp] theorem State.putInj_nvme (s : State) (x : Inject) : (s.putInj x).nvme = s.nvme := rfl
@[simp] theorem State.putInj_flash (s : State) (x : Inject) : (s.putInj x).flash = s.flash := rfl
@[simp] theorem State.putInj_ck (s : State) (x : Inject) : (s.putInj x).ck = s.ck := rfl
@[simp] theorem State.putInj_mgmt (s : State) (x : Inject) : (s.putInj x).mgmt = s.mgmt := rfl
@[simp] theorem State.putInj_draws (s : State) (x : Inject) : (s.putInj x).draws = s.draws := rfl
@[simp] theorem State.putInj_pins (s : State) (x : Inject) : (s.putInj x).pins = s.pins := rfl
@[simp] theorem State.putInj_gov (s : State) (x : Inject) : (s.putInj x).gov = s.gov := rfl
@[simp] theorem State.putInj_tollU (s : State) (x : Inject) : (s.putInj x).tollU = s.tollU := rfl
@[simp] theorem State.putInj_beatU (s : State) (x : Inject) : (s.putInj x).beatU = s.beatU := rfl
@[simp] theorem State.putInj_probe (s : State) (x : Inject) : (s.putInj x).probe = s.probe := rfl
@[simp] theorem State.putInj_chimes (s : State) (x : Inject) : (s.putInj x).chimes = s.chimes := rfl
@[simp] theorem State.putInj_chimeq (s : State) (x : Inject) : (s.putInj x).chimeq = s.chimeq := rfl
@[simp] theorem State.putInj_clusters (s : State) (x : Inject) : (s.putInj x).clusters = s.clusters := rfl
@[simp] theorem State.putInj_bushels (s : State) (x : Inject) : (s.putInj x).bushels = s.bushels := rfl
@[simp] theorem State.putInj_parked (s : State) (x : Inject) : (s.putInj x).parked = s.parked := rfl
@[simp] theorem State.putInj_groups (s : State) (x : Inject) : (s.putInj x).groups = s.groups := rfl
@[simp] theorem State.putInj_colls (s : State) (x : Inject) : (s.putInj x).colls = s.colls := rfl
@[simp] theorem State.putInj_sw (s : State) (x : Inject) : (s.putInj x).sw = s.sw := rfl
@[simp] theorem State.putInj_route (s : State) (x : Inject) : (s.putInj x).route = s.route := rfl
@[simp] theorem State.putInj_links (s : State) (x : Inject) : (s.putInj x).links = s.links := rfl
@[simp] theorem State.putInj_acv (s : State) (x : Inject) : (s.putInj x).acv = s.acv := rfl
@[simp] theorem State.putInj_comps (s : State) (x : Inject) : (s.putInj x).comps = s.comps := rfl
@[simp] theorem State.putInj_poolq (s : State) (x : Inject) : (s.putInj x).poolq = s.poolq := rfl
@[simp] theorem State.putInj_faults (s : State) (x : Inject) : (s.putInj x).faults = s.faults := rfl
@[simp] theorem State.putInj_score (s : State) (x : Inject) : (s.putInj x).score = s.score := rfl
@[simp] theorem State.putInj_ride (s : State) (x : Inject) : (s.putInj x).ride = s.ride := rfl
@[simp] theorem State.putInj_ckpt (s : State) (x : Inject) : (s.putInj x).ckpt = s.ckpt := rfl
@[simp] theorem State.putInj_boot (s : State) (x : Inject) : (s.putInj x).boot = s.boot := rfl
@[simp] theorem State.putInj_out (s : State) (x : Inject) : (s.putInj x).out = s.out := rfl
@[simp] theorem State.putInj_delivered (s : State) (x : Inject) : (s.putInj x).delivered = s.delivered := rfl

/-! ### putScore -/

@[simp] theorem State.putScore_score (s : State) (x : ScoreUnit) : (s.putScore x).score = x := rfl
@[simp] theorem State.putScore_pending (s : State) (x : ScoreUnit) : (s.putScore x).pending = s.pending := rfl
@[simp] theorem State.putScore_regs (s : State) (x : ScoreUnit) : (s.putScore x).regs = s.regs := rfl
@[simp] theorem State.putScore_fresh (s : State) (x : ScoreUnit) : (s.putScore x).fresh = s.fresh := rfl
@[simp] theorem State.putScore_mem (s : State) (x : ScoreUnit) : (s.putScore x).mem = s.mem := rfl
@[simp] theorem State.putScore_poison (s : State) (x : ScoreUnit) : (s.putScore x).poison = s.poison := rfl
@[simp] theorem State.putScore_soft (s : State) (x : ScoreUnit) : (s.putScore x).soft = s.soft := rfl
@[simp] theorem State.putScore_tags (s : State) (x : ScoreUnit) : (s.putScore x).tags = s.tags := rfl
@[simp] theorem State.putScore_host (s : State) (x : ScoreUnit) : (s.putScore x).host = s.host := rfl
@[simp] theorem State.putScore_nvme (s : State) (x : ScoreUnit) : (s.putScore x).nvme = s.nvme := rfl
@[simp] theorem State.putScore_flash (s : State) (x : ScoreUnit) : (s.putScore x).flash = s.flash := rfl
@[simp] theorem State.putScore_ck (s : State) (x : ScoreUnit) : (s.putScore x).ck = s.ck := rfl
@[simp] theorem State.putScore_mgmt (s : State) (x : ScoreUnit) : (s.putScore x).mgmt = s.mgmt := rfl
@[simp] theorem State.putScore_draws (s : State) (x : ScoreUnit) : (s.putScore x).draws = s.draws := rfl
@[simp] theorem State.putScore_pins (s : State) (x : ScoreUnit) : (s.putScore x).pins = s.pins := rfl
@[simp] theorem State.putScore_gov (s : State) (x : ScoreUnit) : (s.putScore x).gov = s.gov := rfl
@[simp] theorem State.putScore_tollU (s : State) (x : ScoreUnit) : (s.putScore x).tollU = s.tollU := rfl
@[simp] theorem State.putScore_beatU (s : State) (x : ScoreUnit) : (s.putScore x).beatU = s.beatU := rfl
@[simp] theorem State.putScore_probe (s : State) (x : ScoreUnit) : (s.putScore x).probe = s.probe := rfl
@[simp] theorem State.putScore_chimes (s : State) (x : ScoreUnit) : (s.putScore x).chimes = s.chimes := rfl
@[simp] theorem State.putScore_chimeq (s : State) (x : ScoreUnit) : (s.putScore x).chimeq = s.chimeq := rfl
@[simp] theorem State.putScore_clusters (s : State) (x : ScoreUnit) : (s.putScore x).clusters = s.clusters := rfl
@[simp] theorem State.putScore_bushels (s : State) (x : ScoreUnit) : (s.putScore x).bushels = s.bushels := rfl
@[simp] theorem State.putScore_parked (s : State) (x : ScoreUnit) : (s.putScore x).parked = s.parked := rfl
@[simp] theorem State.putScore_groups (s : State) (x : ScoreUnit) : (s.putScore x).groups = s.groups := rfl
@[simp] theorem State.putScore_colls (s : State) (x : ScoreUnit) : (s.putScore x).colls = s.colls := rfl
@[simp] theorem State.putScore_sw (s : State) (x : ScoreUnit) : (s.putScore x).sw = s.sw := rfl
@[simp] theorem State.putScore_route (s : State) (x : ScoreUnit) : (s.putScore x).route = s.route := rfl
@[simp] theorem State.putScore_links (s : State) (x : ScoreUnit) : (s.putScore x).links = s.links := rfl
@[simp] theorem State.putScore_acv (s : State) (x : ScoreUnit) : (s.putScore x).acv = s.acv := rfl
@[simp] theorem State.putScore_comps (s : State) (x : ScoreUnit) : (s.putScore x).comps = s.comps := rfl
@[simp] theorem State.putScore_poolq (s : State) (x : ScoreUnit) : (s.putScore x).poolq = s.poolq := rfl
@[simp] theorem State.putScore_faults (s : State) (x : ScoreUnit) : (s.putScore x).faults = s.faults := rfl
@[simp] theorem State.putScore_inj (s : State) (x : ScoreUnit) : (s.putScore x).inj = s.inj := rfl
@[simp] theorem State.putScore_ride (s : State) (x : ScoreUnit) : (s.putScore x).ride = s.ride := rfl
@[simp] theorem State.putScore_ckpt (s : State) (x : ScoreUnit) : (s.putScore x).ckpt = s.ckpt := rfl
@[simp] theorem State.putScore_boot (s : State) (x : ScoreUnit) : (s.putScore x).boot = s.boot := rfl
@[simp] theorem State.putScore_out (s : State) (x : ScoreUnit) : (s.putScore x).out = s.out := rfl
@[simp] theorem State.putScore_delivered (s : State) (x : ScoreUnit) : (s.putScore x).delivered = s.delivered := rfl

/-! ### putRide -/

@[simp] theorem State.putRide_ride (s : State) (x : RideUnit) : (s.putRide x).ride = x := rfl
@[simp] theorem State.putRide_pending (s : State) (x : RideUnit) : (s.putRide x).pending = s.pending := rfl
@[simp] theorem State.putRide_regs (s : State) (x : RideUnit) : (s.putRide x).regs = s.regs := rfl
@[simp] theorem State.putRide_fresh (s : State) (x : RideUnit) : (s.putRide x).fresh = s.fresh := rfl
@[simp] theorem State.putRide_mem (s : State) (x : RideUnit) : (s.putRide x).mem = s.mem := rfl
@[simp] theorem State.putRide_poison (s : State) (x : RideUnit) : (s.putRide x).poison = s.poison := rfl
@[simp] theorem State.putRide_soft (s : State) (x : RideUnit) : (s.putRide x).soft = s.soft := rfl
@[simp] theorem State.putRide_tags (s : State) (x : RideUnit) : (s.putRide x).tags = s.tags := rfl
@[simp] theorem State.putRide_host (s : State) (x : RideUnit) : (s.putRide x).host = s.host := rfl
@[simp] theorem State.putRide_nvme (s : State) (x : RideUnit) : (s.putRide x).nvme = s.nvme := rfl
@[simp] theorem State.putRide_flash (s : State) (x : RideUnit) : (s.putRide x).flash = s.flash := rfl
@[simp] theorem State.putRide_ck (s : State) (x : RideUnit) : (s.putRide x).ck = s.ck := rfl
@[simp] theorem State.putRide_mgmt (s : State) (x : RideUnit) : (s.putRide x).mgmt = s.mgmt := rfl
@[simp] theorem State.putRide_draws (s : State) (x : RideUnit) : (s.putRide x).draws = s.draws := rfl
@[simp] theorem State.putRide_pins (s : State) (x : RideUnit) : (s.putRide x).pins = s.pins := rfl
@[simp] theorem State.putRide_gov (s : State) (x : RideUnit) : (s.putRide x).gov = s.gov := rfl
@[simp] theorem State.putRide_tollU (s : State) (x : RideUnit) : (s.putRide x).tollU = s.tollU := rfl
@[simp] theorem State.putRide_beatU (s : State) (x : RideUnit) : (s.putRide x).beatU = s.beatU := rfl
@[simp] theorem State.putRide_probe (s : State) (x : RideUnit) : (s.putRide x).probe = s.probe := rfl
@[simp] theorem State.putRide_chimes (s : State) (x : RideUnit) : (s.putRide x).chimes = s.chimes := rfl
@[simp] theorem State.putRide_chimeq (s : State) (x : RideUnit) : (s.putRide x).chimeq = s.chimeq := rfl
@[simp] theorem State.putRide_clusters (s : State) (x : RideUnit) : (s.putRide x).clusters = s.clusters := rfl
@[simp] theorem State.putRide_bushels (s : State) (x : RideUnit) : (s.putRide x).bushels = s.bushels := rfl
@[simp] theorem State.putRide_parked (s : State) (x : RideUnit) : (s.putRide x).parked = s.parked := rfl
@[simp] theorem State.putRide_groups (s : State) (x : RideUnit) : (s.putRide x).groups = s.groups := rfl
@[simp] theorem State.putRide_colls (s : State) (x : RideUnit) : (s.putRide x).colls = s.colls := rfl
@[simp] theorem State.putRide_sw (s : State) (x : RideUnit) : (s.putRide x).sw = s.sw := rfl
@[simp] theorem State.putRide_route (s : State) (x : RideUnit) : (s.putRide x).route = s.route := rfl
@[simp] theorem State.putRide_links (s : State) (x : RideUnit) : (s.putRide x).links = s.links := rfl
@[simp] theorem State.putRide_acv (s : State) (x : RideUnit) : (s.putRide x).acv = s.acv := rfl
@[simp] theorem State.putRide_comps (s : State) (x : RideUnit) : (s.putRide x).comps = s.comps := rfl
@[simp] theorem State.putRide_poolq (s : State) (x : RideUnit) : (s.putRide x).poolq = s.poolq := rfl
@[simp] theorem State.putRide_faults (s : State) (x : RideUnit) : (s.putRide x).faults = s.faults := rfl
@[simp] theorem State.putRide_inj (s : State) (x : RideUnit) : (s.putRide x).inj = s.inj := rfl
@[simp] theorem State.putRide_score (s : State) (x : RideUnit) : (s.putRide x).score = s.score := rfl
@[simp] theorem State.putRide_ckpt (s : State) (x : RideUnit) : (s.putRide x).ckpt = s.ckpt := rfl
@[simp] theorem State.putRide_boot (s : State) (x : RideUnit) : (s.putRide x).boot = s.boot := rfl
@[simp] theorem State.putRide_out (s : State) (x : RideUnit) : (s.putRide x).out = s.out := rfl
@[simp] theorem State.putRide_delivered (s : State) (x : RideUnit) : (s.putRide x).delivered = s.delivered := rfl

/-! ### putCkpt -/

@[simp] theorem State.putCkpt_ckpt (s : State) (x : CkptUnit) : (s.putCkpt x).ckpt = x := rfl
@[simp] theorem State.putCkpt_pending (s : State) (x : CkptUnit) : (s.putCkpt x).pending = s.pending := rfl
@[simp] theorem State.putCkpt_regs (s : State) (x : CkptUnit) : (s.putCkpt x).regs = s.regs := rfl
@[simp] theorem State.putCkpt_fresh (s : State) (x : CkptUnit) : (s.putCkpt x).fresh = s.fresh := rfl
@[simp] theorem State.putCkpt_mem (s : State) (x : CkptUnit) : (s.putCkpt x).mem = s.mem := rfl
@[simp] theorem State.putCkpt_poison (s : State) (x : CkptUnit) : (s.putCkpt x).poison = s.poison := rfl
@[simp] theorem State.putCkpt_soft (s : State) (x : CkptUnit) : (s.putCkpt x).soft = s.soft := rfl
@[simp] theorem State.putCkpt_tags (s : State) (x : CkptUnit) : (s.putCkpt x).tags = s.tags := rfl
@[simp] theorem State.putCkpt_host (s : State) (x : CkptUnit) : (s.putCkpt x).host = s.host := rfl
@[simp] theorem State.putCkpt_nvme (s : State) (x : CkptUnit) : (s.putCkpt x).nvme = s.nvme := rfl
@[simp] theorem State.putCkpt_flash (s : State) (x : CkptUnit) : (s.putCkpt x).flash = s.flash := rfl
@[simp] theorem State.putCkpt_ck (s : State) (x : CkptUnit) : (s.putCkpt x).ck = s.ck := rfl
@[simp] theorem State.putCkpt_mgmt (s : State) (x : CkptUnit) : (s.putCkpt x).mgmt = s.mgmt := rfl
@[simp] theorem State.putCkpt_draws (s : State) (x : CkptUnit) : (s.putCkpt x).draws = s.draws := rfl
@[simp] theorem State.putCkpt_pins (s : State) (x : CkptUnit) : (s.putCkpt x).pins = s.pins := rfl
@[simp] theorem State.putCkpt_gov (s : State) (x : CkptUnit) : (s.putCkpt x).gov = s.gov := rfl
@[simp] theorem State.putCkpt_tollU (s : State) (x : CkptUnit) : (s.putCkpt x).tollU = s.tollU := rfl
@[simp] theorem State.putCkpt_beatU (s : State) (x : CkptUnit) : (s.putCkpt x).beatU = s.beatU := rfl
@[simp] theorem State.putCkpt_probe (s : State) (x : CkptUnit) : (s.putCkpt x).probe = s.probe := rfl
@[simp] theorem State.putCkpt_chimes (s : State) (x : CkptUnit) : (s.putCkpt x).chimes = s.chimes := rfl
@[simp] theorem State.putCkpt_chimeq (s : State) (x : CkptUnit) : (s.putCkpt x).chimeq = s.chimeq := rfl
@[simp] theorem State.putCkpt_clusters (s : State) (x : CkptUnit) : (s.putCkpt x).clusters = s.clusters := rfl
@[simp] theorem State.putCkpt_bushels (s : State) (x : CkptUnit) : (s.putCkpt x).bushels = s.bushels := rfl
@[simp] theorem State.putCkpt_parked (s : State) (x : CkptUnit) : (s.putCkpt x).parked = s.parked := rfl
@[simp] theorem State.putCkpt_groups (s : State) (x : CkptUnit) : (s.putCkpt x).groups = s.groups := rfl
@[simp] theorem State.putCkpt_colls (s : State) (x : CkptUnit) : (s.putCkpt x).colls = s.colls := rfl
@[simp] theorem State.putCkpt_sw (s : State) (x : CkptUnit) : (s.putCkpt x).sw = s.sw := rfl
@[simp] theorem State.putCkpt_route (s : State) (x : CkptUnit) : (s.putCkpt x).route = s.route := rfl
@[simp] theorem State.putCkpt_links (s : State) (x : CkptUnit) : (s.putCkpt x).links = s.links := rfl
@[simp] theorem State.putCkpt_acv (s : State) (x : CkptUnit) : (s.putCkpt x).acv = s.acv := rfl
@[simp] theorem State.putCkpt_comps (s : State) (x : CkptUnit) : (s.putCkpt x).comps = s.comps := rfl
@[simp] theorem State.putCkpt_poolq (s : State) (x : CkptUnit) : (s.putCkpt x).poolq = s.poolq := rfl
@[simp] theorem State.putCkpt_faults (s : State) (x : CkptUnit) : (s.putCkpt x).faults = s.faults := rfl
@[simp] theorem State.putCkpt_inj (s : State) (x : CkptUnit) : (s.putCkpt x).inj = s.inj := rfl
@[simp] theorem State.putCkpt_score (s : State) (x : CkptUnit) : (s.putCkpt x).score = s.score := rfl
@[simp] theorem State.putCkpt_ride (s : State) (x : CkptUnit) : (s.putCkpt x).ride = s.ride := rfl
@[simp] theorem State.putCkpt_boot (s : State) (x : CkptUnit) : (s.putCkpt x).boot = s.boot := rfl
@[simp] theorem State.putCkpt_out (s : State) (x : CkptUnit) : (s.putCkpt x).out = s.out := rfl
@[simp] theorem State.putCkpt_delivered (s : State) (x : CkptUnit) : (s.putCkpt x).delivered = s.delivered := rfl

/-! ### putBoot -/

@[simp] theorem State.putBoot_boot (s : State) (x : BootUnit) : (s.putBoot x).boot = x := rfl
@[simp] theorem State.putBoot_pending (s : State) (x : BootUnit) : (s.putBoot x).pending = s.pending := rfl
@[simp] theorem State.putBoot_regs (s : State) (x : BootUnit) : (s.putBoot x).regs = s.regs := rfl
@[simp] theorem State.putBoot_fresh (s : State) (x : BootUnit) : (s.putBoot x).fresh = s.fresh := rfl
@[simp] theorem State.putBoot_mem (s : State) (x : BootUnit) : (s.putBoot x).mem = s.mem := rfl
@[simp] theorem State.putBoot_poison (s : State) (x : BootUnit) : (s.putBoot x).poison = s.poison := rfl
@[simp] theorem State.putBoot_soft (s : State) (x : BootUnit) : (s.putBoot x).soft = s.soft := rfl
@[simp] theorem State.putBoot_tags (s : State) (x : BootUnit) : (s.putBoot x).tags = s.tags := rfl
@[simp] theorem State.putBoot_host (s : State) (x : BootUnit) : (s.putBoot x).host = s.host := rfl
@[simp] theorem State.putBoot_nvme (s : State) (x : BootUnit) : (s.putBoot x).nvme = s.nvme := rfl
@[simp] theorem State.putBoot_flash (s : State) (x : BootUnit) : (s.putBoot x).flash = s.flash := rfl
@[simp] theorem State.putBoot_ck (s : State) (x : BootUnit) : (s.putBoot x).ck = s.ck := rfl
@[simp] theorem State.putBoot_mgmt (s : State) (x : BootUnit) : (s.putBoot x).mgmt = s.mgmt := rfl
@[simp] theorem State.putBoot_draws (s : State) (x : BootUnit) : (s.putBoot x).draws = s.draws := rfl
@[simp] theorem State.putBoot_pins (s : State) (x : BootUnit) : (s.putBoot x).pins = s.pins := rfl
@[simp] theorem State.putBoot_gov (s : State) (x : BootUnit) : (s.putBoot x).gov = s.gov := rfl
@[simp] theorem State.putBoot_tollU (s : State) (x : BootUnit) : (s.putBoot x).tollU = s.tollU := rfl
@[simp] theorem State.putBoot_beatU (s : State) (x : BootUnit) : (s.putBoot x).beatU = s.beatU := rfl
@[simp] theorem State.putBoot_probe (s : State) (x : BootUnit) : (s.putBoot x).probe = s.probe := rfl
@[simp] theorem State.putBoot_chimes (s : State) (x : BootUnit) : (s.putBoot x).chimes = s.chimes := rfl
@[simp] theorem State.putBoot_chimeq (s : State) (x : BootUnit) : (s.putBoot x).chimeq = s.chimeq := rfl
@[simp] theorem State.putBoot_clusters (s : State) (x : BootUnit) : (s.putBoot x).clusters = s.clusters := rfl
@[simp] theorem State.putBoot_bushels (s : State) (x : BootUnit) : (s.putBoot x).bushels = s.bushels := rfl
@[simp] theorem State.putBoot_parked (s : State) (x : BootUnit) : (s.putBoot x).parked = s.parked := rfl
@[simp] theorem State.putBoot_groups (s : State) (x : BootUnit) : (s.putBoot x).groups = s.groups := rfl
@[simp] theorem State.putBoot_colls (s : State) (x : BootUnit) : (s.putBoot x).colls = s.colls := rfl
@[simp] theorem State.putBoot_sw (s : State) (x : BootUnit) : (s.putBoot x).sw = s.sw := rfl
@[simp] theorem State.putBoot_route (s : State) (x : BootUnit) : (s.putBoot x).route = s.route := rfl
@[simp] theorem State.putBoot_links (s : State) (x : BootUnit) : (s.putBoot x).links = s.links := rfl
@[simp] theorem State.putBoot_acv (s : State) (x : BootUnit) : (s.putBoot x).acv = s.acv := rfl
@[simp] theorem State.putBoot_comps (s : State) (x : BootUnit) : (s.putBoot x).comps = s.comps := rfl
@[simp] theorem State.putBoot_poolq (s : State) (x : BootUnit) : (s.putBoot x).poolq = s.poolq := rfl
@[simp] theorem State.putBoot_faults (s : State) (x : BootUnit) : (s.putBoot x).faults = s.faults := rfl
@[simp] theorem State.putBoot_inj (s : State) (x : BootUnit) : (s.putBoot x).inj = s.inj := rfl
@[simp] theorem State.putBoot_score (s : State) (x : BootUnit) : (s.putBoot x).score = s.score := rfl
@[simp] theorem State.putBoot_ride (s : State) (x : BootUnit) : (s.putBoot x).ride = s.ride := rfl
@[simp] theorem State.putBoot_ckpt (s : State) (x : BootUnit) : (s.putBoot x).ckpt = s.ckpt := rfl
@[simp] theorem State.putBoot_out (s : State) (x : BootUnit) : (s.putBoot x).out = s.out := rfl
@[simp] theorem State.putBoot_delivered (s : State) (x : BootUnit) : (s.putBoot x).delivered = s.delivered := rfl

/-! ### putOut -/

@[simp] theorem State.putOut_out (s : State) (x : List Out) : (s.putOut x).out = x := rfl
@[simp] theorem State.putOut_pending (s : State) (x : List Out) : (s.putOut x).pending = s.pending := rfl
@[simp] theorem State.putOut_regs (s : State) (x : List Out) : (s.putOut x).regs = s.regs := rfl
@[simp] theorem State.putOut_fresh (s : State) (x : List Out) : (s.putOut x).fresh = s.fresh := rfl
@[simp] theorem State.putOut_mem (s : State) (x : List Out) : (s.putOut x).mem = s.mem := rfl
@[simp] theorem State.putOut_poison (s : State) (x : List Out) : (s.putOut x).poison = s.poison := rfl
@[simp] theorem State.putOut_soft (s : State) (x : List Out) : (s.putOut x).soft = s.soft := rfl
@[simp] theorem State.putOut_tags (s : State) (x : List Out) : (s.putOut x).tags = s.tags := rfl
@[simp] theorem State.putOut_host (s : State) (x : List Out) : (s.putOut x).host = s.host := rfl
@[simp] theorem State.putOut_nvme (s : State) (x : List Out) : (s.putOut x).nvme = s.nvme := rfl
@[simp] theorem State.putOut_flash (s : State) (x : List Out) : (s.putOut x).flash = s.flash := rfl
@[simp] theorem State.putOut_ck (s : State) (x : List Out) : (s.putOut x).ck = s.ck := rfl
@[simp] theorem State.putOut_mgmt (s : State) (x : List Out) : (s.putOut x).mgmt = s.mgmt := rfl
@[simp] theorem State.putOut_draws (s : State) (x : List Out) : (s.putOut x).draws = s.draws := rfl
@[simp] theorem State.putOut_pins (s : State) (x : List Out) : (s.putOut x).pins = s.pins := rfl
@[simp] theorem State.putOut_gov (s : State) (x : List Out) : (s.putOut x).gov = s.gov := rfl
@[simp] theorem State.putOut_tollU (s : State) (x : List Out) : (s.putOut x).tollU = s.tollU := rfl
@[simp] theorem State.putOut_beatU (s : State) (x : List Out) : (s.putOut x).beatU = s.beatU := rfl
@[simp] theorem State.putOut_probe (s : State) (x : List Out) : (s.putOut x).probe = s.probe := rfl
@[simp] theorem State.putOut_chimes (s : State) (x : List Out) : (s.putOut x).chimes = s.chimes := rfl
@[simp] theorem State.putOut_chimeq (s : State) (x : List Out) : (s.putOut x).chimeq = s.chimeq := rfl
@[simp] theorem State.putOut_clusters (s : State) (x : List Out) : (s.putOut x).clusters = s.clusters := rfl
@[simp] theorem State.putOut_bushels (s : State) (x : List Out) : (s.putOut x).bushels = s.bushels := rfl
@[simp] theorem State.putOut_parked (s : State) (x : List Out) : (s.putOut x).parked = s.parked := rfl
@[simp] theorem State.putOut_groups (s : State) (x : List Out) : (s.putOut x).groups = s.groups := rfl
@[simp] theorem State.putOut_colls (s : State) (x : List Out) : (s.putOut x).colls = s.colls := rfl
@[simp] theorem State.putOut_sw (s : State) (x : List Out) : (s.putOut x).sw = s.sw := rfl
@[simp] theorem State.putOut_route (s : State) (x : List Out) : (s.putOut x).route = s.route := rfl
@[simp] theorem State.putOut_links (s : State) (x : List Out) : (s.putOut x).links = s.links := rfl
@[simp] theorem State.putOut_acv (s : State) (x : List Out) : (s.putOut x).acv = s.acv := rfl
@[simp] theorem State.putOut_comps (s : State) (x : List Out) : (s.putOut x).comps = s.comps := rfl
@[simp] theorem State.putOut_poolq (s : State) (x : List Out) : (s.putOut x).poolq = s.poolq := rfl
@[simp] theorem State.putOut_faults (s : State) (x : List Out) : (s.putOut x).faults = s.faults := rfl
@[simp] theorem State.putOut_inj (s : State) (x : List Out) : (s.putOut x).inj = s.inj := rfl
@[simp] theorem State.putOut_score (s : State) (x : List Out) : (s.putOut x).score = s.score := rfl
@[simp] theorem State.putOut_ride (s : State) (x : List Out) : (s.putOut x).ride = s.ride := rfl
@[simp] theorem State.putOut_ckpt (s : State) (x : List Out) : (s.putOut x).ckpt = s.ckpt := rfl
@[simp] theorem State.putOut_boot (s : State) (x : List Out) : (s.putOut x).boot = s.boot := rfl
@[simp] theorem State.putOut_delivered (s : State) (x : List Out) : (s.putOut x).delivered = s.delivered := rfl

/-! ### putDelivered -/

@[simp] theorem State.putDelivered_delivered (s : State) (x : List Cell) : (s.putDelivered x).delivered = x := rfl
@[simp] theorem State.putDelivered_pending (s : State) (x : List Cell) : (s.putDelivered x).pending = s.pending := rfl
@[simp] theorem State.putDelivered_regs (s : State) (x : List Cell) : (s.putDelivered x).regs = s.regs := rfl
@[simp] theorem State.putDelivered_fresh (s : State) (x : List Cell) : (s.putDelivered x).fresh = s.fresh := rfl
@[simp] theorem State.putDelivered_mem (s : State) (x : List Cell) : (s.putDelivered x).mem = s.mem := rfl
@[simp] theorem State.putDelivered_poison (s : State) (x : List Cell) : (s.putDelivered x).poison = s.poison := rfl
@[simp] theorem State.putDelivered_soft (s : State) (x : List Cell) : (s.putDelivered x).soft = s.soft := rfl
@[simp] theorem State.putDelivered_tags (s : State) (x : List Cell) : (s.putDelivered x).tags = s.tags := rfl
@[simp] theorem State.putDelivered_host (s : State) (x : List Cell) : (s.putDelivered x).host = s.host := rfl
@[simp] theorem State.putDelivered_nvme (s : State) (x : List Cell) : (s.putDelivered x).nvme = s.nvme := rfl
@[simp] theorem State.putDelivered_flash (s : State) (x : List Cell) : (s.putDelivered x).flash = s.flash := rfl
@[simp] theorem State.putDelivered_ck (s : State) (x : List Cell) : (s.putDelivered x).ck = s.ck := rfl
@[simp] theorem State.putDelivered_mgmt (s : State) (x : List Cell) : (s.putDelivered x).mgmt = s.mgmt := rfl
@[simp] theorem State.putDelivered_draws (s : State) (x : List Cell) : (s.putDelivered x).draws = s.draws := rfl
@[simp] theorem State.putDelivered_pins (s : State) (x : List Cell) : (s.putDelivered x).pins = s.pins := rfl
@[simp] theorem State.putDelivered_gov (s : State) (x : List Cell) : (s.putDelivered x).gov = s.gov := rfl
@[simp] theorem State.putDelivered_tollU (s : State) (x : List Cell) : (s.putDelivered x).tollU = s.tollU := rfl
@[simp] theorem State.putDelivered_beatU (s : State) (x : List Cell) : (s.putDelivered x).beatU = s.beatU := rfl
@[simp] theorem State.putDelivered_probe (s : State) (x : List Cell) : (s.putDelivered x).probe = s.probe := rfl
@[simp] theorem State.putDelivered_chimes (s : State) (x : List Cell) : (s.putDelivered x).chimes = s.chimes := rfl
@[simp] theorem State.putDelivered_chimeq (s : State) (x : List Cell) : (s.putDelivered x).chimeq = s.chimeq := rfl
@[simp] theorem State.putDelivered_clusters (s : State) (x : List Cell) : (s.putDelivered x).clusters = s.clusters := rfl
@[simp] theorem State.putDelivered_bushels (s : State) (x : List Cell) : (s.putDelivered x).bushels = s.bushels := rfl
@[simp] theorem State.putDelivered_parked (s : State) (x : List Cell) : (s.putDelivered x).parked = s.parked := rfl
@[simp] theorem State.putDelivered_groups (s : State) (x : List Cell) : (s.putDelivered x).groups = s.groups := rfl
@[simp] theorem State.putDelivered_colls (s : State) (x : List Cell) : (s.putDelivered x).colls = s.colls := rfl
@[simp] theorem State.putDelivered_sw (s : State) (x : List Cell) : (s.putDelivered x).sw = s.sw := rfl
@[simp] theorem State.putDelivered_route (s : State) (x : List Cell) : (s.putDelivered x).route = s.route := rfl
@[simp] theorem State.putDelivered_links (s : State) (x : List Cell) : (s.putDelivered x).links = s.links := rfl
@[simp] theorem State.putDelivered_acv (s : State) (x : List Cell) : (s.putDelivered x).acv = s.acv := rfl
@[simp] theorem State.putDelivered_comps (s : State) (x : List Cell) : (s.putDelivered x).comps = s.comps := rfl
@[simp] theorem State.putDelivered_poolq (s : State) (x : List Cell) : (s.putDelivered x).poolq = s.poolq := rfl
@[simp] theorem State.putDelivered_faults (s : State) (x : List Cell) : (s.putDelivered x).faults = s.faults := rfl
@[simp] theorem State.putDelivered_inj (s : State) (x : List Cell) : (s.putDelivered x).inj = s.inj := rfl
@[simp] theorem State.putDelivered_score (s : State) (x : List Cell) : (s.putDelivered x).score = s.score := rfl
@[simp] theorem State.putDelivered_ride (s : State) (x : List Cell) : (s.putDelivered x).ride = s.ride := rfl
@[simp] theorem State.putDelivered_ckpt (s : State) (x : List Cell) : (s.putDelivered x).ckpt = s.ckpt := rfl
@[simp] theorem State.putDelivered_boot (s : State) (x : List Cell) : (s.putDelivered x).boot = s.boot := rfl
@[simp] theorem State.putDelivered_out (s : State) (x : List Cell) : (s.putDelivered x).out = s.out := rfl

/-! ### setReg -/

@[simp] theorem State.setReg_pending (s : State) (f : Field) (v n : Nat) : (s.setReg f v n).pending = s.pending := rfl
@[simp] theorem State.setReg_fresh (s : State) (f : Field) (v n : Nat) : (s.setReg f v n).fresh = s.fresh := rfl
@[simp] theorem State.setReg_mem (s : State) (f : Field) (v n : Nat) : (s.setReg f v n).mem = s.mem := rfl
@[simp] theorem State.setReg_poison (s : State) (f : Field) (v n : Nat) : (s.setReg f v n).poison = s.poison := rfl
@[simp] theorem State.setReg_soft (s : State) (f : Field) (v n : Nat) : (s.setReg f v n).soft = s.soft := rfl
@[simp] theorem State.setReg_tags (s : State) (f : Field) (v n : Nat) : (s.setReg f v n).tags = s.tags := rfl
@[simp] theorem State.setReg_host (s : State) (f : Field) (v n : Nat) : (s.setReg f v n).host = s.host := rfl
@[simp] theorem State.setReg_nvme (s : State) (f : Field) (v n : Nat) : (s.setReg f v n).nvme = s.nvme := rfl
@[simp] theorem State.setReg_flash (s : State) (f : Field) (v n : Nat) : (s.setReg f v n).flash = s.flash := rfl
@[simp] theorem State.setReg_ck (s : State) (f : Field) (v n : Nat) : (s.setReg f v n).ck = s.ck := rfl
@[simp] theorem State.setReg_mgmt (s : State) (f : Field) (v n : Nat) : (s.setReg f v n).mgmt = s.mgmt := rfl
@[simp] theorem State.setReg_draws (s : State) (f : Field) (v n : Nat) : (s.setReg f v n).draws = s.draws := rfl
@[simp] theorem State.setReg_pins (s : State) (f : Field) (v n : Nat) : (s.setReg f v n).pins = s.pins := rfl
@[simp] theorem State.setReg_gov (s : State) (f : Field) (v n : Nat) : (s.setReg f v n).gov = s.gov := rfl
@[simp] theorem State.setReg_tollU (s : State) (f : Field) (v n : Nat) : (s.setReg f v n).tollU = s.tollU := rfl
@[simp] theorem State.setReg_beatU (s : State) (f : Field) (v n : Nat) : (s.setReg f v n).beatU = s.beatU := rfl
@[simp] theorem State.setReg_probe (s : State) (f : Field) (v n : Nat) : (s.setReg f v n).probe = s.probe := rfl
@[simp] theorem State.setReg_chimes (s : State) (f : Field) (v n : Nat) : (s.setReg f v n).chimes = s.chimes := rfl
@[simp] theorem State.setReg_chimeq (s : State) (f : Field) (v n : Nat) : (s.setReg f v n).chimeq = s.chimeq := rfl
@[simp] theorem State.setReg_clusters (s : State) (f : Field) (v n : Nat) : (s.setReg f v n).clusters = s.clusters := rfl
@[simp] theorem State.setReg_bushels (s : State) (f : Field) (v n : Nat) : (s.setReg f v n).bushels = s.bushels := rfl
@[simp] theorem State.setReg_parked (s : State) (f : Field) (v n : Nat) : (s.setReg f v n).parked = s.parked := rfl
@[simp] theorem State.setReg_groups (s : State) (f : Field) (v n : Nat) : (s.setReg f v n).groups = s.groups := rfl
@[simp] theorem State.setReg_colls (s : State) (f : Field) (v n : Nat) : (s.setReg f v n).colls = s.colls := rfl
@[simp] theorem State.setReg_sw (s : State) (f : Field) (v n : Nat) : (s.setReg f v n).sw = s.sw := rfl
@[simp] theorem State.setReg_route (s : State) (f : Field) (v n : Nat) : (s.setReg f v n).route = s.route := rfl
@[simp] theorem State.setReg_links (s : State) (f : Field) (v n : Nat) : (s.setReg f v n).links = s.links := rfl
@[simp] theorem State.setReg_acv (s : State) (f : Field) (v n : Nat) : (s.setReg f v n).acv = s.acv := rfl
@[simp] theorem State.setReg_comps (s : State) (f : Field) (v n : Nat) : (s.setReg f v n).comps = s.comps := rfl
@[simp] theorem State.setReg_poolq (s : State) (f : Field) (v n : Nat) : (s.setReg f v n).poolq = s.poolq := rfl
@[simp] theorem State.setReg_faults (s : State) (f : Field) (v n : Nat) : (s.setReg f v n).faults = s.faults := rfl
@[simp] theorem State.setReg_inj (s : State) (f : Field) (v n : Nat) : (s.setReg f v n).inj = s.inj := rfl
@[simp] theorem State.setReg_score (s : State) (f : Field) (v n : Nat) : (s.setReg f v n).score = s.score := rfl
@[simp] theorem State.setReg_ride (s : State) (f : Field) (v n : Nat) : (s.setReg f v n).ride = s.ride := rfl
@[simp] theorem State.setReg_ckpt (s : State) (f : Field) (v n : Nat) : (s.setReg f v n).ckpt = s.ckpt := rfl
@[simp] theorem State.setReg_boot (s : State) (f : Field) (v n : Nat) : (s.setReg f v n).boot = s.boot := rfl
@[simp] theorem State.setReg_out (s : State) (f : Field) (v n : Nat) : (s.setReg f v n).out = s.out := rfl
@[simp] theorem State.setReg_delivered (s : State) (f : Field) (v n : Nat) : (s.setReg f v n).delivered = s.delivered := rfl

/-! ### poke -/

@[simp] theorem State.poke_pending (s : State) (a : Nat) (l : List Byte) : (s.poke a l).pending = s.pending := rfl
@[simp] theorem State.poke_regs (s : State) (a : Nat) (l : List Byte) : (s.poke a l).regs = s.regs := rfl
@[simp] theorem State.poke_fresh (s : State) (a : Nat) (l : List Byte) : (s.poke a l).fresh = s.fresh := rfl
@[simp] theorem State.poke_poison (s : State) (a : Nat) (l : List Byte) : (s.poke a l).poison = s.poison := rfl
@[simp] theorem State.poke_soft (s : State) (a : Nat) (l : List Byte) : (s.poke a l).soft = s.soft := rfl
@[simp] theorem State.poke_tags (s : State) (a : Nat) (l : List Byte) : (s.poke a l).tags = s.tags := rfl
@[simp] theorem State.poke_host (s : State) (a : Nat) (l : List Byte) : (s.poke a l).host = s.host := rfl
@[simp] theorem State.poke_nvme (s : State) (a : Nat) (l : List Byte) : (s.poke a l).nvme = s.nvme := rfl
@[simp] theorem State.poke_flash (s : State) (a : Nat) (l : List Byte) : (s.poke a l).flash = s.flash := rfl
@[simp] theorem State.poke_ck (s : State) (a : Nat) (l : List Byte) : (s.poke a l).ck = s.ck := rfl
@[simp] theorem State.poke_mgmt (s : State) (a : Nat) (l : List Byte) : (s.poke a l).mgmt = s.mgmt := rfl
@[simp] theorem State.poke_draws (s : State) (a : Nat) (l : List Byte) : (s.poke a l).draws = s.draws := rfl
@[simp] theorem State.poke_pins (s : State) (a : Nat) (l : List Byte) : (s.poke a l).pins = s.pins := rfl
@[simp] theorem State.poke_gov (s : State) (a : Nat) (l : List Byte) : (s.poke a l).gov = s.gov := rfl
@[simp] theorem State.poke_tollU (s : State) (a : Nat) (l : List Byte) : (s.poke a l).tollU = s.tollU := rfl
@[simp] theorem State.poke_beatU (s : State) (a : Nat) (l : List Byte) : (s.poke a l).beatU = s.beatU := rfl
@[simp] theorem State.poke_probe (s : State) (a : Nat) (l : List Byte) : (s.poke a l).probe = s.probe := rfl
@[simp] theorem State.poke_chimes (s : State) (a : Nat) (l : List Byte) : (s.poke a l).chimes = s.chimes := rfl
@[simp] theorem State.poke_chimeq (s : State) (a : Nat) (l : List Byte) : (s.poke a l).chimeq = s.chimeq := rfl
@[simp] theorem State.poke_clusters (s : State) (a : Nat) (l : List Byte) : (s.poke a l).clusters = s.clusters := rfl
@[simp] theorem State.poke_bushels (s : State) (a : Nat) (l : List Byte) : (s.poke a l).bushels = s.bushels := rfl
@[simp] theorem State.poke_parked (s : State) (a : Nat) (l : List Byte) : (s.poke a l).parked = s.parked := rfl
@[simp] theorem State.poke_groups (s : State) (a : Nat) (l : List Byte) : (s.poke a l).groups = s.groups := rfl
@[simp] theorem State.poke_colls (s : State) (a : Nat) (l : List Byte) : (s.poke a l).colls = s.colls := rfl
@[simp] theorem State.poke_sw (s : State) (a : Nat) (l : List Byte) : (s.poke a l).sw = s.sw := rfl
@[simp] theorem State.poke_route (s : State) (a : Nat) (l : List Byte) : (s.poke a l).route = s.route := rfl
@[simp] theorem State.poke_links (s : State) (a : Nat) (l : List Byte) : (s.poke a l).links = s.links := rfl
@[simp] theorem State.poke_acv (s : State) (a : Nat) (l : List Byte) : (s.poke a l).acv = s.acv := rfl
@[simp] theorem State.poke_comps (s : State) (a : Nat) (l : List Byte) : (s.poke a l).comps = s.comps := rfl
@[simp] theorem State.poke_poolq (s : State) (a : Nat) (l : List Byte) : (s.poke a l).poolq = s.poolq := rfl
@[simp] theorem State.poke_faults (s : State) (a : Nat) (l : List Byte) : (s.poke a l).faults = s.faults := rfl
@[simp] theorem State.poke_inj (s : State) (a : Nat) (l : List Byte) : (s.poke a l).inj = s.inj := rfl
@[simp] theorem State.poke_score (s : State) (a : Nat) (l : List Byte) : (s.poke a l).score = s.score := rfl
@[simp] theorem State.poke_ride (s : State) (a : Nat) (l : List Byte) : (s.poke a l).ride = s.ride := rfl
@[simp] theorem State.poke_ckpt (s : State) (a : Nat) (l : List Byte) : (s.poke a l).ckpt = s.ckpt := rfl
@[simp] theorem State.poke_boot (s : State) (a : Nat) (l : List Byte) : (s.poke a l).boot = s.boot := rfl
@[simp] theorem State.poke_out (s : State) (a : Nat) (l : List Byte) : (s.poke a l).out = s.out := rfl
@[simp] theorem State.poke_delivered (s : State) (a : Nat) (l : List Byte) : (s.poke a l).delivered = s.delivered := rfl

/-! ### flashPut -/

@[simp] theorem State.flashPut_pending (s : State) (a : Nat) (l : List Byte) : (s.flashPut a l).pending = s.pending := rfl
@[simp] theorem State.flashPut_regs (s : State) (a : Nat) (l : List Byte) : (s.flashPut a l).regs = s.regs := rfl
@[simp] theorem State.flashPut_fresh (s : State) (a : Nat) (l : List Byte) : (s.flashPut a l).fresh = s.fresh := rfl
@[simp] theorem State.flashPut_mem (s : State) (a : Nat) (l : List Byte) : (s.flashPut a l).mem = s.mem := rfl
@[simp] theorem State.flashPut_poison (s : State) (a : Nat) (l : List Byte) : (s.flashPut a l).poison = s.poison := rfl
@[simp] theorem State.flashPut_soft (s : State) (a : Nat) (l : List Byte) : (s.flashPut a l).soft = s.soft := rfl
@[simp] theorem State.flashPut_tags (s : State) (a : Nat) (l : List Byte) : (s.flashPut a l).tags = s.tags := rfl
@[simp] theorem State.flashPut_host (s : State) (a : Nat) (l : List Byte) : (s.flashPut a l).host = s.host := rfl
@[simp] theorem State.flashPut_nvme (s : State) (a : Nat) (l : List Byte) : (s.flashPut a l).nvme = s.nvme := rfl
@[simp] theorem State.flashPut_ck (s : State) (a : Nat) (l : List Byte) : (s.flashPut a l).ck = s.ck := rfl
@[simp] theorem State.flashPut_mgmt (s : State) (a : Nat) (l : List Byte) : (s.flashPut a l).mgmt = s.mgmt := rfl
@[simp] theorem State.flashPut_draws (s : State) (a : Nat) (l : List Byte) : (s.flashPut a l).draws = s.draws := rfl
@[simp] theorem State.flashPut_pins (s : State) (a : Nat) (l : List Byte) : (s.flashPut a l).pins = s.pins := rfl
@[simp] theorem State.flashPut_gov (s : State) (a : Nat) (l : List Byte) : (s.flashPut a l).gov = s.gov := rfl
@[simp] theorem State.flashPut_tollU (s : State) (a : Nat) (l : List Byte) : (s.flashPut a l).tollU = s.tollU := rfl
@[simp] theorem State.flashPut_beatU (s : State) (a : Nat) (l : List Byte) : (s.flashPut a l).beatU = s.beatU := rfl
@[simp] theorem State.flashPut_probe (s : State) (a : Nat) (l : List Byte) : (s.flashPut a l).probe = s.probe := rfl
@[simp] theorem State.flashPut_chimes (s : State) (a : Nat) (l : List Byte) : (s.flashPut a l).chimes = s.chimes := rfl
@[simp] theorem State.flashPut_chimeq (s : State) (a : Nat) (l : List Byte) : (s.flashPut a l).chimeq = s.chimeq := rfl
@[simp] theorem State.flashPut_clusters (s : State) (a : Nat) (l : List Byte) : (s.flashPut a l).clusters = s.clusters := rfl
@[simp] theorem State.flashPut_bushels (s : State) (a : Nat) (l : List Byte) : (s.flashPut a l).bushels = s.bushels := rfl
@[simp] theorem State.flashPut_parked (s : State) (a : Nat) (l : List Byte) : (s.flashPut a l).parked = s.parked := rfl
@[simp] theorem State.flashPut_groups (s : State) (a : Nat) (l : List Byte) : (s.flashPut a l).groups = s.groups := rfl
@[simp] theorem State.flashPut_colls (s : State) (a : Nat) (l : List Byte) : (s.flashPut a l).colls = s.colls := rfl
@[simp] theorem State.flashPut_sw (s : State) (a : Nat) (l : List Byte) : (s.flashPut a l).sw = s.sw := rfl
@[simp] theorem State.flashPut_route (s : State) (a : Nat) (l : List Byte) : (s.flashPut a l).route = s.route := rfl
@[simp] theorem State.flashPut_links (s : State) (a : Nat) (l : List Byte) : (s.flashPut a l).links = s.links := rfl
@[simp] theorem State.flashPut_acv (s : State) (a : Nat) (l : List Byte) : (s.flashPut a l).acv = s.acv := rfl
@[simp] theorem State.flashPut_comps (s : State) (a : Nat) (l : List Byte) : (s.flashPut a l).comps = s.comps := rfl
@[simp] theorem State.flashPut_poolq (s : State) (a : Nat) (l : List Byte) : (s.flashPut a l).poolq = s.poolq := rfl
@[simp] theorem State.flashPut_faults (s : State) (a : Nat) (l : List Byte) : (s.flashPut a l).faults = s.faults := rfl
@[simp] theorem State.flashPut_inj (s : State) (a : Nat) (l : List Byte) : (s.flashPut a l).inj = s.inj := rfl
@[simp] theorem State.flashPut_score (s : State) (a : Nat) (l : List Byte) : (s.flashPut a l).score = s.score := rfl
@[simp] theorem State.flashPut_ride (s : State) (a : Nat) (l : List Byte) : (s.flashPut a l).ride = s.ride := rfl
@[simp] theorem State.flashPut_ckpt (s : State) (a : Nat) (l : List Byte) : (s.flashPut a l).ckpt = s.ckpt := rfl
@[simp] theorem State.flashPut_boot (s : State) (a : Nat) (l : List Byte) : (s.flashPut a l).boot = s.boot := rfl
@[simp] theorem State.flashPut_out (s : State) (a : Nat) (l : List Byte) : (s.flashPut a l).out = s.out := rfl
@[simp] theorem State.flashPut_delivered (s : State) (a : Nat) (l : List Byte) : (s.flashPut a l).delivered = s.delivered := rfl

/-! ### hostPut -/

@[simp] theorem State.hostPut_pending (s : State) (a : Nat) (l : List Byte) : (s.hostPut a l).pending = s.pending := rfl
@[simp] theorem State.hostPut_regs (s : State) (a : Nat) (l : List Byte) : (s.hostPut a l).regs = s.regs := rfl
@[simp] theorem State.hostPut_fresh (s : State) (a : Nat) (l : List Byte) : (s.hostPut a l).fresh = s.fresh := rfl
@[simp] theorem State.hostPut_mem (s : State) (a : Nat) (l : List Byte) : (s.hostPut a l).mem = s.mem := rfl
@[simp] theorem State.hostPut_poison (s : State) (a : Nat) (l : List Byte) : (s.hostPut a l).poison = s.poison := rfl
@[simp] theorem State.hostPut_soft (s : State) (a : Nat) (l : List Byte) : (s.hostPut a l).soft = s.soft := rfl
@[simp] theorem State.hostPut_tags (s : State) (a : Nat) (l : List Byte) : (s.hostPut a l).tags = s.tags := rfl
@[simp] theorem State.hostPut_nvme (s : State) (a : Nat) (l : List Byte) : (s.hostPut a l).nvme = s.nvme := rfl
@[simp] theorem State.hostPut_flash (s : State) (a : Nat) (l : List Byte) : (s.hostPut a l).flash = s.flash := rfl
@[simp] theorem State.hostPut_ck (s : State) (a : Nat) (l : List Byte) : (s.hostPut a l).ck = s.ck := rfl
@[simp] theorem State.hostPut_mgmt (s : State) (a : Nat) (l : List Byte) : (s.hostPut a l).mgmt = s.mgmt := rfl
@[simp] theorem State.hostPut_draws (s : State) (a : Nat) (l : List Byte) : (s.hostPut a l).draws = s.draws := rfl
@[simp] theorem State.hostPut_pins (s : State) (a : Nat) (l : List Byte) : (s.hostPut a l).pins = s.pins := rfl
@[simp] theorem State.hostPut_gov (s : State) (a : Nat) (l : List Byte) : (s.hostPut a l).gov = s.gov := rfl
@[simp] theorem State.hostPut_tollU (s : State) (a : Nat) (l : List Byte) : (s.hostPut a l).tollU = s.tollU := rfl
@[simp] theorem State.hostPut_beatU (s : State) (a : Nat) (l : List Byte) : (s.hostPut a l).beatU = s.beatU := rfl
@[simp] theorem State.hostPut_probe (s : State) (a : Nat) (l : List Byte) : (s.hostPut a l).probe = s.probe := rfl
@[simp] theorem State.hostPut_chimes (s : State) (a : Nat) (l : List Byte) : (s.hostPut a l).chimes = s.chimes := rfl
@[simp] theorem State.hostPut_chimeq (s : State) (a : Nat) (l : List Byte) : (s.hostPut a l).chimeq = s.chimeq := rfl
@[simp] theorem State.hostPut_clusters (s : State) (a : Nat) (l : List Byte) : (s.hostPut a l).clusters = s.clusters := rfl
@[simp] theorem State.hostPut_bushels (s : State) (a : Nat) (l : List Byte) : (s.hostPut a l).bushels = s.bushels := rfl
@[simp] theorem State.hostPut_parked (s : State) (a : Nat) (l : List Byte) : (s.hostPut a l).parked = s.parked := rfl
@[simp] theorem State.hostPut_groups (s : State) (a : Nat) (l : List Byte) : (s.hostPut a l).groups = s.groups := rfl
@[simp] theorem State.hostPut_colls (s : State) (a : Nat) (l : List Byte) : (s.hostPut a l).colls = s.colls := rfl
@[simp] theorem State.hostPut_sw (s : State) (a : Nat) (l : List Byte) : (s.hostPut a l).sw = s.sw := rfl
@[simp] theorem State.hostPut_route (s : State) (a : Nat) (l : List Byte) : (s.hostPut a l).route = s.route := rfl
@[simp] theorem State.hostPut_links (s : State) (a : Nat) (l : List Byte) : (s.hostPut a l).links = s.links := rfl
@[simp] theorem State.hostPut_acv (s : State) (a : Nat) (l : List Byte) : (s.hostPut a l).acv = s.acv := rfl
@[simp] theorem State.hostPut_comps (s : State) (a : Nat) (l : List Byte) : (s.hostPut a l).comps = s.comps := rfl
@[simp] theorem State.hostPut_poolq (s : State) (a : Nat) (l : List Byte) : (s.hostPut a l).poolq = s.poolq := rfl
@[simp] theorem State.hostPut_faults (s : State) (a : Nat) (l : List Byte) : (s.hostPut a l).faults = s.faults := rfl
@[simp] theorem State.hostPut_inj (s : State) (a : Nat) (l : List Byte) : (s.hostPut a l).inj = s.inj := rfl
@[simp] theorem State.hostPut_score (s : State) (a : Nat) (l : List Byte) : (s.hostPut a l).score = s.score := rfl
@[simp] theorem State.hostPut_ride (s : State) (a : Nat) (l : List Byte) : (s.hostPut a l).ride = s.ride := rfl
@[simp] theorem State.hostPut_ckpt (s : State) (a : Nat) (l : List Byte) : (s.hostPut a l).ckpt = s.ckpt := rfl
@[simp] theorem State.hostPut_boot (s : State) (a : Nat) (l : List Byte) : (s.hostPut a l).boot = s.boot := rfl
@[simp] theorem State.hostPut_out (s : State) (a : Nat) (l : List Byte) : (s.hostPut a l).out = s.out := rfl
@[simp] theorem State.hostPut_delivered (s : State) (a : Nat) (l : List Byte) : (s.hostPut a l).delivered = s.delivered := rfl

/-! ### setCl -/

@[simp] theorem State.setCl_pending (s : State) (c : Nat) (x : Cluster) : (s.setCl c x).pending = s.pending := rfl
@[simp] theorem State.setCl_regs (s : State) (c : Nat) (x : Cluster) : (s.setCl c x).regs = s.regs := rfl
@[simp] theorem State.setCl_fresh (s : State) (c : Nat) (x : Cluster) : (s.setCl c x).fresh = s.fresh := rfl
@[simp] theorem State.setCl_mem (s : State) (c : Nat) (x : Cluster) : (s.setCl c x).mem = s.mem := rfl
@[simp] theorem State.setCl_poison (s : State) (c : Nat) (x : Cluster) : (s.setCl c x).poison = s.poison := rfl
@[simp] theorem State.setCl_soft (s : State) (c : Nat) (x : Cluster) : (s.setCl c x).soft = s.soft := rfl
@[simp] theorem State.setCl_tags (s : State) (c : Nat) (x : Cluster) : (s.setCl c x).tags = s.tags := rfl
@[simp] theorem State.setCl_host (s : State) (c : Nat) (x : Cluster) : (s.setCl c x).host = s.host := rfl
@[simp] theorem State.setCl_nvme (s : State) (c : Nat) (x : Cluster) : (s.setCl c x).nvme = s.nvme := rfl
@[simp] theorem State.setCl_flash (s : State) (c : Nat) (x : Cluster) : (s.setCl c x).flash = s.flash := rfl
@[simp] theorem State.setCl_ck (s : State) (c : Nat) (x : Cluster) : (s.setCl c x).ck = s.ck := rfl
@[simp] theorem State.setCl_mgmt (s : State) (c : Nat) (x : Cluster) : (s.setCl c x).mgmt = s.mgmt := rfl
@[simp] theorem State.setCl_draws (s : State) (c : Nat) (x : Cluster) : (s.setCl c x).draws = s.draws := rfl
@[simp] theorem State.setCl_pins (s : State) (c : Nat) (x : Cluster) : (s.setCl c x).pins = s.pins := rfl
@[simp] theorem State.setCl_gov (s : State) (c : Nat) (x : Cluster) : (s.setCl c x).gov = s.gov := rfl
@[simp] theorem State.setCl_tollU (s : State) (c : Nat) (x : Cluster) : (s.setCl c x).tollU = s.tollU := rfl
@[simp] theorem State.setCl_beatU (s : State) (c : Nat) (x : Cluster) : (s.setCl c x).beatU = s.beatU := rfl
@[simp] theorem State.setCl_probe (s : State) (c : Nat) (x : Cluster) : (s.setCl c x).probe = s.probe := rfl
@[simp] theorem State.setCl_chimes (s : State) (c : Nat) (x : Cluster) : (s.setCl c x).chimes = s.chimes := rfl
@[simp] theorem State.setCl_chimeq (s : State) (c : Nat) (x : Cluster) : (s.setCl c x).chimeq = s.chimeq := rfl
@[simp] theorem State.setCl_bushels (s : State) (c : Nat) (x : Cluster) : (s.setCl c x).bushels = s.bushels := rfl
@[simp] theorem State.setCl_parked (s : State) (c : Nat) (x : Cluster) : (s.setCl c x).parked = s.parked := rfl
@[simp] theorem State.setCl_groups (s : State) (c : Nat) (x : Cluster) : (s.setCl c x).groups = s.groups := rfl
@[simp] theorem State.setCl_colls (s : State) (c : Nat) (x : Cluster) : (s.setCl c x).colls = s.colls := rfl
@[simp] theorem State.setCl_sw (s : State) (c : Nat) (x : Cluster) : (s.setCl c x).sw = s.sw := rfl
@[simp] theorem State.setCl_route (s : State) (c : Nat) (x : Cluster) : (s.setCl c x).route = s.route := rfl
@[simp] theorem State.setCl_links (s : State) (c : Nat) (x : Cluster) : (s.setCl c x).links = s.links := rfl
@[simp] theorem State.setCl_acv (s : State) (c : Nat) (x : Cluster) : (s.setCl c x).acv = s.acv := rfl
@[simp] theorem State.setCl_comps (s : State) (c : Nat) (x : Cluster) : (s.setCl c x).comps = s.comps := rfl
@[simp] theorem State.setCl_poolq (s : State) (c : Nat) (x : Cluster) : (s.setCl c x).poolq = s.poolq := rfl
@[simp] theorem State.setCl_faults (s : State) (c : Nat) (x : Cluster) : (s.setCl c x).faults = s.faults := rfl
@[simp] theorem State.setCl_inj (s : State) (c : Nat) (x : Cluster) : (s.setCl c x).inj = s.inj := rfl
@[simp] theorem State.setCl_score (s : State) (c : Nat) (x : Cluster) : (s.setCl c x).score = s.score := rfl
@[simp] theorem State.setCl_ride (s : State) (c : Nat) (x : Cluster) : (s.setCl c x).ride = s.ride := rfl
@[simp] theorem State.setCl_ckpt (s : State) (c : Nat) (x : Cluster) : (s.setCl c x).ckpt = s.ckpt := rfl
@[simp] theorem State.setCl_boot (s : State) (c : Nat) (x : Cluster) : (s.setCl c x).boot = s.boot := rfl
@[simp] theorem State.setCl_out (s : State) (c : Nat) (x : Cluster) : (s.setCl c x).out = s.out := rfl
@[simp] theorem State.setCl_delivered (s : State) (c : Nat) (x : Cluster) : (s.setCl c x).delivered = s.delivered := rfl

/-! ### setLink -/

@[simp] theorem State.setLink_pending (s : State) (k : Nat) (x : Link) : (s.setLink k x).pending = s.pending := rfl
@[simp] theorem State.setLink_regs (s : State) (k : Nat) (x : Link) : (s.setLink k x).regs = s.regs := rfl
@[simp] theorem State.setLink_fresh (s : State) (k : Nat) (x : Link) : (s.setLink k x).fresh = s.fresh := rfl
@[simp] theorem State.setLink_mem (s : State) (k : Nat) (x : Link) : (s.setLink k x).mem = s.mem := rfl
@[simp] theorem State.setLink_poison (s : State) (k : Nat) (x : Link) : (s.setLink k x).poison = s.poison := rfl
@[simp] theorem State.setLink_soft (s : State) (k : Nat) (x : Link) : (s.setLink k x).soft = s.soft := rfl
@[simp] theorem State.setLink_tags (s : State) (k : Nat) (x : Link) : (s.setLink k x).tags = s.tags := rfl
@[simp] theorem State.setLink_host (s : State) (k : Nat) (x : Link) : (s.setLink k x).host = s.host := rfl
@[simp] theorem State.setLink_nvme (s : State) (k : Nat) (x : Link) : (s.setLink k x).nvme = s.nvme := rfl
@[simp] theorem State.setLink_flash (s : State) (k : Nat) (x : Link) : (s.setLink k x).flash = s.flash := rfl
@[simp] theorem State.setLink_ck (s : State) (k : Nat) (x : Link) : (s.setLink k x).ck = s.ck := rfl
@[simp] theorem State.setLink_mgmt (s : State) (k : Nat) (x : Link) : (s.setLink k x).mgmt = s.mgmt := rfl
@[simp] theorem State.setLink_draws (s : State) (k : Nat) (x : Link) : (s.setLink k x).draws = s.draws := rfl
@[simp] theorem State.setLink_pins (s : State) (k : Nat) (x : Link) : (s.setLink k x).pins = s.pins := rfl
@[simp] theorem State.setLink_gov (s : State) (k : Nat) (x : Link) : (s.setLink k x).gov = s.gov := rfl
@[simp] theorem State.setLink_tollU (s : State) (k : Nat) (x : Link) : (s.setLink k x).tollU = s.tollU := rfl
@[simp] theorem State.setLink_beatU (s : State) (k : Nat) (x : Link) : (s.setLink k x).beatU = s.beatU := rfl
@[simp] theorem State.setLink_probe (s : State) (k : Nat) (x : Link) : (s.setLink k x).probe = s.probe := rfl
@[simp] theorem State.setLink_chimes (s : State) (k : Nat) (x : Link) : (s.setLink k x).chimes = s.chimes := rfl
@[simp] theorem State.setLink_chimeq (s : State) (k : Nat) (x : Link) : (s.setLink k x).chimeq = s.chimeq := rfl
@[simp] theorem State.setLink_clusters (s : State) (k : Nat) (x : Link) : (s.setLink k x).clusters = s.clusters := rfl
@[simp] theorem State.setLink_bushels (s : State) (k : Nat) (x : Link) : (s.setLink k x).bushels = s.bushels := rfl
@[simp] theorem State.setLink_parked (s : State) (k : Nat) (x : Link) : (s.setLink k x).parked = s.parked := rfl
@[simp] theorem State.setLink_groups (s : State) (k : Nat) (x : Link) : (s.setLink k x).groups = s.groups := rfl
@[simp] theorem State.setLink_colls (s : State) (k : Nat) (x : Link) : (s.setLink k x).colls = s.colls := rfl
@[simp] theorem State.setLink_sw (s : State) (k : Nat) (x : Link) : (s.setLink k x).sw = s.sw := rfl
@[simp] theorem State.setLink_route (s : State) (k : Nat) (x : Link) : (s.setLink k x).route = s.route := rfl
@[simp] theorem State.setLink_acv (s : State) (k : Nat) (x : Link) : (s.setLink k x).acv = s.acv := rfl
@[simp] theorem State.setLink_comps (s : State) (k : Nat) (x : Link) : (s.setLink k x).comps = s.comps := rfl
@[simp] theorem State.setLink_poolq (s : State) (k : Nat) (x : Link) : (s.setLink k x).poolq = s.poolq := rfl
@[simp] theorem State.setLink_faults (s : State) (k : Nat) (x : Link) : (s.setLink k x).faults = s.faults := rfl
@[simp] theorem State.setLink_inj (s : State) (k : Nat) (x : Link) : (s.setLink k x).inj = s.inj := rfl
@[simp] theorem State.setLink_score (s : State) (k : Nat) (x : Link) : (s.setLink k x).score = s.score := rfl
@[simp] theorem State.setLink_ride (s : State) (k : Nat) (x : Link) : (s.setLink k x).ride = s.ride := rfl
@[simp] theorem State.setLink_ckpt (s : State) (k : Nat) (x : Link) : (s.setLink k x).ckpt = s.ckpt := rfl
@[simp] theorem State.setLink_boot (s : State) (k : Nat) (x : Link) : (s.setLink k x).boot = s.boot := rfl
@[simp] theorem State.setLink_out (s : State) (k : Nat) (x : Link) : (s.setLink k x).out = s.out := rfl
@[simp] theorem State.setLink_delivered (s : State) (k : Nat) (x : Link) : (s.setLink k x).delivered = s.delivered := rfl

/-! ### setChime -/

@[simp] theorem State.setChime_pending (s : State) (i : Nat) (x : Chime) : (s.setChime i x).pending = s.pending := rfl
@[simp] theorem State.setChime_regs (s : State) (i : Nat) (x : Chime) : (s.setChime i x).regs = s.regs := rfl
@[simp] theorem State.setChime_fresh (s : State) (i : Nat) (x : Chime) : (s.setChime i x).fresh = s.fresh := rfl
@[simp] theorem State.setChime_mem (s : State) (i : Nat) (x : Chime) : (s.setChime i x).mem = s.mem := rfl
@[simp] theorem State.setChime_poison (s : State) (i : Nat) (x : Chime) : (s.setChime i x).poison = s.poison := rfl
@[simp] theorem State.setChime_soft (s : State) (i : Nat) (x : Chime) : (s.setChime i x).soft = s.soft := rfl
@[simp] theorem State.setChime_tags (s : State) (i : Nat) (x : Chime) : (s.setChime i x).tags = s.tags := rfl
@[simp] theorem State.setChime_host (s : State) (i : Nat) (x : Chime) : (s.setChime i x).host = s.host := rfl
@[simp] theorem State.setChime_nvme (s : State) (i : Nat) (x : Chime) : (s.setChime i x).nvme = s.nvme := rfl
@[simp] theorem State.setChime_flash (s : State) (i : Nat) (x : Chime) : (s.setChime i x).flash = s.flash := rfl
@[simp] theorem State.setChime_ck (s : State) (i : Nat) (x : Chime) : (s.setChime i x).ck = s.ck := rfl
@[simp] theorem State.setChime_mgmt (s : State) (i : Nat) (x : Chime) : (s.setChime i x).mgmt = s.mgmt := rfl
@[simp] theorem State.setChime_draws (s : State) (i : Nat) (x : Chime) : (s.setChime i x).draws = s.draws := rfl
@[simp] theorem State.setChime_pins (s : State) (i : Nat) (x : Chime) : (s.setChime i x).pins = s.pins := rfl
@[simp] theorem State.setChime_gov (s : State) (i : Nat) (x : Chime) : (s.setChime i x).gov = s.gov := rfl
@[simp] theorem State.setChime_tollU (s : State) (i : Nat) (x : Chime) : (s.setChime i x).tollU = s.tollU := rfl
@[simp] theorem State.setChime_beatU (s : State) (i : Nat) (x : Chime) : (s.setChime i x).beatU = s.beatU := rfl
@[simp] theorem State.setChime_probe (s : State) (i : Nat) (x : Chime) : (s.setChime i x).probe = s.probe := rfl
@[simp] theorem State.setChime_chimeq (s : State) (i : Nat) (x : Chime) : (s.setChime i x).chimeq = s.chimeq := rfl
@[simp] theorem State.setChime_clusters (s : State) (i : Nat) (x : Chime) : (s.setChime i x).clusters = s.clusters := rfl
@[simp] theorem State.setChime_bushels (s : State) (i : Nat) (x : Chime) : (s.setChime i x).bushels = s.bushels := rfl
@[simp] theorem State.setChime_parked (s : State) (i : Nat) (x : Chime) : (s.setChime i x).parked = s.parked := rfl
@[simp] theorem State.setChime_groups (s : State) (i : Nat) (x : Chime) : (s.setChime i x).groups = s.groups := rfl
@[simp] theorem State.setChime_colls (s : State) (i : Nat) (x : Chime) : (s.setChime i x).colls = s.colls := rfl
@[simp] theorem State.setChime_sw (s : State) (i : Nat) (x : Chime) : (s.setChime i x).sw = s.sw := rfl
@[simp] theorem State.setChime_route (s : State) (i : Nat) (x : Chime) : (s.setChime i x).route = s.route := rfl
@[simp] theorem State.setChime_links (s : State) (i : Nat) (x : Chime) : (s.setChime i x).links = s.links := rfl
@[simp] theorem State.setChime_acv (s : State) (i : Nat) (x : Chime) : (s.setChime i x).acv = s.acv := rfl
@[simp] theorem State.setChime_comps (s : State) (i : Nat) (x : Chime) : (s.setChime i x).comps = s.comps := rfl
@[simp] theorem State.setChime_poolq (s : State) (i : Nat) (x : Chime) : (s.setChime i x).poolq = s.poolq := rfl
@[simp] theorem State.setChime_faults (s : State) (i : Nat) (x : Chime) : (s.setChime i x).faults = s.faults := rfl
@[simp] theorem State.setChime_inj (s : State) (i : Nat) (x : Chime) : (s.setChime i x).inj = s.inj := rfl
@[simp] theorem State.setChime_score (s : State) (i : Nat) (x : Chime) : (s.setChime i x).score = s.score := rfl
@[simp] theorem State.setChime_ride (s : State) (i : Nat) (x : Chime) : (s.setChime i x).ride = s.ride := rfl
@[simp] theorem State.setChime_ckpt (s : State) (i : Nat) (x : Chime) : (s.setChime i x).ckpt = s.ckpt := rfl
@[simp] theorem State.setChime_boot (s : State) (i : Nat) (x : Chime) : (s.setChime i x).boot = s.boot := rfl
@[simp] theorem State.setChime_out (s : State) (i : Nat) (x : Chime) : (s.setChime i x).out = s.out := rfl
@[simp] theorem State.setChime_delivered (s : State) (i : Nat) (x : Chime) : (s.setChime i x).delivered = s.delivered := rfl

/-! ### setBushel -/

@[simp] theorem State.setBushel_pending (s : State) (c r : Nat) (x : Bushel) : (s.setBushel c r x).pending = s.pending := rfl
@[simp] theorem State.setBushel_regs (s : State) (c r : Nat) (x : Bushel) : (s.setBushel c r x).regs = s.regs := rfl
@[simp] theorem State.setBushel_fresh (s : State) (c r : Nat) (x : Bushel) : (s.setBushel c r x).fresh = s.fresh := rfl
@[simp] theorem State.setBushel_mem (s : State) (c r : Nat) (x : Bushel) : (s.setBushel c r x).mem = s.mem := rfl
@[simp] theorem State.setBushel_poison (s : State) (c r : Nat) (x : Bushel) : (s.setBushel c r x).poison = s.poison := rfl
@[simp] theorem State.setBushel_soft (s : State) (c r : Nat) (x : Bushel) : (s.setBushel c r x).soft = s.soft := rfl
@[simp] theorem State.setBushel_tags (s : State) (c r : Nat) (x : Bushel) : (s.setBushel c r x).tags = s.tags := rfl
@[simp] theorem State.setBushel_host (s : State) (c r : Nat) (x : Bushel) : (s.setBushel c r x).host = s.host := rfl
@[simp] theorem State.setBushel_nvme (s : State) (c r : Nat) (x : Bushel) : (s.setBushel c r x).nvme = s.nvme := rfl
@[simp] theorem State.setBushel_flash (s : State) (c r : Nat) (x : Bushel) : (s.setBushel c r x).flash = s.flash := rfl
@[simp] theorem State.setBushel_ck (s : State) (c r : Nat) (x : Bushel) : (s.setBushel c r x).ck = s.ck := rfl
@[simp] theorem State.setBushel_mgmt (s : State) (c r : Nat) (x : Bushel) : (s.setBushel c r x).mgmt = s.mgmt := rfl
@[simp] theorem State.setBushel_draws (s : State) (c r : Nat) (x : Bushel) : (s.setBushel c r x).draws = s.draws := rfl
@[simp] theorem State.setBushel_pins (s : State) (c r : Nat) (x : Bushel) : (s.setBushel c r x).pins = s.pins := rfl
@[simp] theorem State.setBushel_gov (s : State) (c r : Nat) (x : Bushel) : (s.setBushel c r x).gov = s.gov := rfl
@[simp] theorem State.setBushel_tollU (s : State) (c r : Nat) (x : Bushel) : (s.setBushel c r x).tollU = s.tollU := rfl
@[simp] theorem State.setBushel_beatU (s : State) (c r : Nat) (x : Bushel) : (s.setBushel c r x).beatU = s.beatU := rfl
@[simp] theorem State.setBushel_probe (s : State) (c r : Nat) (x : Bushel) : (s.setBushel c r x).probe = s.probe := rfl
@[simp] theorem State.setBushel_chimes (s : State) (c r : Nat) (x : Bushel) : (s.setBushel c r x).chimes = s.chimes := rfl
@[simp] theorem State.setBushel_chimeq (s : State) (c r : Nat) (x : Bushel) : (s.setBushel c r x).chimeq = s.chimeq := rfl
@[simp] theorem State.setBushel_clusters (s : State) (c r : Nat) (x : Bushel) : (s.setBushel c r x).clusters = s.clusters := rfl
@[simp] theorem State.setBushel_parked (s : State) (c r : Nat) (x : Bushel) : (s.setBushel c r x).parked = s.parked := rfl
@[simp] theorem State.setBushel_groups (s : State) (c r : Nat) (x : Bushel) : (s.setBushel c r x).groups = s.groups := rfl
@[simp] theorem State.setBushel_colls (s : State) (c r : Nat) (x : Bushel) : (s.setBushel c r x).colls = s.colls := rfl
@[simp] theorem State.setBushel_sw (s : State) (c r : Nat) (x : Bushel) : (s.setBushel c r x).sw = s.sw := rfl
@[simp] theorem State.setBushel_route (s : State) (c r : Nat) (x : Bushel) : (s.setBushel c r x).route = s.route := rfl
@[simp] theorem State.setBushel_links (s : State) (c r : Nat) (x : Bushel) : (s.setBushel c r x).links = s.links := rfl
@[simp] theorem State.setBushel_acv (s : State) (c r : Nat) (x : Bushel) : (s.setBushel c r x).acv = s.acv := rfl
@[simp] theorem State.setBushel_comps (s : State) (c r : Nat) (x : Bushel) : (s.setBushel c r x).comps = s.comps := rfl
@[simp] theorem State.setBushel_poolq (s : State) (c r : Nat) (x : Bushel) : (s.setBushel c r x).poolq = s.poolq := rfl
@[simp] theorem State.setBushel_faults (s : State) (c r : Nat) (x : Bushel) : (s.setBushel c r x).faults = s.faults := rfl
@[simp] theorem State.setBushel_inj (s : State) (c r : Nat) (x : Bushel) : (s.setBushel c r x).inj = s.inj := rfl
@[simp] theorem State.setBushel_score (s : State) (c r : Nat) (x : Bushel) : (s.setBushel c r x).score = s.score := rfl
@[simp] theorem State.setBushel_ride (s : State) (c r : Nat) (x : Bushel) : (s.setBushel c r x).ride = s.ride := rfl
@[simp] theorem State.setBushel_ckpt (s : State) (c r : Nat) (x : Bushel) : (s.setBushel c r x).ckpt = s.ckpt := rfl
@[simp] theorem State.setBushel_boot (s : State) (c r : Nat) (x : Bushel) : (s.setBushel c r x).boot = s.boot := rfl
@[simp] theorem State.setBushel_out (s : State) (c r : Nat) (x : Bushel) : (s.setBushel c r x).out = s.out := rfl
@[simp] theorem State.setBushel_delivered (s : State) (c r : Nat) (x : Bushel) : (s.setBushel c r x).delivered = s.delivered := rfl

/-! ### emit -/

@[simp] theorem State.emit_pending (s : State) (o : Out) : (s.emit o).pending = s.pending := rfl
@[simp] theorem State.emit_regs (s : State) (o : Out) : (s.emit o).regs = s.regs := rfl
@[simp] theorem State.emit_fresh (s : State) (o : Out) : (s.emit o).fresh = s.fresh := rfl
@[simp] theorem State.emit_mem (s : State) (o : Out) : (s.emit o).mem = s.mem := rfl
@[simp] theorem State.emit_poison (s : State) (o : Out) : (s.emit o).poison = s.poison := rfl
@[simp] theorem State.emit_soft (s : State) (o : Out) : (s.emit o).soft = s.soft := rfl
@[simp] theorem State.emit_tags (s : State) (o : Out) : (s.emit o).tags = s.tags := rfl
@[simp] theorem State.emit_host (s : State) (o : Out) : (s.emit o).host = s.host := rfl
@[simp] theorem State.emit_nvme (s : State) (o : Out) : (s.emit o).nvme = s.nvme := rfl
@[simp] theorem State.emit_flash (s : State) (o : Out) : (s.emit o).flash = s.flash := rfl
@[simp] theorem State.emit_ck (s : State) (o : Out) : (s.emit o).ck = s.ck := rfl
@[simp] theorem State.emit_mgmt (s : State) (o : Out) : (s.emit o).mgmt = s.mgmt := rfl
@[simp] theorem State.emit_draws (s : State) (o : Out) : (s.emit o).draws = s.draws := rfl
@[simp] theorem State.emit_pins (s : State) (o : Out) : (s.emit o).pins = s.pins := rfl
@[simp] theorem State.emit_gov (s : State) (o : Out) : (s.emit o).gov = s.gov := rfl
@[simp] theorem State.emit_tollU (s : State) (o : Out) : (s.emit o).tollU = s.tollU := rfl
@[simp] theorem State.emit_beatU (s : State) (o : Out) : (s.emit o).beatU = s.beatU := rfl
@[simp] theorem State.emit_probe (s : State) (o : Out) : (s.emit o).probe = s.probe := rfl
@[simp] theorem State.emit_chimes (s : State) (o : Out) : (s.emit o).chimes = s.chimes := rfl
@[simp] theorem State.emit_chimeq (s : State) (o : Out) : (s.emit o).chimeq = s.chimeq := rfl
@[simp] theorem State.emit_clusters (s : State) (o : Out) : (s.emit o).clusters = s.clusters := rfl
@[simp] theorem State.emit_bushels (s : State) (o : Out) : (s.emit o).bushels = s.bushels := rfl
@[simp] theorem State.emit_parked (s : State) (o : Out) : (s.emit o).parked = s.parked := rfl
@[simp] theorem State.emit_groups (s : State) (o : Out) : (s.emit o).groups = s.groups := rfl
@[simp] theorem State.emit_colls (s : State) (o : Out) : (s.emit o).colls = s.colls := rfl
@[simp] theorem State.emit_sw (s : State) (o : Out) : (s.emit o).sw = s.sw := rfl
@[simp] theorem State.emit_route (s : State) (o : Out) : (s.emit o).route = s.route := rfl
@[simp] theorem State.emit_links (s : State) (o : Out) : (s.emit o).links = s.links := rfl
@[simp] theorem State.emit_acv (s : State) (o : Out) : (s.emit o).acv = s.acv := rfl
@[simp] theorem State.emit_comps (s : State) (o : Out) : (s.emit o).comps = s.comps := rfl
@[simp] theorem State.emit_poolq (s : State) (o : Out) : (s.emit o).poolq = s.poolq := rfl
@[simp] theorem State.emit_faults (s : State) (o : Out) : (s.emit o).faults = s.faults := rfl
@[simp] theorem State.emit_inj (s : State) (o : Out) : (s.emit o).inj = s.inj := rfl
@[simp] theorem State.emit_score (s : State) (o : Out) : (s.emit o).score = s.score := rfl
@[simp] theorem State.emit_ride (s : State) (o : Out) : (s.emit o).ride = s.ride := rfl
@[simp] theorem State.emit_ckpt (s : State) (o : Out) : (s.emit o).ckpt = s.ckpt := rfl
@[simp] theorem State.emit_boot (s : State) (o : Out) : (s.emit o).boot = s.boot := rfl
@[simp] theorem State.emit_delivered (s : State) (o : Out) : (s.emit o).delivered = s.delivered := rfl

/-! ### complete -/

@[simp] theorem State.complete_pending (s : State) (d : Desc) (code v0 v1 : Nat) : (s.complete d code v0 v1).pending = s.pending := rfl
@[simp] theorem State.complete_fresh (s : State) (d : Desc) (code v0 v1 : Nat) : (s.complete d code v0 v1).fresh = s.fresh := rfl
@[simp] theorem State.complete_mem (s : State) (d : Desc) (code v0 v1 : Nat) : (s.complete d code v0 v1).mem = s.mem := rfl
@[simp] theorem State.complete_poison (s : State) (d : Desc) (code v0 v1 : Nat) : (s.complete d code v0 v1).poison = s.poison := rfl
@[simp] theorem State.complete_soft (s : State) (d : Desc) (code v0 v1 : Nat) : (s.complete d code v0 v1).soft = s.soft := rfl
@[simp] theorem State.complete_tags (s : State) (d : Desc) (code v0 v1 : Nat) : (s.complete d code v0 v1).tags = s.tags := rfl
@[simp] theorem State.complete_host (s : State) (d : Desc) (code v0 v1 : Nat) : (s.complete d code v0 v1).host = s.host := rfl
@[simp] theorem State.complete_nvme (s : State) (d : Desc) (code v0 v1 : Nat) : (s.complete d code v0 v1).nvme = s.nvme := rfl
@[simp] theorem State.complete_flash (s : State) (d : Desc) (code v0 v1 : Nat) : (s.complete d code v0 v1).flash = s.flash := rfl
@[simp] theorem State.complete_ck (s : State) (d : Desc) (code v0 v1 : Nat) : (s.complete d code v0 v1).ck = s.ck := rfl
@[simp] theorem State.complete_mgmt (s : State) (d : Desc) (code v0 v1 : Nat) : (s.complete d code v0 v1).mgmt = s.mgmt := rfl
@[simp] theorem State.complete_draws (s : State) (d : Desc) (code v0 v1 : Nat) : (s.complete d code v0 v1).draws = s.draws := rfl
@[simp] theorem State.complete_pins (s : State) (d : Desc) (code v0 v1 : Nat) : (s.complete d code v0 v1).pins = s.pins := rfl
@[simp] theorem State.complete_gov (s : State) (d : Desc) (code v0 v1 : Nat) : (s.complete d code v0 v1).gov = s.gov := rfl
@[simp] theorem State.complete_tollU (s : State) (d : Desc) (code v0 v1 : Nat) : (s.complete d code v0 v1).tollU = s.tollU := rfl
@[simp] theorem State.complete_beatU (s : State) (d : Desc) (code v0 v1 : Nat) : (s.complete d code v0 v1).beatU = s.beatU := rfl
@[simp] theorem State.complete_probe (s : State) (d : Desc) (code v0 v1 : Nat) : (s.complete d code v0 v1).probe = s.probe := rfl
@[simp] theorem State.complete_chimes (s : State) (d : Desc) (code v0 v1 : Nat) : (s.complete d code v0 v1).chimes = s.chimes := rfl
@[simp] theorem State.complete_chimeq (s : State) (d : Desc) (code v0 v1 : Nat) : (s.complete d code v0 v1).chimeq = s.chimeq := rfl
@[simp] theorem State.complete_clusters (s : State) (d : Desc) (code v0 v1 : Nat) : (s.complete d code v0 v1).clusters = s.clusters := rfl
@[simp] theorem State.complete_bushels (s : State) (d : Desc) (code v0 v1 : Nat) : (s.complete d code v0 v1).bushels = s.bushels := rfl
@[simp] theorem State.complete_parked (s : State) (d : Desc) (code v0 v1 : Nat) : (s.complete d code v0 v1).parked = s.parked := rfl
@[simp] theorem State.complete_groups (s : State) (d : Desc) (code v0 v1 : Nat) : (s.complete d code v0 v1).groups = s.groups := rfl
@[simp] theorem State.complete_colls (s : State) (d : Desc) (code v0 v1 : Nat) : (s.complete d code v0 v1).colls = s.colls := rfl
@[simp] theorem State.complete_sw (s : State) (d : Desc) (code v0 v1 : Nat) : (s.complete d code v0 v1).sw = s.sw := rfl
@[simp] theorem State.complete_route (s : State) (d : Desc) (code v0 v1 : Nat) : (s.complete d code v0 v1).route = s.route := rfl
@[simp] theorem State.complete_links (s : State) (d : Desc) (code v0 v1 : Nat) : (s.complete d code v0 v1).links = s.links := rfl
@[simp] theorem State.complete_acv (s : State) (d : Desc) (code v0 v1 : Nat) : (s.complete d code v0 v1).acv = s.acv := rfl
@[simp] theorem State.complete_poolq (s : State) (d : Desc) (code v0 v1 : Nat) : (s.complete d code v0 v1).poolq = s.poolq := rfl
@[simp] theorem State.complete_faults (s : State) (d : Desc) (code v0 v1 : Nat) : (s.complete d code v0 v1).faults = s.faults := rfl
@[simp] theorem State.complete_inj (s : State) (d : Desc) (code v0 v1 : Nat) : (s.complete d code v0 v1).inj = s.inj := rfl
@[simp] theorem State.complete_score (s : State) (d : Desc) (code v0 v1 : Nat) : (s.complete d code v0 v1).score = s.score := rfl
@[simp] theorem State.complete_ride (s : State) (d : Desc) (code v0 v1 : Nat) : (s.complete d code v0 v1).ride = s.ride := rfl
@[simp] theorem State.complete_ckpt (s : State) (d : Desc) (code v0 v1 : Nat) : (s.complete d code v0 v1).ckpt = s.ckpt := rfl
@[simp] theorem State.complete_boot (s : State) (d : Desc) (code v0 v1 : Nat) : (s.complete d code v0 v1).boot = s.boot := rfl
@[simp] theorem State.complete_out (s : State) (d : Desc) (code v0 v1 : Nat) : (s.complete d code v0 v1).out = s.out := rfl
@[simp] theorem State.complete_delivered (s : State) (d : Desc) (code v0 v1 : Nat) : (s.complete d code v0 v1).delivered = s.delivered := rfl

/-! ### Registers and memory under the updates -/

@[simp] theorem State.putPending_reg (s : State) (x : List Instr) (g : Field) (m : Nat) : (s.putPending x).reg g m = s.reg g m := rfl
@[simp] theorem State.putFresh_reg (s : State) (x : Tab (Nat × Nat)) (g : Field) (m : Nat) : (s.putFresh x).reg g m = s.reg g m := rfl
@[simp] theorem State.putMem_reg (s : State) (x : List Host.Cell) (g : Field) (m : Nat) : (s.putMem x).reg g m = s.reg g m := rfl
@[simp] theorem State.putPoison_reg (s : State) (x : List Nat) (g : Field) (m : Nat) : (s.putPoison x).reg g m = s.reg g m := rfl
@[simp] theorem State.putSoft_reg (s : State) (x : List Nat) (g : Field) (m : Nat) : (s.putSoft x).reg g m = s.reg g m := rfl
@[simp] theorem State.putTags_reg (s : State) (x : Tab Nat) (g : Field) (m : Nat) : (s.putTags x).reg g m = s.reg g m := rfl
@[simp] theorem State.putHost_reg (s : State) (x : List Host.Cell) (g : Field) (m : Nat) : (s.putHost x).reg g m = s.reg g m := rfl
@[simp] theorem State.putNvme_reg (s : State) (x : List Host.Cell) (g : Field) (m : Nat) : (s.putNvme x).reg g m = s.reg g m := rfl
@[simp] theorem State.putFlash_reg (s : State) (x : List Host.Cell) (g : Field) (m : Nat) : (s.putFlash x).reg g m = s.reg g m := rfl
@[simp] theorem State.putCk_reg (s : State) (x : Nat) (g : Field) (m : Nat) : (s.putCk x).reg g m = s.reg g m := rfl
@[simp] theorem State.putMgmt_reg (s : State) (x : Nat) (g : Field) (m : Nat) : (s.putMgmt x).reg g m = s.reg g m := rfl
@[simp] theorem State.putDraws_reg (s : State) (x : Nat) (g : Field) (m : Nat) : (s.putDraws x).reg g m = s.reg g m := rfl
@[simp] theorem State.putPins_reg (s : State) (x : Pins) (g : Field) (m : Nat) : (s.putPins x).reg g m = s.reg g m := rfl
@[simp] theorem State.putGov_reg (s : State) (x : Governor) (g : Field) (m : Nat) : (s.putGov x).reg g m = s.reg g m := rfl
@[simp] theorem State.putTollU_reg (s : State) (x : TollUnit) (g : Field) (m : Nat) : (s.putTollU x).reg g m = s.reg g m := rfl
@[simp] theorem State.putBeatU_reg (s : State) (x : BeatUnit) (g : Field) (m : Nat) : (s.putBeatU x).reg g m = s.reg g m := rfl
@[simp] theorem State.putProbe_reg (s : State) (x : Probe) (g : Field) (m : Nat) : (s.putProbe x).reg g m = s.reg g m := rfl
@[simp] theorem State.putChimes_reg (s : State) (x : Tab Chime) (g : Field) (m : Nat) : (s.putChimes x).reg g m = s.reg g m := rfl
@[simp] theorem State.putChimeq_reg (s : State) (x : List ChimeOp) (g : Field) (m : Nat) : (s.putChimeq x).reg g m = s.reg g m := rfl
@[simp] theorem State.putClusters_reg (s : State) (x : Tab Cluster) (g : Field) (m : Nat) : (s.putClusters x).reg g m = s.reg g m := rfl
@[simp] theorem State.putBushels_reg (s : State) (x : Tab Bushel) (g : Field) (m : Nat) : (s.putBushels x).reg g m = s.reg g m := rfl
@[simp] theorem State.putParked_reg (s : State) (x : List Parked) (g : Field) (m : Nat) : (s.putParked x).reg g m = s.reg g m := rfl
@[simp] theorem State.putGroups_reg (s : State) (x : Tab (Option Grp)) (g : Field) (m : Nat) : (s.putGroups x).reg g m = s.reg g m := rfl
@[simp] theorem State.putColls_reg (s : State) (x : List Coll) (g : Field) (m : Nat) : (s.putColls x).reg g m = s.reg g m := rfl
@[simp] theorem State.putSw_reg (s : State) (x : Switch) (g : Field) (m : Nat) : (s.putSw x).reg g m = s.reg g m := rfl
@[simp] theorem State.putRoute_reg (s : State) (x : RouteUnit) (g : Field) (m : Nat) : (s.putRoute x).reg g m = s.reg g m := rfl
@[simp] theorem State.putLinks_reg (s : State) (x : Tab Link) (g : Field) (m : Nat) : (s.putLinks x).reg g m = s.reg g m := rfl
@[simp] theorem State.putAcv_reg (s : State) (x : AcvLink) (g : Field) (m : Nat) : (s.putAcv x).reg g m = s.reg g m := rfl
@[simp] theorem State.putComps_reg (s : State) (x : List Comp) (g : Field) (m : Nat) : (s.putComps x).reg g m = s.reg g m := rfl
@[simp] theorem State.putPoolq_reg (s : State) (x : List PoolReq) (g : Field) (m : Nat) : (s.putPoolq x).reg g m = s.reg g m := rfl
@[simp] theorem State.putFaults_reg (s : State) (x : FaultUnit) (g : Field) (m : Nat) : (s.putFaults x).reg g m = s.reg g m := rfl
@[simp] theorem State.putInj_reg (s : State) (x : Inject) (g : Field) (m : Nat) : (s.putInj x).reg g m = s.reg g m := rfl
@[simp] theorem State.putScore_reg (s : State) (x : ScoreUnit) (g : Field) (m : Nat) : (s.putScore x).reg g m = s.reg g m := rfl
@[simp] theorem State.putRide_reg (s : State) (x : RideUnit) (g : Field) (m : Nat) : (s.putRide x).reg g m = s.reg g m := rfl
@[simp] theorem State.putCkpt_reg (s : State) (x : CkptUnit) (g : Field) (m : Nat) : (s.putCkpt x).reg g m = s.reg g m := rfl
@[simp] theorem State.putBoot_reg (s : State) (x : BootUnit) (g : Field) (m : Nat) : (s.putBoot x).reg g m = s.reg g m := rfl
@[simp] theorem State.putOut_reg (s : State) (x : List Out) (g : Field) (m : Nat) : (s.putOut x).reg g m = s.reg g m := rfl
@[simp] theorem State.putDelivered_reg (s : State) (x : List Cell) (g : Field) (m : Nat) : (s.putDelivered x).reg g m = s.reg g m := rfl
@[simp] theorem State.poke_reg (s : State) (a : Nat) (l : List Byte) (g : Field) (m : Nat) : (s.poke a l).reg g m = s.reg g m := rfl
@[simp] theorem State.flashPut_reg (s : State) (a : Nat) (l : List Byte) (g : Field) (m : Nat) : (s.flashPut a l).reg g m = s.reg g m := rfl
@[simp] theorem State.hostPut_reg (s : State) (a : Nat) (l : List Byte) (g : Field) (m : Nat) : (s.hostPut a l).reg g m = s.reg g m := rfl
@[simp] theorem State.setCl_reg (s : State) (c : Nat) (x : Cluster) (g : Field) (m : Nat) : (s.setCl c x).reg g m = s.reg g m := rfl
@[simp] theorem State.setLink_reg (s : State) (k : Nat) (x : Link) (g : Field) (m : Nat) : (s.setLink k x).reg g m = s.reg g m := rfl
@[simp] theorem State.setChime_reg (s : State) (i : Nat) (x : Chime) (g : Field) (m : Nat) : (s.setChime i x).reg g m = s.reg g m := rfl
@[simp] theorem State.setBushel_reg (s : State) (c r : Nat) (x : Bushel) (g : Field) (m : Nat) : (s.setBushel c r x).reg g m = s.reg g m := rfl
@[simp] theorem State.emit_reg (s : State) (o : Out) (g : Field) (m : Nat) : (s.emit o).reg g m = s.reg g m := rfl

@[simp] theorem State.putPending_byte (s : State) (x : List Instr) (a : Nat) : (s.putPending x).byte a = s.byte a := rfl
@[simp] theorem State.putRegs_byte (s : State) (x : Tab Nat) (a : Nat) : (s.putRegs x).byte a = s.byte a := rfl
@[simp] theorem State.putFresh_byte (s : State) (x : Tab (Nat × Nat)) (a : Nat) : (s.putFresh x).byte a = s.byte a := rfl
@[simp] theorem State.putPoison_byte (s : State) (x : List Nat) (a : Nat) : (s.putPoison x).byte a = s.byte a := rfl
@[simp] theorem State.putSoft_byte (s : State) (x : List Nat) (a : Nat) : (s.putSoft x).byte a = s.byte a := rfl
@[simp] theorem State.putTags_byte (s : State) (x : Tab Nat) (a : Nat) : (s.putTags x).byte a = s.byte a := rfl
@[simp] theorem State.putHost_byte (s : State) (x : List Host.Cell) (a : Nat) : (s.putHost x).byte a = s.byte a := rfl
@[simp] theorem State.putNvme_byte (s : State) (x : List Host.Cell) (a : Nat) : (s.putNvme x).byte a = s.byte a := rfl
@[simp] theorem State.putFlash_byte (s : State) (x : List Host.Cell) (a : Nat) : (s.putFlash x).byte a = s.byte a := rfl
@[simp] theorem State.putCk_byte (s : State) (x : Nat) (a : Nat) : (s.putCk x).byte a = s.byte a := rfl
@[simp] theorem State.putMgmt_byte (s : State) (x : Nat) (a : Nat) : (s.putMgmt x).byte a = s.byte a := rfl
@[simp] theorem State.putDraws_byte (s : State) (x : Nat) (a : Nat) : (s.putDraws x).byte a = s.byte a := rfl
@[simp] theorem State.putPins_byte (s : State) (x : Pins) (a : Nat) : (s.putPins x).byte a = s.byte a := rfl
@[simp] theorem State.putGov_byte (s : State) (x : Governor) (a : Nat) : (s.putGov x).byte a = s.byte a := rfl
@[simp] theorem State.putTollU_byte (s : State) (x : TollUnit) (a : Nat) : (s.putTollU x).byte a = s.byte a := rfl
@[simp] theorem State.putBeatU_byte (s : State) (x : BeatUnit) (a : Nat) : (s.putBeatU x).byte a = s.byte a := rfl
@[simp] theorem State.putProbe_byte (s : State) (x : Probe) (a : Nat) : (s.putProbe x).byte a = s.byte a := rfl
@[simp] theorem State.putChimes_byte (s : State) (x : Tab Chime) (a : Nat) : (s.putChimes x).byte a = s.byte a := rfl
@[simp] theorem State.putChimeq_byte (s : State) (x : List ChimeOp) (a : Nat) : (s.putChimeq x).byte a = s.byte a := rfl
@[simp] theorem State.putClusters_byte (s : State) (x : Tab Cluster) (a : Nat) : (s.putClusters x).byte a = s.byte a := rfl
@[simp] theorem State.putBushels_byte (s : State) (x : Tab Bushel) (a : Nat) : (s.putBushels x).byte a = s.byte a := rfl
@[simp] theorem State.putParked_byte (s : State) (x : List Parked) (a : Nat) : (s.putParked x).byte a = s.byte a := rfl
@[simp] theorem State.putGroups_byte (s : State) (x : Tab (Option Grp)) (a : Nat) : (s.putGroups x).byte a = s.byte a := rfl
@[simp] theorem State.putColls_byte (s : State) (x : List Coll) (a : Nat) : (s.putColls x).byte a = s.byte a := rfl
@[simp] theorem State.putSw_byte (s : State) (x : Switch) (a : Nat) : (s.putSw x).byte a = s.byte a := rfl
@[simp] theorem State.putRoute_byte (s : State) (x : RouteUnit) (a : Nat) : (s.putRoute x).byte a = s.byte a := rfl
@[simp] theorem State.putLinks_byte (s : State) (x : Tab Link) (a : Nat) : (s.putLinks x).byte a = s.byte a := rfl
@[simp] theorem State.putAcv_byte (s : State) (x : AcvLink) (a : Nat) : (s.putAcv x).byte a = s.byte a := rfl
@[simp] theorem State.putComps_byte (s : State) (x : List Comp) (a : Nat) : (s.putComps x).byte a = s.byte a := rfl
@[simp] theorem State.putPoolq_byte (s : State) (x : List PoolReq) (a : Nat) : (s.putPoolq x).byte a = s.byte a := rfl
@[simp] theorem State.putFaults_byte (s : State) (x : FaultUnit) (a : Nat) : (s.putFaults x).byte a = s.byte a := rfl
@[simp] theorem State.putInj_byte (s : State) (x : Inject) (a : Nat) : (s.putInj x).byte a = s.byte a := rfl
@[simp] theorem State.putScore_byte (s : State) (x : ScoreUnit) (a : Nat) : (s.putScore x).byte a = s.byte a := rfl
@[simp] theorem State.putRide_byte (s : State) (x : RideUnit) (a : Nat) : (s.putRide x).byte a = s.byte a := rfl
@[simp] theorem State.putCkpt_byte (s : State) (x : CkptUnit) (a : Nat) : (s.putCkpt x).byte a = s.byte a := rfl
@[simp] theorem State.putBoot_byte (s : State) (x : BootUnit) (a : Nat) : (s.putBoot x).byte a = s.byte a := rfl
@[simp] theorem State.putOut_byte (s : State) (x : List Out) (a : Nat) : (s.putOut x).byte a = s.byte a := rfl
@[simp] theorem State.putDelivered_byte (s : State) (x : List Cell) (a : Nat) : (s.putDelivered x).byte a = s.byte a := rfl
@[simp] theorem State.setReg_byte (s : State) (f : Field) (v n : Nat) (a : Nat) : (s.setReg f v n).byte a = s.byte a := rfl
@[simp] theorem State.flashPut_byte (s : State) (b : Nat) (l : List Byte) (a : Nat) : (s.flashPut b l).byte a = s.byte a := rfl
@[simp] theorem State.hostPut_byte (s : State) (b : Nat) (l : List Byte) (a : Nat) : (s.hostPut b l).byte a = s.byte a := rfl
@[simp] theorem State.setCl_byte (s : State) (c : Nat) (x : Cluster) (a : Nat) : (s.setCl c x).byte a = s.byte a := rfl
@[simp] theorem State.setLink_byte (s : State) (k : Nat) (x : Link) (a : Nat) : (s.setLink k x).byte a = s.byte a := rfl
@[simp] theorem State.setChime_byte (s : State) (i : Nat) (x : Chime) (a : Nat) : (s.setChime i x).byte a = s.byte a := rfl
@[simp] theorem State.setBushel_byte (s : State) (c r : Nat) (x : Bushel) (a : Nat) : (s.setBushel c r x).byte a = s.byte a := rfl
@[simp] theorem State.emit_byte (s : State) (o : Out) (a : Nat) : (s.emit o).byte a = s.byte a := rfl
@[simp] theorem State.complete_byte (s : State) (d : Desc) (code v0 v1 : Nat) (a : Nat) : (s.complete d code v0 v1).byte a = s.byte a := rfl

/-! ### Counters are register writes -/

/-- An update of a field is a register write; of a field that reads clear or that a 1 clears, what is new in this CK is kept beside it
(00 R17). -/
theorem State.update_eq (s : State) (f : Field) (v : Nat) (u : Nat → Nat) (n : Nat) :
    s.update f v u n = (s.setReg f v n).putFresh (s.update f v u n).fresh := by
  unfold State.update
  split <;> rfl

/-- Every other field is updated by a register write alone. -/
theorem State.update_plain (s : State) (f : Field) (v : Nat) (u : Nat → Nat) (n : Nat) (h : ¬ (f.acc = .rc ∨ f.acc = .w1c)) :
    s.update f v u n = s.setReg f v n := by
  simp [State.update, h]

@[simp] theorem State.update_reg (s : State) (f g : Field) (v : Nat) (u : Nat → Nat) (n m : Nat) :
    (s.update f v u n).reg g m = (s.setReg f v n).reg g m := by
  rw [State.update_eq]; rfl

@[simp] theorem State.update_byte (s : State) (f : Field) (v : Nat) (u : Nat → Nat) (n a : Nat) : (s.update f v u n).byte a = s.byte a := by
  rw [State.update_eq]; rfl

theorem State.count_eq (s : State) (f : Field) (k n : Nat) :
    s.count f k n = (s.setReg f (min (s.reg f n + k) f.top) n).putFresh (s.count f k n).fresh := State.update_eq ..
theorem State.tick_eq (s : State) (f : Field) (k n : Nat) :
    s.tick f k n = (s.setReg f (s.reg f n + k) n).putFresh (s.tick f k n).fresh := State.update_eq ..
theorem State.peak_eq (s : State) (f : Field) (v n : Nat) :
    s.peak f v n = (s.setReg f (max (s.reg f n) (min v f.top)) n).putFresh (s.peak f v n).fresh := State.update_eq ..
theorem State.mark_eq (s : State) (f : Field) (v n : Nat) :
    s.mark f v n = (s.setReg f (s.reg f n ||| v) n).putFresh (s.mark f v n).fresh := State.update_eq ..

/-! ### Register fields -/

/-- A field set reads as the value, cut to its width. -/
@[simp] theorem State.reg_setReg_same (s : State) (f : Field) (v n : Nat) : (s.setReg f v n).reg f n = v % 2 ^ f.width := by
  simp [State.reg, State.setReg]

/-- Every field with another key reads as before. -/
theorem State.reg_setReg_other (s : State) {f g : Field} (v : Nat) {n m : Nat} (h : g.key m ≠ f.key n) :
    (s.setReg f v n).reg g m = s.reg g m := by
  simp only [State.reg, State.setReg, State.putRegs_regs]
  rw [tabGet_tabSet_other _ _ _ _ h]

/-- A field is always within its width. -/
theorem State.reg_lt (s : State) (f : Field) (n : Nat) : s.reg f n < 2 ^ f.width := Nat.mod_lt _ (Nat.two_pow_pos _)

/-- An update of anything but the registers leaves every field as it was. -/
theorem State.reg_congr {s t : State} (h : t.regs = s.regs) (f : Field) (n : Nat) : t.reg f n = s.reg f n := by
  simp [State.reg, h]

/-- An update of anything but the memory leaves every byte as it was. -/
theorem State.byte_congr {s t : State} (h : t.mem = s.mem) (a : Nat) : t.byte a = s.byte a := by
  simp [State.byte, h]

end Sys2Proof.Machine
end

