-- ==== Sys2Proof/Laws/Mem.lean ====
section
/-!
SUPPORT. Laws/Mem.lean: what a byte of memory reads as after a write, and that every operation on a memory keeps its canonical form.
-/
namespace Sys2Proof.Machine

/-! ### Reading after writing -/

theorem memPut_same (m : List Host.Cell) (a : Nat) (b : Byte) : tabGet 0 (memPut m a b) a = b := tabGet_tabSet_same 0 m a b

theorem memPut_other (m : List Host.Cell) {a x : Nat} (b : Byte) (h : x ≠ a) : tabGet 0 (memPut m a b) x = tabGet 0 m x :=
  tabGet_tabSet_other 0 0 m b h

/-- Below the first byte written, memory reads as before. -/
theorem memWrite_below (m : List Host.Cell) (a : Nat) (l : List Byte) {x : Nat} (h : x < a) :
    tabGet 0 (memWrite m a l) x = tabGet 0 m x := by
  induction l generalizing m a with
  | nil => rfl
  | cons b t ih =>
    rw [memWrite, ih _ _ (Nat.lt_succ_of_lt h), memPut_other m b (Nat.ne_of_lt h)]

/-- From the last byte written on, memory reads as before. -/
theorem memWrite_above (m : List Host.Cell) (a : Nat) (l : List Byte) {x : Nat} (h : a + l.length ≤ x) :
    tabGet 0 (memWrite m a l) x = tabGet 0 m x := by
  induction l generalizing m a with
  | nil => rfl
  | cons b t ih =>
    simp only [List.length_cons] at h
    rw [memWrite, ih _ _ (by omega), memPut_other m b (by omega)]

/-- The bytes written read as what was written. -/
theorem memWrite_in (m : List Host.Cell) (a : Nat) (l : List Byte) {i : Nat} (h : i < l.length) :
    tabGet 0 (memWrite m a l) (a + i) = l.getD i 0 := by
  induction l generalizing m a i with
  | nil => simp at h
  | cons b t ih =>
    cases i with
    | zero =>
      show tabGet 0 (memWrite (memPut m a b) (a + 1) t) a = b
      rw [memWrite_below _ _ _ (Nat.lt_succ_self a), memPut_same]
    | succ i =>
      simp only [List.length_cons] at h
      show tabGet 0 (memWrite (memPut m a b) (a + 1) t) (a + (i + 1)) = t.getD i 0
      rw [show a + (i + 1) = a + 1 + i by omega, ih _ _ (by omega)]

/-- Bytes written into the device's memory: every byte outside them reads as before, each of them as what was written. -/
theorem State.poke_byte (s : State) (a : Nat) (l : List Byte) (x : Nat) :
    (s.poke a l).byte x = if a ≤ x ∧ x < a + l.length then l.getD (x - a) 0 else s.byte x := by
  unfold State.byte State.poke
  rw [State.putMem_mem]
  split
  · rename_i h
    obtain ⟨i, rfl⟩ := Nat.exists_eq_add_of_le h.1
    rw [memWrite_in _ _ _ (by omega), Nat.add_sub_cancel_left]
  · rename_i h
    by_cases h1 : x < a
    · exact memWrite_below _ _ _ h1
    · exact memWrite_above _ _ _ (by omega)

/-! ### The canonical form -/

theorem memory_wf_nil : Memory.wf [] = true := rfl

theorem memPut_wf {m : List Host.Cell} (a : Nat) (b : Byte) (h : Memory.wf m = true) : Memory.wf (memPut m a b) = true :=
  tabSet_wf 0 a b h

theorem memWrite_wf {m : List Host.Cell} (a : Nat) (l : List Byte) (h : Memory.wf m = true) : Memory.wf (memWrite m a l) = true := by
  induction l generalizing m a with
  | nil => exact h
  | cons b t ih => exact ih _ (memPut_wf a b h)

theorem memory_filter_wf {m : List Host.Cell} (p : Host.Cell → Bool) (h : Memory.wf m = true) : Memory.wf (m.filter p) = true :=
  filter_wf 0 p h

theorem memMove_wf {m : List Host.Cell} (src dst n : Nat) (h : Memory.wf m = true) : Memory.wf (memMove m src dst n) = true := by
  unfold memMove
  generalize m.filter (fun e => decide (src ≤ e.1) && decide (e.1 < src + n)) = l
  have h1 : Memory.wf (tabClear m dst (dst + n)) = true := tabClear_wf 0 dst (dst + n) h
  generalize tabClear m dst (dst + n) = t at h1
  induction l generalizing t with
  | nil => exact h1
  | cons e l ih => exact ih _ (memPut_wf _ _ h1)

theorem State.poke_wf {s : State} (a : Nat) (l : List Byte) (h : Memory.wf s.mem = true) : Memory.wf (s.poke a l).mem = true :=
  memWrite_wf a l h

theorem State.flashPut_wf {s : State} (a : Nat) (l : List Byte) (h : Memory.wf s.flash = true) : Memory.wf (s.flashPut a l).flash = true :=
  memWrite_wf a l h

theorem State.hostPut_wf {s : State} (a : Nat) (l : List Byte) (h : Memory.wf s.host = true) : Memory.wf (s.hostPut a l).host = true :=
  memWrite_wf a l h

theorem State.flashPuts_wf (fields : List (Nat × List Byte)) (dst : Nat) {s : State} (h : Memory.wf s.flash = true) :
    Memory.wf (fields.foldl (fun t f => t.flashPut (dst + f.1) f.2) s).flash = true := by
  induction fields generalizing s with
  | nil => exact h
  | cons f l ih => exact ih (State.flashPut_wf _ _ h)

/-- An update of the persistent copy keeps boot flash canonical. -/
theorem State.writeCopy_wf {s : State} (fields : List (Nat × List Byte)) (h : Memory.wf s.flash = true) :
    Memory.wf (s.writeCopy fields).flash = true := by
  unfold State.writeCopy
  split
  · exact h
  · exact State.flashPut_wf _ _ (State.flashPut_wf _ _ (State.flashPuts_wf _ _ (memMove_wf _ _ _ h)))

end Sys2Proof.Machine
end

