-- ==== Sys2Proof/Laws/Ops.lean ====
section
/-!
SUPPORT. Laws/Ops.lean: everything each shared operation can do, said once: what it changes, as an equation whose right side names the parts
that may change, and what it answers.
-/
namespace Sys2Proof.Machine

/-! ### Time -/

/-- Time brought to a Toll count: the count and the CK count alone change, and nothing is new in the new CK. -/
theorem State.advanceTo_eq (s : State) (t : Nat) :
    s.advanceTo t =
      if s.toll < t then
        ((s.setReg F.TOLL_COUNT_COUNT t).putCk (if s.pins.porstN then s.ck + (t - s.toll) else s.ck)).putFresh []
      else s := by
  unfold State.advanceTo State.passCk
  split
  · rename_i h
    rw [if_neg (Nat.sub_ne_zero_of_lt h)]
    rfl
  · rfl

theorem State.advanceTo_toll (s : State) (t : Nat) : (s.advanceTo t).toll = if s.toll < t then t % 2 ^ 64 else s.toll := by
  rw [State.advanceTo_eq]
  split
  · simp only [State.toll, State.putFresh_reg, State.putCk_reg, State.reg_setReg_same]; rfl
  · rfl

/-- Every field but the Toll count reads as before. -/
theorem State.advanceTo_reg (s : State) (t : Nat) {g : Field} {m : Nat} (h : g.key m ≠ F.TOLL_COUNT_COUNT.key 0) :
    (s.advanceTo t).reg g m = s.reg g m := by
  rw [State.advanceTo_eq]
  split
  · rw [State.putFresh_reg, State.putCk_reg, State.reg_setReg_other s t h]
  · rfl

@[simp] theorem State.advanceTo_byte (s : State) (t a : Nat) : (s.advanceTo t).byte a = s.byte a := by
  rw [State.advanceTo_eq]; split <;> rfl

/-! ### Descriptors -/

/-- A completed descriptor: its entry waits last, INFLIGHT of its ring falls, nothing else changes. -/
theorem State.complete_eq (s : State) (d : Desc) (code v0 v1 : Nat) :
    s.complete d code v0 v1 = (s.putComps (s.comps ++ [⟨d.ring.val, d.slot.toNat, d.id.toNat, code, v0, v1, s.toll⟩])).setReg
      F.ACV_RSTAT_INFLIGHT (s.reg F.ACV_RSTAT_INFLIGHT d.ring.val - 1) d.ring.val := rfl

@[simp] theorem State.complete_comps (s : State) (d : Desc) (code v0 v1 : Nat) :
    (s.complete d code v0 v1).comps = s.comps ++ [⟨d.ring.val, d.slot.toNat, d.id.toNat, code, v0, v1, s.toll⟩] := rfl

/-- A descriptor that comes with its command is accepted at once: nothing is fetched for its ring, no entry of it waits, and with FENCE every
earlier one has its entry written. -/
theorem State.accept_now (s : State) (d : Desc) (act : State → State) (h : s.held d.ring.val = [])
    (h1 : s.ringOpen d.ring.val d.fence = true) : s.accept d act = act s := by
  simp [State.accept, h, h1]

/-- A ring that is not open accepts nothing. -/
theorem State.accept_shut (s : State) (d : Desc) (act : State → State) (h : s.ringOpen d.ring.val d.fence = false) : s.accept d act = s := by
  simp [State.accept, h]

/-- The oldest fetched descriptor of a ring, named by its command and with no lower ring ready, is accepted 8 CK after it came. -/
theorem State.accept_oldest (s : State) (d : Desc) (act : State → State) (f : Fetched) (t : List Fetched)
    (h : s.held d.ring.val = f :: t) (h1 : s.ringOpen d.ring.val d.fence = true) (h2 : f.names d = true)
    (h3 : (List.range d.ring.val).any (s.advanceTo (f.since + 8)).ringReady = false) :
    s.accept d act = act ((s.advanceTo (f.since + 8)).putAcv { (s.advanceTo (f.since + 8)).acv with
      descs := (s.advanceTo (f.since + 8)).acv.descs.erase f }) := by
  simp [State.accept, h, h1, h2, h3]

/-- After a good start a descriptor is handled when it is accepted; after a failed one it completes with START_FAILED. -/
theorem State.serve_good (s : State) (d : Desc) (act : State → State) (h : s.held d.ring.val = [])
    (h1 : s.ringOpen d.ring.val d.fence = true) (h2 : s.reg F.BOOT_STATUS_FAIL = 0) : s.serve d act = act s := by
  rw [State.serve, State.accept_now s d _ h h1, if_pos h2]

theorem State.serve_failed (s : State) (d : Desc) (act : State → State) (h : s.held d.ring.val = [])
    (h1 : s.ringOpen d.ring.val d.fence = true) (h2 : s.reg F.BOOT_STATUS_FAIL ≠ 0) : s.serve d act = s.complete d 0x8B := by
  rw [State.serve, State.accept_now s d _ h h1, if_neg h2]

/-! ### Seal effects -/

/-- ERR with its cause, while a Score runs. -/
theorem State.err_eq (s : State) (cause : Nat) :
    s.err cause = if s.running then s.putBeatU { s.beatU with err := true, errCause := s.beatU.errCause ||| 2 ^ cause } else s := rfl

/-- HALT_REQ with its causes, while a Score runs. -/
theorem State.halt_eq (s : State) (causes : Nat) :
    s.halt causes = if s.running then s.putBeatU { s.beatU with haltReq := true, haltCause := s.beatU.haltCause ||| causes } else s := rfl

/-- A C3 fault touches the Beat unit alone, and owes a device reset. -/
theorem State.c3_eq (s : State) (causes : Nat) : s.c3 causes = s.putBeatU (s.c3 causes).beatU ∧ (s.c3 causes).beatU.resetDue = true := by
  unfold State.c3 State.halt
  split <;> exact ⟨rfl, rfl⟩

/-- The seal effect of a kind touches the Beat unit alone. -/
theorem State.sealOf_eq (s : State) (kind : Nat) : s.sealOf kind = s.putBeatU (s.sealOf kind).beatU := by
  unfold State.sealOf
  repeat' split
  all_goals first
    | exact (State.c3_eq s _).1
    | (rw [State.err_eq]; split <;> rfl)
    | (rw [State.halt_eq]; split <;> rfl)
    | rfl

/-- A C4 fault at the pins: FAULTED, FAULT_N, every port stopped, the first cause kept; nothing but registers and pins changes. -/
theorem State.c4_eq (s : State) (cause : Nat) :
    s.c4 cause = (s.putRegs (s.c4 cause).regs).putPins
      { s.pins with faultN := true, thermtripN := s.pins.thermtripN || decide (cause = 1), portsStopped := true
                    c4At := (s.c4 cause).pins.c4At } := by
  unfold State.c4
  rfl

/-! ### Fault messages -/

/-- A collector's queue takes a message or counts it lost: registers and the fault system alone change. -/
theorem State.toRegion_eq (s : State) (n : Nat) (r : Rep) :
    s.toRegion n r = ((s.putRegs (s.toRegion n r).regs).putFresh (s.toRegion n r).fresh).putFaults (s.toRegion n r).faults := by
  unfold State.toRegion
  split <;> rfl

theorem State.toRegion_after (s : State) (f : FaultUnit) (n : Nat) (r : Rep) :
    (s.putFaults f).toRegion n r = (((s.putRegs ((s.putFaults f).toRegion n r).regs).putFresh ((s.putFaults f).toRegion n r).fresh).putFaults
      ((s.putFaults f).toRegion n r).faults) := by
  unfold State.toRegion
  split <;> rfl

theorem State.toDie_eq (s : State) (d : Nat) (r : Rep) : s.toDie d r =
      ((s.putRegs (s.toDie d r).regs).putFresh (s.toDie d r).fresh).putFaults (s.toDie d r).faults := by
  unfold State.toDie
  split
  · rfl
  · split <;> rfl

theorem State.toHub_eq (s : State) (r : Rep) : s.toHub r =
      ((s.putRegs (s.toHub r).regs).putFresh (s.toHub r).fresh).putFaults (s.toHub r).faults := by
  unfold State.toHub
  dsimp only
  split
  · rfl
  · split
    · rfl
    · split <;> rfl

/-- A message to the hub is the last in its queue. -/
theorem State.toHub_hub (s : State) (r : Rep) : (s.toHub r).faults.hub = s.faults.hub ++ [r] := by
  unfold State.toHub
  dsimp only
  split
  · rfl
  · split
    · rfl
    · split <;> rfl

theorem State.toCluster_eq (s : State) (c : Nat) (r : Rep) :
    s.toCluster c r = ((s.putRegs (s.toCluster c r).regs).putFresh (s.toCluster c r).fresh).putFaults (s.toCluster c r).faults :=
  State.toRegion_after s _ (c / 8) r

/-- What sending a message may touch: registers, the fault system, and, when it ends a load, the Score unit and the completions. -/
theorem State.send_eq (s : State) (r : Rep) :
    s.send r = (((((s.putRegs (s.send r).regs).putFresh (s.send r).fresh).putFaults (s.send r).faults).putScore
      (s.send r).score).putComps (s.send r).comps) := by
  have h : s.loadHit r.msg.cls = ((s.putRegs (s.loadHit r.msg.cls).regs).putScore (s.loadHit r.msg.cls).score).putComps
      (s.loadHit r.msg.cls).comps := by
    unfold State.loadHit
    split
    · split <;> rfl
    · rfl
  unfold State.send
  dsimp only
  generalize s.loadHit r.msg.cls = u at h
  split
  · rw [State.toCluster_eq u]; rw [h]; rfl
  · rw [State.toCluster_eq u]; rw [h]; rfl
  · rw [State.toRegion_eq u]; rw [h]; rfl
  · rw [State.toDie_eq u]; rw [h]; rfl
  · rw [State.toHub_eq u]; rw [h]; rfl

/-- With no load in its writes a message leaves Score unit and completions alone. -/
theorem State.loadHit_idle (s : State) (cls : Nat) (h : s.score.load = none) : s.loadHit cls = s := by
  unfold State.loadHit
  rw [h]

/-- The capture of a failed check touches registers and the fault system alone. -/
theorem State.capture_eq (s : State) (r : Rep) : s.capture r =
      ((s.putRegs (s.capture r).regs).putFresh (s.capture r).fresh).putFaults (s.capture r).faults := by
  unfold State.capture
  split
  · dsimp only
    split <;> rfl
  · rfl

theorem State.owe_eq (s : State) (r : Rep) : s.owe r = s.putFaults (s.owe r).faults := by
  unfold State.owe
  split <;> rfl

/-- What a detected fault may touch: registers, the fault system, the Beat unit, and, when it ends a load, the Score unit and the
completions; no memory, no pin, no queue. -/
theorem State.raise_eq (s : State) (r : Rep) :
    s.raise r = ((((((s.putRegs (s.raise r).regs).putFresh (s.raise r).fresh).putFaults (s.raise r).faults).putBeatU (s.raise r).beatU).putScore
      (s.raise r).score).putComps (s.raise r).comps) := by
  unfold State.raise
  have h1 := State.owe_eq s r.acted
  generalize s.owe r.acted = a at h1 ⊢
  have h2 := State.send_eq a r.acted
  generalize a.send r.acted = b at h2 ⊢
  have h3 := State.sealOf_eq b r.msg.kind
  generalize b.sealOf r.msg.kind = c at h3 ⊢
  have h4 := State.capture_eq c r
  generalize c.capture r = d at h4 ⊢
  rw [h4, h3, h2, h1]
  rfl

@[simp] theorem State.raise_byte (s : State) (r : Rep) (a : Nat) : (s.raise r).byte a = s.byte a := by
  rw [State.raise_eq]; rfl

@[simp] theorem State.send_byte (s : State) (r : Rep) (a : Nat) : (s.send r).byte a = s.byte a := by
  rw [State.send_eq]; rfl

/-! ### Clusters, links and Chimes -/

@[simp] theorem State.cl_setCl_same (s : State) (c : Nat) (x : Cluster) : (s.setCl c x).cl c = x := by
  simp [State.cl, State.setCl]

theorem State.cl_setCl_other (s : State) {c d : Nat} (x : Cluster) (h : d ≠ c) : (s.setCl c x).cl d = s.cl d := by
  simp only [State.cl, State.setCl, State.putClusters_clusters]
  exact tabGet_tabSet_other _ _ _ _ h

@[simp] theorem State.link_setLink_same (s : State) (k : Nat) (x : Link) : (s.setLink k x).link k = x := by
  simp [State.link, State.setLink]

theorem State.link_setLink_other (s : State) {k j : Nat} (x : Link) (h : j ≠ k) : (s.setLink k x).link j = s.link j := by
  simp only [State.link, State.setLink, State.putLinks_links]
  exact tabGet_tabSet_other _ _ _ _ h

@[simp] theorem State.chime_setChime_same (s : State) (i : Nat) (x : Chime) : (s.setChime i x).chime i = x := by
  simp [State.chime, State.setChime]

theorem State.chime_setChime_other (s : State) {i j : Nat} (x : Chime) (h : j ≠ i) : (s.setChime i x).chime j = s.chime j := by
  simp only [State.chime, State.setChime, State.putChimes_chimes]
  exact tabGet_tabSet_other _ _ _ _ h

/-- Something that leaves the device is first in `out`, and nothing else changes. -/
theorem State.emit_eq (s : State) (o : Out) : s.emit o = s.putOut (o :: s.out) := rfl

end Sys2Proof.Machine
end

