-- ==== Sys2Proof/Tests/Slice0.lean ====
section
/-!
SUPPORT. Tests/Slice0.lean: what the well-formedness check refuses, words and numbers of the manual's worked examples, single steps, and a witness for
the hypotheses of every statement.
-/
namespace Sys2Proof.Slice0
open Sys2Proof Sys2Proof.Machine

set_option maxRecDepth 20000
set_option Elab.async false

/-! ### Small states -/

def st (l : List (Field × Nat × Nat)) : State := l.foldl (fun s e => s.setReg e.1 e.2.2 e.2.1) State.reset
def pwr (v g : Nat) : State := st [(F.ENG_PWR_STATE_STATE,0,v),(F.ENG_PWR_STATE_GRP_OK,0,g)]
def porst (s : State) : State := s.putPins { s.pins with porstN := true }
def run4 : State := st [(F.BEAT_STATUS_STATE,0,2),(F.ENG_PWR_STATE_STATE,0,4)]
def q0 : ScoreParams := ⟨3, 10, 1, 0, false, [7,8], [], [0, 2], [(0,0,0)], [], [], 0x100000, 4096, 0x100000, 0x8C00000000, 0x8C40000000, [], [], [], []⟩
def d0 : Desc := ⟨2, 7, 0x55, false⟩
def withScore (s : State) : State := s.putScore { s.score with cur := some q0 }
def running0 : State := withScore (st [(F.BEAT_STATUS_STATE,0,2),(F.ENG_PWR_STATE_STATE,0,4),(F.SEQ_SCORE_STATE,0,3),(F.BEAT_NUM_NUM,0,9),(F.BEAT_PERIOD_PERIOD,0,100000)])
def addr (s : State) (l : List (Field × Nat × Nat)) : State := l.foldl (fun s e => s.setReg e.1 e.2.2 e.2.1) s
def ready (s : State) (k : Nat) : State := s.setReg F.PORT_LINK_STATE 6 k
/-- child port 5 of Acre 3, link 10 ready; parent port 0, link 0 ready -/
def tree (s : State) : State :=
  let s1 := addr s [(F.GONG_CHILD_LO_CHILD,0,2^5),(F.PORT_LINK_STATE,10,6),(F.PORT_LINK_STATE,0,6),(F.GONG_CFG_ROOT,0,0),(F.GONG_CFG_PARENT_PORT,0,0)]
  let b := { s1.route.bank0 with port := [(5, 2^54 + 3*2^44)] }
  s1.putRoute { s1.route with bank0 := b, bank1 := b }
def sealW (beat acre flags : Nat) : BitVec 128 := BitVec.ofNat 128 (sealBits beat 0x21 (-5) 1 acre 0 flags)
def round0 (own : Bool) : Round := ⟨3, 9, 100000, 1, 0x10, 3, 1, [], own, 0, 0⟩
def load0 : Load := ⟨d0, q0, 100000, 10, 0, 0, 0, 0, 0, 0, [], [], [], [], 1, false⟩
def drain9 : State := let s := running0; s.putBeatU { s.beatU with drain := true, hasPrev := true, prevVerdict := 1 }
def launchS : State := let s := withScore (st [(F.BEAT_STATUS_STATE,0,1),(F.ENG_PWR_STATE_STATE,0,4),(F.SEQ_SCORE_STATE,0,2),(F.BEAT_PERIOD_PERIOD,0,100000),(F.BEAT_LAUNCH_LAUNCH_TOLL,0,5000)])
  (s.putScore { s.score with launch := some d0 }).putBeatU { s.beatU with startBeat := 4 }
def rollS : State := let s := running0
  ((s.putBeatU { s.beatU with rollback := [8] }).putScore { s.score with logs := [(0,1)] }).putMem ([(0x8C00000004, (0x90:Byte)), (0x8C00000044,(9:Byte)), (0x9000000003,(5:Byte))])
def cl5 (f : Cluster → Cluster) (s : State) : State := s.setCl 5 (f (s.cl 5))
def scal : State := cl5 (fun x => { x with sregs := [(1, 0xFFFFFFFFFFFFFFF0), (2, 5), (3, 0x1000)], ccount := 77 }) State.reset
def vr (x : Nat) : VReg := BitVec.ofNat _ x
def bigv : Nat := 0x3F8000007FC00001C0490FDB00000001007FFFFF80000000FF80000041200000 + 0x3C003C00 * 2^1000 + 0xBF800000 * 2^4064
def vecS : State := cl5 (fun x => { x with vregs := [(64+3, vr (2^4095+77)), (64+4, vr bigv), (64+5, vr (bigv * 2^32 + 0x40400000)), (64+6, vr (bigv * 2^64))], pregs := [(8+1, BitVec.ofNat _ (0x5555555555555555 + 2^127 + 2^511)),(8+4, BitVec.ofNat _ 0xF0F0)], draw := [(1,3)] }) scal
def vecZ : State := cl5 (fun x => { x with vregs := [(64+3, vr (2^4095+77)), (64+4, vr 0x3F80000041200000), (64+5, vr 5)], pregs := [(8+1, BitVec.ofNat _ (0x5555555555555557 + 2^127 + 2^511))]}) scal
def vecM : State := cl5 (fun x => { x with sregs := [(1,0x1000)] }) (vecS.putMem [(wmBase 5 + 0x1200, (7:Byte)),(wmBase 5 + 0x1203, (8:Byte)),(wmBase 5+0x1400,9)])
def pokeWs (s : State) (a : Nat) (ws : List Nat) : State := s.poke a (ws.flatMap (leBytes 8))
def mpw0 (m n k : Nat) : Nat := m + n*2^10 + k*2^18
def mpws (m n k : Nat) : List Nat := [mpw0 m n k, 0x10000, 0x20000, 0, 0x30000, 0, 2^53 + 77*2^22, 0]
def opS (m n k : Nat) : State := cl5 (fun x => {x with mxq := [.op 0x1000 33 0xABC]}) (pokeWs scal (wmBase 5 + 0x1000) (mpws m n k))
def mxr (code : Nat) : MxRun := ⟨3, 0, code, [mpw0 1 1 2, 0x10000, 0x20000, 0, 0x30000, 0, 2^53 + 77*2^22, 0], [0x3F800000, 0x40000000], [], [0x40400000, 0x3F800000], [], 6⟩
def cmpS (code : Nat) : State := addr (cl5 (fun x => {x with mxRun := [mxr code]}) scal) [(F.SEQ_CFG_RING_BASE,0,0x80000),(F.SEQ_CFG_RING_LOG2,0,2)]
def wrec (s : State) (c r : Nat) (any scored : Bool) : State := pokeWs s (recAddr c r)
  [2^63 + (if any then 2^62 else 0) + (if scored then 2^61 else 0) + 4*2^32 + 9*2^16 + 3, 2^43 + 3*2^16, 2*2^32 + 512*2^16, 1*2^23 + 100, 0, 0, 0, 0]
def recS : State := cl5 (fun x => { x with sregs := [(1,0x2000),(2, 7*2^32 + 0)] }) (wrec scal 5 2 false true)
def bigc : BitVec 3840 := BitVec.ofNat _ (0x3F800000 + 0x40000000 * 2^64)
def tcell (kind : Nat) : Cell := ⟨BitVec.ofNat _ 0, tallyExt 3 9 0 0 7 0 0 kind bigc, bigc⟩
def mvblk (src dst len : Nat) : List Nat := [src, dst, 2^47 + 77 * 2^32 + len, 12, 2*2^16 + 2 + 2*2^32, 0, 0, 0]
def mvS (src dst len : Nat) : State := cl5 (fun x => { x with sregs := [(1,0x1000)] }) ((pokeWs scal (wmBase 5 + 0x1000) (mvblk src dst len)).poke 0x9000000100 [1,2,3,4,5,6,7,8,9,10,11,12,13,14,15,16])
def mvr : MvRun := ⟨3, 0, 0, some 77, 0, 0x9000000103, [1,2,0,4], none, [], false⟩
def ti (lo hi : Nat) : TallyIn := ⟨64*5+2, lo, hi, 7, 3, true, [0x3F800000], []⟩
def coll0 : Coll := ⟨d0, 3, 9, 77, [(5,2)], [(5,2)], 0, 0, 1, 100, none⟩
def rideCell (beat off n : Nat) : Cell :=
  let pay : BitVec 3840 := payOf (leBytes 8 off ++ leBytes 1 n ++ List.replicate 23 0 ++ (List.range 64).map (fun i => BitVec.ofNat 8 (i+1)))
  ⟨hdrOf beat 0 3 0 0 2 false true true 480, dataExt 0 1 0 0 pay, pay⟩
def rq0 : RideCell := ⟨0, 0, [[1]], 9, false, 10⟩
def rideD : State := let s := running0
  (s.putRide ⟨[], [(9,1)], some 9, []⟩).putMem [(0x8C00000000, (0x40:Byte)), (0x8C00000008,(1:Byte)), (0x8C00000020,(7:Byte)),(0x8C00000021,(8:Byte)),(0x9000000041,(99:Byte))]
def inS (c : Cell → Cell) : Cell := c ⟨hdrOf 9 4 3 0 0 0 false true true 480, 0, 0⟩
def swS : State :=
  let s := tree running0
  let b := { s.route.bank0 with unicast := [(4, 2^63 + 3*2^52 + 69*2^32)] }
  let s1 := s.putRoute { s.route with bank0 := b, bank1 := b }
  s1.setLink 10 { s1.link 10 with discard := false, lnext := 8 }
def tallyC : Cell := ⟨hdrOf 9 4 3 0 0 1 false true true 480, 0, 0⟩
def ctS : State := let s := running0
  ((s.putScore { s.score with calendar := [(0, 5*2^12 + 69*2^20)] }).putSw { s.sw with scored := [⟨0,5,tallyC,[133],none,2,1⟩], time := 5, base := 2 }).setReg F.CAL_PHASE_PAGES_D0 1
def oc : OpCell := ⟨0,5,tallyC,[133],none,true,1⟩
def rcell : Cell := ⟨hdrOf 9 4 3 0 2 0 false false true 480, dataExt 0 1 5 0 0, 0⟩
def rsq : Reseq := ⟨0, 133, 0, 4, 1, 3, [(5, 10, 3, rcell)], 20⟩
def mk (msub wave : Nat) (f : Bool) (gen : Nat) : Cell := State.reset.marker 3 msub wave f gen 0 0
def leafS : State := addr State.reset [(F.PORT_LINK_STATE,0,6)]
def drS : State := let s := addr leafS [(F.ROUTE_BANK_STATE,0,2),(F.ROUTE_BANK_PREP_ACRE,0,3)]
  s.putRoute { s.route with swap := some d0 }
def poolS (n head : Nat) : State := (addr State.reset [(F.POOL_CFG_COUNT,n,3),(F.POOL_CFG_BASE,n,0x4500000),(F.POOL_STATE_HEAD,n,head),(F.POOL_STATE_FREE,n,2)]).putMem [(0x4500000000 + 256*8^n, (2:Byte))]
def lk (v : Nat) (f : Link → Link) : State := let s := st [(F.PORT_LINK_STATE,10,v)]; s.setLink 10 (f (s.link 10))
def idb (hi lo : Nat) : BitVec 128 := BitVec.ofNat 128 (hi * 2^120 + lo * 2^104 + 0x7F * 2^72 + 33 * 2^56 + 0x01020300 * 2^24)
def acvS (v : Nat) (f : AcvLink → AcvLink) : State := let s := st [(F.ACV_LINK_STATE,0,v)]; s.putAcv (f s.acv)
def pk : AcvPkt := ⟨1, 5, 0, 0, 0, 0, []⟩
def rd : HostRead := ⟨7, 3, 0x1000, 256, [], 100⟩
def hd0 (a n seq : Nat) : AcvHdr := ⟨BitVec.ofNat _ a, 0, BitVec.ofNat _ n, 9, BitVec.ofNat _ seq, 0, 0, 0, true⟩
/-- a header with its LCRC -/
def lc (h : AcvHdr) (ty : Nat) (data : List Byte) : AcvHdr := { h with lcrc := BitVec.ofNat _ (acvLcrc (acvHead ty h.lseq.toNat data.length h.tag.toNat h.rlen.toNat h.status.toNat h.addr.toNat) data) }
def hd (a n : Nat) : AcvHdr := hd0 a n 0
def cp : Comp := ⟨3, 2, 0x77, 5, 11, 12, 13⟩
def mrep : Rep := ⟨⟨5, 0, 0x0406, 1, 7, 2, 5, false, false, false⟩, 3, 4, 99, 0⟩
def liveS (f : AcvLink → AcvLink) : State := addr (acvS 4 f) [(F.ACV_LIVE_LIVE,0,1),(F.ACV_DOORBELL_BASE,0,5),(F.ACV_SQ_EN,3,1),(F.ACV_SQ_LOG2,3,6),(F.ACV_SQ_BASE,3,0x10),(F.ACV_CQ_BASE,3,0x20),(F.ACV_CFG_DESC_VER,0,0x100),(F.ACV_FRING_FLOG2,0,6),(F.ACV_FRING_BASE,0,0x30)]
def loadedS : State := withScore (st [(F.SEQ_SCORE_STATE,0,2)])
def grp4 : Grp := ⟨0, 0, 4 + 2^8 + 2^16 + 2^24 + 2^32, 6⟩
def gs : State := (st [(F.ROUTE_TOPO_SX,0,1),(F.ROUTE_TOPO_SY,0,1),(F.ROUTE_TOPO_SZ,0,1)]).putGroups [(3, some grp4)]
/-- op 1 (reduce?), dkind 0, cfmt 0, paths 1, root 0, group 3; w 2; hi 3 lo 0; elems -/
def cws (elems fb : Nat) : List (BitVec 64) := [BitVec.ofNat 64 (1*2^60 + fb*2^59 + 2^56 + 2^32 + 3), BitVec.ofNat 64 (2*2^48 + 3*2^16), BitVec.ofNat 64 elems, 0x9000000000, 0, 77, 5, 0, 0, 0, 0]
def full64 : State := gs.putMem ((List.range 64).map (fun r => (recAddr 5 r + 7, (0xA0 : Byte))))
def qA : ScoreParams := { q0 with state := [(0x9000000000, 4096)] }
def ckS (n : Nat) (l : List (Field × Nat × Nat)) : State := addr ((st [(F.SEQ_SCORE_STATE,0,n),(F.CKPT_STATUS_NEXT_V,0,1),(F.CKPT_STATUS_NEXT_BEAT,0,5)]).putScore {State.reset.score with cur := some qA}) l
def cop (op pos : Nat) : CkptOp := ⟨d0, op, 0, 0, 0, 5, pos, 0, 0, 100, [], []⟩
def withOp (o : CkptOp) (s : State) : State := s.putCkpt ⟨some o⟩
def bootS (n : Nat) : State := State.reset.putBoot { State.reset.boot with step := n }
def upd (v : Nat) (f : BootUnit → BootUnit) : State := (st [(F.BOOT_UPDATE_STATE,0,v)]).putBoot (f State.reset.boot)
def dia (sl : Nat) : Diag := ⟨sl, mrep⟩
def flt (l : List (Field × Nat × Nat)) (f : FaultUnit → FaultUnit) : State := (st l).putFaults (f State.reset.faults)
def injW (mode kind : Nat) : Nat := 2^63 + mode * 2^60 + 4*2^45 + 3*2^34 + kind * 2^18
def injS (armed : Nat) (f : Inject → Inject) : State := (st [(F.INJ_STATUS_ARMED,0,armed)]).putInj (f State.reset.inj)
def bc (ty cseq body : Nat) : BitVec 32 := BitVec.ofNat _ (blockCrc ty cseq body)
def tkc (cseq count depth : Nat) : BitVec 32 := bc tyTick cseq (count + depth * 2^64)
def wc (ty cseq : Nat) (w : BitVec 128) : BitVec 32 := bc ty cseq w.toNat
def vop : UEntry := .op ⟨.vadd 5 ⟨1,3,1,true,3,4,5,6,0,1⟩, 3, 0, 0⟩
def emptyC : Cell := ⟨BitVec.ofNat _ (2^128-1), BitVec.ofNat _ 5, 0⟩
def lm8 : List LaneMark := (List.range 8).map fun i => ⟨BitVec.ofNat 3 i, false, 3⟩
def descB : List Byte := leBytes 8 (0x55 * 2^32) ++ List.replicate 120 0
def fx0 : Fetched := ⟨2,7,descB,100⟩

/-! ### States and operands of the witnesses -/

def w1 : State := pwr 1 15
def w2 : State := (pwr 3 15).putMem [(100,(3:Byte)),(0x9000000001,(4:Byte)),(0x8F00000005,(7:Byte))]
def w3 : State := porst (run4.setReg F.PORT_LINK_STATE 6 5)
def w4 : State := porst (pwr 4 7)
def w5 : State := pwr 15 15
def w6 : State := pwr 4 15
def w7 : State := pwr 5 15
def w8 : State := st [(F.GONG_CFG_ROOT,0,1)]
def w9 : State := tree State.reset
def w10 : State := let s := tree (st [(F.TOLL_STATUS_STATE,0,1)]); s.putTollU { s.tollU with goodMarks := 15 }
def w11 : State := tree (st [(F.TOLL_STATUS_STATE,0,2)])
def w12 : State := st [(F.TOLL_STATUS_STATE,0,2)]
def w13 : State := st [(F.TOLL_STATUS_STATE,0,1)]
def w14 : State := st [(F.BEAT_CLAVE_CFG_MODE,0,1)]
def w15 : State := running0.putBeatU {running0.beatU with haltDue := true}
def w16 : State := tree running0
def w17 : State := let s := (addr (tree running0) [(F.GONG_CFG_ROOT,0,1),(F.GONG_CHILD_LO_CHILD,0,2^5+2^6)]); let b := {s.route.bank0 with port := [(6,2^54+4*2^44)]}; s.putRoute {s.route with bank0 := b, bank1 := b}
def w18 : State := (tree running0).setReg F.GONG_CFG_ROOT 1
def w19 : State := (tree running0).putBeatU {running0.beatU with rounds := [round0 true]}
def w20 : BitVec 32 := wc tyGong 0 (BitVec.ofNat 128 (gongBits 9 0x41 0 0 3 99 4))
def w21 : BitVec 128 := BitVec.ofNat 128 (gongBits 9 0x41 0 0 3 99 4)
def w22 : State := addr running0 ((List.range 64).map fun c => (F.SEQ_CLUSTER_STATE,c,2))
def w23 : State := let s := (tree running0).putProbe ⟨false, 0, [6], 5, false, []⟩; s.putScore {s.score with load := some load0}
def w24 : State := let s := (tree running0).putProbe ⟨true, 0, [6], 5, false, []⟩; s.putScore {s.score with load := some load0}
def w25 : State := cl5 (fun x => {x with sready := [(2, 5)]}) scal
def w26 : State := scal.putMem [(wmBase 5 + 0x1008, (7:Byte)),(wmBase 5 + 0x1010, (8:Byte))]
def w27 : State := cl5 (fun x => {x with sregs := [(3,0x100008)]}) (running0.setReg F.SEQ_CLUSTER_STATE 1 5)
def w28 : State := scal.putChimeq [⟨20000,false,0,3⟩]
def w29 : State := (running0.putChimeq [⟨4,false,1,3⟩]).setReg F.CHIME_CFG_SCORE_CHIMES_D0 100
def w30 : State := scal.putChimeq [⟨4,true,6,3⟩]
def w31 : State := scal.putChimeq [⟨20000,false,6,3⟩]
def w32 : State := (scal.putChimeq [⟨20000,false,6,3⟩]).putChimes [(20000,⟨0xFFFFFFFF,2⟩)]
def w33 : State := (scal.putChimeq [⟨20000,false,6,3⟩, ⟨20000,true,9,3⟩]).putChimes [(20000,⟨0xFFFFFFFF,2⟩)]
def w34 : State := scal.putChimes [(77,⟨1,2⟩)]
def w35 : State := cl5 (fun x => {x with vq := [(1,[vop])]}) vecS
def w36 : State := cl5 (fun x => {x with mxq := List.replicate 32 (.op 0 0 0)}) scal
def w37 : State := cl5 (fun x => {x with mxRun := [mxr 0, mxr 0], feed := [(0,40),(0,40)]}) (opS 0 3 4)
def w38 : State := opS 1 3 0
def w39 : State := cmpS 0
def w40 : State := cmpS 0x15
def w41 : State := cl5 (fun x => {x with feed := [(0,100)]}) (cmpS 0)
def w42 : State := scal.setReg F.MXE_ENG_STEP 4 5
def w43 : State := cl5 (fun x => {x with repairWait := true, repair := some 3}) running0
def w44 : State := (cl5 (fun x => {x with filler := 2, repair := some 0x838281}) scal).setReg F.MXE_ENG_STEP 1 5
def w45 : Cell := tcell 0
def w46 : State := recS.putBushels [(64*5+2,⟨[],[],0,true,false⟩)]
def w47 : State := cl5 (fun x => {x with tlq := [vop]}) recS
def w48 : State := (cl5 (fun x => {x with tallyq := [ti 0 0]}) recS).putBushels [(64*5+2,⟨[⟨7,0,[],0,0,false,0⟩],[],0,true,false⟩)]
def w49 : State := recS.putParked [⟨0,false,5,none,0,1,ti 0 0⟩]
def w50 : State := recS.putColls [coll0]
def w51 : State := recS.putParked [⟨0,false,5,some (tcell 0),0,0,ti 0 0⟩]
def w52 : State := mvS 0x9000000100 0x9000000200 16
def w53 : State := cl5 (fun x => {x with mvRun := some mvr}) scal
def w54 : State := let s := running0.putRide {running0.ride with queue := [rq0]}; s.putSw {s.sw with scored := List.replicate 16 ⟨0,64,tallyC,[133],none,2,1⟩}
def w55 : Cell := rideCell 9 128 1
def w56 : State := addr running0 [(F.OPT_HOLD_CFG_HOLD,0,1),(F.OPT_HOLD_CFG_SOURCE,0,0)]
def w57 : State := (addr State.reset [(F.XBAR_MIR_RING_BASE,0,0x4000000)]).putSw {State.reset.sw with mirq := [(0,[1,2,3,4])]}
def w58 : State := (addr State.reset [(F.XBAR_MIR_STATUS_FULL,0,1),(F.XBAR_MIR_CFG_EN,0,1)]).putSw {State.reset.sw with mirq := [(1,[1,2,3,4])]}
def w59 : Cell := inS id
def w60 : Cell := inS (fun x => {x with hdr := x.hdr ||| 1})
def w61 : State := running0.putSw {running0.sw with voq := [oc]}
def w62 : State := running0.putSw {running0.sw with voq := [oc], spillT := [(0,1000)]}
def w63 : State := running0.putSw {running0.sw with reseq := [rsq], time := 10000}
def w64 : Cell := ⟨0, 2^124+ 77*2^16+5, 0⟩
def w65 : Cell := mk 1 0 true 0
def w66 : Cell := mk 2 0 true 0
def w67 : State := let s := drS; s.putRoute {s.route with bank0 := {s.route.bank0 with port := [(6, 2^54 + 3*2^44)], nbr := [(6, 2*2^40)]}}
def w68 : Cell := mk 0 7 true 0
def w69 : Cell := mk 3 0 false 6
def w70 : Cell := mk 3 0 true 6
def w71 : State := let s := tree leafS; s.putRoute {s.route with drain := some ⟨3,1,none,0,some 100⟩}
def w72 : State := State.reset.putSw {State.reset.sw with shapers := [(1,9,0x7F00001FFFF)]}
def w73 : State := poolS 1 1
def w74 : State := (poolS 1 0xFFFFFF).setReg F.ACV_LIVE_LIVE 1
def w75 : State := addr (st [(F.MEM_CFG_SCRUB_EN,0,1)]) [(F.TOLL_COUNT_COUNT,0,5000)]
def w76 : State := addr (st [(F.MEM_CFG_SCRUB_EN,0,0),(F.PORT_LASER_LOW,0,0x24)]) [(F.TOLL_COUNT_COUNT,0,3000)]
def w77 : State := lk 1 id
def w78 : State := addr (lk 2 id) [(F.PORT_CFG_ATTEMPTS,5,4)]
def w79 : State := addr (lk 3 id) [(F.PORT_CFG_ATTEMPTS,5,4)]
def w80 : State := addr (tree running0) [(F.PORT_LINK_TRIES,10,13),(F.PORT_CFG_ATTEMPTS,5,15)]
def w81 : State := addr (lk 5 id) [(F.PORT_CFG_ATTEMPTS,5,1)]
def w82 : State := lk 3 id
def w83 : State := lk 2 id
def w84 : State := lk 4 id
def w85 : State := lk 4 (fun l => {l with t1 := some 100, exch := 3, sum := 9})
def w86 : State := lk 4 (fun l => {l with t1 := some 100, exch := 15, sum := 9})
def w87 : State := lk 4 (fun l => {l with t1 := some 100, exch := 15, sum := 90000})
def w88 : State := lk 5 (fun l => {l with sentReady := true})
def w89 : State := lk 6 (fun l => {l with replay := [(3,tallyC),(5,tallyC),(6,tallyC)], lnext := 5, cnext := 3, discard := true})
def w90 : State := lk 6 (fun l => {l with replay := [(3,tallyC),(5,tallyC),(6,tallyC)], lnext := 5, cnext := 3, discard := true, blocks := [(3,0x20,9)]})
def w91 : State := addr (lk 6 (fun l => {l with replay := [(3,tallyC),(5,tallyC),(6,tallyC)], lnext := 5, cnext := 3, discard := true})) [(F.PORT_CFG_RETRY_LIMIT,5,3)]
def w92 : State := addr (lk 6 (fun l => {l with replay := [(3,tallyC),(5,tallyC),(6,tallyC)], lnext := 5, cnext := 3, discard := true, naks := 3})) [(F.PORT_CFG_RETRY_LIMIT,5,3)]
def w93 : State := lk 6 (fun l => {l with replay := [(3,tallyC),(5,tallyC),(6,tallyC)], lnext := 5, cnext := 3, discard := true, credit := [0,5,0,7]})
def w94 : AcvHdr := lc (hd0 0 0 5) 5 (leBytes 8 0)
def w95 : State := acvS 1 id
def w96 : AcvHdr := hd0 0 0 5
def w97 : State := acvS 2 id
def w98 : AcvHdr := lc (hd0 0 0 5) 5 (leBytes 8 0x1000100)
def w99 : State := acvS 3 id
def w100 : State := acvS 0 id
def w101 : AcvHdr := lc (hd0 0 0 5) 5 (leBytes 8 0x1000900)
def w102 : State := acvS 3 (fun l => {l with sentHello := true, unacked := [pk], tries := [(1,3)], lnext := 9})
def w103 : AcvHdr := lc (hd0 0 0 6) 3 []
def w104 : State := acvS 4 (fun l => {l with unacked := [pk], tries := [(1,50)]})
def w105 : AcvHdr := lc (hd0 0 0 5) 4 []
def w106 : State := acvS 4 (fun l => {l with unacked := [pk,{pk with lseq := 6}], tries := [(1,50),(0,60)]})
def w107 : State := acvS 4 (fun l => {l with unacked := [pk,{pk with lseq := 6}], tries := [(1,50),(4,60)]})
def w108 : State := acvS 4 (fun l => {l with reads := [rd]})
def w109 : AcvHdr := lc (hd0 0x9000000100 512 0) 0 []
def w110 : State := acvS 4 (fun l => {l with held := [pk]})
def w111 : AcvHdr := lc (hd0 (chimeBase+16) 0 0) 1 [1,2,3,4,5,6,7,8]
def w112 : State := (acvS 4 id).putChimeq (List.replicate 300 ⟨1,false,1,0⟩)
def w113 : State := (acvS 4 id).putMem [(0x9000000103,(9:Byte))]
def w114 : AcvHdr := lc (hd0 0x8C00000000 512 0) 0 []
def w115 : State := acvS 4 id
def w116 : AcvHdr := lc (hd0 0x9000000100 512 0) 1 [1,2,3,4,5,6,7,8]
def w117 : AcvHdr := lc (hd0 0x8C00000000 512 0) 1 [1,2,3,4,5,6,7,8]
def w118 : AcvHdr := lc {hd0 0x8C00000000 512 0 with tag := 7} 2 (List.replicate 256 1)
def w119 : Desc := {d0 with fence := true}
def w120 : State := (acvS 4 id).putComps [⟨2,1,1,0,0,0,0⟩]
def w121 : State := (acvS 4 (fun l => {l with descs := [⟨2,7,descB,100⟩]})).setReg F.TOLL_COUNT_COUNT 500
def w122 : State := acvS 4 (fun l => {l with descs := [⟨2,7,descB,100⟩]})
def w123 : State := acvS 4 (fun l => {l with descs := [{fx0 with slot := 8}, fx0]})
def w124 : State := ((acvS 4 id).putHost [(0x1003,5)]).putMem [(0x9000000103,(9:Byte))]
def w125 : State := (acvS 4 id).setReg F.ACV_LIVE_LIVE 1
def w126 : State := addr (acvS 4 id) [(F.ACV_DOORBELL_BASE,0,5),(F.ACV_SQ_EN,3,1),(F.ACV_SQ_LOG2,3,6),(F.ACV_CFG_DESC_VER,0,0x100),(F.ACV_FRING_FLOG2,0,6)]
def w127 : State := liveS (fun l => {l with reads := [{rd with ring := 16}]})
def w128 : State := (liveS id).putComps [cp]
def w129 : State := addr ((liveS id).putComps [cp]) [(F.ACV_RCONS_WRITTEN,3,64)]
def w130 : State := (acvS 4 id).putFaults {State.reset.faults with hub := [mrep]}
def w131 : State := (liveS id).putFaults {State.reset.faults with hub := [mrep]}
def w132 : State := (liveS id).putFaults {State.reset.faults with waiting := [List.replicate 512 7]}
def w133 : State := (liveS id).putFaults {State.reset.faults with waiting := [List.replicate 512 7], written := 60}
def w134 : State := (addr loadedS [(F.GONG_LAT_MEAS_CK,0,60000)]).putScore {loadedS.score with load := some load0}
def w135 : State := (addr loadedS [(F.GONG_LAT_MEAS_CK,0,100)]).putScore {loadedS.score with load := some load0, calendar := [(5,77)]}
def w136 : State := st [(F.SEQ_SCORE_STATE,0,1)]
def w137 : State := withScore (st [(F.SEQ_SCORE_STATE,0,3)])
def w138 : BitVec 64 := BitVec.ofNat 64 (4 + 2^8 + 2^16 + 2^24 + 2^32)
def w139 : State := gs.putColls [coll0]
def w140 : State := (wrec gs 7 1 false true).putScore {gs.score with cur := some q0}
def w141 : State := (addr leafS [(F.ROUTE_BANK_STATE,0,1)]).putHost [(0x1001,1),(0x1002,3),(0x100A,1)]
def w142 : State := ckS 5 []
def w143 : State := ckS 5 [(F.CKPT_CFG_DRIVES,0,1),(F.OPT_HOLD_CFG_HOLD,0,1),(F.OPT_MIRROR_BEAT_VALID,0,1),(F.OPT_MIRROR_BEAT_BEAT,0,4)]
def w144 : State := withOp (cop 1 0) (ckS 5 [])
def w145 : State := withOp (cop 1 4) (ckS 5 [])
def w146 : State := withOp (cop 2 0) (ckS 5 [])
def w147 : State := withOp (cop 3 0) (ckS 5 [])
def w148 : Cell := rideCell 9 1048576 1
def w149 : State := withOp {cop 3 0 with source := 9} (ckS 5 [])
def w150 : State := bootS 2
def w151 : State := bootS 3
def w152 : State := bootS 4
def w153 : State := (bootS 5).putBeatU {State.reset.beatU with resetDue := true}
def w154 : State := upd 0 id
def w155 : State := upd 3 id
def w156 : State := upd 2 id
def w157 : State := upd 1 (fun b => {b with stage := some d0, imageLen := 64, image := [(3,4)]})
def w158 : State := let s := upd 3 (fun b => {b with armed := some d0}); s.setReg F.SEQ_SCORE_STATE 3
def w159 : State := upd 3 (fun b => {b with armed := some d0, restart := 1})
def w160 : State := upd 4 (fun b => {b with revert := [d0], restart := 2})
def w161 : State := (upd 4 (fun b => {b with revert := []})).putFlash (memWrite [] (0x40000000 + 0x100014) [5])
def w162 : State := upd 4 (fun b => {b with revert := []})
def w163 : State := addr ((upd 4 (fun b => {b with revert := []})).putFlash (memWrite [] (0x40000000 + 0x100014) [5])) [(F.BOOT_STATUS_IDENTITY_V,0,1),(F.SEQ_SCORE_STATE,0,1)]
def w164 : State := (acvS 4 id).setReg F.BOOT_STATUS_IDENTITY_V 1
def w165 : State := flt [] id
def w166 : State := flt [] (fun f => {f with region := [(5,mrep)]})
def w167 : State := flt [(F.FLT_RG_STAT_VALID,5,1),(F.FLT_RG_STAT_MERGES,5,65535),(F.SEQ_SCORE_STATE,0,3)] (fun f => {f with region := [(5,mrep)]})
def w168 : State := flt [(F.FLT_RG_STAT_VALID,5,1)] (fun f => {f with die := [(1,mrep)]})
def w169 : State := (flt [(F.FLT_RG_STAT_VALID,5,1)] id).putFresh [(F.FLT_RG_STAT_VALID.key 5,(0,1))]
def w170 : State := (flt [(F.FLT_RG_STAT_VALID,5,1)] (fun f => {f with joined := [(5,0,3,mrep)]})).putFresh [(F.FLT_RG_STAT_VALID.key 5,(1,1))]
def w171 : State := flt [(F.FLT_CFG_TRANS_LIMIT,0,4)] (fun f => {f with diag := [(3,dia 0)]})
def w172 : State := flt [(F.BEAT_STATUS_STATE,0,2)] (fun f => {f with diag := [(3,dia 5)]})
def w173 : State := injS 0 id
def w174 : State := injS 0 (fun i => {i with keys := 1, host := true})
def w175 : State := injS 0 (fun i => {i with keys := 2, host := true})
def w176 : State := injS 1 (fun i => {i with keys := 2, host := false, limit := 700})
def w177 : State := injS 1 id
def w178 : State := injS 1 (fun i => {i with fire := true, target := injW 1 0x0802, due := 500})
def w179 : State := injS 1 (fun i => {i with fire := true, target := injW 0 0x0406, due := 500})
def w180 : State := addr State.reset [(F.ACV_LIVE_LIVE,0,1),(F.ACV_ERR_LCRC_BAD,0,7)]

/-! ### Well-formedness refuses one ill-formed term for each check, beside one it lets pass -/

/-- A vector word: engine 0, format, rounding mode, registers 1, 2, 3 into 3, IMM. -/
def vf (ty : BitVec 4) (rm : BitVec 2) (imm : BitVec 16) : VF := ⟨0, ty, rm, false, 3, 1, 2, 3, imm, 0⟩

theorem test_wf_vadd : (Instr.vadd 0 (vf 0 0 0)).wf = true := by decide
theorem test_wf_reserved_rm : (Instr.vadd 0 (vf 0 3 0)).wf = false := by decide
theorem test_wf_reserved_format : (Instr.vsel 0 (vf 12 0 0)).wf = false := by decide
theorem test_wf_format_outside_column : (Instr.vadd 0 (vf 10 0 0)).wf = false ∧ (Instr.viadd 0 (vf 0 0 0)).wf = false := by decide
theorem test_wf_sum_format : (Instr.vrsum 0 (vf 3 0 0)).wf = false := by decide
theorem test_wf_reserved_condition : (Instr.vcmp 0 (vf 0 0 6)).wf = false ∧ (Instr.vcmp 0 (vf 0 0 7)).wf = false ∧
    (Instr.vcmp 0 (vf 0 0 5)).wf = true := by decide
/-- From FP32 to E4M3: segments 0 to 3 lie within byte 511, segment 4 does not; MX to MX is forbidden; an MX destination needs P0. -/
theorem test_wf_conversion :
    (Instr.vcvt 0 ⟨0, 0, 0, false, 3, 1, 3 + 16 * 3, 3, 0, 0⟩).wf = true ∧ (Instr.vcvt 0 ⟨0, 3, 0, false, 3, 1, 16 * 3, 3, 0, 0⟩).wf = true ∧
    (Instr.vcvt 0 ⟨0, 5, 0, false, 3, 1, 6, 3, 0, 0⟩).wf = false ∧ (Instr.vcvt 0 ⟨0, 0, 0, false, 3, 1, 5, 3, 0, 1⟩).wf = false ∧
    (Instr.vcvt 0 ⟨0, 0, 0, false, 3, 1, 12, 3, 0, 0⟩).wf = false := by decide
theorem test_wf_reserved_after : (Instr.chArrive 0 ⟨9, 0, false, 8, 1⟩).wf = false ∧ (Instr.chArrive 0 ⟨9, 0, false, 7, 1⟩).wf = true := by decide
theorem test_wf_wait_after : (Instr.chWait 0 ⟨9, 0, false, 1, 0⟩).wf = false ∧ (Instr.chWait 0 ⟨9, 0, false, 0, 0⟩).wf = true := by decide
theorem test_wf_sensor_count : (Instr.sensorSample []).wf = false ∧ (Instr.sensorSample (List.replicate 33 ⟨0, 0, 0⟩)).wf = true := by
  decide

/-! ### Words written out bit by bit -/

/-- The example under 06 R216, from its fields: UNIT 1 at bit 60, OP 4 at bit 52, VD 3 at bit 34, VA 1 at bit 28, VB 2 at bit 22, VC 3 at bit 16. -/
theorem test_word_vfma : (1 * 2 ^ 60 + 4 * 2 ^ 52 + 3 * 2 ^ 34 + 1 * 2 ^ 28 + 2 * 2 ^ 22 + 3 * 2 ^ 16 : Nat) = 0x1040000C10830000 ∧
    decodeInsn 0 0x1040000C10830000 = some (.vfma 0 (vf 0 0 0)) := by decide
/-- BLT S1, S2, -2: OP 0x1A, SA at 43:39, SB at 38:34 (06 R215, R217). -/
theorem test_word_blt : decodeInsn 7 (BitVec.ofNat 64 (0x1A * 2 ^ 52 + 1 * 2 ^ 39 + 2 * 2 ^ 34 + 0xFFFFFFFE)) = some (.blt 7 1 2 (-2)) := by decide
/-- VST of V9 by engine 2 at S4 + 3 x 512, P1 (06 R215, R218). -/
theorem test_word_vst : decodeInsn 7 (BitVec.ofNat 64 (2 ^ 60 + 0x21 * 2 ^ 52 + 1 * 2 ^ 49 + 2 * 2 ^ 47 + 9 * 2 ^ 28 + 3 * 2 ^ 5 + 4)) =
    some (.vst 7 ⟨2, 0, 0, false, 0, 9, 0, 0, 3 * 32 + 4, 1⟩) := by decide
/-- A nonzero PRED outside unit 1, a reserved bit that is set and a V bit against the Marked column are forbidden (06 R213). -/
theorem test_word_forbidden : decodeInsn 0 (BitVec.ofNat 64 (0x01 * 2 ^ 52 + 2 ^ 49)) = none ∧
    decodeInsn 0 (BitVec.ofNat 64 (0x01 * 2 ^ 52 + 2 ^ 33)) = none ∧ decodeInsn 0 (BitVec.ofNat 64 (2 ^ 63 + 0x01 * 2 ^ 52)) = none ∧
    decodeInsn 0 (BitVec.ofNat 64 (0x01 * 2 ^ 52)) = some (.add 0 0 0 0) := by decide

/-! ### Numbers of the manual's worked examples -/

/-- The BF16 dot product of 03, variant p1: 2^128, p1, 3, -2. -/
def dot (a b : Nat) : Val :=
  (passSum ([(0x7F00, 0x4000), (a, b), (0x3F80, 0x4040), (0xBF80, 0x4000)].map
    (fun p => (valMul (decodeCode 1 p.1) (decodeCode 1 p.2)).1))).1
theorem test_dot_nan : (rneFp32 (dot 0xFFC5 0x3F80)).1 = 0x7FC00000 ∧ (encodeF fBF16 false (dot 0xFFC5 0x3F80) 0 false 0).1 = 0x7FC0 := by
  decide +kernel
theorem test_dot_cancels : (rneFp32 (dot 0xFF00 0x4000)).1 = 0x3F800000 ∧ encodeF fBF16 false (dot 0xFF00 0x4000) 0 false 0 = (0x3F80, flagsNone) := by
  decide +kernel
theorem test_dot_overflows : (rneFp32 (dot 0x3F80 0x3F80)).1 = 0x7F800000 ∧
    encodeF fBF16 false (dot 0x3F80 0x3F80) 0 false 0 = (0x7F80, flagsOvf) := by decide +kernel
/-- The E4M3 overflow table of 03. -/
theorem test_e4m3 : convert 0 3 0x43E60000 0 false 0 = (0x7E, flagsNone) ∧ convert 0 3 0x43FA0000 0 false 0 = (0x7F, flagsOvf) ∧
    convert 0 3 0x43FA0000 0 true 0 = (0x7E, flagsOvf) ∧ convert 0 3 0xC3FA0000 0 false 0 = (0x7F, flagsOvf) ∧
    convert 0 3 0xC3FA0000 0 true 0 = (0xFE, flagsOvf) := by decide +kernel
/-- The MXFP4 block of 03: scale 0x80, elements 7, C, 1, 2, then zeros; OVF. -/
theorem test_mxfp4 : encodeMx 9 (([0x41600000, 0xC0600000, 0x3F200000, 0x3FE00000] ++ List.replicate 28 0).map (decodeCode 0)) 0 (List.replicate 32 0) =
    (0x80, [7, 0xC, 1, 2] ++ List.replicate 28 0, flagsOvf) := by decide +kernel
/-- The eight ranks of 04: 2^24 + 1 rounds to 2^24, and 1 - 2^24 is -16,777,215. -/
theorem test_eight_ranks : (addFp32 (decodeCode 0 0x4B800000) (decodeCode 0 0x3F800000)).1 = 0x4B800000 ∧
    (addFp32 (decodeCode 0 0x3F800000) (decodeCode 0 0xCB800000)).1 = 0xCB7FFFFF := by decide +kernel
/-- The published check value of CRC-32C over "123456789", and FIPS 180-4's digest of "abc", first bytes. -/
theorem test_crc_and_sha : crc32c (ascii "123456789") = 0xE3069283 ∧ (sha256 (ascii "abc")).take 4 = [0xBA, 0x78, 0x16, 0xBF] := by decide +kernel
/-- The state line of 13's worked example lies in HBM3. -/
theorem test_line_stack : stackOf 0x1234567000 = 3 := by decide +kernel
/-- The two addresses of 20's worked example. -/
theorem test_addresses : F.PORT_LINK_STATE.at 0x100628 = true ∧ F.PORT_LINK_STATE.inst 0x100628 = 37 ∧
    F.ENG_PWR_STATE_STATE.at 0x160418 = true := by decide

/-! ### Single steps -/

/-- The state after a completed command. -/
def after (i : Instr) (s : State) : State :=
  match exec i s with
  | .next t => t
  | _ => s

theorem test_add_wraps : (after (.add 5 4 1 1) scal).sreg 5 4 = 0xFFFFFFFFFFFFFFE0 := by decide +kernel
theorem test_s0_stays_zero : (after (.add 5 0 1 1) scal).sreg 5 0 = 0 := by decide +kernel
theorem test_li_extends_sign : (after (.li 5 4 0xFFFFFFFE) scal).sreg 5 4 = 0xFFFFFFFFFFFFFFFE := by decide +kernel
theorem test_lui_keeps_low : (after (.lui 5 2 7) scal).sreg 5 2 = 0x700000005 := by decide +kernel
theorem test_shift_by_low_bits : (after (.shr 5 4 1 2) scal).sreg 5 4 = 0x07FFFFFFFFFFFFFF := by decide +kernel
theorem test_index_counts : (after (.add 5 4 1 1) scal).reg F.SEQ_CLUSTER_INDEX 5 = 1 := by decide +kernel
/-- A branch that is not taken goes to the next index (06 R217). -/
theorem test_branch_not_taken : (after (.beq 5 1 2 9) scal).reg F.SEQ_CLUSTER_INDEX 5 = 1 ∧
    (after (.bne 5 1 2 9) scal).reg F.SEQ_CLUSTER_INDEX 5 = 9 := by decide +kernel
/-- 1.0 x 2.0 + 3.0 is 5.0 in element 0, and masked elements stay. -/
theorem test_vfma : ((after (.vfma 5 (vf 0 0 0)) (cl5 (fun x => { x with vregs := [(1, 0x3F800000), (2, 0x40000000), (3, 0x40400000)] }) State.reset)).vreg
    5 0 3) % 2 ^ 32 = 0x40A00000 := by decide +kernel
/-- Launch of the normal Beat of 02: Beat 0 ends at 1,001,250,000. -/
theorem test_launch : (after .launchTollReached (addr launchS [(F.BEAT_LAUNCH_LAUNCH_TOLL, 0, 1000000000), (F.BEAT_PERIOD_PERIOD, 0, 1250000)])).reg
    F.BEAT_NEXT_BOUNDARY = 1001250000 := by decide +kernel
/-- 16 exchanges, each with A = 1,001, give a delay of 8,008 sixteenths (14). -/
theorem test_delay : (after (.drespReceived 10 (bc tyDresp 0 (600 + 700 * 2 ^ 64)) 600 700)
    ((lk 4 (fun l => { l with t1 := some 100, exch := 15, sum := 15015 })).setReg F.TOLL_COUNT_COUNT 1201)).reg F.PORT_LINK_DELAY 10 = 8008 := by decide +kernel
/-- A read of an RC counter returns it and clears it (00 R16, R17). -/
theorem test_rc_read : (st [(F.BEAT_COUNTS_REPLAYS, 0, 5)]).regWord 0x30 = 5 * 2 ^ 32 ∧
    (after (.registerRead 0x30) (st [(F.BEAT_COUNTS_REPLAYS, 0, 5)])).reg F.BEAT_COUNTS_REPLAYS = 0 := by decide +kernel
/-- A queued command is what the step runs, with the rest of the queue. -/
theorem test_step_front : step (State.reset.putPending [.gongVouch 4, .tickSend]) = exec (.gongVouch 4) (State.reset.putPending [.tickSend]) := by rfl
theorem test_reset_memories : State.reset.memoriesWf := by decide +kernel

/-! ### Witnesses of the statements that have no states of their own below -/

theorem witness_StepRunsFrontCommand : (State.reset.putPending [.tickSend]).pending = .tickSend :: [] := by rfl
theorem witness_IdleStepIsOneCk : State.reset.pending = [] ∧ State.reset.reg F.TOLL_STATUS_STATE = 0 := by decide +kernel
theorem witness_EncodedInstructionsDecodeBack : encodeInsn (.li 5 1 7) = some 0x00A0100000000007 ∧ (Instr.li 5 1 7).wf = true := by decide +kernel
theorem witness_PowerStepsKeepPinsAgreeing : (State.reset.putPending [.railRise 0]).pending = .railRise 0 :: [] ∧
    (State.reset.putPending [.railRise 0]).pinsAgree ∧ step (State.reset.putPending [.railRise 0]) = .next (after (.railRise 0) State.reset) := by
  refine ⟨rfl, ?_, rfl⟩
  unfold State.pinsAgree
  decide +kernel
theorem witness_EveryStepKeepsMemoriesCanonical : State.reset.memoriesWf ∧ step State.reset = .next State.reset.idle :=
  ⟨by decide +kernel, rfl⟩


/-! ### Witnesses: for every statement with hypotheses, and every clause of it, a state and operands that meet them all -/

theorem witness_PowerMovesWithItsRails_1 :
  (State.reset.reg F.ENG_PWR_STATE_STATE = 1 ∧ (State.reset.reg F.ENG_PWR_STATE_GRP_OK).testBit 0 = true) ∧
  ((1 : Fin 3) ≠ 0 ∧ (w1.reg F.ENG_PWR_STATE_GRP_OK).testBit (1 : Fin 3).val = true) := by decide +kernel

theorem witness_PorstRiseStartsTheBlock :
  w2.reg F.ENG_PWR_STATE_STATE = 3 ∧ w2.reg F.ENG_PWR_STATE_GRP_OK = 15 := by decide +kernel

theorem witness_PowerMovesWithItsRails_2 :
  w3.reg F.ENG_PWR_STATE_STATE ∈ [4, 5, 6] := by decide +kernel

theorem witness_SensorsClearOrTrip_1 :
  (State.reset.pins.porstN = false) ∧
  (w4.pins.porstN = true) ∧
  ((State.reset.reg F.ENG_PWR_STATE_GRP_OK).testBit (1 : Fin 3).val = false) := by decide +kernel

theorem witness_OffRequestReachesSafeOff :
  (w5.reg F.ENG_PWR_STATE_STATE = 15) ∧
  (w6.reg F.ENG_PWR_STATE_STATE = 4 ∧ w6.reg F.BEAT_STATUS_STATE ≠ 2) ∧
  (run4.reg F.ENG_PWR_STATE_STATE = 4 ∧ run4.reg F.BEAT_STATUS_STATE = 2) ∧
  (w7.reg F.ENG_PWR_STATE_STATE = 5 ∧ w7.reg F.BEAT_STATUS_STATE ≠ 2) := by decide +kernel

theorem witness_SensorsClearOrTrip_2 :
  (List.replicate 33 ⟨40,700,800⟩ : List Reading).length = 33 ∧
    (∀ i < 33, sxt 16 ((List.replicate 33 ⟨40,700,800⟩ : List Reading).getD i ⟨0, 0, 0⟩).temp.toNat < 4 * State.reset.tripC i) ∧
    (∀ i < 25, sxt 16 ((List.replicate 33 ⟨40,700,800⟩ : List Reading).getD i ⟨0, 0, 0⟩).temp.toNat ≤ 4 * (((if i < 9 then State.reset.reg F.ENG_THERM_CFG_THROTTLE_C else State.reset.reg F.ENG_THERM_CFG_MEM_THROTTLE_C : Nat) : Int) - 5)) := by decide +kernel

theorem witness_OffReqWhileFaultedHasNoEffect :
  w5.reg F.ENG_PWR_STATE_STATE = 15 := by decide +kernel

theorem witness_TollPresetOnlyAtFreeRoot :
  (w8.reg F.GONG_CFG_ROOT = 1 ∧ w8.reg F.TOLL_STATUS_STATE = 0 ∧ w8.reg F.BEAT_STATUS_STATE ≠ 2) ∧
  ((¬(State.reset.reg F.GONG_CFG_ROOT = 1 ∧ State.reset.reg F.TOLL_STATUS_STATE = 0 ∧ State.reset.reg F.BEAT_STATUS_STATE ≠ 2))) := by decide +kernel

theorem witness_TickMarkSetsAndLocksToll_a :
  ((tkc 0 1000 3 : BitVec 32).toNat = blockCrc tyTick (0 : BitVec 8).toNat ((1000 : BitVec 64).toNat + (3 : BitVec 8).toNat * 2 ^ 64) ∧
    w9.reg F.PORT_LINK_STATE (0 : Fin 256) = 6 ∧ w9.pins.portsStopped = false ∧ w9.reg F.GONG_CFG_ROOT = 0 ∧
    (0 : Fin 256).val / 2 = w9.reg F.GONG_CFG_PARENT_PORT ∧ (0 : BitVec 8).toNat = (w9.link (0 : Fin 256)).cnext ∧ w9.reg F.TOLL_STATUS_STATE = 0 ∧
    w9.reg F.BEAT_STATUS_STATE ≠ 2) ∧
  ((tkc 0 3 255 : BitVec 32).toNat = blockCrc tyTick (0 : BitVec 8).toNat ((3 : BitVec 64).toNat + (255 : BitVec 8).toNat * 2 ^ 64) ∧
    w10.reg F.PORT_LINK_STATE (0 : Fin 256) = 6 ∧ w10.pins.portsStopped = false ∧ w10.reg F.GONG_CFG_ROOT = 0 ∧
    (0 : Fin 256).val / 2 = w10.reg F.GONG_CFG_PARENT_PORT ∧ (0 : BitVec 8).toNat = (w10.link (0 : Fin 256)).cnext ∧ w10.reg F.TOLL_STATUS_STATE = 1 ∧
    15 ≤ w10.tollU.goodMarks ∧ (16 * ((3 : BitVec 64).toNat : Int) + w10.reg F.TOLL_DELAY_DELAY - 16 * w10.toll).natAbs ≤ 64) := by decide +kernel

theorem witness_TickMarkSetsAndLocksToll_b :
  (tkc 0 5000 3 : BitVec 32).toNat = blockCrc tyTick (0 : BitVec 8).toNat ((5000 : BitVec 64).toNat + (3 : BitVec 8).toNat * 2 ^ 64) ∧
    w11.reg F.PORT_LINK_STATE (0 : Fin 256) = 6 ∧ w11.pins.portsStopped = false ∧ w11.reg F.GONG_CFG_ROOT = 0 ∧
    (0 : Fin 256).val / 2 = w11.reg F.GONG_CFG_PARENT_PORT ∧ (0 : BitVec 8).toNat = (w11.link (0 : Fin 256)).cnext ∧ w11.reg F.TOLL_STATUS_STATE = 2 ∧
    256 < (16 * ((5000 : BitVec 64).toNat : Int) + w11.reg F.TOLL_DELAY_DELAY - 16 * w11.toll).natAbs := by decide +kernel

theorem witness_TollIsLostAndTicksAreSent_1 :
  (w12.reg F.TOLL_STATUS_STATE = 2 ∧ w12.reg F.GONG_CFG_ROOT = 0) ∧
  ((w13.reg F.TOLL_STATUS_STATE = 0 ∨ w13.reg F.TOLL_STATUS_STATE = 1 ∨ w13.reg F.GONG_CFG_ROOT = 1)) := by decide +kernel

theorem witness_TollIsLostAndTicksAreSent_2 :
  w9.pins.portsStopped = false := by decide +kernel

theorem witness_ClaveEdgeAcceptedOrDiscarded :
  (w14.reg F.BEAT_STATUS_STATE ≠ 2 ∧ (w14.reg F.BEAT_CLAVE_CFG_MODE = 1 ∨ w14.reg F.BEAT_CLAVE_CFG_MODE = 2) ∧
    (∀ e, w14.beatU.edgeCk = some e → e + 32768 ≤ (w14.ck : Int) + (50000 : BitVec 64).toNat - w14.toll)) ∧
  (w14.reg F.BEAT_STATUS_STATE ≠ 2 ∧ (w14.reg F.BEAT_CLAVE_CFG_MODE = 1 ∨ w14.reg F.BEAT_CLAVE_CFG_MODE = 2)) := by decide +kernel

theorem witness_LaunchTollStartsFirstBeat :
  launchS.reg F.BEAT_STATUS_STATE = 1 ∧ launchS.reg F.ENG_PWR_STATE_STATE ≠ 6 ∧ launchS.score.launch = some d0 ∧ launchS.score.cur = some q0 := by decide +kernel

theorem witness_HaltAndDrainEndTheScore_1 :
  w15.reg F.BEAT_STATUS_STATE = 2 ∧ w15.beatU.haltDue = true := by decide +kernel

theorem witness_HaltAndDrainEndTheScore_2 :
  drain9.reg F.BEAT_STATUS_STATE = 2 ∧ drain9.beatU.haltDue = false ∧ drain9.beatU.leaveDue = false ∧ drain9.beatU.abandoned = false ∧
    (drain9.beatU.hasPrev = true → drain9.beatU.prevVerdict = 1) ∧ drain9.beatU.drain = true ∧ drain9.score.cur = some q0 ∧ drain9.score.load = none := by decide +kernel

theorem witness_RetryCreditAndBadBlocks_2_a :
  ((9 : BitVec 32).toNat ≠ blockCrc tySeal (3 : BitVec 8).toNat (77 : BitVec 128).toNat) ∧
  ((9 : BitVec 32).toNat ≠ blockCrc tyGong (3 : BitVec 8).toNat (77 : BitVec 128).toNat) ∧
  ((9 : BitVec 32).toNat ≠ blockCrc tyHoldr (3 : BitVec 8).toNat (77 : BitVec 128).toNat) ∧
  ((9 : BitVec 32).toNat ≠ blockCrc tyAck 0 ((5 : BitVec 32).toNat + (3 : BitVec 8).toNat * 2 ^ 32 + b2n true * 2 ^ 40 + b2n false * 2 ^ 41)) ∧
  ((9 : BitVec 32).toNat ≠ blockCrc tyReplay 0 (5 : BitVec 32).toNat) ∧
  ((9 : BitVec 32).toNat ≠ blockCrc tyReady 0 0) := by decide +kernel

theorem witness_RetryCreditAndBadBlocks_2_b :
  ((9 : BitVec 32).toNat ≠ blockCrc tyIdent 0 (77 : BitVec 128).toNat) ∧
  ((9 : BitVec 32).toNat ≠ blockCrc tyCredit (3 : BitVec 8).toNat (creditBody (1 : BitVec 16).toNat (2 : BitVec 16).toNat (3 : BitVec 16).toNat (4 : BitVec 16).toNat)) := by decide +kernel

theorem witness_SealsVouchCombineAndClose_2_a :
  w16.reg F.PORT_LINK_STATE (10 : Fin 256) = 6 ∧ w16.pins.portsStopped = false ∧
    (wc tySeal 0 (sealW 9 3 1) : BitVec 32).toNat = blockCrc tySeal (0 : BitVec 8).toNat (sealW 9 3 1 : BitVec 128).toNat ∧
    (0 : BitVec 8).toNat = (w16.link (10 : Fin 256)).cnext ∧
    w16.roundOf (bitsOf (sealW 9 3 1 : BitVec 128).toNat 35 26) (bitsOf (sealW 9 3 1 : BitVec 128).toNat 127 80) = none ∧
    w16.reg F.BEAT_STATUS_STATE = 2 ∧ w16.ownAcre (bitsOf (sealW 9 3 1 : BitVec 128).toNat 35 26) = true ∧
    (10 : Fin 256).val / 2 ∈ w16.acreChildren (bitsOf (sealW 9 3 1 : BitVec 128).toNat 35 26) ∧
    bitsOf (sealW 9 3 1 : BitVec 128).toNat 127 80 = w16.beat ∧ w16.beatU.drain = false ∧ w16.beatU.abandoned = false := by decide +kernel

theorem witness_SealsVouchCombineAndClose_2_b :
  w17.reg F.PORT_LINK_STATE (10 : Fin 256) = 6 ∧ w17.pins.portsStopped = false ∧
    (wc tySeal 0 (sealW 9 4 1) : BitVec 32).toNat = blockCrc tySeal (0 : BitVec 8).toNat (sealW 9 4 1 : BitVec 128).toNat ∧
    (0 : BitVec 8).toNat = (w17.link (10 : Fin 256)).cnext ∧
    w17.roundOf (bitsOf (sealW 9 4 1 : BitVec 128).toNat 35 26) (bitsOf (sealW 9 4 1 : BitVec 128).toNat 127 80) = none ∧
    w17.reg F.GONG_CFG_ROOT = 1 ∧ w17.ownAcre (bitsOf (sealW 9 4 1 : BitVec 128).toNat 35 26) = false ∧ (10 : Fin 256).val / 2 ∈ w17.childPorts ∧
    (w17.treeBeat (bitsOf (sealW 9 4 1 : BitVec 128).toNat 35 26) (bitsOf (sealW 9 4 1 : BitVec 128).toNat 127 80)).done = false ∧
    (∃ p ∈ w17.treePorts (bitsOf (sealW 9 4 1 : BitVec 128).toNat 35 26), p ≠ (10 : Fin 256).val / 2) := by decide +kernel

theorem witness_SealsVouchCombineAndClose_2_c :
  w18.reg F.PORT_LINK_STATE (10 : Fin 256) = 6 ∧ w18.pins.portsStopped = false ∧
    (wc tySeal 0 (sealW 9 4 1) : BitVec 32).toNat = blockCrc tySeal (0 : BitVec 8).toNat (sealW 9 4 1 : BitVec 128).toNat ∧
    (0 : BitVec 8).toNat = (w18.link (10 : Fin 256)).cnext ∧
    w18.roundOf (bitsOf (sealW 9 4 1 : BitVec 128).toNat 35 26) (bitsOf (sealW 9 4 1 : BitVec 128).toNat 127 80) = none ∧
    w18.reg F.GONG_CFG_ROOT = 1 ∧ w18.ownAcre (bitsOf (sealW 9 4 1 : BitVec 128).toNat 35 26) = false ∧ (10 : Fin 256).val / 2 ∈ w18.childPorts ∧
    (w18.treeBeat (bitsOf (sealW 9 4 1 : BitVec 128).toNat 35 26) (bitsOf (sealW 9 4 1 : BitVec 128).toNat 127 80)).done = false ∧
    (∀ p ∈ w18.treePorts (bitsOf (sealW 9 4 1 : BitVec 128).toNat 35 26), p = (10 : Fin 256).val / 2) := by decide +kernel

theorem witness_SealsVouchCombineAndClose_3 :
  w19.firstRound = some (round0 true : Round) ∧ w19.ownAcre (round0 true : Round).acre = true ∧ w19.reg F.GONG_CFG_ROOT = 0 ∧
    w19.score.load = none ∧ (∃ p ∈ w19.acreChildren (round0 true : Round).acre, p ∉ (round0 true : Round).heard) := by decide +kernel

theorem witness_HaltWordMakesHaltDue :
  w16.reg F.PORT_LINK_STATE (0 : Fin 256) = 6 ∧ w16.pins.portsStopped = false ∧ w20.toNat = blockCrc tyGong (0 : BitVec 8).toNat w21.toNat ∧
    (0 : BitVec 8).toNat = (w16.link (0 : Fin 256)).cnext ∧ w16.reg F.GONG_CFG_ROOT = 0 ∧ (0 : Fin 256).val / 2 = w16.reg F.GONG_CFG_PARENT_PORT ∧
    (w16.reg F.TOLL_STATUS_STATE = 0 ∨ w16.reg F.TOLL_STATUS_STATE = 3) ∧ w16.reg F.BEAT_STATUS_STATE = 2 ∧
    w16.ownAcre (bitsOf w21.toNat 35 26) = true ∧ bitsOf w21.toNat 3 0 = 4 := by decide +kernel

theorem witness_HoldIsRaisedAndGoesUpOnce_1 :
  (running0.reg F.BEAT_STATUS_STATE = 2 ∧ running0.reg F.GONG_CFG_ROOT = 0 ∧ running0.beatU.abandoned = false ∧ running0.beatU.haltDue = false ∧
    (∃ c < 64, running0.pastHold c = false) ∧ (running0.scoreAcre % 1024, running0.beat, running0.reg F.BEAT_STATUS_STRETCHES) ∉ running0.beatU.holds) ∧
  (w22.reg F.BEAT_STATUS_STATE = 2 ∧ w22.reg F.GONG_CFG_ROOT = 0 ∧ w22.beatU.abandoned = false ∧ w22.beatU.haltDue = false ∧
    (∀ c < 64, w22.pastHold c = true)) := by decide +kernel

theorem witness_HoldIsRaisedAndGoesUpOnce_2 :
  w16.reg F.PORT_LINK_STATE (10 : Fin 256) = 6 ∧ w16.pins.portsStopped = false ∧
    (wc tyHoldr 0 (sealW 9 3 0) : BitVec 32).toNat = blockCrc tyHoldr (0 : BitVec 8).toNat (sealW 9 3 0 : BitVec 128).toNat ∧
    (0 : BitVec 8).toNat = (w16.link (10 : Fin 256)).cnext ∧ w16.reg F.GONG_CFG_ROOT = 0 ∧ (10 : Fin 256).val / 2 ∈ w16.childPorts ∧
    (w16.ownAcre (bitsOf (sealW 9 3 0 : BitVec 128).toNat 35 26) = true → w16.reg F.BEAT_STATUS_STATE = 2 ∧
    bitsOf (sealW 9 3 0 : BitVec 128).toNat 127 80 = w16.beat ∧ w16.beatU.abandoned = false ∧ w16.beatU.haltDue = false) := by decide +kernel

theorem witness_ProbeReportsAndTimeout :
  (w23.reg F.PORT_LINK_STATE (10 : Fin 256) = 6 ∧ w23.pins.portsStopped = false ∧
    (bc tyProbe 0 (probeBody false 3 77 0) : BitVec 32).toNat = blockCrc tyProbe (0 : BitVec 8).toNat (probeBody false (3 : BitVec 10).toNat (77 : BitVec 32).toNat (0 : BitVec 4).toNat) ∧
    (0 : BitVec 8).toNat = (w23.link (10 : Fin 256)).cnext ∧ (10 : Fin 256).val / 2 ∈ w23.childPorts ∧ (3 : BitVec 10).toNat = w23.probeAcre ∧
    (w23.probe.joined = false ∨ ∃ p ∈ w23.acreChildren w23.probeAcre, p ≠ (10 : Fin 256).val / 2 ∧ p ∉ w23.probe.heard) ∧ w23.probe.heard ≠ []) ∧
  (w24.score.load = some load0 ∧ w24.probe.joined = true) := by decide +kernel

theorem witness_RollbackRestoresTheLoggedLine :
  rollS.opsDone = true ∧ rollS.beatU.rollback = [8] ∧ rollS.score.cur = some q0 ∧ rollS.logCount 0 (8 % 2) = 1 ∧ rollS.logCount 1 (8 % 2) = 0 ∧
    rollS.poisonRead (undoBase q0 0 (8 % 2)) 4160 = none ∧ rollS.poisonRead (tagAddr (lineOf (rollS.word (undoBase q0 0 (8 % 2))))) 8 = none ∧
    (tagAddr (lineOf (rollS.word (undoBase q0 0 (8 % 2)))) / 64 * 64 + 64 ≤ rollS.word (undoBase q0 0 (8 % 2)) ∨ rollS.word (undoBase q0 0 (8 % 2)) + 4096 ≤ tagAddr (lineOf (rollS.word (undoBase q0 0 (8 % 2)))) / 64 * 64) := by decide +kernel

theorem witness_ScalarAndMemoryInstructions_1 :
  (scal.meets (5 : Fin 64) ∧ scal.readable (5 : Fin 64) [(1 : BitVec 5), (2 : BitVec 5)]) ∧
  (scal.meets (5 : Fin 64) ∧ scal.readable (5 : Fin 64) [(1 : BitVec 5)]) ∧
  (scal.meets (5 : Fin 64)) ∧
  (scal.meets (5 : Fin 64) ∧ scal.readable (5 : Fin 64) [(4 : BitVec 5)]) ∧
  (w25.meets (5 : Fin 64) ∧ (¬ w25.readable (5 : Fin 64) [(1 : BitVec 5), (2 : BitVec 5)])) := by decide +kernel

theorem witness_ScalarAndMemoryInstructions_2 :
  (w26.meets (5 : Fin 64) ∧ (w26.sreg (5 : Fin 64) (3 : BitVec 5) + BitVec.ofInt 64 (8 : BitVec 32).toInt).toNat = 0x1008 ∧ 0x1008 % 8 = 0 ∧
    0x1008 + 8 ≤ 0x400000 ∧ w26.readable (5 : Fin 64) [(3 : BitVec 5), (1 : BitVec 5)] ∧ (∀ u ∈ w26.soft, poisonUnit u = u) ∧
    wmBase (5 : Fin 64) + 0x1008 ∉ w26.poison ∧ wmBase (5 : Fin 64) + 0x1008 ∉ w26.soft) ∧
  (w26.meets (5 : Fin 64) ∧ (w26.sreg (5 : Fin 64) (3 : BitVec 5) + BitVec.ofInt 64 (8 : BitVec 32).toInt).toNat = 0x1008 ∧ 0x1008 % 8 = 0 ∧
    0x1008 + 8 ≤ 0x400000 ∧ w26.readable (5 : Fin 64) [(3 : BitVec 5), (1 : BitVec 5)] ∧ (∀ u ∈ w26.soft, poisonUnit u = u) ∧
    w26.inList 0x1008 8 = false ∧ w26.stateOff (wmBase (5 : Fin 64) + 0x1008) = none ∧ w26.inj.corrupt = []) := by decide +kernel

theorem witness_BranchesMarksAndForbiddenEncodings_1 :
  (scal.meets (5 : Fin 64) ∧ scal.readable (5 : Fin 64) [(1 : BitVec 5), (2 : BitVec 5)]) ∧
  (scal.meets (5 : Fin 64)) := by decide +kernel

theorem witness_BranchesMarksAndForbiddenEncodings_2_a :
  (let off := (scal.sreg (5 : Fin 64) (3 : BitVec 5) + BitVec.ofInt 64 (9 : BitVec 32).toInt).toNat; scal.meets (5 : Fin 64) ∧
    scal.score.load = none ∧ (scal.faults.region.filter (fun e => decide (e.1 = (5 : Fin 64).val / 8))).length < 64 ∧
    scal.readable (5 : Fin 64) [(3 : BitVec 5), (1 : BitVec 5)] ∧ (off % 8 ≠ 0 ∨ 0x400000 < off + 8)) ∧
  (let off := (w27.sreg (5 : Fin 64) (3 : BitVec 5) + BitVec.ofInt 64 (8 : BitVec 32).toInt).toNat; w27.meets (5 : Fin 64) ∧ w27.score.load = none ∧
    (w27.faults.region.filter (fun e => decide (e.1 = (5 : Fin 64).val / 8))).length < 64 ∧
    w27.readable (5 : Fin 64) [(3 : BitVec 5), (1 : BitVec 5)] ∧ off % 8 = 0 ∧ off + 8 ≤ 0x400000 ∧ w27.inList off 8 = true) ∧
  (scal.meets (5 : Fin 64) ∧ scal.score.load = none ∧ (scal.faults.region.filter (fun e => decide (e.1 = (5 : Fin 64).val / 8))).length < 64 ∧
    scal.readable (5 : Fin 64) [(3 : BitVec 5), (1 : BitVec 5)] ∧
    ((⟨0,0,3,false,1,2,3,4,6,0⟩ : VF).rm = 3 ∨ 4 < (⟨0,0,3,false,1,2,3,4,6,0⟩ : VF).ty.toNat)) ∧
  (scal.meets (5 : Fin 64) ∧ scal.score.load = none ∧ (scal.faults.region.filter (fun e => decide (e.1 = (5 : Fin 64).val / 8))).length < 64 ∧
    scal.readable (5 : Fin 64) [(3 : BitVec 5), (1 : BitVec 5)] ∧ 5 < (⟨0,0,3,false,1,2,3,4,6,0⟩ : VF).imm.toNat % 8) := by decide +kernel

theorem witness_BranchesMarksAndForbiddenEncodings_2_b :
  (scal.meets (5 : Fin 64) ∧ scal.score.load = none ∧ (scal.faults.region.filter (fun e => decide (e.1 = (5 : Fin 64).val / 8))).length < 64 ∧
    scal.readable (5 : Fin 64) [(3 : BitVec 5), (1 : BitVec 5)] ∧ 7 < (⟨5,0,false,8,3⟩ : CF).after.toNat) ∧
  (scal.meets (5 : Fin 64) ∧ scal.score.load = none ∧ (scal.faults.region.filter (fun e => decide (e.1 = (5 : Fin 64).val / 8))).length < 64 ∧
    scal.readable (5 : Fin 64) [(3 : BitVec 5), (1 : BitVec 5)] ∧ (⟨5,0,false,8,3⟩ : CF).after ≠ 0) := by decide +kernel

theorem witness_ChimeOperationsQueueAndApply_1 :
  scal.meets (5 : Fin 64) ∧ (⟨77,2,true,0,9⟩ : CF).after.toNat ≤ 7 ∧
    ((⟨77,2,true,0,9⟩ : CF).indirect = true → scal.readable (5 : Fin 64) [(⟨77,2,true,0,9⟩ : CF).sa]) := by decide +kernel

theorem witness_ChimeOperationsQueueAndApply_2_a :
  (w28.inj.corrupt = [] ∧ w28.poison = [] ∧ w28.soft = [] ∧ w28.chimeq = [(⟨20000,false,0,3⟩ : ChimeOp)] ∧
    (⟨20000,false,0,3⟩ : ChimeOp).reset = false ∧ (⟨20000,false,0,3⟩ : ChimeOp).arg = 0) ∧
  (let stale := w29.running && w29.scoreChime (⟨4,false,1,3⟩ : ChimeOp).index && decide ((⟨4,false,1,3⟩ : ChimeOp).beat ≠ w29.beat);
    w29.inj.corrupt = [] ∧ w29.poison = [] ∧ w29.soft = [] ∧ w29.chimeq = [(⟨4,false,1,3⟩ : ChimeOp)] ∧ stale = true ∧
    ((⟨4,false,1,3⟩ : ChimeOp).reset = true ∨ 0 < (⟨4,false,1,3⟩ : ChimeOp).arg)) ∧
  (let stale := w30.running && w30.scoreChime (⟨4,true,6,3⟩ : ChimeOp).index && decide ((⟨4,true,6,3⟩ : ChimeOp).beat ≠ w30.beat);
    w30.inj.corrupt = [] ∧ w30.poison = [] ∧ w30.soft = [] ∧ w30.chimeq = [(⟨4,true,6,3⟩ : ChimeOp)] ∧ stale = false ∧
    (⟨4,true,6,3⟩ : ChimeOp).reset = true) ∧
  (let stale := w31.running && w31.scoreChime (⟨20000,false,6,3⟩ : ChimeOp).index && decide ((⟨20000,false,6,3⟩ : ChimeOp).beat ≠ w31.beat);
    w31.inj.corrupt = [] ∧ w31.poison = [] ∧ w31.soft = [] ∧ w31.chimeq = [(⟨20000,false,6,3⟩ : ChimeOp)] ∧ stale = false ∧
    (⟨20000,false,6,3⟩ : ChimeOp).reset = false ∧
    (w31.chime (⟨20000,false,6,3⟩ : ChimeOp).index).count + (⟨20000,false,6,3⟩ : ChimeOp).arg ≤ 0xFFFFFFFF) := by decide +kernel

theorem witness_ChimeOperationsQueueAndApply_2_b :
  (let stale := w32.running && w32.scoreChime (⟨20000,false,6,3⟩ : ChimeOp).index && decide ((⟨20000,false,6,3⟩ : ChimeOp).beat ≠ w32.beat);
    w32.inj.corrupt = [] ∧ w32.poison = [] ∧ w32.soft = [] ∧ w32.chimeq = [(⟨20000,false,6,3⟩ : ChimeOp)] ∧ stale = false ∧
    (⟨20000,false,6,3⟩ : ChimeOp).reset = false ∧
    0xFFFFFFFF < (w32.chime (⟨20000,false,6,3⟩ : ChimeOp).index).count + (⟨20000,false,6,3⟩ : ChimeOp).arg ∧ w32.score.load = none) ∧
  (w33.inj.corrupt = [] ∧ w33.poison = [] ∧ w33.soft = [] ∧ w33.running = false ∧
    w33.chimeq = [⟨(⟨20000,false,6,3⟩ : ChimeOp).index, false, 6, 3⟩, ⟨(⟨20000,false,6,3⟩ : ChimeOp).index, true, 9, 3⟩] ∧ 6 ≤ 0xFFFFFFFF) ∧
  (let k := if (⟨77,2,true,0,9⟩ : CF).indirect then ((⟨77,2,true,0,9⟩ : CF).index.toNat + (w30.sreg (5 : Fin 64) (⟨77,2,true,0,9⟩ : CF).sa).toNat % 32768) % 32768 else (⟨77,2,true,0,9⟩ : CF).index.toNat;
    w30.inj.corrupt = [] ∧ w30.poison = [] ∧ w30.soft = [] ∧ w30.meets (5 : Fin 64) ∧ (⟨77,2,true,0,9⟩ : CF).after = 0 ∧
    ((⟨77,2,true,0,9⟩ : CF).indirect = true → w30.readable (5 : Fin 64) [(⟨77,2,true,0,9⟩ : CF).sa]) ∧ (w30.chime k).target ≤ (w30.chime k).count) := by decide +kernel

theorem witness_ChimeOperationsQueueAndApply_2_c :
  (let k := if (⟨77,2,false,0,9⟩ : CF).indirect then ((⟨77,2,false,0,9⟩ : CF).index.toNat + (w34.sreg (5 : Fin 64) (⟨77,2,false,0,9⟩ : CF).sa).toNat % 32768) % 32768 else (⟨77,2,false,0,9⟩ : CF).index.toNat;
    w34.inj.corrupt = [] ∧ w34.poison = [] ∧ w34.soft = [] ∧ w34.meets (5 : Fin 64) ∧ (⟨77,2,false,0,9⟩ : CF).after = 0 ∧
    ((⟨77,2,false,0,9⟩ : CF).indirect = true → w34.readable (5 : Fin 64) [(⟨77,2,false,0,9⟩ : CF).sa]) ∧ (w34.chime k).count < (w34.chime k).target) ∧
  (w29.inj.corrupt = [] ∧ w29.poison = [] ∧ w29.soft = []) ∧
  (w29.inj.corrupt = [] ∧ w29.poison = [] ∧ w29.soft = [] ∧ (w29.cl (5 : Fin 64)).resume = none) := by decide +kernel

theorem witness_VectorArithmeticMinMaxAndSigns_1 :
  (vecS.meets (5 : Fin 64) ∧ (⟨1,0,0,false,3,4,5,6,0,1⟩ : VF).ok tyF = true ∧ vecS.runsVector (5 : Fin 64) (⟨1,0,0,false,3,4,5,6,0,1⟩ : VF)) ∧
  (w35.meets (5 : Fin 64) ∧ (⟨1,3,1,true,3,4,5,6,0,1⟩ : VF).ok tyF = true ∧
    w35.vxFenced (4 * (5 : Fin 64) + (⟨1,3,1,true,3,4,5,6,0,1⟩ : VF).ve.toNat) = false ∧
    (tabGet [] (w35.cl (5 : Fin 64)).vq (⟨1,3,1,true,3,4,5,6,0,1⟩ : VF).ve.toNat ≠ [] ∨ w35.vMayStart (5 : Fin 64) (⟨1,3,1,true,3,4,5,6,0,1⟩ : VF).ve.toNat = false)) := by decide +kernel

theorem witness_VectorArithmeticMinMaxAndSigns_2 :
  vecS.runsVector (5 : Fin 64) (⟨1,0,0,false,3,4,5,6,0,1⟩ : VF) ∧ (⟨1,0,0,false,3,4,5,6,0,1⟩ : VF).ok tyF = true := by decide +kernel

theorem witness_VectorIntegerAndBitwise :
  (vecS.runsVector (5 : Fin 64) (⟨1,10,0,false,3,4,5,6,3,1⟩ : VF) ∧ (⟨1,10,0,false,3,4,5,6,3,1⟩ : VF).ok tyI32 = true) ∧
  (vecS.runsVector (5 : Fin 64) (⟨1,10,0,false,3,4,5,6,3,1⟩ : VF) ∧ (⟨1,10,0,false,3,4,5,6,3,1⟩ : VF).ok tyAny = true) := by decide +kernel

theorem witness_VectorComparesAndPredicates :
  (vecS.runsVector (5 : Fin 64) (⟨1,0,0,false,3,4,5,6,3,1⟩ : VF) ∧ (⟨1,0,0,false,3,4,5,6,3,1⟩ : VF).ok (fun k => tyF k || tyI32 k) = true ∧
    (⟨1,0,0,false,3,4,5,6,3,1⟩ : VF).imm.toNat % 8 ≤ 5) ∧
  (vecS.runsVector (5 : Fin 64) (⟨1,0,0,false,3,4,5,6,3,1⟩ : VF) ∧ (⟨1,0,0,false,3,4,5,6,3,1⟩ : VF).ok tyAny = true) := by decide +kernel

theorem witness_VectorReductionsAndConversions :
  (vecS.runsVector (5 : Fin 64) (⟨1,0,0,false,3,4,5,6,0,1⟩ : VF) ∧ (⟨1,0,0,false,3,4,5,6,0,1⟩ : VF).ok tySum = true) ∧
  (let ty := (⟨1,1,0,false,3,4,5,6,0,1⟩ : VF).ty.toNat;
    let pr := vecZ.preg (5 : Fin 64) (⟨1,1,0,false,3,4,5,6,0,1⟩ : VF).ve.toNat (⟨1,1,0,false,3,4,5,6,0,1⟩ : VF).pred.toNat;
    vecZ.runsVector (5 : Fin 64) (⟨1,1,0,false,3,4,5,6,0,1⟩ : VF) ∧ (⟨1,1,0,false,3,4,5,6,0,1⟩ : VF).ok tyF = true ∧
    (∀ j < elemCount ty, pr.testBit j = true → valNan (decodeCode ty (vecZ.elem (5 : Fin 64) (⟨1,1,0,false,3,4,5,6,0,1⟩ : VF) (⟨1,1,0,false,3,4,5,6,0,1⟩ : VF).va j)) = false)) ∧
  (let pr := vecS.preg (5 : Fin 64) (⟨1,0,0,false,3,4,5,6,0,1⟩ : VF).ve.toNat (⟨1,0,0,false,3,4,5,6,0,1⟩ : VF).pred.toNat;
    vecS.runsVector (5 : Fin 64) (⟨1,0,0,false,3,4,5,6,0,1⟩ : VF) ∧ (⟨1,0,0,false,3,4,5,6,0,1⟩ : VF).ok tyAny = true ∧ pr.testBit 0 = true) ∧
  (let ty := (⟨1,0,0,false,3,4,5,6,0,1⟩ : VF).ty.toNat; vecS.runsVector (5 : Fin 64) (⟨1,0,0,false,3,4,5,6,0,1⟩ : VF) ∧
    (⟨1,0,0,false,3,4,5,6,0,1⟩ : VF).rm ≠ 3 ∧ ty = 0) := by decide +kernel

theorem witness_VectorLoadsStoresAndDraws :
  (let sv := (vecM.sreg (5 : Fin 64) ((⟨1,1,0,false,3,4,5,6,33,1⟩ : VF).imm.setWidth 5)).toNat;
    vecM.runsVector (5 : Fin 64) (⟨1,1,0,false,3,4,5,6,33,1⟩ : VF) ∧ (⟨1,1,0,false,3,4,5,6,33,1⟩ : VF).ok tyAny = true ∧
    (sv + (⟨1,1,0,false,3,4,5,6,33,1⟩ : VF).imm.toNat / 32 * 512) % 2 ^ 64 = 0x1200 ∧ 0x1200 % 512 = 0 ∧ 0x1200 + 512 ≤ 0x400000 ∧ vecM.poison = [] ∧
    vecM.soft = [] ∧ vecM.readable (5 : Fin 64) [(⟨1,1,0,false,3,4,5,6,33,1⟩ : VF).imm.setWidth 5]) ∧
  (let sv := (vecM.sreg (5 : Fin 64) ((⟨1,1,0,false,3,4,5,6,33,1⟩ : VF).imm.setWidth 5)).toNat;
    vecM.runsVector (5 : Fin 64) (⟨1,1,0,false,3,4,5,6,33,1⟩ : VF) ∧ (⟨1,1,0,false,3,4,5,6,33,1⟩ : VF).ok tyAny = true ∧
    (sv + (⟨1,1,0,false,3,4,5,6,33,1⟩ : VF).imm.toNat / 32 * 512) % 2 ^ 64 = 0x1200 ∧ 0x1200 % 512 = 0 ∧ 0x1200 + 512 ≤ 0x400000 ∧ vecM.poison = [] ∧
    vecM.soft = [] ∧ vecM.readable (5 : Fin 64) [(⟨1,1,0,false,3,4,5,6,33,1⟩ : VF).imm.setWidth 5] ∧ vecM.inList 0x1200 512 = false ∧
    (∀ b < 512, vecM.stateOff (wmBase (5 : Fin 64) + 0x1200 + b) = none) ∧ tyWidth (⟨1,1,0,false,3,4,5,6,33,1⟩ : VF).ty.toNat % 8 = 0) ∧
  (vecM.runsVector (5 : Fin 64) (⟨1,1,0,false,3,4,5,6,33,1⟩ : VF) ∧ (⟨1,1,0,false,3,4,5,6,33,1⟩ : VF).ok tyAny = true ∧
    vecM.readable (5 : Fin 64) [(⟨1,1,0,false,3,4,5,6,33,1⟩ : VF).imm.setWidth 5]) := by decide +kernel

theorem witness_MatrixOperationsQueueStartAndComplete_1_a :
  (scal.meets (5 : Fin 64) ∧ scal.readable (5 : Fin 64) [(1 : BitVec 5)] ∧ (scal.cl (5 : Fin 64)).mxq.length < 32) ∧
  (w36.meets (5 : Fin 64) ∧ w36.readable (5 : Fin 64) [(1 : BitVec 5)] ∧ 32 ≤ (w36.cl (5 : Fin 64)).mxq.length) ∧
  ((w37.cl (5 : Fin 64)).mxq = .op 0x1000 33 0xABC :: ([] : List QEntry) ∧ chimeFirst ([] : List QEntry) = false ∧
    w37.mxFenced (5 : Fin 64) = false ∧ 0x1000 % 64 = 0 ∧ 0x1000 + 64 ≤ 0x400000 ∧ w37.poison = [] ∧ w37.inj.corrupt = [] ∧ w37.soft = [] ∧
    2 ≤ feeding (w37.cl (5 : Fin 64)).mxRun (w37.cl (5 : Fin 64)).feed.length) ∧
  (let ws := (List.range 8).map (fun i => w36.word (wmBase (5 : Fin 64) + 0 + 8 * i));
    (w36.cl (5 : Fin 64)).mxq = .op 0 0 0 :: (List.replicate 31 (.op 0 0 0) : List QEntry) ∧
    chimeFirst (List.replicate 31 (.op 0 0 0) : List QEntry) = false ∧ w36.mxFenced (5 : Fin 64) = false ∧ 0 % 64 = 0 ∧ 0 + 64 ≤ 0x400000 ∧
    w36.poison = [] ∧ w36.inj.corrupt = [] ∧ w36.soft = [] ∧ feeding (w36.cl (5 : Fin 64)).mxRun (w36.cl (5 : Fin 64)).feed.length < 2 ∧
    (mpM ws = 0 ∨ mpN ws = 0) ∧ mpChime ws = none) := by decide +kernel

theorem witness_MatrixOperationsQueueStartAndComplete_1_b :
  let ws := (List.range 8).map (fun i => w38.word (wmBase (5 : Fin 64) + 0x1000 + 8 * i));
    (w38.cl (5 : Fin 64)).mxq = .op 0x1000 33 0xABC :: ([] : List QEntry) ∧ chimeFirst ([] : List QEntry) = false ∧
    w38.mxFenced (5 : Fin 64) = false ∧ 0x1000 % 64 = 0 ∧ 0x1000 + 64 ≤ 0x400000 ∧ w38.poison = [] ∧ w38.inj.corrupt = [] ∧ w38.soft = [] ∧
    feeding (w38.cl (5 : Fin 64)).mxRun (w38.cl (5 : Fin 64)).feed.length < 2 ∧ 0 < mpM ws ∧ 0 < mpN ws ∧ w38.mxInRange ws = true ∧
    mxOverlap ws = false ∧ mpReuse ws = false := by decide +kernel

theorem witness_MatrixOperationsQueueStartAndComplete_2 :
  (let ws := (mxr 0 : MxRun).words; let w := tyWidth (mpOutfmt ws); let d := wmBase (5 : Fin 64) + mpAddr ws 4;
    let e := wmBase (5 : Fin 64) + w39.entryOff (w39.cl (5 : Fin 64)).ccount; (w39.cl (5 : Fin 64)).mxRun = (mxr 0 : MxRun) :: ([] : List MxRun) ∧
    chimeFirst (w39.cl (5 : Fin 64)).mxq = false ∧ w39.inj.corrupt = [] ∧ w39.poison = [] ∧ w39.soft = [] ∧ w39.score.load = none ∧
    (∀ d < 2, w39.chimeFull d = false) ∧ (mxr 0 : MxRun).code = 0 ∧ mpM ws = 1 ∧ mpN ws = 1 ∧ 1 ≤ mpK ws ∧ mpK ws ≤ 64 ∧ mpInit ws = false ∧
    mpAfmt ws ≤ 4 ∧ mpBfmt ws ≤ 4 ∧ mpOutfmt ws ≤ 4 ∧ (mxr 0 : MxRun).a.length = mpK ws ∧ (mxr 0 : MxRun).b.length = mpK ws ∧ w39.stateOff d = none ∧
    (d + w / 8 ≤ e ∨ e + 8 ≤ d) ∧ mpAddr ws 4 % 64 = 0) ∧
  (let ws := (mxr 0x15 : MxRun).words; let d := wmBase (5 : Fin 64) + mpAddr ws 4;
    (w40.cl (5 : Fin 64)).mxRun = (mxr 0x15 : MxRun) :: ([] : List MxRun) ∧ chimeFirst (w40.cl (5 : Fin 64)).mxq = false ∧ w40.inj.corrupt = [] ∧
    w40.poison = [] ∧ w40.soft = [] ∧ w40.score.load = none ∧ (∀ d < 2, w40.chimeFull d = false) ∧ (mxr 0x15 : MxRun).code = 0x15) := by decide +kernel

theorem witness_RampAndRepairFollowTheRules_a :
  (let st := w41.reg F.MXE_ENG_STEP (5 : Fin 64); let f := feedRun st w41.levelNow 32 0 (w41.cl (5 : Fin 64)).feed; rowReady f = true) ∧
  (let st := w39.reg F.MXE_ENG_STEP (5 : Fin 64); let f := feedRun st w39.levelNow 32 0 (w39.cl (5 : Fin 64)).feed; rowReady f = false) ∧
  ((w41.cl (5 : Fin 64)).feed = [(0, 100)] ∧ 32 < 100 ∧ w41.levelNow = 0) ∧
  ((w41.running = true → ∀ i : Fin 4, (repEntry ((w41.cl (5 : Fin 64)).repair.getD (w41.repMap (5 : Fin 64))) i).1 = true → repEntry (0x8281 : BitVec 64).toNat i = repEntry ((w41.cl (5 : Fin 64)).repair.getD (w41.repMap (5 : Fin 64))) i) ∧
    (∀ i j : Fin 4, j < i → (0x8281 : BitVec 64).toNat.testBit (8 * i.val + 7) = true → (0x8281 : BitVec 64).toNat.testBit (8 * j.val + 7) = true ∧
    (0x8281 : BitVec 64).toNat / 2 ^ (8 * i.val) % 128 ≠ (0x8281 : BitVec 64).toNat / 2 ^ (8 * j.val) % 128)) ∧
  ((0x8100 : BitVec 64).toNat.testBit 15 = true ∧ (0x8100 : BitVec 64).toNat.testBit 7 = false) ∧
  ((w43.cl (5 : Fin 64)).repairWait = true ∧ w43.running = true) := by decide +kernel

theorem witness_RampAndRepairFollowTheRules_b :
  (w44.cl (5 : Fin 64)).repair = some 0x838281 ∧ (w44.cl (5 : Fin 64)).mxRun = [] ∧ ((w44.cl (5 : Fin 64)).repairWait = false ∨ w44.running = false) := by decide +kernel

theorem witness_TallyInputsQueueWorkAndTimeOut_1_a :
  let b := (recS.sreg (5 : Fin 64) (2 : BitVec 5)).toNat; let a := (recS.sreg (5 : Fin 64) (1 : BitVec 5)).toNat;
    let free := (fun (x_0 : TallyIn) => decide (x_0.chunk ∈ (recS.bushel (x_0.key / 64) (x_0.key % 64)).done) = false ∧
    recS.haveLo (x_0.key / 64) x_0 0 = false ∧ recS.turnOf (x_0.key / 64) (x_0.key % 64) x_0.chunk = x_0.lo ∧
    recS.slotBusy (x_0.key / 64) (x_0.key % 64) x_0.chunk = false ∧ recS.rAny (x_0.key / 64) (x_0.key % 64) = false);
    let d := leafData (recS.rCfmt (5 : Fin 64) (2 : BitVec 6).toNat) (recS.bytes (wmBase (5 : Fin 64) + a) (chunkBytes (recS.rCfmt (5 : Fin 64) (2 : BitVec 6).toNat)));
    let x : TallyIn := ⟨64 * (5 : Fin 64).val + (2 : BitVec 6).toNat, b % 65536, b % 65536, b / 2 ^ 32 % 2 ^ 23, recS.beat, true, d.1, d.2⟩;
    recS.inj.corrupt = [] ∧ recS.soft = [] ∧ recS.meets (5 : Fin 64) ∧ recS.readable (5 : Fin 64) [(1 : BitVec 5), (2 : BitVec 5)] ∧
    recS.unitQuiet (5 : Fin 64) 6 = true ∧ recS.taFenced (5 : Fin 64) = false ∧ recS.rValid (5 : Fin 64) (2 : BitVec 6).toNat = true ∧
    b % 65536 = b / 65536 % 65536 ∧ isNode (recS.rN (5 : Fin 64) (2 : BitVec 6).toNat) (b % 65536) (b % 65536) = true ∧
    recS.rLo (5 : Fin 64) (2 : BitVec 6).toNat ≤ b % 65536 ∧ b % 65536 ≤ recS.rHi (5 : Fin 64) (2 : BitVec 6).toNat ∧
    b / 2 ^ 32 % 2 ^ 23 < recS.rChunks (5 : Fin 64) (2 : BitVec 6).toNat ∧
    b / 2 ^ 32 % 2 ^ 23 % max (recS.rNb (5 : Fin 64) (2 : BitVec 6).toNat) 1 = recS.rK (5 : Fin 64) (2 : BitVec 6).toNat ∧
    a + chunkBytes (recS.rCfmt (5 : Fin 64) (2 : BitVec 6).toNat) ≤ 0x400000 ∧ recS.poison = [] ∧ free x := by decide +kernel

theorem witness_TallyInputsQueueWorkAndTimeOut_1_b :
  (recS.inj.corrupt = [] ∧ recS.soft = [] ∧ recS.meets (5 : Fin 64) ∧ recS.unitQuiet (5 : Fin 64) 6 = true ∧
    recS.rValid (5 : Fin 64) (2 : BitVec 6).toNat = true ∧ recS.rScored (5 : Fin 64) (2 : BitVec 6).toNat = true ∧
    (recS.bushel (5 : Fin 64) (2 : BitVec 6).toNat).taken = false) ∧
  (w46.inj.corrupt = [] ∧ w46.soft = [] ∧ w46.meets (5 : Fin 64) ∧ w46.unitQuiet (5 : Fin 64) 6 = true ∧
    w46.rValid (5 : Fin 64) (2 : BitVec 6).toNat = true ∧ w46.rScored (5 : Fin 64) (2 : BitVec 6).toNat = true ∧
    (w46.bushel (5 : Fin 64) (2 : BitVec 6).toNat).taken = true) ∧
  (w47.inj.corrupt = [] ∧ w47.soft = [] ∧ w47.meets (5 : Fin 64) ∧ w47.readable (5 : Fin 64) [(1 : BitVec 5), (2 : BitVec 5)] ∧
    w47.unitQuiet (5 : Fin 64) 6 = false) := by decide +kernel

theorem witness_TallyInputsQueueWorkAndTimeOut_1_c :
  let free := (fun (x_0 : TallyIn) => decide (x_0.chunk ∈ (recS.bushel (x_0.key / 64) (x_0.key % 64)).done) = false ∧
    recS.haveLo (x_0.key / 64) x_0 0 = false ∧ recS.turnOf (x_0.key / 64) (x_0.key % 64) x_0.chunk = x_0.lo ∧
    recS.slotBusy (x_0.key / 64) (x_0.key % 64) x_0.chunk = false ∧ recS.rAny (x_0.key / 64) (x_0.key % 64) = false);
    let d := leafData (recS.rCfmt ((64*5+2) / 64) ((64*5+2) % 64)) (cPay w45);
    let y : TallyIn := ⟨(64*5+2), tLo w45, tHi w45, tChunk w45, cBeat w45, true, d.1, d.2⟩; recS.inj.corrupt = [] ∧ recS.soft = [] ∧ tKind w45 = 0 ∧
    recS.steer (tGroup w45) (tSeq w45) (tLo w45) (tHi w45) (tChunk w45) = some (64*5+2) ∧ (64*5+2) / 64 < 64 ∧ csumGood w45 = true ∧
    (recS.rScored ((64*5+2) / 64) ((64*5+2) % 64) = true → cBeat w45 = recS.beat) ∧ recS.kindGood ((64*5+2) / 64) ((64*5+2) % 64) w45 = true ∧
    isNode (recS.rN ((64*5+2) / 64) ((64*5+2) % 64)) (tLo w45) (tHi w45) = true ∧ tChunk w45 < recS.rChunks ((64*5+2) / 64) ((64*5+2) % 64) ∧ free y := by decide +kernel

theorem witness_TallyInputsQueueWorkAndTimeOut_2 :
  (w48.inj.corrupt = [] ∧ (w48.cl (5 : Fin 64)).tallyq = (ti 0 0 : TallyIn) :: ([] : List TallyIn) ∧
    (ti 0 0 : TallyIn).key = 64 * (5 : Fin 64).val + (2 : BitVec 6).toNat ∧
    slotFor (w48.bushel (5 : Fin 64) (2 : BitVec 6).toNat) (ti 0 0 : TallyIn).chunk = some (⟨7,0,[],0,0,false,0⟩ : Slot) ∧
    (⟨7,0,[],0,0,false,0⟩ : Slot).stack = [] ∧ w48.rAny (5 : Fin 64) (2 : BitVec 6).toNat = false ∧
    w48.rValid (5 : Fin 64) (2 : BitVec 6).toNat = true ∧ (ti 0 0 : TallyIn).lo = w48.rLo (5 : Fin 64) (2 : BitVec 6).toNat ∧
    (ti 0 0 : TallyIn).hi < w48.rHi (5 : Fin 64) (2 : BitVec 6).toNat) ∧
  (w49.inj.corrupt = [] ∧ w49.parked.find? (w49.releasable (5 : Fin 64)) = some (⟨0,false,5,none,0,1,ti 0 0⟩ : Parked) ∧
    (⟨0,false,5,none,0,1,ti 0 0⟩ : Parked).part = 0 ∧ (⟨0,false,5,none,0,1,ti 0 0⟩ : Parked).parts = 1 ∧
    (∀ q ∈ w49.parked, q ≠ (⟨0,false,5,none,0,1,ti 0 0⟩ : Parked) → sameInput q.input (⟨0,false,5,none,0,1,ti 0 0⟩ : Parked).input = false)) ∧
  (w50.inj.corrupt = [] ∧ w50.collOf (64 * (5 : Fin 64).val + (2 : BitVec 6).toNat) = some coll0) ∧
  (w51.inj.corrupt = [] ∧ w51.parked = [(⟨0,false,5,some (tcell 0),0,0,ti 0 0⟩ : Parked)] ∧
    (⟨0,false,5,some (tcell 0),0,0,ti 0 0⟩ : Parked).cell.isSome = true ∧
    (⟨0,false,5,some (tcell 0),0,0,ti 0 0⟩ : Parked).since + 1024 * max (w51.reg F.TALLY_CFG_TIMEOUT_K) 1 < 2 ^ 64) := by decide +kernel

theorem witness_MoverStartsAndCompletes :
  (let a := (w52.sreg (5 : Fin 64) (1 : BitVec 5)).toNat; let ws := (List.range 8).map (fun i => w52.word (wmBase (5 : Fin 64) + a + 8 * i));
    w52.poison = [] ∧ w52.soft = [] ∧ w52.meets (5 : Fin 64) ∧ w52.readable (5 : Fin 64) [(1 : BitVec 5)] ∧ (w52.cl (5 : Fin 64)).mvq = [] ∧
    (w52.cl (5 : Fin 64)).mvRun = none ∧ w52.clFenced (5 : Fin 64) = false ∧ w52.fenced 8 (5 : Fin 64) = false ∧ a + 64 ≤ 0x400000 ∧
    wordOnly (mvSrc ws) = false ∧ (∀ x < mvLen ws, inBushel (mvSrc ws + x) = false)) ∧
  (let e := wmBase (5 : Fin 64) + w53.entryOff (w53.cl (5 : Fin 64)).ccount; w53.poison = [] ∧ w53.soft = [] ∧
    (w53.cl (5 : Fin 64)).mvRun = some mvr ∧ (w53.cl (5 : Fin 64)).mvq = [] ∧ mvr.cells = [] ∧ mvr.sends = false ∧ mvr.add = none ∧ mvr.code = 0 ∧
    w53.inj.corrupt = [] ∧ (∀ d < 2, w53.chimeFull d = false) ∧ inRegSpace mvr.dst = false ∧ inChime mvr.dst = false ∧
    (∀ x < mvr.data.length, w53.stateOff (mvr.dst + x) = none) ∧ (mvr.dst + mvr.data.length ≤ e ∨ e + 8 ≤ mvr.dst)) := by decide +kernel

theorem witness_RidingCopyReachesTheMirror :
  (w54.soft = [] ∧ w54.ride.queue = [rq0] ∧ w54.ride.waits = [] ∧ rq0.die = b2n false ∧ rq0.closed = false ∧ rq0.since + 64 < 2 ^ 64 ∧
    (∀ x, w54.mcCluster (b2n false) = some x → 16 ≤ w54.scoredLen (b2n false) (64 + x % 32))) ∧
  (w54.soft = [] ∧ w54.ride.queue = [rq0] ∧ w54.ride.waits = [] ∧ rq0.die = b2n false ∧ rq0.closed = false ∧ rq0.since + 64 < 2 ^ 64) ∧
  (w54.soft = [] ∧ w54.reg F.OPT_HOLD_CFG_HOLD = 0) ∧
  (let off := leNat ((cPay w55).take 8); let n := leNat (((cPay w55).drop 8).take 1); let x := cBeat w55; w56.soft = [] ∧
    w56.reg F.OPT_HOLD_CFG_HOLD = 1 ∧ srcCoord (dSrc w55) = w56.reg F.OPT_HOLD_CFG_SOURCE ∧ pcrcGood w55 = true ∧ (x = w56.beat ∨ x + 1 = w56.beat) ∧
    off % 64 = 0 ∧ 1 ≤ n ∧ n ≤ 7 ∧ off + 64 * n ≤ 448 * 2 ^ 30 ∧ w56.rideCount x < 8388608 ∧ (∀ b_0 ∈ w56.ride.bufs, b_0.1 % 3 = x % 3 → b_0.1 = x)) ∧
  (let a := 0x8C00000000 + 9 % 3 * 0x100000000; rideD.soft = [] ∧ rideD.ride.drain = some 9 ∧ rideD.rideCount 9 = 1 ∧
    rideD.reg F.BEAT_STATUS_STATE = 2 ∧ rideD.poison = [] ∧ rideD.reg F.CKPT_STATUS_MIRROR_POISON = 0 ∧ (rideD.byte (a + 8)).toNat = 1) := by decide +kernel

theorem witness_MirrorTelemetryAndShapers_1 :
  (w57.sw.mirq = [(b2n false, ([1,2,3,4] : List Byte))] ∧ w57.reg F.XBAR_MIR_STATUS_FULL = 0) ∧
  (w58.sw.mirq = [(b2n true, ([1,2,3,4] : List Byte))] ∧ w58.reg F.XBAR_MIR_STATUS_FULL = 1) := by decide +kernel

theorem witness_SwitchSpillAndResequencer_1_a :
  ((State.reset.reg F.PORT_LINK_STATE (10 : Fin 256) ≠ 6 ∨ (State.reset.link (10 : Fin 256)).discard = true ∨ slotIdle w59 = true)) ∧
  (swS.reg F.PORT_LINK_STATE (10 : Fin 256) = 6 ∧ swS.pins.portsStopped = false ∧ (swS.link (10 : Fin 256)).discard = false ∧
    (8 : BitVec 32).toNat = (swS.link (10 : Fin 256)).lnext ∧ swS.reg F.XBAR_MIR_CFG_EN = 0 ∧ slotIdle emptyC = false ∧ swS.inj.corrupt = [] ∧
    slotEmpty emptyC = true) ∧
  (swS.reg F.PORT_LINK_STATE (10 : Fin 256) = 6 ∧ swS.pins.portsStopped = false ∧ (swS.link (10 : Fin 256)).discard = false ∧
    (8 : BitVec 32).toNat = (swS.link (10 : Fin 256)).lnext ∧ swS.reg F.XBAR_MIR_CFG_EN = 0 ∧ slotIdle w60 = false ∧ swS.inj.corrupt = [] ∧
    hdrGood w60 = false ∧ slotEmpty w60 = false) := by decide +kernel

theorem witness_SwitchSpillAndResequencer_1_b :
  swS.reg F.PORT_LINK_STATE (10 : Fin 256) = 6 ∧ swS.pins.portsStopped = false ∧ (swS.link (10 : Fin 256)).discard = false ∧
    (8 : BitVec 32).toNat = (swS.link (10 : Fin 256)).lnext ∧ swS.reg F.XBAR_MIR_CFG_EN = 0 ∧ slotIdle w59 = false ∧ swS.inj.corrupt = [] ∧
    hdrGood w59 = true ∧ slotEmpty w59 = false ∧ cScored w59 = true ∧ isMarker w59 = false ∧ swS.nbrKind ((10 : Fin 256).val / 2) ≠ 2 ∧
    portTagV (swS.portRec ((10 : Fin 256).val / 2)) = true ∧ portTag (swS.portRec ((10 : Fin 256).val / 2)) = cAcre w59 ∧
    cGen w59 = swS.genOf (cAcre w59) ∧
    swS.lookup ((10 : Fin 256).val / 2 / 64) ((10 : Fin 256).val / 2 % 64) w59 (swS.travel ((10 : Fin 256).val / 2)) = some ([133] : List Nat) ∧
    ([133] : List Nat) ≠ [] ∧ cBeat w59 = swS.beat ∧ swS.scoredLen ((10 : Fin 256).val / 2 / 64) ((10 : Fin 256).val / 2 % 64) < 16 := by decide +kernel

theorem witness_SwitchSpillAndResequencer_1_c :
  ctS.ride.queue = [] ∧ ctS.clusters = [] ∧ ctS.sw.shapers = [] ∧ ctS.sw.voq = [] ∧ ctS.sw.entry = [] ∧ ctS.sw.bad = [] ∧
    ctS.sw.scored = [(⟨0,5,tallyC,[133],none,2,1⟩ : ScCell)] ∧ (⟨0,5,tallyC,[133],none,2,1⟩ : ScCell).die = (0 : Fin 2).val ∧
    (⟨0,5,tallyC,[133],none,2,1⟩ : ScCell).inp < 64 ∧ (⟨0,5,tallyC,[133],none,2,1⟩ : ScCell).since < ctS.sw.time ∧
    (⟨0,5,tallyC,[133],none,2,1⟩ : ScCell).outs = [133] ∧ 128 ≤ 133 ∧ 133 < 192 ∧ exitDie 133 = (0 : Fin 2).val ∧ exitPoint 133 = 69 ∧
    cType (⟨0,5,tallyC,[133],none,2,1⟩ : ScCell).cell = 1 ∧
    ctS.reservations (0 : Fin 2) (ctS.sw.time - ctS.sw.base) = [((⟨0,5,tallyC,[133],none,2,1⟩ : ScCell).inp, 69)] ∧
    ctS.reservations (1 - (0 : Fin 2).val) (ctS.sw.time - ctS.sw.base) = [] := by decide +kernel

theorem witness_SwitchSpillAndResequencer_2 :
  (let p := tabGet 0 w61.sw.spillT (b2n false); w61.sw.voq = [oc] ∧ oc.die = b2n false ∧ oc.spilled = true ∧
    (∀ e ∈ w61.links, e.2.owed = [0, 0, 0, 0]) ∧ p < 25 * (w61.ck + 1)) ∧
  (let p := tabGet 0 w62.sw.spillT (b2n false); w62.sw.voq = [oc] ∧ oc.die = b2n false ∧ oc.spilled = true ∧
    (∀ e ∈ w62.links, e.2.owed = [0, 0, 0, 0]) ∧ 25 * (w62.ck + 1) ≤ p) ∧
  (w63.sw.reseq = [rsq] ∧ rsq.die = b2n false ∧ rsq.held = [(5, 10, 3, rcell)] ∧ 5 < 2 ^ 24 ∧
    10 + max (w63.reg F.XBAR_CFG_RESEQ_TO) 1 ≤ w63.sw.time ∧ 128 ≤ rsq.out ∧ rsq.out < 192 ∧ cLast rcell = true ∧ w63.inj.corrupt = [] ∧
    pcrcGood rcell = true ∧ dEpoch rcell = 0) := by decide +kernel

theorem witness_ControlCellsAndDrainMarkersAct_a :
  (leafS.reg F.GONG_CFG_ROOT = 0 ∧ (0 : Fin 256).val / 2 = leafS.reg F.GONG_CFG_PARENT_PORT ∧ leafS.childPorts = [] ∧
    leafS.reg F.PORT_LINK_STATE (2 * ((0 : Fin 256).val / 2)) = 6 ∧ leafS.pins.portsStopped = false) ∧
  (w18.reg F.GONG_CFG_ROOT = 1 ∧ (10 : Fin 256).val / 2 ∈ w18.childPorts ∧ kWave w65 = 0 ∧ w18.route.drain = none ∧ w18.route.requests = []) ∧
  (w67.reg F.ROUTE_BANK_STATE = 2 ∧ w67.reg F.ROUTE_BANK_PREP_ACRE = cAcre w66 ∧ (12 : Fin 256).val / 2 ∈ w67.acreEndpoints (cAcre w66)) ∧
  (leafS.reg F.GONG_CFG_ROOT = 0 ∧ (0 : Fin 256).val / 2 = leafS.reg F.GONG_CFG_PARENT_PORT ∧ leafS.childPorts = [] ∧ kFlag w68 = true ∧
    leafS.draining (cAcre w68) = false) ∧
  (drS.reg F.GONG_CFG_ROOT = 0 ∧ (0 : Fin 256).val / 2 = drS.reg F.GONG_CFG_PARENT_PORT ∧ drS.childPorts = [] ∧ kFlag w69 = false ∧
    drS.draining (cAcre w69) = true ∧ drS.route.back = [] ∧ drS.route.swap = some d0) ∧
  (drS.reg F.GONG_CFG_ROOT = 0 ∧ (0 : Fin 256).val / 2 = drS.reg F.GONG_CFG_PARENT_PORT ∧ drS.childPorts = [] ∧ kFlag w70 = true ∧
    drS.draining (cAcre w70) = true ∧ drS.route.back = [] ∧ drS.route.swap = some d0 ∧ drS.route.bank0.nbr = drS.route.bank1.nbr ∧
    (∀ p < 128, drS.nbrKind p ≠ 2)) := by decide +kernel

theorem witness_ControlCellsAndDrainMarkersAct_b :
  w71.route.drain = some (⟨3,1,none,0,some 100⟩ : Drain) ∧ (⟨3,1,none,0,some 100⟩ : Drain).wait = some 100 ∧ w71.childPorts ≠ [] ∧
    100 + 4096 < 2 ^ 64 := by decide +kernel

theorem witness_MirrorTelemetryAndShapers_2 :
  w72.ride.queue = [] ∧ w72.clusters = [] ∧ w72.sw.voq = [] ∧ w72.score.calendar = [] ∧
    w72.sw.shapers = [(1, (9 : Fin 128).val, (0x7F00001FFFF : BitVec 64).toNat)] := by decide +kernel

theorem witness_PoolsBuildAllocateAndFree_a :
  (w73.inj.corrupt = [] ∧ w73.poison = [] ∧ w73.soft = [] ∧ w73.reg F.ACV_LIVE_LIVE = 0 ∧
    poolCfgGood (1 : Fin 5) (BitVec.ofNat 64 (3*2^36 + 0x4500000) : BitVec 64).toNat = true) ∧
  (w74.inj.corrupt = [] ∧ w74.poison = [] ∧ w74.soft = [] ∧ w74.reg F.ACV_LIVE_LIVE = 1) ∧
  (w73.inj.corrupt = [] ∧ w73.poison = [] ∧ w73.soft = []) ∧
  (let hd := w73.reg F.POOL_STATE_HEAD (1 : Fin 5);
    let addr := fun (i : Nat) => w73.reg F.POOL_CFG_BASE (1 : Fin 5) * 4096 + i * (256 * 8 ^ (1 : Fin 5).val); w73.inj.corrupt = [] ∧
    w73.poison = [] ∧ w73.soft = [] ∧ w73.reg F.BOOT_STATUS_FAIL = 0 ∧ w73.held d0.ring.val = [] ∧ w73.ringOpen d0.ring.val d0.fence = true ∧
    w73.poolq = [] ∧ w73.reg F.POOL_STATE_BUILDING (1 : Fin 5) = 0 ∧ 0 < (2000 : BitVec 64).toNat ∧
    (2000 : BitVec 64).toNat ≤ 256 * 8 ^ (1 : Fin 5).val ∧ (∀ m < (1 : Fin 5).val, 256 * 8 ^ m < (2000 : BitVec 64).toNat) ∧ hd ≠ 0xFFFFFF ∧
    addr hd < 0x9000000000) := by decide +kernel

theorem witness_PoolsBuildAllocateAndFree_b :
  (let hd := w74.reg F.POOL_STATE_HEAD (1 : Fin 5); w74.inj.corrupt = [] ∧ w74.poison = [] ∧ w74.soft = [] ∧ w74.reg F.BOOT_STATUS_FAIL = 0 ∧
    w74.held d0.ring.val = [] ∧ w74.ringOpen d0.ring.val d0.fence = true ∧ w74.poolq = [] ∧ w74.reg F.POOL_STATE_BUILDING (1 : Fin 5) = 0 ∧
    0 < (2000 : BitVec 64).toNat ∧ (2000 : BitVec 64).toNat ≤ 256 * 8 ^ (1 : Fin 5).val ∧
    (∀ m < (1 : Fin 5).val, 256 * 8 ^ m < (2000 : BitVec 64).toNat) ∧ hd = 0xFFFFFF) ∧
  (w73.inj.corrupt = [] ∧ w73.poison = [] ∧ w73.soft = [] ∧ w73.reg F.BOOT_STATUS_FAIL = 0 ∧ w73.held d0.ring.val = [] ∧
    w73.ringOpen d0.ring.val d0.fence = true ∧ w73.poolq = [] ∧ w73.reg F.POOL_STATE_BUILDING (1 : Fin 5) = 0 ∧
    ((0 : BitVec 64) = 0 ∨ 1048576 < (0 : BitVec 64).toNat)) ∧
  (let addr := fun (i : Nat) => w73.reg F.POOL_CFG_BASE (1 : Fin 5) * 4096 + i * (256 * 8 ^ (1 : Fin 5).val); w73.inj.corrupt = [] ∧
    w73.poison = [] ∧ w73.soft = [] ∧ w73.reg F.BOOT_STATUS_FAIL = 0 ∧ w73.held d0.ring.val = [] ∧ w73.ringOpen d0.ring.val d0.fence = true ∧
    w73.poolq = [] ∧ w73.reg F.POOL_STATE_BUILDING (1 : Fin 5) = 0 ∧ (2^29+1 : BitVec 32).toNat / 2 ^ 29 = (1 : Fin 5).val ∧
    addr ((2^29+1 : BitVec 32).toNat % 2 ^ 24) < 0x9000000000 ∧ w73.stateOff (addr ((2^29+1 : BitVec 32).toNat % 2 ^ 24)) = none) := by decide +kernel

theorem witness_RefreshScrubAndLasers :
  (w75.score.load = none ∧ w75.toll + 8192 < 2 ^ 64 ∧ w75.reg F.MEM_CFG_SCRUB_EN = 1 ∧
    0x9000000000 ≤ (⟨0x9000000123,true⟩ : ScrubErr).addr.toNat ↔ false = false) ∧
  (w76.score.load = none ∧ w76.toll + 8192 < 2 ^ 64 ∧ w76.reg F.MEM_CFG_SCRUB_EN = 0) ∧
  (w75.score.load = none ∧ (⟨0x9000000123,true⟩ : ScrubErr).bad = true ∧ 0x9000000000 ≤ (⟨0x9000000123,true⟩ : ScrubErr).addr.toNat ↔ true = true ∧
    (⟨0x9000000123,true⟩ : ScrubErr).addr.toNat < 0x11000000000 ∧ w75.reg F.MEM_CFG_SCRUB_EN = 1) ∧
  (w75.score.load = none ∧ (w75.reg F.PORT_LASER_LOW).testBit (5 : Fin 16) = false ∧
    (w75.faults.region.filter (fun x => decide (x.1 = (5 : Fin 16).val / 2))).length < 64) ∧
  (w76.score.load = none ∧ (w76.reg F.PORT_LASER_LOW).testBit (5 : Fin 16) = true) ∧
  (w75.score.load = none) := by decide +kernel

theorem witness_RollCallTrainsAndFails_a :
  (let st := w77.reg F.PORT_LINK_STATE (10 : Fin 256); st = 1) ∧
  (let st := w78.reg F.PORT_LINK_STATE (10 : Fin 256); st ≠ 1) ∧
  (let st := w78.reg F.PORT_LINK_STATE (10 : Fin 256); let split := decide (w78.reg F.PORT_CFG_SPLIT ((10 : Fin 256).val / 2) = 1);
    let width := if split then 4 else 8; let al := (lm8.length = width ∧ (∀ j < width, ∃ m ∈ lm8, m.lane.toNat = j) ∧ (∀ m ∈ lm8, m.split = split ∧
    3 ≤ m.rounds.toNat) ∧ (100 : BitVec 8).toNat ≤ 100); st = 2 ∧ al ∧ w78.pins.portsStopped = false) ∧
  (let st := w77.reg F.PORT_LINK_STATE (10 : Fin 256); let split := decide (w77.reg F.PORT_CFG_SPLIT ((10 : Fin 256).val / 2) = 1);
    let width := if split then 4 else 8; let al := (lm8.length = width ∧ (∀ j < width, ∃ m ∈ lm8, m.lane.toNat = j) ∧ (∀ m ∈ lm8, m.split = split ∧
    3 ≤ m.rounds.toNat) ∧ (100 : BitVec 8).toNat ≤ 100); (st ≠ 2 ∨ ¬al)) ∧
  (let st := w79.reg F.PORT_LINK_STATE (10 : Fin 256); let n := w79.reg F.PORT_LINK_TRIES (10 : Fin 256) + 1;
    let a := max (w79.reg F.PORT_CFG_ATTEMPTS ((10 : Fin 256).val / 2)) 1; 3 ≤ st ∧ st ≤ 5 ∧ n < a) ∧
  (let st := w80.reg F.PORT_LINK_STATE (10 : Fin 256); let n := w80.reg F.PORT_LINK_TRIES (10 : Fin 256) + 1;
    let a := max (w80.reg F.PORT_CFG_ATTEMPTS ((10 : Fin 256).val / 2)) 1; st = 6 ∧ n < a) := by decide +kernel

theorem witness_RollCallTrainsAndFails_b :
  (let st := w81.reg F.PORT_LINK_STATE (10 : Fin 256); let n := w81.reg F.PORT_LINK_TRIES (10 : Fin 256) + 1;
    let a := max (w81.reg F.PORT_CFG_ATTEMPTS ((10 : Fin 256).val / 2)) 1; 3 ≤ st ∧ st ≤ 6 ∧ a ≤ n) ∧
  (let st := w77.reg F.PORT_LINK_STATE (10 : Fin 256); (st < 3 ∨ 6 < st)) ∧
  (let st := w77.reg F.PORT_LINK_STATE (10 : Fin 256); let n := w77.reg F.PORT_LINK_TRIES (10 : Fin 256) + 1;
    let a := max (w77.reg F.PORT_CFG_ATTEMPTS ((10 : Fin 256).val / 2)) 1; 1 ≤ st ∧ st ≤ 5 ∧ n < a) := by decide +kernel

theorem witness_RollCallReachesReady_a :
  (let st := w82.reg F.PORT_LINK_STATE (10 : Fin 256); let b := (idb 1 0 : BitVec 128).toNat;
    let good := fun (ty bits : Nat) => (wc tyIdent 0 (idb 1 0) : BitVec 32).toNat = blockCrc ty 0 bits; w82.pins.portsStopped = false ∧
    good tyIdent b ∧ st = 3 ∧ bitsOf b 127 120 = 1 ∧ bitsOf b 111 104 ≤ 1) ∧
  (let st := w82.reg F.PORT_LINK_STATE (10 : Fin 256); let b := (idb 0 3 : BitVec 128).toNat;
    let good := fun (ty bits : Nat) => (wc tyIdent 0 (idb 0 3) : BitVec 32).toNat = blockCrc ty 0 bits; w82.pins.portsStopped = false ∧
    good tyIdent b ∧ st = 3 ∧ bitsOf b 127 120 = 0) ∧
  (let st := w83.reg F.PORT_LINK_STATE (10 : Fin 256); let b := (idb 0 3 : BitVec 128).toNat;
    let good := fun (ty bits : Nat) => (wc tyIdent 0 (idb 0 3) : BitVec 32).toNat = blockCrc ty 0 bits; w83.pins.portsStopped = false ∧
    good tyIdent b ∧ (st < 3 ∨ 5 < st)) ∧
  (let st := w84.reg F.PORT_LINK_STATE (10 : Fin 256); let good := fun (ty bits : Nat) => (bc tyDreq 0 6 : BitVec 32).toNat = blockCrc ty 0 bits;
    w84.pins.portsStopped = false ∧ good tyDreq (6 : BitVec 64).toNat ∧ 4 ≤ st ∧ st ≤ 6) := by decide +kernel

theorem witness_RollCallReachesReady_b :
  (let st := w85.reg F.PORT_LINK_STATE (10 : Fin 256); let l := w85.link (10 : Fin 256);
    let good := fun (ty bits : Nat) => (bc tyDresp 0 (170+210*2^64) : BitVec 32).toNat = blockCrc ty 0 bits; w85.pins.portsStopped = false ∧
    good tyDresp ((170 : BitVec 64).toNat + (210 : BitVec 64).toNat * 2 ^ 64) ∧ st = 4 ∧ l.t1.isSome = true ∧ l.exch < 15) ∧
  (let st := w86.reg F.PORT_LINK_STATE (10 : Fin 256); let l := w86.link (10 : Fin 256);
    let a : Int := ((w86.toll : Int) - l.t1.getD 0) - (((210 : BitVec 64).toNat : Int) - (170 : BitVec 64).toNat);
    let good := fun (ty bits : Nat) => (bc tyDresp 0 (170+210*2^64) : BitVec 32).toNat = blockCrc ty 0 bits; let d := ((l.sum + a + 1) / 2).toNat;
    w86.pins.portsStopped = false ∧ good tyDresp ((170 : BitVec 64).toNat + (210 : BitVec 64).toNat * 2 ^ 64) ∧ st = 4 ∧ l.t1.isSome = true ∧
    l.exch = 15 ∧ l.gotReady = false ∧ w86.wiring (10 : Fin 256) (l.ident.getD 0) = 0 ∧ d ≤ 40000) := by decide +kernel

theorem witness_RollCallReachesReady_c :
  (let st := w87.reg F.PORT_LINK_STATE (10 : Fin 256); let l := w87.link (10 : Fin 256);
    let a : Int := ((w87.toll : Int) - l.t1.getD 0) - (((210 : BitVec 64).toNat : Int) - (170 : BitVec 64).toNat);
    let good := fun (ty bits : Nat) => (bc tyDresp 0 (170+210*2^64) : BitVec 32).toNat = blockCrc ty 0 bits; let d := ((l.sum + a + 1) / 2).toNat;
    w87.pins.portsStopped = false ∧ good tyDresp ((170 : BitVec 64).toNat + (210 : BitVec 64).toNat * 2 ^ 64) ∧ st = 4 ∧ l.t1.isSome = true ∧
    l.exch = 15 ∧ 40000 < d) ∧
  (let st := w85.reg F.PORT_LINK_STATE (10 : Fin 256); let l := w85.link (10 : Fin 256); w85.pins.portsStopped = false ∧ st = 4 ∧ l.t1 = some 100 ∧
    100 + 3277 < 2 ^ 64) ∧
  (let st := w84.reg F.PORT_LINK_STATE (10 : Fin 256); let l := w84.link (10 : Fin 256);
    let good := fun (ty bits : Nat) => (bc tyReady 0 0 : BitVec 32).toNat = blockCrc ty 0 bits; w84.pins.portsStopped = false ∧ good tyReady 0 ∧
    3 ≤ st ∧ st ≤ 5 ∧ (st = 5 → l.sentReady = false)) ∧
  (let st := w88.reg F.PORT_LINK_STATE (10 : Fin 256); let l := w88.link (10 : Fin 256);
    let good := fun (ty bits : Nat) => (bc tyReady 0 0 : BitVec 32).toNat = blockCrc ty 0 bits; w88.pins.portsStopped = false ∧ good tyReady 0 ∧
    st = 5 ∧ l.sentReady = true) := by decide +kernel

theorem witness_RetryCreditAndBadBlocks_1_a :
  (let l := w89.link (10 : Fin 256); w89.reg F.PORT_LINK_STATE (10 : Fin 256) = 6 ∧ w89.pins.portsStopped = false ∧
    (bc tyAck 0 (5 + 3*2^32 + 0) : BitVec 32).toNat = blockCrc tyAck 0 ((5 : BitVec 32).toNat + (3 : BitVec 8).toNat * 2 ^ 32) ∧
    l.replay.length ≤ 1024 ∧ l.waitq = []) ∧
  (let l := w90.link (10 : Fin 256); w90.reg F.PORT_LINK_STATE (10 : Fin 256) = 6 ∧ w90.pins.portsStopped = false ∧
    (bc tyAck 0 (5 + 3*2^32 + 2^41) : BitVec 32).toNat = blockCrc tyAck 0 ((5 : BitVec 32).toNat + (3 : BitVec 8).toNat * 2 ^ 32 + 2 ^ 41) ∧
    l.replay.length ≤ 1024 ∧ l.waitq = [] ∧ l.blocks = [(3, 0x20, 9)] ∧ seqBelow 256 3 (3 : BitVec 8).toNat = false) ∧
  (let l := w91.link (10 : Fin 256); let n := (if l.nakInt = w91.toll / 2 ^ 28 then l.naks else 0) + 1;
    w91.reg F.PORT_LINK_STATE (10 : Fin 256) = 6 ∧ w91.pins.portsStopped = false ∧
    (bc tyAck 0 (5 + 3*2^32 + 2^40) : BitVec 32).toNat = blockCrc tyAck 0 ((5 : BitVec 32).toNat + (3 : BitVec 8).toNat * 2 ^ 32 + 2 ^ 40) ∧
    l.replay.length ≤ 1024 ∧ l.blocks = [] ∧ l.waitq = [] ∧ l.lastNak ≠ some (5 : BitVec 32).toNat ∧
    n ≤ w91.reg F.PORT_CFG_RETRY_LIMIT ((10 : Fin 256).val / 2)) := by decide +kernel

theorem witness_RetryCreditAndBadBlocks_1_b :
  (let l := w92.link (10 : Fin 256); let n := (if l.nakInt = w92.toll / 2 ^ 28 then l.naks else 0) + 1;
    w92.reg F.PORT_LINK_STATE (10 : Fin 256) = 6 ∧ w92.pins.portsStopped = false ∧
    (bc tyAck 0 (5 + 3*2^32 + 2^40) : BitVec 32).toNat = blockCrc tyAck 0 ((5 : BitVec 32).toNat + (3 : BitVec 8).toNat * 2 ^ 32 + 2 ^ 40) ∧
    l.lastNak ≠ some (5 : BitVec 32).toNat ∧ w92.reg F.PORT_CFG_RETRY_LIMIT ((10 : Fin 256).val / 2) < n) ∧
  (let l := w89.link (10 : Fin 256); w89.reg F.PORT_LINK_STATE (10 : Fin 256) = 6 ∧ w89.pins.portsStopped = false ∧
    (bc tyReplay 0 5 : BitVec 32).toNat = blockCrc tyReplay 0 (5 : BitVec 32).toNat ∧ (5 : BitVec 32).toNat = l.lnext) ∧
  (let l := w93.link (10 : Fin 256); w93.reg F.PORT_LINK_STATE (10 : Fin 256) = 6 ∧ w93.pins.portsStopped = false ∧
    (bc tyCredit 3 (creditBody 1 2 3 4) : BitVec 32).toNat = blockCrc tyCredit (3 : BitVec 8).toNat (creditBody (1 : BitVec 16).toNat (2 : BitVec 16).toNat (3 : BitVec 16).toNat (4 : BitVec 16).toNat) ∧
    (3 : BitVec 8).toNat = l.cnext ∧ l.credit = [0, 5, 0, 7]) ∧
  (w89.reg F.PORT_LINK_STATE (10 : Fin 256) = 6 ∧ w89.pins.portsStopped = false) ∧
  (w89.reg F.PORT_LINK_STATE (10 : Fin 256) = 6 ∧ w89.pins.portsStopped = false ∧ (1 : BitVec 16) ≠ 0) := by decide +kernel

theorem witness_AcvelLinkComesUpAndRetries_a :
  (let st := w95.reg F.ACV_LINK_STATE; st < 2) ∧
  (let st := w97.reg F.ACV_LINK_STATE; 2 ≤ st) ∧
  (let st := w99.reg F.ACV_LINK_STATE; let l := w99.acv; st = 3 ∧ l.hello = none) ∧
  (let st := w95.reg F.ACV_LINK_STATE; st ≠ 3) ∧
  (let st := w95.reg F.ACV_LINK_STATE; let h := (0 : BitVec 64).toNat; let good := (fun (ty : Nat) (data : List Byte) => w94.codes = 0 ∧
    lcrcGood w94 ty data = true); st ≠ 3 ∧ good 5 (leBytes 8 h)) ∧
  (let st := w99.reg F.ACV_LINK_STATE; let l := w99.acv; let h := (0x1000100 : BitVec 64).toNat;
    let good := (fun (ty : Nat) (data : List Byte) => w98.codes = 0 ∧ lcrcGood w98 ty data = true); st = 3 ∧ good 5 (leBytes 8 h) ∧
    bitsOf h 10 8 = 1 ∧ bitsOf h 31 24 ≤ 1 ∧ l.sentHello = false) := by decide +kernel

theorem witness_AcvelLinkComesUpAndRetries_b :
  (let st := w100.reg F.ACV_LINK_STATE; let h := (0 : BitVec 64).toNat; let good := (fun (ty : Nat) (data : List Byte) => w96.codes = 0 ∧
    lcrcGood w96 ty data = true); st ≠ 4 ∧ (¬good 5 (leBytes 8 h))) ∧
  (let st := w102.reg F.ACV_LINK_STATE; let l := w102.acv; let h := (0x1000900 : BitVec 64).toNat;
    let good := (fun (ty : Nat) (data : List Byte) => w101.codes = 0 ∧ lcrcGood w101 ty data = true); st = 3 ∧ good 5 (leBytes 8 h) ∧
    bitsOf h 10 8 = 1 ∧ bitsOf h 31 24 ≤ 1 ∧ l.sentHello = true ∧ (l.fresh = true ∨ h.testBit 11 = true) ∧ l.reads = []) ∧
  (let st := w95.reg F.ACV_LINK_STATE; let l := w95.acv; 1 ≤ st ∧ st ≤ 3 ∧ l.since + 2500000 < 2 ^ 64) ∧
  (let st := w104.reg F.ACV_LINK_STATE; let l := w104.acv; let good := (fun (ty : Nat) (data : List Byte) => w103.codes = 0 ∧
    lcrcGood w103 ty data = true); let n := (w103.lseq.toNat + 4096 - pk.lseq) % 4096; st = 4 ∧ l.unacked = pk :: ([] : List AcvPkt) ∧
    pk.lseq < 4096 ∧ l.sent = ([] : List AcvPkt).length + 1 ∧ ([] : List AcvPkt).length < 2048 ∧ good 3 [] ∧ 0 < n ∧ n ≤ l.sent) := by decide +kernel

theorem witness_AcvelLinkComesUpAndRetries_c :
  (let st := w106.reg F.ACV_LINK_STATE; let l := w106.acv; let good := (fun (ty : Nat) (data : List Byte) => w105.codes = 0 ∧
    lcrcGood w105 ty data = true); let n := (w105.lseq.toNat + 4096 - pk.lseq) % 4096; st = 4 ∧
    l.unacked = pk :: ([{pk with lseq := 6}] : List AcvPkt) ∧ pk.lseq < 4096 ∧ l.sent = ([{pk with lseq := 6}] : List AcvPkt).length + 1 ∧
    ([{pk with lseq := 6}] : List AcvPkt).length < 2048 ∧ good 4 [] ∧ n = 0 ∧ (∀ y_0 ∈ l.tries, y_0.1 < 4)) ∧
  (let st := w107.reg F.ACV_LINK_STATE; let l := w107.acv; let good := (fun (ty : Nat) (data : List Byte) => w105.codes = 0 ∧
    lcrcGood w105 ty data = true); let n := (w105.lseq.toNat + 4096 - pk.lseq) % 4096; st = 4 ∧
    l.unacked = pk :: ([{pk with lseq := 6}] : List AcvPkt) ∧ pk.lseq < 4096 ∧ l.sent = ([{pk with lseq := 6}] : List AcvPkt).length + 1 ∧
    ([{pk with lseq := 6}] : List AcvPkt).length < 2048 ∧ good 4 [] ∧ n = 0 ∧ (∃ y_0 ∈ l.tries, 4 ≤ y_0.1)) ∧
  (let st := w104.reg F.ACV_LINK_STATE; let l := w104.acv; st = 4 ∧ l.unacked = pk :: ([] : List AcvPkt) ∧ pk.lseq < 4096 ∧
    l.sent = ([] : List AcvPkt).length + 1 ∧ ([] : List AcvPkt).length < 2048 ∧ l.tries = ((1,50) : Nat × Nat) :: ([] : List (Nat × Nat)) ∧
    ((1,50) : Nat × Nat).2 + 25000 < 2 ^ 64 ∧ (∀ z ∈ l.tries, z.1 < 4)) := by decide +kernel

theorem witness_AcvelLinkComesUpAndRetries_d :
  let l := w108.acv; l.reads = [rd] ∧ rd.tag = (7 : BitVec 8).toNat ∧ rd.sent + 250000 < 2 ^ 64 := by decide +kernel

theorem witness_AcvelPacketsReadAndWrite_a :
  (let l := w110.acv; w110.reg F.ACV_LINK_STATE = 4 ∧ w110.soft = [] ∧ w109.codes = 0 ∧ w109.room = true ∧ w109.lseq.toNat = l.lnext ∧ l.held ≠ []) ∧
  (let a := w111.addr.toNat; let l := w112.acv; w112.reg F.ACV_LINK_STATE = 4 ∧ w112.soft = [] ∧ w111.codes = 0 ∧ w111.room = true ∧
    w111.lseq.toNat = l.lnext ∧ l.held = [] ∧ lcrcGood w111 1 ([1,2,3,4,5,6,7,8] : List Byte) = true ∧ inChime a = true ∧
    w112.chimeShut (a - chimeBase) (([1,2,3,4,5,6,7,8] : List Byte).length / 8) = true) ∧
  (let a := w109.addr.toNat; let n := w109.rlen.toNat; let l := w113.acv; w113.reg F.ACV_LINK_STATE = 4 ∧ w113.soft = [] ∧ w109.codes = 0 ∧
    w109.room = true ∧ w109.lseq.toNat = l.lnext ∧ l.held = [] ∧ lcrcGood w109 0 [] = true ∧ a % 8 = 0 ∧ n % 8 = 0 ∧ 0 < n ∧ a % 4096 + n ≤ 4096 ∧
    w113.readCode .host a n = 0 ∧ wordOnly a = false ∧ w113.poisonRead a n = none ∧ (span a n).any inBushel = false ∧ l.unacked = [] ∧ l.tries = []) ∧
  (let a := w114.addr.toNat; let n := w114.rlen.toNat; let l := w115.acv; w115.reg F.ACV_LINK_STATE = 4 ∧ w115.soft = [] ∧ w114.codes = 0 ∧
    w114.room = true ∧ w114.lseq.toNat = l.lnext ∧ l.held = [] ∧ lcrcGood w114 0 [] = true ∧ a % 8 = 0 ∧ n % 8 = 0 ∧ 0 < n ∧ a % 4096 + n ≤ 4096 ∧
    w115.readCode .host a n = 0x12 ∧ l.unacked = [] ∧ l.tries = [] ∧ l.lsend < 4096) := by decide +kernel

theorem witness_AcvelPacketsReadAndWrite_b :
  (let a := w116.addr.toNat; let l := w115.acv; w115.reg F.ACV_LINK_STATE = 4 ∧ w115.soft = [] ∧ w116.codes = 0 ∧ w116.room = true ∧
    w116.lseq.toNat = l.lnext ∧ l.held = [] ∧ lcrcGood w116 1 ([1,2,3,4,5,6,7,8] : List Byte) = true ∧ ([1,2,3,4,5,6,7,8] : List Byte) ≠ [] ∧
    w115.hostWriteCode a ([1,2,3,4,5,6,7,8] : List Byte).length = 0 ∧ inChime a = false ∧ inRegSpace a = false ∧
    w115.poisonWrite a ([1,2,3,4,5,6,7,8] : List Byte).length = none ∧ w115.inj.corrupt = []) ∧
  (let a := w117.addr.toNat; let l := w115.acv; w115.reg F.ACV_LINK_STATE = 4 ∧ w115.soft = [] ∧ w117.codes = 0 ∧ w117.room = true ∧
    w117.lseq.toNat = l.lnext ∧ l.held = [] ∧ lcrcGood w117 1 ([1,2,3,4,5,6,7,8] : List Byte) = true ∧ ([1,2,3,4,5,6,7,8] : List Byte) ≠ [] ∧
    w115.hostWriteCode a ([1,2,3,4,5,6,7,8] : List Byte).length ≠ 0 ∧ inChime a = false) ∧
  (let l := w108.acv; w108.reg F.ACV_LINK_STATE = 4 ∧ w108.soft = [] ∧ w118.codes = 0 ∧ w118.room = true ∧ w118.lseq.toNat = l.lnext ∧ l.held = [] ∧
    lcrcGood w118 2 (List.replicate 256 1 : List Byte) = true ∧ l.reads = [rd] ∧ rd.tag = w118.tag.toNat ∧ w118.status = 0 ∧ rd.ring < 16 ∧
    rd.got.length < rd.len ∧ rd.len ≤ (rd.got ++ (List.replicate 256 1 : List Byte)).length) ∧
  (w113.reg F.ACV_LINK_STATE = 4 ∧ w113.soft = []) := by decide +kernel

theorem witness_PlainDescriptorsComplete_a :
  (w120.soft = [] ∧ descOf (.nop {d0 with fence := true} : Instr) = some w119 ∧ w120.ringOpen w119.ring.val w119.fence = false) ∧
  (w121.soft = [] ∧ descOf (.copyIn d0 0x1000 0x9000000100 64 none : Instr) = some d0 ∧ d0.fence = false ∧ w121.ringOpen d0.ring.val false = true ∧
    w121.held d0.ring.val = [(⟨2,7,descB,100⟩ : Fetched)] ∧ (∀ m < d0.ring.val, w121.held m = []) ∧ (⟨2,7,descB,100⟩ : Fetched).names d0 = true ∧
    (⟨2,7,descB,100⟩ : Fetched).since + 8 ≤ w121.toll) ∧
  (w122.soft = [] ∧ w122.ringOpen d0.ring.val d0.fence = true ∧ w122.held d0.ring.val = (⟨2,7,descB,100⟩ : Fetched) :: ([] : List Fetched) ∧
    (∀ m < d0.ring.val, w122.held m = []) ∧ (⟨2,7,descB,100⟩ : Fetched).since + 8 < 2 ^ 64 ∧ (⟨2,7,descB,100⟩ : Fetched).names d0 = true) ∧
  (w123.soft = [] ∧ w123.ringOpen d0.ring.val d0.fence = true ∧ w123.held d0.ring.val = ({fx0 with slot := 8} : Fetched) :: ([fx0] : List Fetched) ∧
    (∀ m < d0.ring.val, w123.held m = []) ∧ ({fx0 with slot := 8} : Fetched).since + 8 < 2 ^ 64 ∧ ({fx0 with slot := 8} : Fetched).names d0 = false) ∧
  (w115.soft = [] ∧ w115.held d0.ring.val = [] ∧ w115.ringOpen d0.ring.val d0.fence = true) ∧
  (let n := (0 : BitVec 64).toNat; w115.soft = [] ∧ w115.held d0.ring.val = [] ∧ w115.ringOpen d0.ring.val d0.fence = true ∧
    w115.reg F.BOOT_STATUS_FAIL = 0 ∧ n = 0) := by decide +kernel

theorem witness_PlainDescriptorsComplete_b :
  (let n := (64 : BitVec 64).toNat; let a := (0x9000000100 : BitVec 64).toNat; w124.soft = [] ∧ w124.held d0.ring.val = [] ∧
    w124.ringOpen d0.ring.val d0.fence = true ∧ w124.reg F.BOOT_STATUS_FAIL = 0 ∧ 0 < n ∧ copyAligned (0x1000 : BitVec 64).toNat a n = true ∧
    w124.hostWriteCode a n = 0 ∧ inChime a = false ∧ inRegSpace a = false ∧ w124.poisonWrite a n = none ∧ w124.inj.corrupt = []) ∧
  (let n := (64 : BitVec 64).toNat; let a := (0x8C00000000 : BitVec 64).toNat; w115.soft = [] ∧ w115.held d0.ring.val = [] ∧
    w115.ringOpen d0.ring.val d0.fence = true ∧ w115.reg F.BOOT_STATUS_FAIL = 0 ∧ 0 < n ∧ copyAligned (0x1000 : BitVec 64).toNat a n = true ∧
    w115.hostWriteCode a n = 0x12) ∧
  (let n := (64 : BitVec 64).toNat; let a := (0x9000000100 : BitVec 64).toNat; w124.soft = [] ∧ w124.held d0.ring.val = [] ∧
    w124.ringOpen d0.ring.val d0.fence = true ∧ w124.reg F.BOOT_STATUS_FAIL = 0 ∧ 0 < n ∧ n ≤ 524288 ∧
    copyAligned (0x1000 : BitVec 64).toNat a n = true ∧ w124.readCode .host a n = 0 ∧ wordOnly a = false ∧ w124.poisonRead a n = none ∧
    (span a n).any inBushel = false ∧ w124.reg F.ACV_LINK_STATE = 4 ∧ w124.acv.unacked = [] ∧ w124.acv.tries = []) := by decide +kernel

theorem witness_PlainDescriptorsComplete_c :
  let n := (64 : BitVec 64).toNat; let a := (0x8C00000000 : BitVec 64).toNat; w115.soft = [] ∧ w115.held d0.ring.val = [] ∧
    w115.ringOpen d0.ring.val d0.fence = true ∧ w115.reg F.BOOT_STATUS_FAIL = 0 ∧ 0 < n ∧ copyAligned (0x1000 : BitVec 64).toNat a n = true ∧
    w115.readCode .host a n = 0x12 := by decide +kernel

theorem witness_RingsPollFetchAndComplete_a :
  (w125.reg F.ACV_LIVE_LIVE = 1) ∧
  (w115.reg F.ACV_LIVE_LIVE = 0 ∧ w115.reg F.ACV_DOORBELL_BASE = 0) ∧
  (let flog := w126.reg F.ACV_FRING_FLOG2; w126.reg F.ACV_LIVE_LIVE = 0 ∧ w126.reg F.ACV_DOORBELL_BASE ≠ 0 ∧ w126.reg F.ACV_SQ_EN (3 : Fin 16) = 1 ∧
    (∀ n < 16, w126.reg F.ACV_SQ_EN n = 1 → 4 ≤ w126.reg F.ACV_SQ_LOG2 n ∧ w126.reg F.ACV_SQ_LOG2 n ≤ 12) ∧ w126.reg F.ACV_CFG_DESC_VER = 0x100 ∧
    6 ≤ flog ∧ flog ≤ 16) ∧
  (let up := (w115.reg F.ACV_LIVE_LIVE = 1 ∧ w115.reg F.ACV_LINK_STATE = 4); (¬up)) ∧
  (let l := w125.acv; let up := (w125.reg F.ACV_LIVE_LIVE = 1 ∧ w125.reg F.ACV_LINK_STATE = 4); let free := (l.unacked = [] ∧ l.tries = []); up ∧
    free ∧ l.reads = [] ∧ l.nextPoll < 2 ^ 64) ∧
  (let l := w127.acv; let up := (w127.reg F.ACV_LIVE_LIVE = 1 ∧ w127.reg F.ACV_LINK_STATE = 4); up ∧ l.nextPoll < 2 ^ 64 ∧
    ({rd with ring := 16} : HostRead) ∈ l.reads ∧ ({rd with ring := 16} : HostRead).ring = 16) := by decide +kernel

theorem witness_RingsPollFetchAndComplete_b :
  (let l := w127.acv; l.reads = [({rd with ring := 16} : HostRead)] ∧ ({rd with ring := 16} : HostRead).ring = 16) ∧
  (let l := w127.acv; let cons := w127.reg F.ACV_RCONS_CONS (3 : Fin 16); let size := 2 ^ w127.reg F.ACV_SQ_LOG2 (3 : Fin 16);
    let ahead := ((([0,0,0,5] : List (BitVec 64)).getD (3 : Fin 16).val 0).toNat % 2 ^ 32 + 2 ^ 32 - cons) % 2 ^ 32;
    l.reads = [({rd with ring := 16} : HostRead)] ∧ ({rd with ring := 16} : HostRead).ring = 16 ∧
    (∀ n < 16, n ≠ (3 : Fin 16).val → w127.reg F.ACV_SQ_EN n = 0) ∧ w127.reg F.ACV_SQ_EN (3 : Fin 16) = 1 ∧
    w127.reg F.ACV_RSTAT_STOPPED (3 : Fin 16) = 0 ∧ 0 < ahead ∧ ahead ≤ 16 ∧ ahead ≤ 64 - w127.reg F.ACV_RSTAT_INFLIGHT (3 : Fin 16) ∧
    cons % size + ahead ≤ size) ∧
  (let l := w127.acv; let cons := w127.reg F.ACV_RCONS_CONS (3 : Fin 16); let size := 2 ^ w127.reg F.ACV_SQ_LOG2 (3 : Fin 16);
    let ahead := ((([0,0,0,65] : List (BitVec 64)).getD (3 : Fin 16).val 0).toNat % 2 ^ 32 + 2 ^ 32 - cons) % 2 ^ 32;
    l.reads = [({rd with ring := 16} : HostRead)] ∧ ({rd with ring := 16} : HostRead).ring = 16 ∧
    (∀ n < 16, n ≠ (3 : Fin 16).val → w127.reg F.ACV_SQ_EN n = 0) ∧ w127.reg F.ACV_SQ_EN (3 : Fin 16) = 1 ∧
    w127.reg F.ACV_RSTAT_STOPPED (3 : Fin 16) = 0 ∧ size < ahead) := by decide +kernel

theorem witness_RingsPollFetchAndComplete_c :
  (let l := w128.acv; let up := (w128.reg F.ACV_LIVE_LIVE = 1 ∧ w128.reg F.ACV_LINK_STATE = 4); let free := (l.unacked = [] ∧ l.tries = []);
    let k := w128.reg F.ACV_RCONS_WRITTEN (3 : Fin 16); let log := w128.reg F.ACV_SQ_LOG2 (3 : Fin 16);
    let used := (k + 2 ^ 32 - l.bell.getD (3 : Fin 16).val 0 / 2 ^ 32) % 2 ^ 32; up ∧ w128.comps = cp :: ([] : List Comp) ∧
    cp.ring = (3 : Fin 16).val ∧ used < 2 ^ log ∧ free) ∧
  (let l := w129.acv; let up := (w129.reg F.ACV_LIVE_LIVE = 1 ∧ w129.reg F.ACV_LINK_STATE = 4); let k := w129.reg F.ACV_RCONS_WRITTEN (3 : Fin 16);
    let log := w129.reg F.ACV_SQ_LOG2 (3 : Fin 16); let used := (k + 2 ^ 32 - l.bell.getD (3 : Fin 16).val 0 / 2 ^ 32) % 2 ^ 32; up ∧
    w129.comps = cp :: ([] : List Comp) ∧ cp.ring = (3 : Fin 16).val ∧ 2 ^ log ≤ used) ∧
  (w130.faults.hub = mrep :: ([] : List Rep) ∧ mrep.msg.cls < 2 ∧ outcomeOf mrep.msg.kind = 0 ∧ w130.reg F.ACV_LIVE_LIVE = 0) ∧
  (let l := w131.acv; let up := (w131.reg F.ACV_LIVE_LIVE = 1 ∧ w131.reg F.ACV_LINK_STATE = 4); let free := (l.unacked = [] ∧ l.tries = []);
    let fk := w131.faults.written; let flog := w131.reg F.ACV_FRING_FLOG2; w131.faults.hub = mrep :: ([] : List Rep) ∧ mrep.msg.cls < 2 ∧
    outcomeOf mrep.msg.kind = 0 ∧ up ∧ free ∧ w131.faults.waiting = [] ∧ (fk + 2 ^ 32 - w131.faults.fcons) % 2 ^ 32 < 2 ^ flog) := by decide +kernel

theorem witness_RingsPollFetchAndComplete_d :
  (let l := w132.acv; let up := (w132.reg F.ACV_LIVE_LIVE = 1 ∧ w132.reg F.ACV_LINK_STATE = 4); let free := (l.unacked = [] ∧ l.tries = []);
    let fk := w132.faults.written; let flog := w132.reg F.ACV_FRING_FLOG2; up ∧ w132.faults.hub = [] ∧
    w132.faults.waiting = [(List.replicate 512 7 : List Byte)] ∧ free ∧ (fk + 7 + 2 ^ 32 - w132.faults.fcons) % 2 ^ 32 < 2 ^ flog) ∧
  (let up := (w133.reg F.ACV_LIVE_LIVE = 1 ∧ w133.reg F.ACV_LINK_STATE = 4); let fk := w133.faults.written; let flog := w133.reg F.ACV_FRING_FLOG2;
    up ∧ w133.faults.hub = [] ∧ w133.faults.waiting = [(List.replicate 512 7 : List Byte)] ∧
    2 ^ flog ≤ (fk + 7 + 2 ^ 32 - w133.faults.fcons) % 2 ^ 32) := by decide +kernel

theorem witness_ScoresLoadLaunchAndPause_a :
  (w134.score.load = some load0 ∧ w134.probe.joined = false ∧ load0.writing = false ∧ w134.reg F.ROUTE_BANK_STATE ≠ 2 ∧
    load0.period < 2 * w134.reg F.GONG_LAT_MEAS_CK) ∧
  (w135.score.load = some load0 ∧ w135.probe.joined = false ∧ load0.writing = false ∧ w135.reg F.ROUTE_BANK_STATE ≠ 2 ∧ w135.beatCode load0 = 0 ∧
    w135.route.wave = none ∧ w135.route.drain = none ∧ w135.route.requests = []) ∧
  (w136.accepts d0 ∧ w136.reg F.BOOT_STATUS_FAIL = 0 ∧ (0 : BitVec 64) = 0) ∧
  (let st := w137.reg F.SEQ_SCORE_STATE; w137.accepts d0 ∧ w137.reg F.BOOT_STATUS_FAIL = 0 ∧ (300 : BitVec 64) ≠ 0 ∧ st ∉ [0, 2, 5, 6, 7]) ∧
  (let st := State.reset.reg F.SEQ_SCORE_STATE; let idle := (State.reset.ckpt.op = none ∧ st ∈ [0, 2, 5, 6, 7] ∧ State.reset.score.pause = none);
    State.reset.accepts d0 ∧ State.reset.reg F.BOOT_STATUS_FAIL = 0 ∧ idle ∧ (256 : BitVec 64) ≠ 0 ∧ false = false) ∧
  (let f := w136.fetchScore (0x10000 : BitVec 64).toNat; w136.accepts d0 ∧ w136.reg F.BOOT_STATUS_FAIL = 0 ∧ f.hdr.take 8 ≠ ascii "UN9SCORE") := by decide +kernel

theorem witness_ScoresLoadLaunchAndPause_b :
  (let st := State.reset.reg F.SEQ_SCORE_STATE; let idle := (State.reset.ckpt.op = none ∧ st ∈ [0, 2, 5, 6, 7] ∧ State.reset.score.pause = none);
    State.reset.accepts d0 ∧ State.reset.reg F.BOOT_STATUS_FAIL = 0 ∧ idle ∧ (256 : BitVec 64) ≠ 0 ∧ true = true) ∧
  (w134.accepts d0 ∧ w134.reg F.BOOT_STATUS_FAIL = 0 ∧ w134.launchCode (30000 : BitVec 64).toNat (4 : BitVec 48).toNat = 0) ∧
  (loadedS.accepts d0 ∧ loadedS.reg F.BOOT_STATUS_FAIL = 0 ∧ 0x50 = loadedS.launchCode (100 : BitVec 64).toNat (4 : BitVec 48).toNat ∧ 0x50 ≠ 0) ∧
  (let st := w136.reg F.SEQ_SCORE_STATE; w136.accepts d0 ∧ w136.reg F.BOOT_STATUS_FAIL = 0 ∧ w136.reg F.BOOT_UPDATE_STATE ≠ 4 ∧
    w136.ckpt.op = none ∧ (w136.score.cur = none ∨ st ∉ [2, 5, 6, 7])) ∧
  (let st := loadedS.reg F.SEQ_SCORE_STATE; loadedS.accepts d0 ∧ loadedS.reg F.BOOT_STATUS_FAIL = 0 ∧ loadedS.reg F.BOOT_UPDATE_STATE ≠ 4 ∧
    loadedS.ckpt.op = none ∧ loadedS.score.cur = some q0 ∧ st ∈ [2, 5, 6, 7] ∧ q0.beats ≠ 0 ∧ q0.beats < (11 : BitVec 48).toNat) ∧
  (let st := w137.reg F.SEQ_SCORE_STATE; w137.accepts d0 ∧ w137.reg F.BOOT_STATUS_FAIL = 0 ∧ w137.score.cur = some q0 ∧ st = 3 ∧
    w137.score.pause = none ∧ w137.pauseBase + 2 ≤ (10 : BitVec 48).toNat ∧ (q0.beats = 0 ∨ (10 : BitVec 48).toNat ≤ q0.beats)) := by decide +kernel

theorem witness_ScoresLoadLaunchAndPause_c :
  let st := w136.reg F.SEQ_SCORE_STATE; w136.accepts d0 ∧ w136.reg F.BOOT_STATUS_FAIL = 0 ∧ (st ≠ 3 ∨ (4 : BitVec 48).toNat < w136.pauseBase + 2) := by decide +kernel

theorem witness_CollectivesOpenAndEnd_a :
  (let e := Grp.mk (BitVec.ofNat 64 (2^12+3) : BitVec 64).toNat (bitsOf (0 : BitVec 64).toNat 39 0) (bitsOf (BitVec.ofNat 64 (5*2^40) : BitVec 64).toNat 39 0) 0;
    gs.accepts d0 ∧ gs.reg F.BOOT_STATUS_FAIL = 0 ∧ (BitVec.ofNat 64 (2^12+3) : BitVec 64).toNat.testBit 17 = false ∧
    gs.groupBad (bitsOf (BitVec.ofNat 64 (2^12+3) : BitVec 64).toNat 16 12) e.origin e.extent = true) ∧
  (let h := bitsOf (BitVec.ofNat 64 (2^12+3) : BitVec 64).toNat 11 0;
    let e := Grp.mk (BitVec.ofNat 64 (2^12+3) : BitVec 64).toNat (bitsOf (0 : BitVec 64).toNat 39 0) (bitsOf w138.toNat 39 0) 0; w139.accepts d0 ∧
    w139.reg F.BOOT_STATUS_FAIL = 0 ∧ (BitVec.ofNat 64 (2^12+3) : BitVec 64).toNat.testBit 17 = false ∧
    w139.groupBad (bitsOf (BitVec.ofNat 64 (2^12+3) : BitVec 64).toNat 16 12) e.origin e.extent = false ∧ (w139.group h).isSome = true ∧
    w139.groupBusy h = true) ∧
  (let h := bitsOf (BitVec.ofNat 64 (2^12+3) : BitVec 64).toNat 11 0;
    let e := Grp.mk (BitVec.ofNat 64 (2^12+3) : BitVec 64).toNat (bitsOf (0 : BitVec 64).toNat 39 0) (bitsOf w138.toNat 39 0) 0; gs.accepts d0 ∧
    gs.reg F.BOOT_STATUS_FAIL = 0 ∧ (BitVec.ofNat 64 (2^12+3) : BitVec 64).toNat.testBit 17 = false ∧
    gs.groupBad (bitsOf (BitVec.ofNat 64 (2^12+3) : BitVec 64).toNat 16 12) e.origin e.extent = false ∧ gs.groupBusy h = false) := by decide +kernel

theorem witness_CollectivesOpenAndEnd_b :
  (let h := bitsOf (BitVec.ofNat 64 (2^17+3) : BitVec 64).toNat 11 0; gs.accepts d0 ∧ gs.reg F.BOOT_STATUS_FAIL = 0 ∧
    (BitVec.ofNat 64 (2^17+3) : BitVec 64).toNat.testBit 17 = true ∧ gs.groupBusy h = false) ∧
  (let a := collArgs (((cws 0 0).set 0 4 : List (BitVec 64)).map BitVec.toNat); gs.accepts d0 ∧ gs.reg F.BOOT_STATUS_FAIL = 0 ∧
    gs.group a.group = none) ∧
  (let a := collArgs ((cws 0 0 : List (BitVec 64)).map BitVec.toNat); w140.accepts d0 ∧ w140.reg F.BOOT_STATUS_FAIL = 0 ∧
    w140.group a.group = some grp4 ∧ w140.scoreNames a.group = true) ∧
  (let a := collArgs (((cws 0 0).set 0 3 : List (BitVec 64)).map BitVec.toNat); gs.accepts d0 ∧ gs.reg F.BOOT_STATUS_FAIL = 0 ∧
    gs.group a.group = some grp4 ∧ gs.scoreNames a.group = false ∧
    (grpDeviceMember grp4 = true ∨ a.paths = 0 ∨ a.rm = 3 ∨ a.dkind = 3 ∨ grpSize grp4 ≤ a.rootRank)) ∧
  (let a := collArgs ((cws 0 0 : List (BitVec 64)).map BitVec.toNat); gs.accepts d0 ∧ gs.reg F.BOOT_STATUS_FAIL = 0 ∧ gs.group a.group = some grp4 ∧
    gs.collCode a = 0 ∧ a.op ≠ 7 ∧ a.elems = 0) := by decide +kernel

theorem witness_CollectivesOpenAndEnd_c :
  (let a := collArgs ((cws 100 0 : List (BitVec 64)).map BitVec.toNat); gs.accepts d0 ∧ gs.reg F.BOOT_STATUS_FAIL = 0 ∧
    gs.group a.group = some grp4 ∧ gs.collCode a = 0 ∧ (a.op = 7 ∨ a.elems ≠ 0) ∧ gs.stripes a = 1 ∧ gs.colls = [] ∧ gs.parked = [] ∧
    (gs.freeRuns (a.cluster 0)).find? (fun y => decide (pecksOf a.w a.levels a.cfmt ≤ y.2)) = some ((0,512) : Nat × Nat) ∧
    gs.freeRecord (a.cluster 0) = some 0 ∧ pecksOf a.w a.levels a.cfmt ≤ 512) ∧
  (let a := collArgs ((cws 100 0 : List (BitVec 64)).map BitVec.toNat); full64.accepts d0 ∧ full64.reg F.BOOT_STATUS_FAIL = 0 ∧
    full64.group a.group = some grp4 ∧ full64.collCode a = 0 ∧ (a.op = 7 ∨ a.elems ≠ 0) ∧ full64.stripes a = 1 ∧ full64.colls = [] ∧
    full64.parked = [] ∧ full64.freeRecord (a.cluster 0) = none ∧ a.fallback = false) ∧
  (w139.accepts d0 ∧ w139.reg F.BOOT_STATUS_FAIL = 0 ∧ w139.colls = [coll0] ∧ coll0.mode = 0 ∧ coll0.recs.length = coll0.live.length ∧
    coll0.group = (3 : BitVec 12).toNat ∧ coll0.seq = (9 : BitVec 16).toNat) ∧
  (gs.accepts d0 ∧ gs.reg F.BOOT_STATUS_FAIL = 0 ∧ gs.colls = []) := by decide +kernel

theorem witness_RouteImagesPrepareAndSwap_a :
  (leafS.accepts d0 ∧ leafS.reg F.BOOT_STATUS_FAIL = 0 ∧ (0 : BitVec 64) = 0) ∧
  (leafS.accepts d0 ∧ leafS.reg F.BOOT_STATUS_FAIL = 0 ∧ (64 : BitVec 64) ≠ 0) ∧
  (let l := leafS.hostBytes (0x1000 : BitVec 64).toNat (64 : BitVec 64).toNat; leafS.accepts d0 ∧ leafS.reg F.BOOT_STATUS_FAIL = 0 ∧
    (64 : BitVec 64) ≠ 0 ∧ leafS.reg F.ROUTE_BANK_STATE ≠ 2 ∧ leafS.imageBad (leafS.reg F.SEQ_SCORE_STATE) l = true) ∧
  (let l := leafS.hostBytes (0x1000 : BitVec 64).toNat (64 : BitVec 64).toNat; leafS.accepts d0 ∧ leafS.reg F.BOOT_STATUS_FAIL = 0 ∧
    (64 : BitVec 64) ≠ 0 ∧ leafS.reg F.ROUTE_BANK_STATE ≠ 2 ∧ (imgNat l 0 2 ≠ 0x0100 ∨ 1023 < imgAcre l)) ∧
  (let l := w141.hostBytes (0x1000 : BitVec 64).toNat (64 : BitVec 64).toNat; w141.accepts d0 ∧ w141.reg F.BOOT_STATUS_FAIL = 0 ∧
    (64 : BitVec 64) ≠ 0 ∧ w141.reg F.ROUTE_BANK_STATE ≠ 2 ∧ w141.imageBad (w141.reg F.SEQ_SCORE_STATE) l = false) ∧
  (leafS.accepts d0 ∧ leafS.reg F.BOOT_STATUS_FAIL = 0) := by decide +kernel

theorem witness_RouteImagesPrepareAndSwap_b :
  State.reset.accepts d0 ∧ State.reset.reg F.BOOT_STATUS_FAIL = 0 ∧ (∀ k < 256, State.reset.reg F.PORT_LINK_STATE k = 0) ∧
    State.reset.reg F.SEQ_SCORE_STATE = 0 ∧ State.reset.route.bank0.nbr = State.reset.route.bank1.nbr := by decide +kernel

theorem witness_CheckpointsSaveAndRestore_a :
  (let st := State.reset.reg F.SEQ_SCORE_STATE; State.reset.accepts d0 ∧ State.reset.reg F.BOOT_STATUS_FAIL = 0 ∧ st ∉ [5, 6, 7]) ∧
  (w142.accepts d0 ∧ w142.reg F.BOOT_STATUS_FAIL = 0 ∧ w142.maySave = true ∧ w142.drives = 0) ∧
  (w143.accepts d0 ∧ w143.reg F.BOOT_STATUS_FAIL = 0 ∧ w143.maySave = true ∧ w143.drives ≠ 0 ∧ w143.imagePoison = none) ∧
  (w142.accepts d0 ∧ w142.reg F.BOOT_STATUS_FAIL = 0 ∧ w142.maySave = true ∧ w142.imagePoison = none) ∧
  (State.reset.accepts d0 ∧ State.reset.reg F.BOOT_STATUS_FAIL = 0 ∧ State.reset.mayRestore = false) ∧
  (let w := fun i => (([0,5,100] : List (BitVec 64)).getD i 0).toNat; State.reset.accepts d0 ∧ State.reset.reg F.BOOT_STATUS_FAIL = 0 ∧
    State.reset.mayRestore = false ∧ w 0 % 4 < 2) := by decide +kernel

theorem witness_CheckpointsSaveAndRestore_b :
  (w142.accepts d0 ∧ w142.reg F.BOOT_STATUS_FAIL = 0 ∧ w142.mayRestore = true ∧ w142.drives = 0) ∧
  (w143.accepts d0 ∧ w143.reg F.BOOT_STATUS_FAIL = 0 ∧ w143.mayRestore = true ∧ w143.drives ≠ 0) ∧
  (let w := fun i => (([0,5,100] : List (BitVec 64)).getD i 0).toNat; w142.accepts d0 ∧ w142.reg F.BOOT_STATUS_FAIL = 0 ∧ w142.mayRestore = true ∧
    w 0 % 4 = 0) ∧
  (let w := fun i => (([0,5,0] : List (BitVec 64)).getD i 0).toNat; w142.accepts d0 ∧ w142.reg F.BOOT_STATUS_FAIL = 0 ∧ w 2 % 2 ^ 48 = 0) ∧
  (let st := State.reset.reg F.SEQ_SCORE_STATE; let w := fun i => (([0,5,100] : List (BitVec 64)).getD i 0).toNat; State.reset.accepts d0 ∧
    State.reset.reg F.BOOT_STATUS_FAIL = 0 ∧ w 2 % 2 ^ 48 ≠ 0 ∧ State.reset.ckpt.op = none ∧ st ∉ [1, 3, 4] ∧ State.reset.reg F.OPT_HOLD_CFG_HOLD = 0) ∧
  (let st := w143.reg F.SEQ_SCORE_STATE; let w := fun i => (([0,5,128] : List (BitVec 64)).getD i 0).toNat; let start := w 1 % 2 ^ 48;
    w143.accepts d0 ∧ w143.reg F.BOOT_STATUS_FAIL = 0 ∧ 0 < w 2 % 2 ^ 48 ∧ w 2 % 2 ^ 48 ≤ 448 * 2 ^ 30 ∧ w143.ckpt.op = none ∧ st ∉ [1, 3, 4] ∧
    w143.reg F.OPT_HOLD_CFG_HOLD = 1 ∧ w143.reg F.OPT_MIRROR_BEAT_VALID = 1 ∧ w143.reg F.OPT_MIRROR_BEAT_BEAT = (start + 2 ^ 48 - 1) % 2 ^ 48 ∧
    w143.reg F.CKPT_STATUS_MIRROR_POISON = 0 ∧ w143.poison = []) := by decide +kernel

theorem witness_CheckpointsSaveAndRestore_c :
  (State.reset.accepts d0 ∧ State.reset.reg F.BOOT_STATUS_FAIL = 0 ∧ State.reset.ckpt.op = none) ∧
  (State.reset.ckpt.op = none) ∧
  (w144.ckpt.op = some (cop 1 0 : CkptOp) ∧ ((cop 1 0 : CkptOp).op = 1 ∨ (cop 1 0 : CkptOp).op = 2)) ∧
  (w144.ckpt.op = some (cop 1 0 : CkptOp) ∧ (cop 1 0 : CkptOp).op = 1 ∧ (cop 1 0 : CkptOp).pos < segments w144.imageSize) ∧
  (w145.ckpt.op = some (cop 1 4 : CkptOp) ∧ (cop 1 4 : CkptOp).op = 1 ∧ (cop 1 4 : CkptOp).pos = segments w145.imageSize + 3) ∧
  (w146.ckpt.op = some (cop 2 0 : CkptOp) ∧ (cop 2 0 : CkptOp).op = 2 ∧ (cop 2 0 : CkptOp).pos = 0 ∧ w146.slotValid (cop 2 0 : CkptOp).slot = false) := by decide +kernel

theorem witness_CheckpointsSaveAndRestore_d :
  (let off := leNat ((cPay w55).take 8); let n := leNat (((cPay w55).drop 8).take 1); w147.ckpt.op = some (cop 3 0 : CkptOp) ∧
    (cop 3 0 : CkptOp).op = 3 ∧ (cop 3 0 : CkptOp).mode = 0 ∧ (cop 3 0 : CkptOp).source = dSrc w55 ∧ off % 64 = 0 ∧ off < 2 ^ 63 ∧ n = 1 ∧
    pcrcGood w55 = true ∧ (cop 3 0 : CkptOp).headBlocks < 16384 ∧ areaAddr w147.areas off = some 0x9000000080) ∧
  (let off := leNat ((cPay w148).take 8); let n := leNat (((cPay w148).drop 8).take 1); w147.ckpt.op = some (cop 3 0 : CkptOp) ∧
    (cop 3 0 : CkptOp).op = 3 ∧ (cop 3 0 : CkptOp).source = dSrc w148 ∧ (cop 3 0 : CkptOp).mode ≠ 2 ∧ off % 64 = 0 ∧ off < 2 ^ 63 ∧ n = 1 ∧
    pcrcGood w148 = true ∧ areaAddr w147.areas off = none ∧ (w147.faults.die.filter (fun e => decide (e.1 = b2n false))).length < 64) ∧
  (w149.ckpt.op = some ({cop 3 0 with source := 9} : CkptOp) ∧ ({cop 3 0 with source := 9} : CkptOp).op = 3 ∧
    ({cop 3 0 with source := 9} : CkptOp).source ≠ dSrc w55) ∧
  (let due := (cop 3 0 : CkptOp).last + max (w147.reg F.CKPT_CFG_TIMEOUT) 1 * 2 ^ 20; w147.ckpt.op = some (cop 3 0 : CkptOp) ∧
    (cop 3 0 : CkptOp).op = 3 ∧ due < 2 ^ 64) := by decide +kernel

theorem witness_StartsRunTheirSteps_a :
  (State.reset.boot.step ≠ 2) ∧
  (w150.boot.step = 2) ∧
  (State.reset.boot.step ≠ 3) ∧
  (w151.boot.step = 3 ∧ w151.keyErased 0 = false ∧ w151.keyErased 1 = false) ∧
  (State.reset.boot.step ≠ 4) ∧
  (w152.boot.step = 4) := by decide +kernel

theorem witness_StartsRunTheirSteps_b :
  (State.reset.boot.step = 0) ∧
  (w151.boot.step = 3) ∧
  (3 < w152.boot.step) ∧
  ((State.reset.beatU.resetDue = false ∨ State.reset.running = true)) ∧
  (w153.beatU.resetDue = true ∧ w153.running = false) := by decide +kernel

theorem witness_UpdatesStageTryCommitAndRevert_a :
  (let w := fun i => (([0x1000,0] : List (BitVec 64)).getD i 0).toNat; w154.accepts d0 ∧ w 1 = 0) ∧
  (let st := w155.reg F.BOOT_UPDATE_STATE; let w := fun i => (([0x1000,64] : List (BitVec 64)).getD i 0).toNat; w155.accepts d0 ∧ w 1 ≠ 0 ∧ st ≠ 0 ∧
    st ≠ 2) ∧
  (let st := w156.reg F.BOOT_UPDATE_STATE; let w := fun i => (([0x1000,0x3F000001] : List (BitVec 64)).getD i 0).toNat; w156.accepts d0 ∧ w 1 ≠ 0 ∧
    (st = 0 ∨ st = 2) ∧ 0x3F000000 < w 1) ∧
  (let st := w156.reg F.BOOT_UPDATE_STATE; let w := fun i => (([0x1000,64] : List (BitVec 64)).getD i 0).toNat; w156.accepts d0 ∧ w 1 ≠ 0 ∧
    (st = 0 ∨ st = 2) ∧ w 1 ≤ 0x3F000000 ∧ false = false) ∧
  (let st := w156.reg F.BOOT_UPDATE_STATE; let w := fun i => (([0x1000,64] : List (BitVec 64)).getD i 0).toNat; w156.accepts d0 ∧ w 1 ≠ 0 ∧
    (st = 0 ∨ st = 2) ∧ w 1 ≤ 0x3F000000 ∧ true = true) ∧
  (w154.boot.stage = none) := by decide +kernel

theorem witness_UpdatesStageTryCommitAndRevert_b :
  (let b := 1 - w157.boot.home; w157.boot.stage = some d0 ∧ 0x80 = (w157.writeImage b).stageCode b (Config.flashOk w157.draws)) ∧
  (let st := w154.reg F.BOOT_UPDATE_STATE; st ≠ 3) ∧
  (let st := w158.reg F.BOOT_UPDATE_STATE; st = 3 ∧ w158.boot.restart = 0 ∧ w158.boot.armed = some d0 ∧
    (w158.scoreBusy = true ∨ w158.ckpt.op.isSome = true)) ∧
  (let st := w155.reg F.BOOT_UPDATE_STATE; st = 3 ∧ w155.boot.restart = 0 ∧ w155.scoreBusy = false ∧ w155.ckpt.op = none) ∧
  (w154.boot.restart = 0 ∧ w154.boot.revertDue = 0) ∧
  (w159.boot.restart = 1 ∧ w159.boot.armed = some d0) := by decide +kernel

theorem witness_UpdatesStageTryCommitAndRevert_c :
  ((w160.boot.restart = 2 ∨ w160.boot.restart = 3) ∧ w160.boot.revert = [d0]) ∧
  (let st := w154.reg F.BOOT_UPDATE_STATE; st ≠ 4) ∧
  (let st := w154.reg F.BOOT_UPDATE_STATE; w154.accepts d0 ∧ st ≠ 4) ∧
  (let st := w161.reg F.BOOT_UPDATE_STATE; let b := 1 - w161.boot.home; w161.accepts d0 ∧ st = 4 ∧ w161.reg F.BOOT_COUNTER_COUNTER < w161.manSvn b ∧
    w161.reg F.BOOT_STATUS_IDENTITY_V = 0) ∧
  (let st := w160.reg F.BOOT_UPDATE_STATE; let b := 1 - w160.boot.home; w160.accepts d0 ∧ st = 4 ∧
    (w160.reg F.BOOT_STATUS_IDENTITY_V = 1 ∨ w160.manSvn b ≤ w160.reg F.BOOT_COUNTER_COUNTER)) ∧
  (let st := w162.reg F.BOOT_UPDATE_STATE; st = 4 ∧ w162.boot.restart = 0 ∧ w162.boot.revertDue = 0 ∧ w162.reg F.SEQ_SCORE_STATE ≠ 1 ∧
    w162.accepts d0) := by decide +kernel

theorem witness_UpdatesStageTryCommitAndRevert_d :
  (let st := w162.reg F.BOOT_UPDATE_STATE; st = 4 ∧ w162.boot.restart = 0 ∧ w162.boot.revertDue = 0 ∧ w162.reg F.SEQ_SCORE_STATE ≠ 1) ∧
  (let st := w163.reg F.BOOT_UPDATE_STATE; w163.accepts d0 ∧ st = 4 ∧ w163.boot.restart = 0 ∧ w163.boot.revertDue = 0 ∧
    w163.reg F.SEQ_SCORE_STATE = 1) := by decide +kernel

theorem witness_ActivationArmsAStagedUpdate :
  (let st := State.reset.reg F.BOOT_UPDATE_STATE; State.reset.accepts d0 ∧ st ≠ 2) ∧
  (let st := w156.reg F.BOOT_UPDATE_STATE; w156.accepts d0 ∧ st = 2 ∧
    ((5 : BitVec 64).toNat < w156.toll + 25000 ∨ (6 : BitVec 64).toNat < (5 : BitVec 64).toNat + 12500000000)) ∧
  (let st := w156.reg F.BOOT_UPDATE_STATE; w156.accepts d0 ∧ st = 2 ∧ w156.toll + 25000 ≤ (25000 : BitVec 64).toNat ∧
    (25000 : BitVec 64).toNat + 12500000000 ≤ (12500025000 : BitVec 64).toNat) := by decide +kernel

theorem witness_AttestAndDebugOpen :
  (w115.accepts d0 ∧ w115.reg F.BOOT_STATUS_IDENTITY_V = 0) ∧
  (w164.accepts d0 ∧ w164.reg F.BOOT_STATUS_IDENTITY_V = 1) ∧
  (w164.accepts d0 ∧ w164.reg F.BOOT_STATUS_IDENTITY_V = 1 ∧ 5 ≤ ([1,2,3,4,0x5000] : List (BitVec 64)).length ∧ w164.reg F.ACV_LINK_STATE = 4 ∧
    w164.acv.unacked = [] ∧ w164.acv.tries = []) ∧
  (running0.accepts d0 ∧ (running0.scoreBusy = true ∨ running0.bootBusy = true)) ∧
  (let idle := (w115.scoreBusy = false ∧ w115.bootBusy = false); w115.accepts d0 ∧ idle) ∧
  (w115.accepts d0) := by decide +kernel

theorem witness_CollectorsMergeForwardAndDiagnose_a :
  (w165.faults.region = []) ∧
  (let die := (5 : Fin 8).val / 4; let room := (w166.faults.die.filter (fun e => decide (e.1 = die))).length < 64;
    w166.faults.region = [((5 : Fin 8).val, mrep)] ∧ room ∧ w166.reg F.FLT_RG_STAT_VALID (5 : Fin 8) = 0) ∧
  (let die := (5 : Fin 8).val / 4; let room := (w167.faults.die.filter (fun e => decide (e.1 = die))).length < 64;
    w167.faults.region = [((5 : Fin 8).val, mrep)] ∧ room ∧ w167.reg F.FLT_RG_STAT_VALID (5 : Fin 8) = 1) ∧
  (w168.faults.die = [(b2n true, mrep)]) ∧
  (w165.reg F.FLT_RG_STAT_VALID (5 : Fin 8) = 0) ∧
  (let fresh := tabFind w169.fresh (F.FLT_RG_STAT_VALID.key (5 : Fin 8)); w169.reg F.FLT_RG_STAT_VALID (5 : Fin 8) = 1 ∧ fresh ≠ none ∧
    w169.faults.joined = []) := by decide +kernel

theorem witness_CollectorsMergeForwardAndDiagnose_b :
  (let die := (5 : Fin 8).val / 4; let room := (w170.faults.die.filter (fun e => decide (e.1 = die))).length < 64;
    let fresh := tabFind w170.fresh (F.FLT_RG_STAT_VALID.key (5 : Fin 8)); w170.reg F.FLT_RG_STAT_VALID (5 : Fin 8) = 1 ∧
    fresh = some ((1,1) : Nat × Nat) ∧ ((1,1) : Nat × Nat).1 ≠ 0 ∧ w170.faults.joined = [((5 : Fin 8).val, 0, 3, mrep)] ∧ room) ∧
  (let merges := w168.reg F.FLT_RG_STAT_MERGES (5 : Fin 8); let fresh := tabFind w168.fresh (F.FLT_RG_STAT_VALID.key (5 : Fin 8));
    w168.reg F.FLT_RG_STAT_VALID (5 : Fin 8) = 1 ∧ fresh = none ∧ merges = 0) ∧
  (let die := (5 : Fin 8).val / 4; let room := (w167.faults.die.filter (fun e => decide (e.1 = die))).length < 64;
    let merges := w167.reg F.FLT_RG_STAT_MERGES (5 : Fin 8); let fresh := tabFind w167.fresh (F.FLT_RG_STAT_VALID.key (5 : Fin 8));
    w167.reg F.FLT_RG_STAT_VALID (5 : Fin 8) = 1 ∧ fresh = none ∧ merges ≠ 0 ∧ room) ∧
  (w171.faults.diag = [((3 : Fin 64).val, (dia 0 : Diag))] ∧ w171.running = false ∧ (dia 0 : Diag).slot < 6 ∧
    w171.transCount (8 * (3 : Fin 64).val + (dia 0 : Diag).slot) + 1 < w171.reg F.FLT_CFG_TRANS_LIMIT) ∧
  (w171.faults.diag = [((3 : Fin 64).val, (dia 0 : Diag))] ∧ w171.running = false ∧ (dia 0 : Diag).slot < 6) := by decide +kernel

theorem witness_CollectorsMergeForwardAndDiagnose_c :
  (w172.faults.diag = [((3 : Fin 64).val, (dia 5 : Diag))] ∧ w172.running = true ∧ w172.reg F.SEQ_CLUSTER_STATE (3 : Fin 64) < 3) ∧
  (w165.reg F.SEQ_SCORE_STATE ∈ [0, 2, 5, 6, 7]) ∧
  (w167.reg F.SEQ_SCORE_STATE ∉ [0, 2, 5, 6, 7]) := by decide +kernel

theorem witness_InjectionArmsAndFires_a :
  (let i := w173.inj; let k := (0x5EA1 : BitVec 64).toNat % 65536; i.keys = 0 ∧ k = 0x5EA1) ∧
  (let i := w174.inj; let k := (0x7B0D : BitVec 64).toNat % 65536; let same := (0 < i.keys ∧ i.host = true ∧ w174.ck ≤ i.first + 2500); same ∧
    i.keys = 1 ∧ k = 0x7B0D) ∧
  (let i := w175.inj; let k := (0x3C6F : BitVec 64).toNat % 65536; let same := (0 < i.keys ∧ i.host = true ∧ w175.ck ≤ i.first + 2500); same ∧
    i.keys = 2 ∧ k = 0x3C6F) ∧
  (let i := w176.inj; let k := (0x3C6F : BitVec 64).toNat % 65536; let same := (0 < i.keys ∧ i.host = true ∧ w176.ck ≤ i.first + 2500); (¬same) ∧
    k ≠ 0x5EA1) ∧
  (w173.reg F.INJ_STATUS_ARMED = 0) ∧
  (w176.reg F.INJ_STATUS_ARMED = 1) := by decide +kernel

theorem witness_InjectionArmsAndFires_b :
  (let i := w173.inj; let x := (5 : BitVec 64).toNat; (x.testBit 63 = false ∨ w173.reg F.INJ_STATUS_ARMED = 0 ∨ i.fire = true)) ∧
  (let i := w177.inj; let x := (BitVec.ofNat 64 (injW 3 0) : BitVec 64).toNat; x.testBit 63 = true ∧ w177.reg F.INJ_STATUS_ARMED = 1 ∧
    i.fire = false ∧ targetGood x = false) ∧
  (let i := w177.inj; let x := (BitVec.ofNat 64 (injW 0 0x0406) : BitVec 64).toNat; x.testBit 63 = true ∧ w177.reg F.INJ_STATUS_ARMED = 1 ∧
    i.fire = false ∧ targetGood x = true) ∧
  (let i := w173.inj; i.fire = false) ∧
  (let i := w178.inj; let tgt := i.target; i.fire = true ∧ i.due < 2 ^ 64 ∧ (bitsOf tgt 61 60 = 1 ∨ bitsOf tgt 61 60 = 2) ∧
    bitsOf tgt 33 18 ≠ 0x0401 ∧ bitsOf tgt 33 18 ≠ 0x0402) ∧
  (let i := w179.inj; let tgt := i.target; i.fire = true ∧ i.due < 2 ^ 64 ∧ bitsOf tgt 61 60 = 0 ∧ bitsOf tgt 59 48 ≤ 1 ∧ bitsOf tgt 47 45 = 4) := by decide +kernel

theorem witness_RegistersReadAndWrite_a :
  ((0x80003 : BitVec 28).toNat % 8 ≠ 0) ∧
  ((0x170008 : BitVec 28).toNat % 8 = 0 ∧ 0x170000 ≤ (0x170008 : BitVec 28).toNat) ∧
  ((0x170008 : BitVec 28).toNat % 8 = 0 ∧ 0x170000 ≤ (0x170008 : BitVec 28).toNat ∧ (.sexton : Party) ≠ .acvel) ∧
  ((0x80003 : BitVec 28).toNat < 0x170000) ∧
  (let x := (5 : BitVec 64).toNat; (0x80003 : BitVec 28).toNat < 0x170000 ∧
    (F.ENG_PWR_STATE_OFF_REQ.at (0x80003 : BitVec 28).toNat = false ∨ x.testBit 4 = false ∨ State.reset.mgmtUp = false)) ∧
  (State.reset.reg F.ACV_LIVE_LIVE = 0) := by decide +kernel

theorem witness_RegistersReadAndWrite_b :
  (w180.reg F.ACV_LIVE_LIVE = 1) ∧
  ((0x80000 : BitVec 28).toNat % 8 = 0 ∧ (0x80000 : BitVec 28).toNat < 0x170000) ∧
  (State.reset.mgmtUp = true ∧ 0x80 ≤ (0x83 : BitVec 8).toNat ∧ (0x83 : BitVec 8).toNat ≤ 0xB7) ∧
  ((State.reset.mgmtUp = false ∨ (0x13 : BitVec 8).toNat < 0x80 ∨ 0xB7 < (0x13 : BitVec 8).toNat)) := by decide +kernel

end Sys2Proof.Slice0
end

section
/-!
LAWS. Register fields that share no key, the frame of register writes, and what a fault message leaves alone in the PORT block.
-/
namespace Sys2Proof.Machine

/-! ### Fields that share no bit of register space -/

theorem Field.key_mod (f : Field) (n : Nat) : f.key n % 64 = f.lo % 64 := by
  unfold Field.key
  omega

/-- No copy of one field lies at the key of a copy of the other: their lowest bits differ, or the registers of one all lie below
those of the other. -/
def Field.apart (f g : Field) : Bool :=
  decide (f.lo % 64 ≠ g.lo % 64) || decide (f.lo < 64 ∧ f.base + f.stride * f.count ≤ g.base + f.stride - 1 ∧ 0 < f.stride) ||
    decide (g.lo < 64 ∧ g.base + g.stride * g.count ≤ f.base + g.stride - 1 ∧ 0 < g.stride)

theorem Field.key_lt_of_below {f g : Field} {n : Nat} (m : Nat)
    (h : f.lo < 64 ∧ f.base + f.stride * f.count ≤ g.base + f.stride - 1 ∧ 0 < f.stride) (hn : n < f.count) : f.key n < g.key m := by
  obtain ⟨hlo, hbase, hstride⟩ := h
  have hlast := Nat.mul_le_mul_left f.stride (Nat.succ_le_of_lt hn)
  rw [Nat.mul_succ] at hlast
  unfold Field.key
  omega

theorem Field.key_ne_of_apart {f g : Field} {n m : Nat} (h : f.apart g = true) (hn : n < f.count) (hm : m < g.count) :
    f.key n ≠ g.key m := by
  unfold Field.apart at h
  rw [Bool.or_eq_true, Bool.or_eq_true, decide_eq_true_eq, decide_eq_true_eq, decide_eq_true_eq] at h
  obtain (hlo | hbelow) | habove := h
  · intro hkey
    exact hlo (by rw [← Field.key_mod f n, hkey, Field.key_mod])
  · exact Nat.ne_of_lt (Field.key_lt_of_below m hbelow hn)
  · exact Nat.ne_of_gt (Field.key_lt_of_below n habove hm)

theorem State.reg_setReg_apart (s : State) {f g : Field} (v : Nat) {n m : Nat} (h : g.apart f = true) (hm : m < g.count) (hn : n < f.count) :
    (s.setReg f v n).reg g m = s.reg g m :=
  State.reg_setReg_other s v (Field.key_ne_of_apart h hm hn)

/-! ### The frame of register writes -/

theorem State.regsKept_refl (s : State) (ks : List Nat) : s.regsKept s ks := fun _ _ _ => rfl

/-- A write of a field that the frame names stays within it. -/
theorem State.regsKept.setReg {s t : State} {ks : List Nat} (h : s.regsKept t ks) {f : Field} {n : Nat} (hf : f.key n ∈ ks) (v : Nat) :
    s.regsKept (t.setReg f v n) ks := by
  intro g m hg
  have hkey : g.key m ≠ f.key n := fun hkey => hg (hkey.symm ▸ hf)
  rw [State.reg_setReg_other t v hkey, h g m hg]

theorem State.regsKept.setLink {s t : State} {ks : List Nat} (h : s.regsKept t ks) (k : Nat) (x : Link) : s.regsKept (t.setLink k x) ks := h

theorem State.regsKept.emit {s t : State} {ks : List Nat} (h : s.regsKept t ks) (o : Out) : s.regsKept (t.emit o) ks := h

/-! ### A fault message leaves the PORT block as it is -/

/-- The key of a field of the PORT block (20 R594). -/
def portKey (k : Nat) : Prop := 0x100000 * 64 ≤ k ∧ k < 0x110000 * 64

theorem not_portKey_above {f : Field} (n : Nat) (h : 0x110000 ≤ f.base) : ¬ portKey (f.key n) := by
  unfold portKey Field.key
  omega

theorem not_portKey_below {f : Field} (h : f.base < 0x100000 ∧ f.lo < 64) : ¬ portKey (f.key 0) := by
  unfold portKey Field.key
  omega

theorem State.reg_setReg_port (s : State) {f g : Field} (v : Nat) {n m : Nat} (hg : portKey (g.key m)) (hf : ¬ portKey (f.key n)) :
    (s.setReg f v n).reg g m = s.reg g m :=
  State.reg_setReg_other s v (fun hkey => hf (hkey ▸ hg))

theorem State.count_reg_port (s : State) {f g : Field} (k : Nat) {n m : Nat} (hg : portKey (g.key m)) (hf : ¬ portKey (f.key n)) :
    (s.count f k n).reg g m = s.reg g m := by
  rw [State.count, State.update_reg, State.reg_setReg_port s _ hg hf]

section
variable {g : Field} {m : Nat} (hg : portKey (g.key m))
include hg

theorem State.toRegion_reg_port (s : State) (n : Nat) (r : Rep) : (s.toRegion n r).reg g m = s.reg g m := by
  unfold State.toRegion
  split
  · rfl
  · exact s.count_reg_port 1 hg (not_portKey_above n (by decide))

theorem State.toCluster_reg_port (s : State) (c : Nat) (r : Rep) : (s.toCluster c r).reg g m = s.reg g m := by
  unfold State.toCluster
  rw [State.toRegion_reg_port hg, State.putFaults_reg]

theorem State.toDie_reg_port (s : State) (d : Nat) (r : Rep) : (s.toDie d r).reg g m = s.reg g m := by
  unfold State.toDie
  split
  · rfl
  · refine s.count_reg_port 1 hg (not_portKey_above 0 ?_)
    split <;> decide

theorem State.toHub_reg_port (s : State) (r : Rep) : (s.toHub r).reg g m = s.reg g m := by
  unfold State.toHub
  dsimp only
  split
  · exact State.count_reg_port _ 1 hg (not_portKey_above 0 (by decide))
  · split
    · exact State.count_reg_port _ 1 hg (not_portKey_above 0 (by decide))
    · split
      · exact State.count_reg_port _ 1 hg (not_portKey_above 0 (by decide))
      · rfl

theorem State.complete_reg_port (s : State) (d : Desc) (code v0 v1 : Nat) : (s.complete d code v0 v1).reg g m = s.reg g m := by
  rw [State.complete_eq, State.reg_setReg_port _ _ hg (not_portKey_above _ (by decide))]
  rfl

theorem State.loadHit_reg_port (s : State) (cls : Nat) : (s.loadHit cls).reg g m = s.reg g m := by
  unfold State.loadHit
  split
  · split
    · rw [State.complete_reg_port hg, State.reg_setReg_port _ _ hg (not_portKey_below (by decide)),
        State.reg_setReg_port _ _ hg (not_portKey_below (by decide)), State.reg_setReg_port _ _ hg (not_portKey_below (by decide))]
      rfl
    · rfl
  · rfl

theorem State.send_reg_port (s : State) (r : Rep) : (s.send r).reg g m = s.reg g m := by
  have hhit := s.loadHit_reg_port hg r.msg.cls
  unfold State.send
  dsimp only
  split
  · rw [State.toCluster_reg_port hg, hhit]
  · rw [State.toCluster_reg_port hg, hhit]
  · rw [State.toRegion_reg_port hg, hhit]
  · rw [State.toDie_reg_port hg, hhit]
  · rw [State.toHub_reg_port hg, hhit]

theorem State.tell_reg_port (s : State) (kind cls level unit access : Nat) (addr : Option Nat) (act : Nat) :
    (s.tell kind cls level unit access addr act).reg g m = s.reg g m :=
  s.send_reg_port hg _

end

end Sys2Proof.Machine
end

section
/-!
PROOFS. What reset and a start leave: the statements ResetLeavesResetValues and PorstRiseStartsTheBlock.
-/
namespace Sys2Proof.Machine

/-! ### Reset -/

/-- After reset no field is listed, so each reads as its reset value (00 R15). -/
theorem State.reset_reg (f : Field) (n : Nat) : State.reset.reg f n = f.reset % 2 ^ f.width := rfl

theorem State.reset_pinsAgree : State.reset.pinsAgree := by
  have hpower : State.reset.reg F.ENG_PWR_STATE_STATE = 1 := State.reset_reg _ _
  unfold State.pinsAgree
  rw [hpower]
  exact ⟨by decide, by decide, by decide⟩

theorem State.reset_memoriesWf : State.reset.memoriesWf :=
  ⟨memory_wf_nil, memory_wf_nil, memory_wf_nil, memory_wf_nil⟩

/-- Settles O3: the register table, the queue and the memories are empty after reset, so each reads as its default. -/
theorem resetLeavesResetValues : Obligations.ResetLeavesResetValues :=
  ⟨State.reset_reg, State.reset_reg _ _, State.reset_reg _ _, rfl, fun _ => rfl, rfl, rfl, rfl, by decide, State.reset_pinsAgree,
    State.reset_memoriesWf⟩

/-! ### The entries of a table whose keys pass a test -/

theorem tabFind_filter_key {α : Type} (t : Tab α) (p : Nat → Bool) (k : Nat) :
    tabFind (t.filter (fun e => p e.1)) k = if p k then tabFind t k else none := by
  induction t with
  | nil => simp
  | cons e t ih =>
    by_cases hk : e.1 = k
    · subst hk
      cases hp : p e.1 <;> simp [tabFind, hp, ih]
    · cases hp : p e.1 <;> simp [tabFind, hp, hk, ih]

theorem tabGet_filter_key {α : Type} (d : α) (t : Tab α) (p : Nat → Bool) (k : Nat) :
    tabGet d (t.filter (fun e => p e.1)) k = if p k then tabGet d t k else d := by
  unfold tabGet
  rw [tabFind_filter_key]
  split <;> rfl

/-! ### Fields carried over into another state -/

/-- `t` with each of the fields listed at its value in `s`. -/
def State.carryFields (s t : State) (fs : List Field) : State := fs.foldl (fun u f => u.setReg f (s.reg f)) t

theorem State.carryFields_eq (s t : State) (fs : List Field) : s.carryFields t fs = t.putRegs (s.carryFields t fs).regs := by
  induction fs generalizing t with
  | nil => rfl
  | cons f fs ih => exact ih (t.setReg f (s.reg f))

theorem State.carryFields_reg_other (s t : State) (fs : List Field) {g : Field} {m : Nat} (h : g.key m ∉ fs.map (·.key 0)) :
    (s.carryFields t fs).reg g m = t.reg g m := by
  induction fs generalizing t with
  | nil => rfl
  | cons f fs ih =>
    rw [List.map_cons, List.mem_cons, not_or] at h
    obtain ⟨hf, hfs⟩ := h
    exact (ih (t.setReg f (s.reg f)) hfs).trans (State.reg_setReg_other _ _ hf)

theorem State.carryFields_reg_same (s t : State) (fs : List Field) (hkeys : (fs.map (·.key 0)).Nodup) {f : Field} (hf : f ∈ fs) :
    (s.carryFields t fs).reg f = s.reg f := by
  induction fs generalizing t with
  | nil => cases hf
  | cons g fs ih =>
    rw [List.map_cons, List.nodup_cons] at hkeys
    obtain ⟨hg, hfs⟩ := hkeys
    rcases List.mem_cons.mp hf with rfl | hmem
    · calc (s.carryFields (t.setReg f (s.reg f)) fs).reg f
          = (t.setReg f (s.reg f)).reg f := State.carryFields_reg_other _ _ _ hg
        _ = s.reg f := by rw [State.reg_setReg_same, Nat.mod_eq_of_lt (State.reg_lt _ _ _)]
    · exact ih (t.setReg g (s.reg g)) hfs hmem

/-! ### A start (17 R510, R514; 19 R564) -/

/-- The fields that keep their values through a start (01 R50, R52; 20 R600). -/
def startKept : List Field :=
  [F.ENG_PWR_STATE_STATE, F.ENG_PWR_STATE_GRP_OK, F.ENG_PWR_STATE_C4_CAUSE, F.ENG_PWR_STATE_OFF_REQ, F.OPT_MIRROR_BEAT_VALID,
    F.OPT_MIRROR_BEAT_BEAT, F.CKPT_STATUS_MIRROR_POISON]

theorem State.makeRecords_eq (s : State) (l : List Rep) : l.foldl State.makeRecord s = s.putFaults (l.foldl State.makeRecord s).faults := by
  induction l generalizing s with
  | nil => rfl
  | cons r l ih => exact ih (s.makeRecord r)

/-- What a start leaves, but for the register table and the fault system. -/
theorem State.startReset_eq (s : State) : s.startReset =
    ({ State.reset with
      pending := s.pending, mem := s.mem.filter (fun e => outlives e.1), poison := s.poison.filter outlives,
      soft := s.soft.filter outlives, host := s.host, nvme := s.nvme, flash := s.flash, ck := s.ck, mgmt := s.mgmt, draws := s.draws,
      pins := { s.pins with portsStopped := decide (s.power = 0xF ∨ s.power = 0x6), jtagOpen := false },
      boot := { BootUnit.reset with step := 2, signed := s.boot.signed }, out := s.out,
      delivered := s.delivered }.putFaults s.startReset.faults).putRegs s.startReset.regs := by
  unfold State.startReset
  rw [State.makeRecords_eq]
  rfl

/-- The registers after a start: those of reset, with the fields that are kept. -/
theorem State.startReset_reg (s : State) (g : Field) (m : Nat) :
    s.startReset.reg g m = (s.carryFields State.reset startKept).reg g m := by
  unfold State.startReset
  rw [State.makeRecords_eq]
  rfl

theorem State.startReset_reg_kept (s : State) {f : Field} (hf : f ∈ startKept) : s.startReset.reg f = s.reg f := by
  rw [State.startReset_reg]
  exact State.carryFields_reg_same _ _ _ (by decide) hf

theorem State.startReset_reg_other (s : State) {g : Field} {m : Nat} (h : g.key m ∉ startKept.map (·.key 0)) :
    s.startReset.reg g m = State.reset.reg g m := by
  rw [State.startReset_reg]
  exact State.carryFields_reg_other _ _ _ h

theorem outlives_iff (a : Nat) :
    outlives a = true ↔ (0x9000000000 ≤ a ∧ a < 0x11000000000) ∨ (0x8F00000000 ≤ a ∧ a < 0x9000000000) := by
  simp [outlives]

/-- Tier 2 and the Sexton area stand through a start, and the rest of memory reads zero (13 R408, R412). -/
theorem State.startReset_byte (s : State) (a : Nat) : s.startReset.byte a =
    if (0x9000000000 ≤ a ∧ a < 0x11000000000) ∨ (0x8F00000000 ≤ a ∧ a < 0x9000000000) then s.byte a else 0 := by
  rw [State.startReset_eq]
  show tabGet 0 (s.mem.filter (fun e => outlives e.1)) a = _
  rw [tabGet_filter_key]
  simp only [outlives_iff]
  rfl

/-- In WAIT_RESET with all four groups in regulation a rise of PORST_N is a start with the CK count at 0 (01 R32, R52). -/
theorem State.porstRise_start (s : State) (hstate : s.reg F.ENG_PWR_STATE_STATE = 3) (hgroups : s.reg F.ENG_PWR_STATE_GRP_OK = 15) :
    s.porstRise = (((s.putPins { s.pins with porstN := true }).putCk 0).setReg F.ENG_PWR_STATE_STATE 4).startReset := by
  simp [State.porstRise, State.setPower, State.power, hstate, hgroups]

/-- Settles O5: the rise is a start from the state with STATE at RUNNING; what a start keeps and resets is said once above. -/
theorem porstRiseStartsTheBlock : Obligations.PorstRiseStartsTheBlock := by
  intro s hstate hgroups
  refine ⟨s.porstRise, rfl, ?_⟩
  rw [State.porstRise_start s hstate hgroups]
  generalize hs1 : ((s.putPins { s.pins with porstN := true }).putCk 0).setReg F.ENG_PWR_STATE_STATE 4 = s1
  have hpower : s1.reg F.ENG_PWR_STATE_STATE = 4 := by rw [← hs1, State.reg_setReg_same]; rfl
  have hother : ∀ f ∈ startKept, f ≠ F.ENG_PWR_STATE_STATE → s1.reg f = s.reg f := by
    intro f hf hne
    rw [← hs1, State.reg_setReg_other]
    · rfl
    · revert f; decide
  refine ⟨?_, ?_, ?_, ?_, ?_, ?_, ?_, ?_, ?_, ?_, ?_, ?_, ?_⟩
  · rw [State.startReset_reg_kept s1 (by decide), hpower]
  · rw [State.startReset_reg_kept s1 (by decide), hother _ (by decide) (by decide), hgroups]
  · rw [State.startReset_eq, ← hs1]; rfl
  · rw [State.startReset_eq, ← hs1]; rfl
  · rw [State.startReset_eq]
    show decide (s1.reg F.ENG_PWR_STATE_STATE = 0xF ∨ s1.reg F.ENG_PWR_STATE_STATE = 0x6) = false
    rw [hpower]; rfl
  · rw [State.startReset_eq]; rfl
  · rw [State.startReset_eq, ← hs1]; rfl
  · rw [State.startReset_eq, ← hs1]; rfl
  · rw [State.startReset_eq, ← hs1]; rfl
  · intro f hf
    have hkept : f ∈ startKept ∧ f ≠ F.ENG_PWR_STATE_STATE := by revert f; decide
    rw [State.startReset_reg_kept s1 hkept.1, hother f hkept.1 hkept.2]
  · intro g m hg
    exact State.startReset_reg_other s1 hg
  · intro a
    rw [State.startReset_byte, ← hs1]; rfl
  · rw [State.startReset_eq]
    exact ⟨rfl, rfl, rfl, rfl, rfl⟩

end Sys2Proof.Machine
end

section
/-!
PROOFS. Register access: the statement RegistersReadAndWrite fails, on a register table that is not in its canonical form.
-/
namespace Sys2Proof.Machine

/-- BEAT_NUM listed at its own reset value 0, where the canonical form lists no entry. -/
def State.beatNumListed : State := State.reset.putRegs [(F.BEAT_NUM_NUM.key 0, 0)]

/-- The key of BEAT_NUM is also that of BEAT_PERIOD 3, which lies outside the one BEAT_PERIOD and reads 1,250,000 when it is not listed. -/
theorem beatPeriod_key_three : F.BEAT_PERIOD_PERIOD.key 3 = F.BEAT_NUM_NUM.key 0 := by decide

/-- A write of the RO register BEAT_NUM sets its field to the value it holds, which takes the entry off the list. -/
theorem State.beatNumListed_write (v : BitVec 64) :
    exec (.registerWrite .acvel 0x18 v) State.beatNumListed = .next State.reset := by rfl

/-- Refutes O56: its clause that a write of the RO register at 0x18 leaves every register field as it was (`onlyRegs t []`) fails on
`State.beatNumListed`. The frame `regsKept` speaks of `f.key n` for every `f` and `n`, and the statement of every register table: BEAT_PERIOD 3
reads the listed 0 before the write and its own reset value after it. -/
theorem not_registersReadAndWrite : ¬ Obligations.RegistersReadAndWrite := by
  intro h
  obtain ⟨-, -, -, -, -, -, -, ⟨t, hwrite, -, hkept, -⟩, -⟩ := h .acvel 0 0 0 State.beatNumListed
  rw [State.beatNumListed_write] at hwrite
  obtain rfl : State.reset = t := Host.Outcome.next.inj hwrite
  have hperiod : State.reset.reg F.BEAT_PERIOD_PERIOD 3 = State.beatNumListed.reg F.BEAT_PERIOD_PERIOD 3 :=
    hkept F.BEAT_PERIOD_PERIOD 3 List.not_mem_nil
  exact absurd hperiod (by decide)

end Sys2Proof.Machine
end

section
/-!
PROOFS. Roll call from IDENT to READY (14 R441 to R447): the statement RollCallReachesReady.
-/
namespace Sys2Proof.Machine

/-! ### Blocks sent and taken -/

@[simp] theorem State.emit_link (s : State) (o : Out) (k : Nat) : (s.emit o).link k = s.link k := rfl

/-- `t` is `s` with registers and links changed and with `o` as what has left the device; nothing else changes. -/
def State.onlyLinks (s t : State) (o : List Out) : Prop := t = ((s.putRegs t.regs).putLinks t.links).putOut o

section
variable {s t : State} {o : List Out} (h : s.onlyLinks t o)
include h

theorem State.onlyLinks.setReg (f : Field) (v n : Nat) : s.onlyLinks (t.setReg f v n) o := by
  unfold State.onlyLinks at h ⊢
  rw [h]
  rfl

theorem State.onlyLinks.setLink (k : Nat) (x : Link) : s.onlyLinks (t.setLink k x) o := by
  unfold State.onlyLinks at h ⊢
  rw [h]
  rfl

theorem State.onlyLinks.emit (x : Out) : s.onlyLinks (t.emit x) (x :: o) := by
  unfold State.onlyLinks at h ⊢
  rw [h]
  rfl

end

theorem State.onlyLinks_refl (s : State) : s.onlyLinks s s.out := rfl

@[simp] theorem State.advanceTo_link (s : State) (t k : Nat) : (s.advanceTo t).link k = s.link k := by
  rw [State.advanceTo_eq]
  split <;> rfl

@[simp] theorem State.advanceTo_out (s : State) (t : Nat) : (s.advanceTo t).out = s.out := by
  rw [State.advanceTo_eq]
  split <;> rfl

@[simp] theorem State.advanceTo_pins (s : State) (t : Nat) : (s.advanceTo t).pins = s.pins := by
  rw [State.advanceTo_eq]
  split <;> rfl

/-- Every field but the Toll count keeps its value as time passes. -/
theorem State.advanceTo_linkState (s : State) (t : Nat) {k : Nat} (hk : k < 256) : (s.advanceTo t).linkState k = s.linkState k :=
  s.advanceTo_reg t (Field.key_ne_of_apart (by decide) hk (by decide))

/-- A Toll count that has passed leaves the present one in its place. -/
theorem State.advanceTo_toll_max (s : State) {t : Nat} (h : t < 2 ^ 64) : (s.advanceTo t).toll = max s.toll t := by
  rw [State.advanceTo_toll]
  split
  · rw [Nat.mod_eq_of_lt h]; omega
  · omega

theorem State.takePlain_good (s : State) {k ty crc body : Nat} (act : State → State) (h : crc = blockCrc ty 0 body) :
    s.takePlain k ty crc body act = act s := if_pos h

/-- An unsequenced block of a link that is not OFF, on ports that are not stopped, leaves at once. -/
theorem State.sendPlain_open (s : State) {k : Nat} (ty body : Nat) (hstate : s.linkState k ≠ 0) (hopen : s.pins.portsStopped = false) :
    s.sendPlain k ty body = s.emit (.block k (blockBits ty 0 body)) := by
  simp [State.sendPlain, hstate, hopen]

theorem State.sendDreq_open (s : State) {k : Nat} (hstate : s.linkState k ≠ 0) (hopen : s.pins.portsStopped = false) :
    s.sendDreq k = (s.setLink k { s.link k with t1 := some s.toll }).emit (.block k (blockBits tyDreq 0 s.toll)) :=
  State.sendPlain_open (s.setLink k { s.link k with t1 := some s.toll }) _ _ hstate hopen

theorem State.sendDreq_shows (s : State) {k : Nat} (hstate : s.linkState k ≠ 0) (hopen : s.pins.portsStopped = false) :
    (s.sendDreq k).toll = s.toll ∧ (s.sendDreq k).out = .block k (blockBits tyDreq 0 s.toll) :: s.out ∧
    (s.sendDreq k).link k = { s.link k with t1 := some s.toll } ∧ ∀ (g : Field) (m : Nat), (s.sendDreq k).reg g m = s.reg g m := by
  rw [State.sendDreq_open s hstate hopen]
  exact ⟨rfl, rfl, State.link_setLink_same .., fun _ _ => rfl⟩

@[simp] theorem State.sendPlain_reg (s : State) (k ty body : Nat) (g : Field) (m : Nat) : (s.sendPlain k ty body).reg g m = s.reg g m := by
  unfold State.sendPlain
  split <;> rfl

@[simp] theorem State.sendAck_reg (s : State) (k : Nat) (g : Field) (m : Nat) : (s.sendAck k).reg g m = s.reg g m := by
  unfold State.sendAck
  split
  · exact State.sendPlain_reg ..
  · rfl

/-- What a link sends in a round changes no register. -/
@[simp] theorem State.linkRound_reg (s : State) (k : Nat) (g : Field) (m : Nat) : (s.linkRound k).reg g m = s.reg g m := by
  unfold State.linkRound
  dsimp only
  split
  · split <;> simp
  · split
    · simp
    · split <;> simp

/-! ### Quarantine (14 R448) -/

theorem portKey_link {f : Field} {k : Nat} (hk : k < 256) (hbase : f.base = 0x100500 ∧ f.stride = 8 ∧ f.lo < 64) : portKey (f.key k) := by
  obtain ⟨hb, hs, hlo⟩ := hbase
  unfold portKey Field.key
  rw [hb, hs]
  omega

/-- A link that is not READY and whose errors are not the cause: it is QUARANTINED, and QCAUSE shows the cause. -/
theorem State.quarantine_shows (s : State) {k cause : Nat} (hk : k < 256) (hstate : s.linkState k ≠ 6) (hcause : cause ≠ 4) :
    (s.quarantine k cause).reg F.PORT_LINK_STATE k = 7 ∧ (s.quarantine k cause).reg F.PORT_LINK_QCAUSE k = cause % 16 := by
  have hleave : s.leaveReady k = s := if_neg hstate
  have hkept : ∀ f ∈ [F.PORT_LINK_STATE, F.PORT_LINK_QCAUSE],
      (s.quarantine k cause).reg f k = ((s.attempt k 7).setReg F.PORT_LINK_QCAUSE cause k).reg f k := by
    intro f hf
    have hport : portKey (f.key k) := portKey_link hk (by revert f; decide)
    rw [State.quarantine, hleave, State.linkFault, decide_eq_false hcause, Bool.false_and, if_neg Bool.false_ne_true,
      State.tell_reg_port hport, State.linkRound_reg]
  rw [hkept _ (by decide), hkept _ (by decide)]
  constructor
  · rw [State.reg_setReg_apart _ _ (by decide) hk hk]
    exact State.reg_setReg_same ..
  · exact State.reg_setReg_same ..

/-! ### IDENT (14 R442, R443, R455) -/

/-- Bits 127:120 of an IDENT are the major of the version in bits 127:112. -/
theorem bitsOf_version_major (b : Nat) : bitsOf b 127 112 / 256 = bitsOf b 127 120 := by
  unfold bitsOf
  rw [Nat.shiftRight_eq_div_pow, Nat.shiftRight_eq_div_pow, show (2 : Nat) ^ 120 = 2 ^ 112 * 256 by norm_num, ← Nat.div_div_eq_div_mul]
  generalize b / 2 ^ 112 = v
  omega

/-- The last IDENT kept and the peer shown, of whatever version. -/
def State.identKept (s : State) (k b : Nat) : State := (s.setLink k { s.link k with ident := some b }).showPeer k b

/-- Version 1.0 agreed: the peer shown with what it offers, and the link in TIME. -/
def State.identAgreed (s : State) (k b : Nat) : State :=
  (((s.identKept k b).setReg F.PORT_LINK_VERSION 0x100 k).setReg F.PORT_PEER_FEATURES (bitsOf b 103 72 &&& 0x3F) k).setLinkState k 4

theorem State.identKept_linkState (s : State) {k : Nat} (b : Nat) (hk : k < 256) : (s.identKept k b).linkState k = s.linkState k := by
  unfold State.identKept State.showPeer State.linkState
  rw [State.reg_setReg_apart _ _ (by decide) hk hk, State.reg_setReg_apart _ _ (by decide) hk hk,
    State.reg_setReg_apart _ _ (by decide) hk hk]
  rfl

theorem State.identIn_version_one (s : State) {k b : Nat} (hstate : s.linkState k = 3) (hmajor : bitsOf b 127 120 = 1)
    (hlowest : bitsOf b 111 104 ≤ 1) : s.identIn k b = (s.identAgreed k b).sendDreq k := by
  have hv := (bitsOf_version_major b).trans hmajor
  have hmin : min (bitsOf b 127 112) 0x100 = 0x100 := by omega
  simp only [State.identIn, hstate, hv, hmin, State.identAgreed, State.identKept]
  simp [Nat.not_lt.mpr hlowest]

theorem State.identIn_version_zero (s : State) {k b : Nat} (hstate : s.linkState k = 3) (hmajor : bitsOf b 127 120 = 0) :
    s.identIn k b = (s.identKept k b).quarantine k 3 := by
  have hv := (bitsOf_version_major b).trans hmajor
  simp [State.identIn, hstate, hv, State.identKept]

theorem State.identIn_outside (s : State) {k : Nat} (b : Nat) (h : s.linkState k < 3 ∨ 5 < s.linkState k) : s.identIn k b = s :=
  if_neg (by omega)

theorem State.identAgreed_onlyLinks (s : State) (k b : Nat) : s.onlyLinks (s.identAgreed k b) s.out := by
  unfold State.identAgreed State.identKept State.showPeer State.setLinkState
  exact (((((((s.onlyLinks_refl.setLink _ _).setReg _ _ _).setReg _ _ _).setReg _ _ _).setReg _ _ _).setReg _ _ _).setReg _ _ _)

theorem State.identAgreed_regsKept (s : State) (k b : Nat) :
    s.regsKept (s.identAgreed k b) [F.PORT_LINK_STATE.key k, F.PORT_LINK_VERSION.key k, F.PORT_PEER_FEATURES.key k,
      F.PORT_LINK_PEER_PORT.key k, F.PORT_LINK_PEER_EP.key k, F.PORT_PEER_COORD.key k] := by
  unfold State.identAgreed State.identKept State.showPeer State.setLinkState
  exact (((((((s.regsKept_refl _).setLink _ _).setReg (by simp) _).setReg (by simp) _).setReg (by simp) _).setReg (by simp) _).setReg
    (by simp) _).setReg (by simp) _

/-- PORT_LINKk and PORT_PEERk after the agreement (14 R454, R455). -/
theorem State.identAgreed_shows (s : State) {k : Nat} (b : Nat) (hk : k < 256) :
    (s.identAgreed k b).reg F.PORT_LINK_STATE k = 4 ∧ (s.identAgreed k b).reg F.PORT_LINK_VERSION k = 0x100 ∧
    (s.identAgreed k b).reg F.PORT_PEER_FEATURES k = bitsOf b 103 72 &&& 0x3F ∧
    (s.identAgreed k b).reg F.PORT_LINK_PEER_PORT k = bitsOf b 63 56 ∧ (s.identAgreed k b).reg F.PORT_LINK_PEER_EP k = bitsOf b 64 64 ∧
    (s.identAgreed k b).reg F.PORT_PEER_COORD k = bitsOf b 55 24 := by
  have hfeatures : (bitsOf b 103 72 &&& 0x3F) % 2 ^ 32 = bitsOf b 103 72 &&& 0x3F :=
    Nat.mod_eq_of_lt (Nat.lt_of_le_of_lt Nat.and_le_right (by decide))
  unfold State.identAgreed State.identKept State.showPeer State.setLinkState
  simp (disch := first | decide | (refine Nat.lt_of_lt_of_le hk ?_; decide)) only [State.reg_setReg_apart, State.reg_setReg_same]
  exact ⟨rfl, rfl, hfeatures, Nat.mod_mod _ _, Nat.mod_mod _ _, Nat.mod_mod _ _⟩

theorem State.identAgreed_sendDreq (s : State) {k : Nat} (b : Nat) (hk : k < 256) (hopen : s.pins.portsStopped = false) :
    (s.identAgreed k b).sendDreq k =
      ((s.identAgreed k b).setLink k { s.link k with ident := some b, t1 := some s.toll }).emit (.block k (blockBits tyDreq 0 s.toll)) := by
  have hstate : (s.identAgreed k b).linkState k ≠ 0 := by
    rw [State.linkState, (s.identAgreed_shows b hk).1]
    decide
  have htoll : (s.identAgreed k b).toll = s.toll := by
    have hapart : ∀ f ∈ [F.PORT_LINK_STATE, F.PORT_LINK_VERSION, F.PORT_PEER_FEATURES, F.PORT_LINK_PEER_PORT, F.PORT_LINK_PEER_EP,
        F.PORT_PEER_COORD], F.TOLL_COUNT_COUNT.key 0 ≠ f.key k := by
      intro f hf
      have h : F.TOLL_COUNT_COUNT.apart f = true ∧ f.count = 256 := by revert f; decide
      exact Field.key_ne_of_apart h.1 (by decide) (h.2 ▸ hk)
    exact s.identAgreed_regsKept k b _ _ (by simpa using hapart)
  have hlink : (s.identAgreed k b).link k = { s.link k with ident := some b } := s.link_setLink_same k _
  rw [State.sendDreq_open _ hstate hopen, htoll, hlink]

/-! ### Delay exchanges (14 R445; 02 R70) -/

/-- A link after one more exchange that gave `a`. -/
def Link.exchanged (l : Link) (a : Int) : Link := { l with sum := l.sum + a, exch := l.exch + 1, t1 := none }

/-- A of one exchange. -/
def exchangeTime (t1 t2 t3 t4 : Nat) : Int := ((t4 : Int) - t1) - ((t3 : Int) - t2)

/-- Before the sixteenth exchange the next one begins at once. -/
theorem State.drespIn_again (s : State) {k t1 : Nat} (t2 t3 t4 : Nat) (hstate : s.linkState k = 4) (ht1 : (s.link k).t1 = some t1)
    (hexch : (s.link k).exch < 15) (hopen : s.pins.portsStopped = false) :
    s.drespIn k t2 t3 t4 =
      ((s.setLink k ((s.link k).exchanged (exchangeTime t1 t2 t3 t4))).setLink k
        { (s.link k).exchanged (exchangeTime t1 t2 t3 t4) with t1 := some s.toll }).emit (.block k (blockBits tyDreq 0 s.toll)) := by
  generalize hx : (s.link k).exchanged (exchangeTime t1 t2 t3 t4) = x
  have hsend : s.drespIn k t2 t3 t4 = (s.setLink k x).sendDreq k := by
    subst hx
    simp only [State.drespIn, ht1, hstate, if_true]
    exact if_neg (by omega)
  have hnonzero : (s.setLink k x).linkState k ≠ 0 := ne_of_eq_of_ne hstate (by decide)
  rw [hsend, (s.setLink k x).sendDreq_open hnonzero hopen, State.link_setLink_same]
  rfl

theorem State.drespIn_last (s : State) {k t1 : Nat} (t2 t3 t4 : Nat) (hstate : s.linkState k = 4) (ht1 : (s.link k).t1 = some t1)
    (hexch : (s.link k).exch = 15) :
    s.drespIn k t2 t3 t4 = (s.setLink k ((s.link k).exchanged (exchangeTime t1 t2 t3 t4))).delayDone k
      ((s.link k).sum + exchangeTime t1 t2 t3 t4) := by
  simp only [State.drespIn, ht1, hstate, if_true]
  exact if_pos (by omega)

/-- DELAY of a link set, and TOLL_DELAY with it on the parent port. -/
def State.delaySet (s : State) (k d : Nat) : State :=
  if s.fromParent k then (s.setReg F.PORT_LINK_DELAY (min d 0xFFFF) k).setReg F.TOLL_DELAY_DELAY d
  else s.setReg F.PORT_LINK_DELAY (min d 0xFFFF) k

theorem State.fromParent_setDelay (s : State) {k : Nat} (d : Nat) (hk : k < 256) :
    (s.setReg F.PORT_LINK_DELAY d k).fromParent k = s.fromParent k := by
  unfold State.fromParent State.isRoot State.parentPort
  rw [State.reg_setReg_apart _ _ (by decide) (by decide) hk, State.reg_setReg_apart _ _ (by decide) (by decide) hk]

theorem State.delayDone_eq (s : State) {k : Nat} (sum : Int) (hk : k < 256) :
    s.delayDone k sum = if 40000 < ((sum + 1) / 2).toNat then (s.delaySet k ((sum + 1) / 2).toNat).quarantine k 6
      else (s.delaySet k ((sum + 1) / 2).toNat).check k := by
  unfold State.delayDone State.delaySet
  dsimp only
  rw [State.fromParent_setDelay s _ hk]

theorem State.onlyLinks.delaySet {s t : State} {o : List Out} (h : s.onlyLinks t o) (k d : Nat) : s.onlyLinks (t.delaySet k d) o := by
  unfold State.delaySet
  split
  · exact (h.setReg _ _ _).setReg _ _ _
  · exact h.setReg _ _ _

@[simp] theorem State.delaySet_link (s : State) (k d j : Nat) : (s.delaySet k d).link j = s.link j := by
  unfold State.delaySet
  split <;> rfl

@[simp] theorem State.delaySet_route (s : State) (k d : Nat) : (s.delaySet k d).route = s.route := by
  unfold State.delaySet
  split <;> rfl

@[simp] theorem State.delaySet_pins (s : State) (k d : Nat) : (s.delaySet k d).pins = s.pins := by
  unfold State.delaySet
  split <;> rfl

theorem State.delaySet_regsKept (s : State) (k d : Nat) :
    s.regsKept (s.delaySet k d) [F.PORT_LINK_STATE.key k, F.PORT_LINK_DELAY.key k, F.TOLL_DELAY_DELAY.key 0] := by
  unfold State.delaySet
  split
  · exact ((s.regsKept_refl _).setReg (by simp) _).setReg (by simp) _
  · exact (s.regsKept_refl _).setReg (by simp) _

theorem State.delaySet_linkState (s : State) {k : Nat} (d : Nat) (hk : k < 256) : (s.delaySet k d).linkState k = s.linkState k := by
  unfold State.delaySet State.linkState
  split
  · rw [State.reg_setReg_apart _ _ (by decide) hk (by decide), State.reg_setReg_apart _ _ (by decide) hk hk]
  · rw [State.reg_setReg_apart _ _ (by decide) hk hk]

theorem State.delaySet_delay (s : State) {k d : Nat} (hk : k < 256) (hd : d ≤ 40000) : (s.delaySet k d).reg F.PORT_LINK_DELAY k = d := by
  have hcut : min d 0xFFFF % 2 ^ F.PORT_LINK_DELAY.width = d := by
    rw [Nat.min_eq_left (by omega)]
    exact Nat.mod_eq_of_lt (Nat.lt_of_le_of_lt hd (by decide))
  unfold State.delaySet
  split
  · rw [State.reg_setReg_apart _ _ (by decide) hk (by decide), State.reg_setReg_same, hcut]
  · rw [State.reg_setReg_same, hcut]

theorem State.delaySet_tollDelay (s : State) {k d : Nat} (hk : k < 256) (hd : d ≤ 40000) :
    (s.delaySet k d).reg F.TOLL_DELAY_DELAY = if s.fromParent k then d else s.reg F.TOLL_DELAY_DELAY := by
  unfold State.delaySet
  split
  · rw [State.reg_setReg_same]
    exact Nat.mod_eq_of_lt (Nat.lt_of_le_of_lt hd (by decide))
  · rw [State.reg_setReg_apart _ _ (by decide) (by decide) hk]

/-! ### The wiring check and READY (14 R446, R447) -/

/-- The wiring check reads the active bank and SPLIT of the link's port, and no more. -/
theorem State.wiring_congr {s t : State} {k : Nat} (ident : Nat) (hroute : t.route = s.route)
    (hactive : t.reg F.ROUTE_BANK_ACTIVE = s.reg F.ROUTE_BANK_ACTIVE) (hsplit : t.reg F.PORT_CFG_SPLIT (k / 2) = s.reg F.PORT_CFG_SPLIT (k / 2)) :
    t.wiring k ident = s.wiring k ident := by
  unfold State.wiring State.nbrKind State.nbrRec State.bank
  simp only [hroute, hactive, hsplit]

theorem State.enterReady_waits (s : State) {k : Nat} (h : ¬(s.linkState k = 5 ∧ (s.link k).sentReady ∧ (s.link k).gotReady)) :
    s.enterReady k = s := if_neg h

/-- The link in CHECK, its READY sent. -/
def State.readySent (s : State) (k : Nat) : State := (s.setLinkState k 5).setLink k { s.link k with sentReady := true }

theorem State.readySent_linkState (s : State) (k : Nat) : (s.readySent k).linkState k = 5 :=
  s.reg_setReg_same F.PORT_LINK_STATE 5 k

theorem State.readySent_link (s : State) (k : Nat) : (s.readySent k).link k = { s.link k with sentReady := true } := s.link_setLink_same k _

theorem State.readySent_reg_apart (s : State) {k : Nat} {g : Field} {m : Nat} (h : g.apart F.PORT_LINK_STATE = true) (hm : m < g.count)
    (hk : k < 256) : (s.readySent k).reg g m = s.reg g m :=
  s.reg_setReg_apart 5 h hm hk

/-- A peer that passes the check while its own READY is still to come is sent READY. -/
theorem State.check_passes (s : State) {k : Nat} (hwiring : (s.setLinkState k 5).wiring k ((s.link k).ident.getD 0) = 0)
    (hgot : (s.link k).gotReady = false) (hopen : s.pins.portsStopped = false) :
    s.check k = (s.readySent k).emit (.block k (blockBits tyReady 0 0)) := by
  have hcheck : s.check k = ((s.readySent k).sendPlain k tyReady 0).enterReady k := if_neg (not_not_intro hwiring)
  have hstate : (s.readySent k).linkState k ≠ 0 := by rw [State.readySent_linkState]; decide
  rw [hcheck, State.sendPlain_open _ _ _ hstate hopen]
  apply State.enterReady_waits
  rw [State.emit_link, State.readySent_link, hgot]
  simp

theorem State.delaySet_setLinkState_regsKept (s : State) (k d : Nat) :
    s.regsKept ((s.delaySet k d).setLinkState k 5) [F.PORT_LINK_STATE.key k, F.PORT_LINK_DELAY.key k, F.TOLL_DELAY_DELAY.key 0] :=
  (s.delaySet_regsKept k d).setReg (by simp) 5

/-- A delay within reach, and the check passed. -/
theorem State.delayDone_near (s : State) {k : Nat} (sum : Int) (hk : k < 256) (hnear : ((sum + 1) / 2).toNat ≤ 40000)
    (hwiring : s.wiring k ((s.link k).ident.getD 0) = 0) (hgot : (s.link k).gotReady = false) (hopen : s.pins.portsStopped = false) :
    s.delayDone k sum = ((s.delaySet k ((sum + 1) / 2).toNat).readySent k).emit (.block k (blockBits tyReady 0 0)) := by
  have hkept := s.delaySet_setLinkState_regsKept k ((sum + 1) / 2).toNat
  have hport : k / 2 < 128 := by omega
  have hother : ∀ {g : Field} {m : Nat}, m < g.count →
      (∀ f ∈ [F.PORT_LINK_STATE, F.PORT_LINK_DELAY, F.TOLL_DELAY_DELAY], g.apart f = true) →
      g.key m ∉ [F.PORT_LINK_STATE.key k, F.PORT_LINK_DELAY.key k, F.TOLL_DELAY_DELAY.key 0] := by
    intro g m hm hapart
    simp only [List.mem_cons, List.not_mem_nil, or_false, not_or]
    exact ⟨Field.key_ne_of_apart (hapart _ (by decide)) hm hk, Field.key_ne_of_apart (hapart _ (by decide)) hm hk,
      Field.key_ne_of_apart (hapart _ (by decide)) hm (by decide)⟩
  have hsame : ((s.delaySet k ((sum + 1) / 2).toNat).setLinkState k 5).wiring k ((s.link k).ident.getD 0) =
      s.wiring k ((s.link k).ident.getD 0) :=
    State.wiring_congr _ (s.delaySet_route k _) (hkept F.ROUTE_BANK_ACTIVE 0 (hother (by decide) (by decide)))
      (hkept F.PORT_CFG_SPLIT (k / 2) (hother hport (by decide)))
  rw [State.delayDone_eq s sum hk, if_neg (Nat.not_lt.mpr hnear)]
  apply State.check_passes
  · rw [State.delaySet_link, hsame, hwiring]
  · rw [State.delaySet_link, hgot]
  · rw [State.delaySet_pins, hopen]

/-- A link whose numbers start at 0 (14 R438, R447). -/
def Link.restarted (l : Link) (toll ck : Nat) : Link :=
  { l with lsend := 0, replay := [], lnext := 0, discard := true, naks := 0, nakInt := toll / 2 ^ 28, lastNak := none, lastReplay := ck,
           csend := 0, blocks := [], waitq := [], cnext := 0, cmiss := false, credit := [0, 0, 0, 0], owed := [0, 0, 0, 0] }

/-- The link READY with TRIES 0, before its first blocks leave. -/
def State.readyEntered (s : State) (k : Nat) : State :=
  ((s.setLink k ((s.link k).restarted s.toll s.ck)).setLinkState k 6).setReg F.PORT_LINK_TRIES 0 k

theorem State.readyEntered_linkState (s : State) {k : Nat} (hk : k < 256) : (s.readyEntered k).linkState k = 6 := by
  unfold State.readyEntered State.linkState
  rw [State.reg_setReg_apart _ _ (by decide) hk hk]
  exact State.reg_setReg_same ..

theorem State.readyEntered_tries (s : State) (k : Nat) : (s.readyEntered k).reg F.PORT_LINK_TRIES k = 0 :=
  (State.reg_setReg_same _ F.PORT_LINK_TRIES 0 k).trans (Nat.zero_mod _)

theorem State.onlyLinks.readyEntered {s t : State} {o : List Out} (h : s.onlyLinks t o) (k : Nat) : s.onlyLinks (t.readyEntered k) o :=
  ((h.setLink _ _).setReg _ _ _).setReg _ _ _

theorem State.readyEntered_regsKept (s : State) (k : Nat) :
    s.regsKept (s.readyEntered k) [F.PORT_LINK_STATE.key k, F.PORT_LINK_TRIES.key k] :=
  (((s.regsKept_refl _).setLink _ _).setReg (by simp) _).setReg (by simp) _

theorem State.readyEntered_link (s : State) (k : Nat) : (s.readyEntered k).link k = (s.link k).restarted s.toll s.ck :=
  s.link_setLink_same k _

theorem State.readyEntered_grantBody (s : State) {k : Nat} (hk : k < 256) : (s.readyEntered k).grantBody k = s.grantBody k := by
  have hport : k / 2 < 128 := by omega
  unfold State.grantBody State.readyEntered State.setLinkState
  rw [State.reg_setReg_apart _ _ (by decide) hport hk, State.reg_setReg_apart _ _ (by decide) hport hk, State.setLink_reg]

/-- The first sequenced block of a link that has just become READY: it takes CSEQ 0 and waits for its acknowledgement. -/
theorem State.sendCredit_first (s : State) {k : Nat} (body : Nat) (hready : s.ready k = true) (hblocks : (s.link k).blocks = [])
    (hcsend : (s.link k).csend = 0) :
    s.sendBlock k tyCredit body =
      (s.setLink k { s.link k with csend := 1, blocks := [(0, tyCredit, body)] }).emit (.block k (blockBits tyCredit 0 body)) := by
  simp [State.sendBlock, State.issueBlock, State.emitSeq, State.restamp, hready, hblocks, hcsend, tyCredit, tyTick, tyGong]

/-- READY sent and received: REPLAY(0) and the credit grant leave. -/
theorem State.enterReady_done (s : State) {k : Nat} (hk : k < 256) (hstate : s.linkState k = 5) (hsent : (s.link k).sentReady = true)
    (hgot : (s.link k).gotReady = true) (hopen : s.pins.portsStopped = false) :
    s.enterReady k =
      (((s.readyEntered k).emit (.block k (blockBits tyReplay 0 0))).setLink k
        { (s.link k).restarted s.toll s.ck with csend := 1, blocks := [(0, tyCredit, s.grantBody k)] }).emit
        (.block k (blockBits tyCredit 0 (s.grantBody k))) := by
  have hsix := s.readyEntered_linkState hk
  have hopen' : (s.readyEntered k).pins.portsStopped = false := hopen
  have hready : ((s.readyEntered k).emit (.block k (blockBits tyReplay 0 0))).ready k = true := by
    have hstate : ((s.readyEntered k).emit (.block k (blockBits tyReplay 0 0))).linkState k = 6 := hsix
    simp [State.ready, hstate, hopen']
  have hlink : ((s.readyEntered k).emit (.block k (blockBits tyReplay 0 0))).link k = (s.link k).restarted s.toll s.ck :=
    s.readyEntered_link k
  have henter : s.enterReady k = ((s.readyEntered k).sendPlain k tyReplay 0).sendBlock k tyCredit ((s.readyEntered k).grantBody k) :=
    if_pos ⟨hstate, hsent, hgot⟩
  rw [henter, State.sendPlain_open _ _ _ (by rw [hsix]; decide) hopen', s.readyEntered_grantBody hk,
    State.sendCredit_first _ _ hready (by rw [hlink]; rfl) (by rw [hlink]; rfl), hlink]

/-! ### The commands of Roll call -/

section
variable {k : Fin 256} {crc : BitVec 32} {s : State}

theorem exec_identReceived {body : BitVec 128} (hgood : crc.toNat = blockCrc tyIdent 0 body.toNat) :
    exec (.identReceived ⟨k, crc⟩ body) s = .next (s.identIn k body.toNat) :=
  congrArg Host.Outcome.next (s.takePlain_good _ hgood)

theorem exec_dreqReceived {t1 t2 t3 : BitVec 64} (hgood : crc.toNat = blockCrc tyDreq 0 t1.toNat) :
    exec (.dreqReceived ⟨k, crc⟩ t1 t2 t3) s = .next (s.answerDreq k t2.toNat t3.toNat) :=
  congrArg Host.Outcome.next (s.takePlain_good _ hgood)

theorem exec_drespReceived {t2 t3 : BitVec 64} (hgood : crc.toNat = blockCrc tyDresp 0 (t2.toNat + t3.toNat * 2 ^ 64)) :
    exec (.drespReceived k crc t2 t3) s = .next (s.drespIn k t2.toNat t3.toNat s.toll) :=
  congrArg Host.Outcome.next (s.takePlain_good _ hgood)

theorem exec_readyReceived (hgood : crc.toNat = blockCrc tyReady 0 0) : exec (.readyReceived ⟨k, crc⟩) s = .next (s.readyIn k) :=
  congrArg Host.Outcome.next (s.takePlain_good _ hgood)

theorem exec_dreqTimeout {t0 : Nat} (hstate : s.linkState k = 4) (ht1 : (s.link k).t1 = some t0) :
    exec (.dreqTimeout k) s = .next ((s.advanceTo (t0 + 3277)).sendDreq k) := by
  show execDreqTimeout k s = _
  simp only [execDreqTimeout, ht1, hstate, if_true]

end

/-- A DREQ in TIME to READY is answered with the two times that the command brings (14 R445). -/
theorem State.answerDreq_answered (s : State) {k : Nat} (t2 t3 : Nat) (hk : k < 256) (hstate : 4 ≤ s.linkState k ∧ s.linkState k ≤ 6)
    (hopen : s.pins.portsStopped = false) :
    s.answerDreq k t2 t3 = ((s.advanceTo t2).advanceTo t3).putOut
      (.block k (blockBits tyDresp 0 ((s.advanceTo t2).toll + ((s.advanceTo t2).advanceTo t3).toll * 2 ^ 64)) :: s.out) := by
  have hanswer : s.answerDreq k t2 t3 = ((s.advanceTo t2).advanceTo t3).sendPlain k tyDresp
      ((s.advanceTo t2).toll + ((s.advanceTo t2).advanceTo t3).toll * 2 ^ 64) := if_pos hstate
  have hlater : ((s.advanceTo t2).advanceTo t3).linkState k = s.linkState k := by
    rw [State.advanceTo_linkState _ _ hk, State.advanceTo_linkState _ _ hk]
  rw [hanswer, State.sendPlain_open _ _ _ (by rw [hlater]; omega) (by simpa using hopen), State.emit_eq, State.advanceTo_out,
    State.advanceTo_out]

theorem State.readyIn_taken (s : State) {k : Nat} (hstate : 3 ≤ s.linkState k ∧ s.linkState k ≤ 5) :
    s.readyIn k = (s.setLink k { s.link k with gotReady := true }).enterReady k := if_pos hstate

/-- READY received while the link's own is still to be sent is kept in mind, and no more. -/
theorem State.readyIn_early (s : State) {k : Nat} (hstate : 3 ≤ s.linkState k ∧ s.linkState k ≤ 5)
    (hsent : s.linkState k = 5 → (s.link k).sentReady = false) :
    s.readyIn k = s.setLink k { s.link k with gotReady := true } := by
  rw [s.readyIn_taken hstate]
  apply State.enterReady_waits
  rw [State.link_setLink_same]
  rintro ⟨hfive, hown, -⟩
  exact Bool.false_ne_true ((hsent hfive).symm.trans hown)

/-- The send time of the DREQ that a DRESP answers, and A of the exchange by it. -/
theorem exists_exchangeTime {l : Link} (h : l.t1.isSome = true) (t2 t3 t4 : Nat) :
    ∃ t1, l.t1 = some t1 ∧ ((t4 : Int) - l.t1.getD 0) - ((t3 : Int) - t2) = exchangeTime t1 t2 t3 t4 := by
  obtain ⟨t1, ht1⟩ := Option.isSome_iff_exists.mp h
  exact ⟨t1, ht1, by rw [ht1]; rfl⟩

/-- A link whose delay is within reach and whose peer passes the check, with its READY on its way. -/
theorem State.delayDone_near_shows {r s : State} {o : List Out} (hlinks : r.onlyLinks s o) {k : Nat} (sum : Int) (hk : k < 256)
    (hnear : ((sum + 1) / 2).toNat ≤ 40000) (hwiring : s.wiring k ((s.link k).ident.getD 0) = 0) (hgot : (s.link k).gotReady = false)
    (hopen : s.pins.portsStopped = false) :
    r.onlyLinks (s.delayDone k sum) (.block k (blockBits tyReady 0 0) :: o) ∧
    (s.delayDone k sum).reg F.PORT_LINK_DELAY k = ((sum + 1) / 2).toNat ∧ (s.delayDone k sum).reg F.PORT_LINK_STATE k = 5 ∧
    ((s.delayDone k sum).link k).sentReady = true ∧
    s.regsKept (s.delayDone k sum) [F.PORT_LINK_STATE.key k, F.PORT_LINK_DELAY.key k, F.TOLL_DELAY_DELAY.key 0] ∧
    (s.delayDone k sum).reg F.TOLL_DELAY_DELAY = if s.fromParent k then ((sum + 1) / 2).toNat else s.reg F.TOLL_DELAY_DELAY := by
  rw [s.delayDone_near sum hk hnear hwiring hgot hopen]
  generalize ((sum + 1) / 2).toNat = d at hnear ⊢
  simp only [State.emit_reg, State.emit_link, State.readySent_link]
  refine ⟨(((hlinks.delaySet k d).setReg _ _ _).setLink _ _).emit _, ?_, State.readySent_linkState _ k, trivial,
    ((s.delaySet_setLinkState_regsKept k d).setLink _ _).emit _, ?_⟩
  · rw [State.readySent_reg_apart _ (by decide) hk hk, State.delaySet_delay _ hk hnear]
  · rw [State.readySent_reg_apart _ (by decide) (by decide) hk, State.delaySet_tollDelay _ hk hnear]

/-- A link that has become READY, with its first blocks on their way. -/
theorem State.enterReady_shows {r s : State} {o : List Out} (hlinks : r.onlyLinks s o) {k : Nat} (hk : k < 256) (hstate : s.linkState k = 5)
    (hsent : (s.link k).sentReady = true) (hgot : (s.link k).gotReady = true) (hopen : s.pins.portsStopped = false) :
    (s.enterReady k).reg F.PORT_LINK_STATE k = 6 ∧ (s.enterReady k).reg F.PORT_LINK_TRIES k = 0 ∧
    r.onlyLinks (s.enterReady k) (.block k (blockBits tyCredit 0 (s.grantBody k)) :: .block k (blockBits tyReplay 0 0) :: o) ∧
    s.regsKept (s.enterReady k) [F.PORT_LINK_STATE.key k, F.PORT_LINK_TRIES.key k] ∧
    (s.enterReady k).link k =
      { (s.link k).restarted s.toll s.ck with csend := 1, blocks := [(0, tyCredit, s.grantBody k)] } := by
  rw [s.enterReady_done hk hstate hsent hgot hopen]
  refine ⟨?_, ?_, ?_, ?_, ?_⟩
  · rw [State.emit_reg, State.setLink_reg, State.emit_reg]
    exact s.readyEntered_linkState hk
  · rw [State.emit_reg, State.setLink_reg, State.emit_reg, State.readyEntered_tries]
  · exact (((hlinks.readyEntered k).emit _).setLink _ _).emit _
  · exact (((s.readyEntered_regsKept k).emit _).setLink _ _).emit _
  · rw [State.emit_link, State.link_setLink_same]

/-- Settles O40: each block is taken with its good CRC, and what follows is the lemma of its clause above. -/
theorem rollCallReachesReady : Obligations.RollCallReachesReady := by
  intro k crc body t1 t2 t3 s hopen st b l a good sent d
  have hk : k.val < 256 := k.isLt
  refine ⟨?identOne, ?identZero, ?identOutside, ?dreq, ?dresp, ?drespLast, ?drespFar, ?timeout, ?readyEarly, ?ready⟩
  case identOne =>
    intro hgood hstate hmajor hlowest
    refine ⟨_, exec_identReceived hgood, ?_⟩
    rw [State.identIn_version_one s hstate hmajor hlowest, State.identAgreed_sendDreq s b hk hopen]
    refine ⟨((s.identAgreed_onlyLinks k b).setLink _ _).emit _, ?_⟩
    simp only [State.emit_reg, State.setLink_reg, State.emit_link, State.link_setLink_same]
    obtain ⟨hfour, hversion, hfeatures, hport, hep, hcoord⟩ := s.identAgreed_shows b hk
    exact ⟨hfour, hversion, hfeatures, hport, hep, hcoord, trivial, trivial, ((s.identAgreed_regsKept k b).setLink _ _).emit _⟩
  case identZero =>
    intro hgood hstate hmajor
    have hkept : (s.identKept k b).linkState k ≠ 6 := by
      rw [State.identKept_linkState s b hk]
      exact ne_of_eq_of_ne hstate (by decide)
    refine ⟨_, exec_identReceived hgood, ?_⟩
    rw [State.identIn_version_zero s hstate hmajor]
    exact State.quarantine_shows _ hk hkept (by decide)
  case identOutside =>
    intro hgood hstate
    exact (exec_identReceived hgood).trans (congrArg _ (s.identIn_outside b hstate))
  case dreq =>
    intro hgood hlow hhigh
    exact (exec_dreqReceived hgood).trans (congrArg _ (s.answerDreq_answered _ _ hk ⟨hlow, hhigh⟩ hopen))
  case dresp =>
    intro hgood hstate ht1 hexch
    obtain ⟨t0, ht0, ha⟩ := exists_exchangeTime ht1 t2.toNat t3.toNat s.toll
    refine ⟨_, exec_drespReceived hgood, ?_⟩
    rw [State.drespIn_again s _ _ _ hstate ht0 hexch hopen, ← ha]
    refine ⟨rfl, ?_, ?_⟩
    · rw [State.emit_link, State.link_setLink_same]
      rfl
    · intro j hj
      rw [State.emit_link, State.link_setLink_other _ _ hj, State.link_setLink_other _ _ hj]
  case drespLast =>
    intro hgood hstate ht1 hexch hgot hwiring hd
    obtain ⟨t0, ht0, ha⟩ := exists_exchangeTime ht1 t2.toNat t3.toNat s.toll
    refine ⟨_, exec_drespReceived hgood, ?_⟩
    rw [State.drespIn_last s _ _ _ hstate ht0 hexch, ← ha]
    have hlink : (s.setLink k (l.exchanged a)).link k = l.exchanged a := s.link_setLink_same k _
    exact State.delayDone_near_shows (s.onlyLinks_refl.setLink _ _) _ hk hd (by rw [hlink]; exact hwiring) (by rw [hlink]; exact hgot) hopen
  case drespFar =>
    intro hgood hstate ht1 hexch hfar
    obtain ⟨t0, ht0, ha⟩ := exists_exchangeTime ht1 t2.toNat t3.toNat s.toll
    refine ⟨_, exec_drespReceived hgood, ?_⟩
    rw [State.drespIn_last s _ _ _ hstate ht0 hexch, State.delayDone_eq _ _ hk, ← ha, if_pos hfar]
    refine State.quarantine_shows _ hk ?_ (by decide)
    rw [State.delaySet_linkState _ _ hk]
    exact ne_of_eq_of_ne hstate (by decide)
  case timeout =>
    intro t0 hstate ht0 hsmall
    refine ⟨_, exec_dreqTimeout hstate ht0, ?_⟩
    have hlater : (s.advanceTo (t0 + 3277)).linkState k ≠ 0 := by
      rw [State.advanceTo_linkState _ _ hk]
      exact ne_of_eq_of_ne hstate (by decide)
    have hlaterOpen : (s.advanceTo (t0 + 3277)).pins.portsStopped = false := by rwa [State.advanceTo_pins]
    obtain ⟨htoll, hout, hlink, hreg⟩ := State.sendDreq_shows _ hlater hlaterOpen
    rw [htoll, hout, hlink, State.advanceTo_out, State.advanceTo_link]
    exact ⟨s.advanceTo_toll_max hsmall, fun g m hg => (hreg g m).trans (s.advanceTo_reg _ (List.ne_of_not_mem_cons hg)), rfl, rfl⟩
  case readyEarly =>
    intro hgood hlow hhigh hsent
    refine ⟨_, exec_readyReceived hgood, ?_⟩
    rw [State.readyIn_early s ⟨hlow, hhigh⟩ hsent]
    exact ⟨rfl, State.link_setLink_same ..⟩
  case ready =>
    intro hgood hstate hsent
    refine ⟨_, exec_readyReceived hgood, ?_⟩
    have hfive : s.linkState k = 5 := hstate
    have hlink := s.link_setLink_same k { s.link k with gotReady := true }
    obtain ⟨hsix, htries, hlinks, hkept, hlater⟩ := State.enterReady_shows (s.onlyLinks_refl.setLink k { s.link k with gotReady := true }) hk
      hstate (by rw [hlink]; exact hsent) (by rw [hlink]) hopen
    rw [s.readyIn_taken (by omega)]
    refine ⟨hsix, htries, hlinks, hkept, ?_⟩
    rw [hlater]
    exact ⟨rfl, rfl, rfl, rfl, rfl, rfl⟩

end Sys2Proof.Machine
end

section
/-!
LAWS. Register writes that a frame names, counters, fields apart from one another, and what a message to the hub leaves alone.
-/
namespace Sys2Proof.Machine

/-! ### The frame of register writes -/

/-- A frame speaks of the register table alone. -/
theorem State.regsKept.congr {s t u : State} {ks : List Nat} (h : s.regsKept t ks) (hregs : u.regs = t.regs) : s.regsKept u ks :=
  fun g m hg => (State.reg_congr hregs g m).trans (h g m hg)

/-- An update of a field that the frame names stays within it. -/
theorem State.regsKept.update {s t : State} {ks : List Nat} (h : s.regsKept t ks) {f : Field} {n : Nat} (hf : f.key n ∈ ks) (v : Nat)
    (u : Nat → Nat) : s.regsKept (t.update f v u n) ks := by
  rw [State.update_eq]
  exact (h.setReg hf v).congr rfl

theorem State.memKept_of_mem {s t : State} (h : t.mem = s.mem) : s.memKept t := State.byte_congr h

/-- A value that fits its field reads back as it is. -/
theorem State.reg_setReg_lt (s : State) {f : Field} {v : Nat} (n : Nat) (h : v < 2 ^ f.width) : (s.setReg f v n).reg f n = v := by
  rw [State.reg_setReg_same, Nat.mod_eq_of_lt h]

theorem State.update_reg_apart (s : State) {f g : Field} (v : Nat) (u : Nat → Nat) {n m : Nat} (h : g.apart f = true) (hm : m < g.count)
    (hn : n < f.count) : (s.update f v u n).reg g m = s.reg g m := by
  rw [State.update_reg, State.reg_setReg_apart s v h hm hn]

theorem State.count_reg_apart (s : State) {f g : Field} (k : Nat) {n m : Nat} (h : g.apart f = true) (hm : m < g.count)
    (hn : n < f.count) : (s.count f k n).reg g m = s.reg g m := s.update_reg_apart _ _ h hm hn

theorem State.tick_reg_apart (s : State) {f g : Field} (k : Nat) {n m : Nat} (h : g.apart f = true) (hm : m < g.count)
    (hn : n < f.count) : (s.tick f k n).reg g m = s.reg g m := s.update_reg_apart _ _ h hm hn

/-- A counter that holds at its largest value shows one event more, or that value. -/
theorem State.count_reg_same (s : State) (f : Field) (k n : Nat) : (s.count f k n).reg f n = min (s.reg f n + k) f.top := by
  have hpos : 0 < 2 ^ f.width := Nat.two_pow_pos _
  have hlt : min (s.reg f n + k) f.top < 2 ^ f.width := by
    unfold Field.top
    omega
  rw [State.count, State.update_reg, State.reg_setReg_lt s n hlt]

/-- A counter that wraps shows its events modulo its range. -/
theorem State.tick_reg_same (s : State) (f : Field) (k n : Nat) : (s.tick f k n).reg f n = (s.reg f n + k) % 2 ^ f.width := by
  rw [State.tick, State.update_reg, State.reg_setReg_same]

/-- A counter changes its own field, and what is kept beside it of the present CK (00 R17). -/
theorem State.update_onlyCounts (s : State) (f : Field) (v : Nat) (u : Nat → Nat) (n : Nat) : s.onlyCounts (s.update f v u n) [f.key n] := by
  refine ⟨?_, (s.regsKept_refl _).update (by simp) v u, fun a => State.update_byte .., ?_⟩
  · rw [State.update_eq]
    rfl
  · intro k hk
    have hne : k ≠ f.key n := fun hkey => hk (by simp [hkey])
    unfold State.update
    split
    · exact tabFind_insert_other _ _ hne
    · rfl

/-! ### A message to the hub (17 R528, R537) -/

/-- The fields that a message to the hub may change: the counts of the hub, and those of a load that the message ends. -/
def hubFields : List Field :=
  [F.FLT_COUNTS_C0, F.FLT_COUNTS_C1, F.FLT_COUNTS_C2, F.SEQ_SCORE_STATE, F.MXE_CFG_FIXED_LAT, F.SEQ_SCORE_LAST_CODE, F.ACV_RSTAT_INFLIGHT]

section
variable {g : Field} {m : Nat} (hg : ∀ f ∈ hubFields, g.apart f = true) (hm : m < g.count)
include hg hm

theorem State.complete_reg_apart (s : State) (d : Desc) (code v0 v1 : Nat) : (s.complete d code v0 v1).reg g m = s.reg g m := by
  rw [State.complete_eq, State.reg_setReg_apart _ _ (hg _ (by decide)) hm d.ring.isLt]
  rfl

theorem State.loadHit_reg_apart (s : State) (cls : Nat) : (s.loadHit cls).reg g m = s.reg g m := by
  unfold State.loadHit
  split
  · split
    · rw [State.complete_reg_apart hg hm, State.reg_setReg_apart _ _ (hg _ (by decide)) hm (by decide),
        State.reg_setReg_apart _ _ (hg _ (by decide)) hm (by decide), State.reg_setReg_apart _ _ (hg _ (by decide)) hm (by decide)]
      rfl
    · rfl
  · rfl

theorem State.toHub_reg_apart (s : State) (r : Rep) : (s.toHub r).reg g m = s.reg g m := by
  unfold State.toHub
  dsimp only
  split
  · exact State.count_reg_apart _ 1 (hg _ (by decide)) hm (by decide)
  · split
    · exact State.count_reg_apart _ 1 (hg _ (by decide)) hm (by decide)
    · split
      · exact State.count_reg_apart _ 1 (hg _ (by decide)) hm (by decide)
      · rfl

/-- A message of level 4 goes to the hub. -/
theorem State.send_hub_reg (s : State) {r : Rep} (hlevel : r.msg.level = 4) : (s.send r).reg g m = s.reg g m := by
  unfold State.send
  rw [hlevel]
  exact (State.toHub_reg_apart hg hm _ r).trans (State.loadHit_reg_apart hg hm s _)

theorem State.tell_hub_reg (s : State) (kind cls unit access : Nat) (addr : Option Nat) (act : Nat) :
    (s.tell kind cls 4 unit access addr act).reg g m = s.reg g m :=
  State.send_hub_reg hg hm s rfl

end

theorem State.loadHit_of_class (s : State) {cls : Nat} (h : cls ≠ 1 ∧ cls ≠ 2) : s.loadHit cls = s := by
  unfold State.loadHit
  split
  · simp [h.1, h.2]
  · rfl

/-- What a message touches outside registers, faults, completions and the Score unit: nothing. -/
theorem State.tell_pins (s : State) (kind cls level unit access : Nat) (addr : Option Nat) (act : Nat) :
    (s.tell kind cls level unit access addr act).pins = s.pins := by
  rw [State.tell, State.send_eq]
  rfl

theorem State.tell_boot (s : State) (kind cls level unit access : Nat) (addr : Option Nat) (act : Nat) :
    (s.tell kind cls level unit access addr act).boot = s.boot := by
  rw [State.tell, State.send_eq]
  rfl

end Sys2Proof.Machine
end

section
/-!
PROOFS. The idle step and Clave edges: the statements IdleStepIsOneCk and ClaveEdgeAcceptedOrDiscarded.
-/
namespace Sys2Proof.Machine

/-! ### The idle step (log entry 1) -/

/-- Empty queues have nothing to go on with. -/
theorem State.queuesOn_empty {s : State} {c : Nat} (h : s.queuesEmpty c) : s.queuesOn c = s := by
  obtain ⟨hmx, hmv, htl, hvq⟩ := h
  have hve : foldKeys (List.range 4) (fun t ve => State.vNext (tabGet [] (s.cl c).vq ve).length t c ve) s = s := by
    simp [foldKeys, List.range_succ, hvq, State.vNext]
  rw [State.queuesOn, hmx, hmv, htl]
  exact hve

/-- With every queue empty no cluster changes anything in a CK. -/
theorem State.queuesOn_all {s : State} (ks : List Nat) (h : ∀ c ∈ ks, s.queuesEmpty c) : foldKeys ks State.queuesOn s = s := by
  induction ks with
  | nil => rfl
  | cons c ks ih =>
    rw [List.forall_mem_cons] at h
    exact (congrArg (foldKeys ks State.queuesOn) (State.queuesOn_empty h.1)).trans (ih h.2)

theorem State.tollStep_le (s : State) : s.tollStep ≤ 2 := by
  unfold State.tollStep
  dsimp only
  split_ifs <;> decide

/-- In FREE the count goes on by 1 in every CK (02 R68). -/
theorem State.tollStep_free {s : State} (h : s.reg F.TOLL_STATUS_STATE = 0) : s.tollStep = 1 := if_pos (Or.inl h)

/-- The Toll unit after a CK in which the count goes on by `n` (02 R72). -/
def State.slewed (s : State) (n : Nat) : TollUnit :=
  if n = 1 then { s.tollU with sinceStep := min (s.tollU.sinceStep + 1) 1024 }
  else { s.tollU with sinceStep := 0, corr := s.tollU.corr - 16 * ((n : Int) - 1) }

/-- The state after a CK in which time alone passes. -/
def State.ticked (s : State) (n : Nat) : State := ((s.setReg F.TOLL_COUNT_COUNT (s.toll + n)).passCk 1).putTollU (s.slewed n)

theorem State.ticked_eq (s : State) (n : Nat) : s.ticked n =
    (((s.putRegs (s.ticked n).regs).putCk (if s.pins.porstN then s.ck + 1 else s.ck)).putFresh []).putTollU (s.slewed n) := rfl

theorem State.ticked_toll (s : State) (n : Nat) : (s.ticked n).toll = (s.toll + n) % 2 ^ 64 :=
  s.reg_setReg_same F.TOLL_COUNT_COUNT (s.toll + n) 0

/-- With every queue empty, no packet of the host waiting and no round of the links begun, a CK brings nothing but itself. -/
theorem State.idle_ticked (s : State) (hqueues : ∀ e ∈ s.clusters, s.queuesEmpty e.1) (hheld : s.acv.held = [])
    (hround : roundsBy s.toll = roundsBy (s.toll + 2)) : s.idle = s.ticked s.tollStep := by
  have hstep := s.tollStep_le
  have htoll := s.ticked_toll s.tollStep
  have hnone : ¬ roundsBy s.toll < roundsBy (s.ticked s.tollStep).toll := by
    rw [htoll]
    unfold roundsBy at hround ⊢
    have := Nat.mod_le (s.toll + s.tollStep) (2 ^ 64)
    omega
  have hclusters : ∀ c ∈ (s.ticked s.tollStep).clusters.map (·.1), (s.ticked s.tollStep).queuesEmpty c := by
    intro c hc
    obtain ⟨e, he, rfl⟩ := List.mem_map.mp hc
    exact hqueues e he
  calc s.idle
      = State.hostOn (s.ticked s.tollStep).acv.held.length
          (foldKeys ((s.ticked s.tollStep).clusters.map (·.1)) State.queuesOn (s.ticked s.tollStep)) := by
        unfold State.idle
        exact congrArg (fun t : State => State.hostOn t.acv.held.length (foldKeys (t.clusters.map (·.1)) State.queuesOn t)) (if_neg hnone)
    _ = State.hostOn (s.ticked s.tollStep).acv.held.length (s.ticked s.tollStep) := by rw [State.queuesOn_all _ hclusters]
    _ = s.ticked s.tollStep := by
        have hlen : (s.ticked s.tollStep).acv.held.length = 0 := congrArg List.length hheld
        rw [hlen]
        rfl

/-- Settles O2: of an idle step nothing but the passing of time is left, and the count goes on by at most 2. -/
theorem idleStepIsOneCk : Obligations.IdleStepIsOneCk := by
  intro s hpending hqueues hheld hround
  refine ⟨s.ticked s.tollStep, ?_, s.ticked_eq _, ?_, State.memKept_of_mem rfl, ?_, ?_⟩
  · rw [step, hpending, ← s.idle_ticked hqueues hheld hround]
  · exact ((s.regsKept_refl _).setReg (List.mem_singleton_self _) _).congr rfl
  · have hstep := s.tollStep_le
    rw [s.ticked_toll]
    interval_cases s.tollStep
    · exact Or.inl rfl
    · exact Or.inr (Or.inl rfl)
    · exact Or.inr (Or.inr rfl)
  · intro hfree
    rw [s.ticked_toll, State.tollStep_free hfree]

/-! ### Clave edges (01 R61; 02 R98, R99) -/

/-- With no Score running the mode in effect is MODE itself. -/
theorem State.clave_idle {s : State} (h : s.running = false) : s.clave = s.reg F.BEAT_CLAVE_CFG_MODE := by
  rw [State.clave, h]
  rfl

theorem State.running_eq_false {s : State} (h : s.reg F.BEAT_STATUS_STATE ≠ 2) : s.running = false := decide_eq_false h

/-- An accepted edge while no Score runs: EDGE shows it, ACCEPTED counts it, and PEND is 0. -/
def State.edgeAccepted (s : State) (edge : Nat) : State :=
  (((s.setReg F.BEAT_CLAVE_EDGE_EDGE edge).tick F.BEAT_CLAVE_COUNTS_ACCEPTED).putBeatU
    { s.beatU with edgeCk := some (s.edgeAt edge) }).setReg F.BEAT_CLAVE_STATUS_PEND 0

theorem State.claveEdge_accepted {s : State} {edge : Nat} (hrun : s.running = false) (hmode : ¬ (s.clave = 0 ∨ s.clave = 3))
    (hfar : s.edgeClose edge = false) : s.claveEdge edge = s.edgeAccepted edge := by
  have hbeat : ((s.setReg F.BEAT_CLAVE_EDGE_EDGE edge).tick F.BEAT_CLAVE_COUNTS_ACCEPTED).beatU = s.beatU := by
    rw [State.tick_eq]
    rfl
  have hidle : ((s.setReg F.BEAT_CLAVE_EDGE_EDGE edge).tick F.BEAT_CLAVE_COUNTS_ACCEPTED).running = false := by
    unfold State.running at hrun ⊢
    rwa [State.tick_reg_apart _ _ (by decide) (by decide) (by decide), State.reg_setReg_apart _ _ (by decide) (by decide) (by decide)]
  simp only [State.claveEdge, if_neg hmode, hfar, hbeat]
  unfold State.claveMeasure
  rw [show ∀ b : BeatUnit, (((s.setReg F.BEAT_CLAVE_EDGE_EDGE edge).tick F.BEAT_CLAVE_COUNTS_ACCEPTED).putBeatU b).running = false from
    fun _ => hidle, Bool.and_false]
  rfl

theorem State.claveEdge_discarded {s : State} {edge : Nat} (hmode : ¬ (s.clave = 0 ∨ s.clave = 3)) (hclose : s.edgeClose edge = true) :
    s.claveEdge edge = s.tick F.BEAT_CLAVE_COUNTS_DISCARDED := by
  rw [State.claveEdge, if_neg hmode, if_pos hclose]

/-- Settles O13: an edge far enough from the last accepted one is accepted, any other only counted. -/
theorem claveEdgeAcceptedOrDiscarded : Obligations.ClaveEdgeAcceptedOrDiscarded := by
  intro edge s hidle hmode
  have hrun := State.running_eq_false hidle
  have hclave : ¬ (s.clave = 0 ∨ s.clave = 3) := by
    rw [State.clave_idle hrun]
    omega
  refine ⟨fun hfar => ?_, fun e he hnear => ?_⟩
  · have hclose : s.edgeClose edge.toNat = false := by
      unfold State.edgeClose State.edgeAt
      split
      · rename_i e he
        exact decide_eq_false (Int.not_lt.mpr (hfar e he))
      · rfl
    refine ⟨s.edgeAccepted edge.toNat, congrArg _ (State.claveEdge_accepted hrun hclave hclose), ?_, ?_, ?_, ?_, ?_, ?_⟩
    · unfold State.edgeAccepted
      rw [State.tick_eq]
      rfl
    · exact State.memKept_of_mem (by unfold State.edgeAccepted; rw [State.tick_eq]; rfl)
    · exact (((((s.regsKept_refl _).setReg (by simp) _).update (by simp) _ _).congr rfl).setReg (by simp) _)
    · unfold State.edgeAccepted
      rw [State.reg_setReg_apart _ _ (by decide) (by decide) (by decide), State.putBeatU_reg,
        State.tick_reg_apart _ _ (by decide) (by decide) (by decide), State.reg_setReg_same]
    · exact State.reg_setReg_same ..
    · unfold State.edgeAccepted
      rw [State.reg_setReg_apart _ _ (by decide) (by decide) (by decide), State.putBeatU_reg, State.tick_reg_same,
        State.reg_setReg_apart _ _ (by decide) (by decide) (by decide)]
  · have hclose : s.edgeClose edge.toNat = true := by
      unfold State.edgeClose State.edgeAt
      rw [he]
      exact decide_eq_true hnear
    exact ⟨s.tick F.BEAT_CLAVE_COUNTS_DISCARDED, congrArg _ (State.claveEdge_discarded hclave hclose), s.update_onlyCounts _ _ _ _,
      s.tick_reg_same _ _ _⟩

end Sys2Proof.Machine
end

section
/-!
PROOFS. Power-off requests and the governor: the statements OffRequestReachesSafeOff, OffReqWhileFaultedHasNoEffect and
GovernorSampleMovesThrottle.
-/
namespace Sys2Proof.Machine

/-! ### Requests for an orderly power-off (01 R50, R51, R56) -/

/-- A machine that is not FAULTED moves to the STATE it is given (01 R52). -/
theorem State.setPower_eq {s : State} (h : s.power ≠ 15) (v : Nat) : s.setPower v = s.setReg F.ENG_PWR_STATE_STATE v := if_neg h

theorem State.offReq_faulted {s : State} (h : s.reg F.ENG_PWR_STATE_STATE = 15) : s.offReq = s := if_pos h

/-- OFF_REQ set and STATE moved to `v`. -/
def State.offMoved (s : State) (v : Nat) : State := (s.setReg F.ENG_PWR_STATE_OFF_REQ 1).setReg F.ENG_PWR_STATE_STATE v

/-- STATE stands as it was beside the OFF_REQ bit that is set. -/
theorem State.power_setOffReq (s : State) : (s.setReg F.ENG_PWR_STATE_OFF_REQ 1).power = s.power :=
  s.reg_setReg_apart _ (by decide) (by decide) (by decide)

theorem State.setOffReq_setPower {s : State} (h : s.power = 4) (v : Nat) : (s.setReg F.ENG_PWR_STATE_OFF_REQ 1).setPower v = s.offMoved v :=
  State.setPower_eq (by rw [s.power_setOffReq, h]; decide) v

theorem State.running_setOffReq (s : State) : (s.setReg F.ENG_PWR_STATE_OFF_REQ 1).running = s.running := by
  unfold State.running
  rw [State.reg_setReg_apart _ _ (by decide) (by decide) (by decide)]

theorem State.offMoved_running (s : State) (v : Nat) : (s.offMoved v).running = s.running := by
  unfold State.offMoved State.running
  rw [State.reg_setReg_apart _ _ (by decide) (by decide) (by decide), State.reg_setReg_apart _ _ (by decide) (by decide) (by decide)]

theorem State.offReq_stops {s : State} (hpower : s.power = 4) (hrun : s.running = false) :
    s.offReq = (s.offMoved 6).putPins { s.pins with portsStopped := true } := by
  simp only [State.offReq, State.power_setOffReq, hpower, if_true, State.running_setOffReq, hrun,
    State.setOffReq_setPower hpower]
  rfl

theorem State.offReq_departs {s : State} (hpower : s.power = 4) (hrun : s.running = true) :
    s.offReq = (s.offMoved 5).putBeatU { s.beatU with haltReq := true, haltCause := s.beatU.haltCause ||| 0x400, leaveDue := true } := by
  simp only [State.offReq, State.power_setOffReq, hpower, if_true, State.running_setOffReq, hrun,
    State.setOffReq_setPower hpower, State.halt_eq, State.offMoved_running]
  rfl

theorem State.safeOff_stops {s : State} (hpower : s.power = 5) (hrun : s.running = false) :
    s.safeOff = (s.setReg F.ENG_PWR_STATE_STATE 6).putPins { s.pins with portsStopped := true } := by
  have hneither : s.power ≠ 15 := by rw [hpower]; decide
  simp only [State.safeOff, State.setPower_eq hneither]
  exact if_pos ⟨hpower, by rw [hrun]; rfl⟩

theorem State.offMoved_regsKept (s : State) (v : Nat) :
    s.regsKept (s.offMoved v) [F.ENG_PWR_STATE_OFF_REQ.key 0, F.ENG_PWR_STATE_STATE.key 0] :=
  ((s.regsKept_refl _).setReg (by simp) _).setReg (by simp) _

theorem State.offMoved_offReq (s : State) (v : Nat) : (s.offMoved v).reg F.ENG_PWR_STATE_OFF_REQ = 1 := by
  rw [State.offMoved, State.reg_setReg_apart _ _ (by decide) (by decide) (by decide), State.reg_setReg_same]
  rfl

theorem State.offMoved_state (s : State) {v : Nat} (h : v < 16) : (s.offMoved v).reg F.ENG_PWR_STATE_STATE = v := State.reg_setReg_lt _ 0 h

/-- Settles O7: each course of the request is one equation above. -/
theorem offRequestReachesSafeOff : Obligations.OffRequestReachesSafeOff := by
  intro s
  refine ⟨fun hfaulted => congrArg _ (State.offReq_faulted hfaulted), fun hpower hidle => ?_, fun hpower hrun => ?_, fun hpower hidle => ?_⟩
  · exact ⟨_, congrArg Host.Outcome.next (State.offReq_stops hpower (State.running_eq_false hidle)), rfl, State.memKept_of_mem rfl,
      (s.offMoved_regsKept 6).congr rfl, s.offMoved_offReq 6, s.offMoved_state (v := 6) (by decide)⟩
  · exact ⟨_, congrArg Host.Outcome.next (State.offReq_departs hpower (decide_eq_true hrun)), rfl, State.memKept_of_mem rfl,
      (s.offMoved_regsKept 5).congr rfl, s.offMoved_offReq 5, s.offMoved_state (v := 5) (by decide)⟩
  · exact ⟨_, congrArg Host.Outcome.next (State.safeOff_stops hpower (State.running_eq_false hidle)), rfl, State.memKept_of_mem rfl,
      ((s.regsKept_refl _).setReg (List.mem_singleton_self _) 6).congr rfl, s.reg_setReg_lt (f := F.ENG_PWR_STATE_STATE) (v := 6) 0 (by decide)⟩

/-- ENG_PWR_STATE has an effect of its own: a 1 in bit 4 is a request, and nothing else of the word is taken (01 R50). -/
theorem State.writeReg_pwrState (s : State) (p : Party) (v : Nat) :
    s.writeReg p 0x160418 v = if v.testBit 4 then s.offReq else s := rfl

/-- Whichever party writes ENG_PWR_STATE, it makes the request or changes nothing (20 R595 to R597). -/
theorem State.regWrite_pwrState (s : State) (p : Party) (v : Nat) :
    s.regWrite p 0x160418 v = s.offReq ∨ s.regWrite p 0x160418 v = s := by
  cases p with
  | sexton | acvel =>
    rw [State.regWrite, State.writeReg_pwrState]
    exact ite_eq_or_eq ..
  | mgmt => exact ite_eq_or_eq ..
  | cell => exact Or.inr rfl

/-- Settles O9: a write of ENG_PWR_STATE makes the request at most, and the request changes nothing while FAULTED. -/
theorem offReqWhileFaultedHasNoEffect : Obligations.OffReqWhileFaultedHasNoEffect := by
  intro p v s hfaulted
  have hreq := State.offReq_faulted hfaulted
  have hwrite : s.regWrite p 0x160418 v.toNat = s := by
    obtain h | h := s.regWrite_pwrState p v.toNat
    · exact h.trans hreq
    · exact h
  exact ⟨congrArg _ hreq, congrArg _ hwrite⟩

/-! ### The governor (01 R30 to R32, R36, R37) -/

/-- T of one sample: as before until 16 samples have passed since it last changed (01 R31). -/
def State.sampleT (s : State) (w : Nat) : Nat :=
  if s.gov.sinceChange ≥ 16 then
    nextT (s.reg F.ENG_PWR_STATUS_THROTTLE) w (s.reg F.ENG_PWR_LIMIT_LIMIT_W) (s.reg F.ENG_PWR_LIMIT_HYST_W)
  else s.reg F.ENG_PWR_STATUS_THROTTLE

theorem nextT_lt {t : Nat} (sample limit hyst : Nat) (h : t < 16) : nextT t sample limit hyst < 16 := by
  unfold nextT
  split
  · omega
  · split <;> omega

theorem State.sampleT_lt (s : State) (w : Nat) : s.sampleT w < 16 := by
  have hold : s.reg F.ENG_PWR_STATUS_THROTTLE < 16 := s.reg_lt _ 0
  unfold State.sampleT
  split
  · exact nextT_lt _ _ _ hold
  · exact hold

/-- A sample taken: SAMPLE_W, AVG_W, and the samples kept. -/
def State.sampleTaken (s : State) (w : Nat) : State :=
  ((s.putGov { s.gov with
      samples := (w :: s.gov.samples).take 1000
      sinceChange := if s.sampleT w = s.reg F.ENG_PWR_STATUS_THROTTLE then min (s.gov.sinceChange + 1) 16 else 1 }).setReg
    F.ENG_PWR_STATUS_SAMPLE_W w).setReg F.ENG_PWR_STATUS_AVG_W (avgOf (sampleSum ((w :: s.gov.samples).take 1000)))

/-- A sample taken and T set after it. -/
def State.throttled (s : State) (w : Nat) : State := (s.sampleTaken w).levelKept ((s.sampleTaken w).setReg F.ENG_PWR_STATUS_THROTTLE (s.sampleT w))

theorem State.govern_eq (s : State) (w : Nat) :
    s.govern w = if (s.throttled w).level > 0 then (s.throttled w).count F.ENG_PWR_THROTTLE_US_THR_US else s.throttled w := rfl

/-- Beside the count in THR_US a sample does what it does to T. -/
theorem State.govern_cases (s : State) (w : Nat) :
    s.govern w = (s.throttled w).count F.ENG_PWR_THROTTLE_US_THR_US ∨ s.govern w = s.throttled w := ite_eq_or_eq ..

/-- A change of level touches the governor's own record alone (01 R32). -/
theorem State.levelKept_eq (s t : State) : s.levelKept t = t.putGov { t.gov with
    changed := if t.level = s.level ∨ s.gov.changed = s.ck / 16 + 1 then t.gov.changed else s.ck / 16 + 1
    was := if t.level = s.level ∨ s.gov.changed = s.ck / 16 + 1 then t.gov.was else s.level } := by
  unfold State.levelKept
  split <;> rfl

@[simp] theorem State.levelKept_reg (s t : State) (g : Field) (m : Nat) : (s.levelKept t).reg g m = t.reg g m := by
  rw [State.levelKept_eq]
  rfl

theorem State.sampleTaken_reg (s : State) (w : Nat) {g : Field} {m : Nat} (h : g.apart F.ENG_PWR_STATUS_SAMPLE_W = true)
    (h' : g.apart F.ENG_PWR_STATUS_AVG_W = true) (hm : m < g.count) : (s.sampleTaken w).reg g m = s.reg g m := by
  rw [State.sampleTaken, State.reg_setReg_apart _ _ h' hm (by decide), State.reg_setReg_apart _ _ h hm (by decide)]
  rfl

theorem State.sampleTaken_level (s : State) (w : Nat) : (s.sampleTaken w).level = s.level := by
  unfold State.level
  rw [s.sampleTaken_reg w (by decide) (by decide) (by decide), s.sampleTaken_reg w (by decide) (by decide) (by decide)]

theorem State.throttled_reg (s : State) (w : Nat) {g : Field} {m : Nat} (h : g.apart F.ENG_PWR_STATUS_SAMPLE_W = true)
    (h' : g.apart F.ENG_PWR_STATUS_AVG_W = true) (h'' : g.apart F.ENG_PWR_STATUS_THROTTLE = true) (hm : m < g.count) :
    (s.throttled w).reg g m = s.reg g m := by
  rw [State.throttled, State.levelKept_reg, State.reg_setReg_apart _ _ h'' hm (by decide), s.sampleTaken_reg w h h' hm]

theorem State.throttled_throttle (s : State) (w : Nat) : (s.throttled w).reg F.ENG_PWR_STATUS_THROTTLE = s.sampleT w := by
  rw [State.throttled, State.levelKept_reg]
  exact State.reg_setReg_lt _ 0 (s.sampleT_lt w)

theorem State.throttled_sample (s : State) {w : Nat} (h : w < 4096) : (s.throttled w).reg F.ENG_PWR_STATUS_SAMPLE_W = w := by
  rw [State.throttled, State.levelKept_reg, State.reg_setReg_apart _ _ (by decide) (by decide) (by decide), State.sampleTaken,
    State.reg_setReg_apart _ _ (by decide) (by decide) (by decide)]
  exact State.reg_setReg_lt _ 0 h

theorem State.throttled_level (s : State) (w : Nat) :
    (s.throttled w).level = max (s.sampleT w) (s.reg F.ENG_PWR_STATUS_THERM_FLOOR) := by
  rw [State.level, s.throttled_throttle, s.throttled_reg w (by decide) (by decide) (by decide) (by decide)]

theorem State.govern_reg (s : State) (w : Nat) {g : Field} {m : Nat} (h : g.apart F.ENG_PWR_THROTTLE_US_THR_US = true) (hm : m < g.count) :
    (s.govern w).reg g m = (s.throttled w).reg g m := by
  obtain hcase | hcase := s.govern_cases w
  · rw [hcase, State.count_reg_apart _ 1 h hm (by decide)]
  · rw [hcase]

theorem State.govern_gov (s : State) (w : Nat) : (s.govern w).gov = (s.throttled w).gov := by
  obtain hcase | hcase := s.govern_cases w
  · rw [hcase, State.count_eq]
    rfl
  · rw [hcase]

theorem State.govern_level (s : State) (w : Nat) : (s.govern w).level = (s.throttled w).level := by
  unfold State.level
  rw [s.govern_reg w (by decide) (by decide), s.govern_reg w (by decide) (by decide)]

theorem State.throttled_frame (s : State) (w : Nat) : s.throttled w = (s.putRegs (s.throttled w).regs).putGov (s.throttled w).gov := by
  rw [State.throttled, State.levelKept_eq]
  rfl

/-- A sample of power changes registers and the governor's own record. -/
theorem State.govern_frame (s : State) (w : Nat) :
    s.govern w = ((s.putRegs (s.govern w).regs).putGov (s.govern w).gov).putFresh (s.govern w).fresh := by
  have h := s.throttled_frame w
  obtain hcase | hcase := s.govern_cases w
  · rw [hcase, State.count_eq, h]
    rfl
  · rw [hcase, h]
    rfl

theorem State.govern_mem (s : State) (w : Nat) : (s.govern w).mem = s.mem := by
  rw [State.govern_frame]
  rfl

theorem State.throttled_regs (s : State) (w : Nat) :
    (s.throttled w).regs = ((s.sampleTaken w).setReg F.ENG_PWR_STATUS_THROTTLE (s.sampleT w)).regs := by
  rw [State.throttled, State.levelKept_eq]
  rfl

theorem State.govern_regsKept (s : State) (w : Nat) : s.regsKept (s.govern w) [F.ENG_PWR_STATUS_SAMPLE_W.key 0,
    F.ENG_PWR_STATUS_AVG_W.key 0, F.ENG_PWR_STATUS_THROTTLE.key 0, F.ENG_PWR_THROTTLE_US_THR_US.key 0] := by
  have h : s.regsKept (s.throttled w) [F.ENG_PWR_STATUS_SAMPLE_W.key 0, F.ENG_PWR_STATUS_AVG_W.key 0, F.ENG_PWR_STATUS_THROTTLE.key 0,
      F.ENG_PWR_THROTTLE_US_THR_US.key 0] := by
    refine State.regsKept.congr (State.regsKept.setReg ?_ (by simp) _) (s.throttled_regs w)
    exact ((State.regsKept.congr (s.regsKept_refl _) rfl).setReg (by simp) _).setReg (by simp) _
  obtain hcase | hcase := s.govern_cases w
  · rw [hcase]
    exact h.update (by simp) _ _
  · rw [hcase]
    exact h

theorem State.throttled_gov (s : State) (w : Nat) : (s.throttled w).gov =
    { samples := (w :: s.gov.samples).take 1000
      sinceChange := if s.sampleT w = s.reg F.ENG_PWR_STATUS_THROTTLE then min (s.gov.sinceChange + 1) 16 else 1
      changed := if (s.throttled w).level = s.level ∨ s.gov.changed = s.ck / 16 + 1 then s.gov.changed else s.ck / 16 + 1
      was := if (s.throttled w).level = s.level ∨ s.gov.changed = s.ck / 16 + 1 then s.gov.was else s.level } := by
  have hlevel : (s.throttled w).level = ((s.sampleTaken w).setReg F.ENG_PWR_STATUS_THROTTLE (s.sampleT w)).level := by
    unfold State.level
    rw [State.throttled, State.levelKept_reg, State.levelKept_reg]
  rw [hlevel, State.throttled, State.levelKept_eq, s.sampleTaken_level]
  rfl

/-- Settles O8: what a sample does to the level is said of the state with T set; THR_US counts by that. -/
theorem governorSampleMovesThrottle : Obligations.GovernorSampleMovesThrottle := by
  intro w s
  have hthrottle : (s.govern w.toNat).reg F.ENG_PWR_STATUS_THROTTLE = s.sampleT w.toNat := by
    rw [s.govern_reg _ (by decide) (by decide), s.throttled_throttle]
  refine ⟨s.govern w.toNat, rfl, s.govern_frame _, State.memKept_of_mem (s.govern_mem _), s.govern_regsKept _, ?_, ?_, ?_, ?_, ?_, ?_, ?_⟩
  · rw [s.govern_reg _ (by decide) (by decide), s.throttled_sample w.isLt]
  · rw [s.govern_gov, s.throttled_gov]
  · intro hlevel hwindow
    rw [s.govern_level] at hlevel
    have hchanged := not_or.mpr ⟨hlevel, hwindow⟩
    rw [s.govern_gov, s.throttled_gov, if_neg hchanged, if_neg hchanged]
    exact ⟨rfl, rfl⟩
  · intro hsame
    rw [s.govern_level] at hsame
    rw [s.govern_gov, s.throttled_gov, if_pos hsame, if_pos hsame]
    exact ⟨rfl, rfl⟩
  · rw [hthrottle, s.govern_gov, s.throttled_gov]
  · rw [hthrottle]
    unfold State.sampleT nextT
    dsimp only
    split_ifs <;> omega
  · have hold : (s.throttled w.toNat).reg F.ENG_PWR_THROTTLE_US_THR_US = s.reg F.ENG_PWR_THROTTLE_US_THR_US :=
      s.throttled_reg _ (by decide) (by decide) (by decide) (by decide)
    rw [hthrottle, ← s.throttled_level, State.govern_eq]
    split
    · rw [State.count_reg_same, hold]
    · exact hold

end Sys2Proof.Machine
end

section
/-!
PROOFS. Power up and power down: the statement PowerMovesWithItsRails.
-/
namespace Sys2Proof.Machine

/-! ### Registers of the sensors cleared (01 R38) -/

/-- The sensor registers read zero after `clearSense`, and every other field as before. -/
theorem State.clearSense_reg (s : State) (g : Field) (m : Nat) [Decidable (senseKey (g.key m))] :
    s.clearSense.reg g m = if senseKey (g.key m) then g.reset % 2 ^ g.width else s.reg g m := by
  have hfilter := tabGet_filter_key g.reset s.regs (fun k => decide (k < 0x160440 * 64) || decide (0x1605C0 * 64 ≤ k)) (g.key m)
  unfold State.reg
  rw [show s.clearSense.regs = s.regs.filter (fun e => decide (e.1 < 0x160440 * 64) || decide (0x1605C0 * 64 ≤ e.1)) from rfl, hfilter]
  have hkey : senseKey (g.key m) ↔ ¬ (decide (g.key m < 0x160440 * 64) || decide (0x1605C0 * 64 ≤ g.key m)) = true := by
    rw [Bool.or_eq_true, decide_eq_true_eq, decide_eq_true_eq]
    unfold senseKey
    omega
  by_cases h : senseKey (g.key m)
  · rw [if_neg (hkey.mp h), if_pos h]
  · rw [if_pos (not_not.mp (fun hn => h (hkey.mpr hn))), if_neg h]

theorem State.clearSense_reg_kept (s : State) {g : Field} {m : Nat} (h : ¬ senseKey (g.key m)) : s.clearSense.reg g m = s.reg g m := by
  classical
  rw [State.clearSense_reg, if_neg h]

theorem State.regsKeptSense_clear (s : State) (ks : List Nat) : s.regsKeptSense s.clearSense ks := by
  classical
  exact ⟨fun g m _ hsense => s.clearSense_reg_kept hsense, fun g m _ hsense => by rw [State.clearSense_reg, if_pos hsense]⟩

/-- A write of a field that the frame names stays within it. -/
theorem State.regsKeptSense.setReg {s t : State} {ks : List Nat} (h : s.regsKeptSense t ks) {f : Field} {n : Nat} (hf : f.key n ∈ ks) (v : Nat) :
    s.regsKeptSense (t.setReg f v n) ks := by
  have hother : ∀ (g : Field) (m : Nat), g.key m ∉ ks → (t.setReg f v n).reg g m = t.reg g m :=
    fun g m hg => State.reg_setReg_other t v (fun hkey => hg (hkey ▸ hf))
  exact ⟨fun g m hg hsense => (hother g m hg).trans (h.1 g m hg hsense), fun g m hg hsense => (hother g m hg).trans (h.2 g m hg hsense)⟩

theorem State.regsKeptSense.putPins {s t : State} {ks : List Nat} (h : s.regsKeptSense t ks) (x : Pins) :
    s.regsKeptSense (t.putPins x) ks := h

theorem State.regsKeptSense.congr {s t u : State} {ks : List Nat} (h : s.regsKeptSense t ks) (hregs : u.regs = t.regs) :
    s.regsKeptSense u ks :=
  ⟨fun g m hg hsense => (State.reg_congr hregs g m).trans (h.1 g m hg hsense),
    fun g m hg hsense => (State.reg_congr hregs g m).trans (h.2 g m hg hsense)⟩

/-! ### Power-up (01 R44, R48, R50, R52) -/

theorem State.aonUp_shows (s : State) (sel : Bool) : (s.aonUp sel).reg F.ENG_PWR_STATE_STATE = 1 ∧
    (s.aonUp sel).reg F.ENG_PWR_STATE_OFF_REQ = 0 ∧ (s.aonUp sel).reg F.ENG_PWR_STATE_GRP_OK = 1 := by
  unfold State.aonUp
  simp (disch := decide) only [State.putPins_reg, State.reg_setReg_apart, State.reg_setReg_same]
  exact ⟨rfl, rfl, rfl⟩

theorem State.aonUp_regsKept (s : State) (sel : Bool) : s.regsKeptSense (s.aonUp sel)
    [F.ENG_PWR_STATE_STATE.key 0, F.ENG_PWR_STATE_OFF_REQ.key 0, F.ENG_PWR_STATE_GRP_OK.key 0] := by
  unfold State.aonUp
  exact ((((s.regsKeptSense_clear _).setReg (by simp) _).setReg (by simp) _).setReg (by simp) _).putPins _

theorem State.railRise_first {s : State} (hstate : s.power = 1) (hgroup : (s.reg F.ENG_PWR_STATE_GRP_OK).testBit 0 = true) :
    s.railRise 2 = s.setReg F.ENG_PWR_STATE_STATE 2 := by
  rw [State.railRise, if_pos hgroup, if_pos ⟨rfl, hstate⟩, State.setPower_eq (by rw [hstate]; decide)]

/-- A rail of group 3 or 4 that comes in its order changes nothing. -/
theorem State.railRise_later {s : State} {g : Nat} (hg : g ≠ 0) (hgroup : (s.reg F.ENG_PWR_STATE_GRP_OK).testBit g = true) :
    s.railRise (g + 2) = s := by
  rw [State.railRise, Nat.add_sub_cancel, if_pos hgroup, if_neg (by omega)]

/-- GRP_OK set, and STATE with it when POWERING ends. -/
theorem State.groupsOk_eq (s : State) (ok : Nat) : s.groupsOk ok =
    if ok = 15 ∧ s.power = 2 then (s.setReg F.ENG_PWR_STATE_GRP_OK ok).setReg F.ENG_PWR_STATE_STATE 3 else s.setReg F.ENG_PWR_STATE_GRP_OK ok := by
  have hpower : (s.setReg F.ENG_PWR_STATE_GRP_OK ok).power = s.power := s.reg_setReg_apart _ (by decide) (by decide) (by decide)
  unfold State.groupsOk
  dsimp only
  rw [hpower]
  split
  · rename_i h
    rw [State.setPower_eq (by rw [hpower, h.2]; decide)]
  · rfl

theorem State.groupsOk_onlyRegs (s : State) (ok : Nat) :
    s.onlyRegs (s.groupsOk ok) [F.ENG_PWR_STATE_GRP_OK.key 0, F.ENG_PWR_STATE_STATE.key 0] := by
  rw [State.groupsOk_eq]
  split
  · exact ⟨rfl, ((s.regsKept_refl _).setReg (by simp) _).setReg (by simp) _, State.memKept_of_mem rfl⟩
  · exact ⟨rfl, (s.regsKept_refl _).setReg (by simp) _, State.memKept_of_mem rfl⟩

theorem State.groupsOk_groups (s : State) {ok : Nat} (h : ok < 16) : (s.groupsOk ok).reg F.ENG_PWR_STATE_GRP_OK = ok := by
  have hset : (s.setReg F.ENG_PWR_STATE_GRP_OK ok).reg F.ENG_PWR_STATE_GRP_OK = ok := s.reg_setReg_lt 0 h
  rw [State.groupsOk_eq]
  split
  · rw [State.reg_setReg_apart _ _ (by decide) (by decide) (by decide), hset]
  · exact hset

theorem State.groupsOk_state (s : State) (ok : Nat) : (s.groupsOk ok).reg F.ENG_PWR_STATE_STATE =
    if ok = 15 ∧ s.reg F.ENG_PWR_STATE_STATE = 2 then 3 else s.reg F.ENG_PWR_STATE_STATE := by
  rw [State.groupsOk_eq]
  unfold State.power
  split
  · exact State.reg_setReg_same ..
  · exact s.reg_setReg_apart _ (by decide) (by decide) (by decide)

/-! ### Links that drop (01 R52) -/

/-- A link that is not OFF drops. -/
def State.linkDropped (s : State) (k : Nat) : State :=
  if s.reg F.PORT_LINK_STATE k = 0 then s
  else (s.setReg F.PORT_LINK_STATE 0 k).setLink k { Link.reset with lsend := 0 }

theorem State.linkDropped_frame (s : State) (k : Nat) : s.linkDropped k = (s.putRegs (s.linkDropped k).regs).putLinks (s.linkDropped k).links := by
  unfold State.linkDropped
  split <;> rfl

theorem State.linkDropped_reg_other (s : State) {k : Nat} {g : Field} {m : Nat} (h : g.key m ≠ F.PORT_LINK_STATE.key k) :
    (s.linkDropped k).reg g m = s.reg g m := by
  unfold State.linkDropped
  split
  · rfl
  · rw [State.setLink_reg, State.reg_setReg_other _ _ h]

theorem State.linkDropped_off (s : State) (k : Nat) : (s.linkDropped k).reg F.PORT_LINK_STATE k = 0 := by
  unfold State.linkDropped
  split
  · assumption
  · rw [State.setLink_reg, State.reg_setReg_same]
    rfl

/-- A link that is OFF stays OFF, whichever link drops. -/
theorem State.linkDropped_stays (s : State) {j : Nat} (k : Nat) (h : s.reg F.PORT_LINK_STATE j = 0) :
    (s.linkDropped k).reg F.PORT_LINK_STATE j = 0 := by
  by_cases hkey : F.PORT_LINK_STATE.key j = F.PORT_LINK_STATE.key k
  · have hj : j = k := by
      simp only [Field.key, F.PORT_LINK_STATE] at hkey
      omega
    rw [hj, State.linkDropped_off]
  · rw [s.linkDropped_reg_other hkey, h]

section
variable (ks : List Nat)

theorem State.dropped_frame (s : State) : foldKeys ks State.linkDropped s =
    (s.putRegs (foldKeys ks State.linkDropped s).regs).putLinks (foldKeys ks State.linkDropped s).links := by
  induction ks generalizing s with
  | nil => rfl
  | cons k ks ih =>
    show foldKeys ks State.linkDropped (s.linkDropped k) = (s.putRegs (foldKeys ks State.linkDropped (s.linkDropped k)).regs).putLinks
      (foldKeys ks State.linkDropped (s.linkDropped k)).links
    rw [ih (s.linkDropped k), s.linkDropped_frame k]
    rfl

theorem State.dropped_reg_other (s : State) {g : Field} {m : Nat} (h : ∀ k ∈ ks, g.key m ≠ F.PORT_LINK_STATE.key k) :
    (foldKeys ks State.linkDropped s).reg g m = s.reg g m := by
  induction ks generalizing s with
  | nil => rfl
  | cons k ks ih =>
    rw [List.forall_mem_cons] at h
    exact (ih (s.linkDropped k) h.2).trans (s.linkDropped_reg_other h.1)

theorem State.dropped_stays (s : State) {j : Nat} (h : s.reg F.PORT_LINK_STATE j = 0) :
    (foldKeys ks State.linkDropped s).reg F.PORT_LINK_STATE j = 0 := by
  induction ks generalizing s with
  | nil => exact h
  | cons k ks ih => exact ih (s.linkDropped k) (s.linkDropped_stays k h)

theorem State.dropped_off (s : State) {j : Nat} (h : j ∈ ks) : (foldKeys ks State.linkDropped s).reg F.PORT_LINK_STATE j = 0 := by
  induction ks generalizing s with
  | nil => cases h
  | cons k ks ih =>
    rcases List.mem_cons.mp h with rfl | hmem
    · exact State.dropped_stays ks (s.linkDropped j) (s.linkDropped_off j)
    · exact ih (s.linkDropped k) hmem

end

theorem State.dropLinks_eq (s : State) : s.dropLinks = foldKeys (List.range 256) State.linkDropped s := rfl

theorem State.dropLinks_reg_other (s : State) {g : Field} {m : Nat} (h : ∀ k < 256, g.key m ≠ F.PORT_LINK_STATE.key k) :
    s.dropLinks.reg g m = s.reg g m := by
  rw [State.dropLinks_eq]
  exact State.dropped_reg_other _ s (fun k hk => h k (List.mem_range.mp hk))

theorem State.dropLinks_reg_apart (s : State) {g : Field} {m : Nat} (h : g.apart F.PORT_LINK_STATE = true) (hm : m < g.count) :
    s.dropLinks.reg g m = s.reg g m :=
  s.dropLinks_reg_other (fun _ hk => Field.key_ne_of_apart h hm hk)

/-! ### Power-down (01 R45, R52, R54) -/

/-- PORST_N has fallen: STATE is WAIT_RESET and the links have dropped. -/
def State.porstLow (s : State) : State := ((s.putPins { s.pins with porstN := false }).setReg F.ENG_PWR_STATE_STATE 3).dropLinks

theorem State.porstLow_running (s : State) : s.porstLow.running = s.running := by
  unfold State.running State.porstLow
  rw [State.dropLinks_reg_apart _ (by decide) (by decide), State.reg_setReg_apart _ _ (by decide) (by decide) (by decide)]
  rfl

theorem State.porstLow_frame (s : State) :
    s.porstLow = ((s.putRegs s.porstLow.regs).putPins { s.pins with porstN := false }).putLinks s.porstLow.links := by
  have h := State.dropped_frame (List.range 256) ((s.putPins { s.pins with porstN := false }).setReg F.ENG_PWR_STATE_STATE 3)
  rw [State.porstLow, State.dropLinks_eq]
  generalize foldKeys (List.range 256) State.linkDropped _ = t at h ⊢
  rw [h]
  rfl

theorem State.porstFall_eq {s : State} (h : s.power = 4 ∨ s.power = 5 ∨ s.power = 6) : s.porstFall =
    if s.running then (s.porstLow.setReg F.BEAT_STATUS_STATE 4).putBeatU { s.porstLow.beatU with stopped := true, rounds := [] }
    else s.porstLow := by
  have hset : (s.putPins { s.pins with porstN := false }).setPower 3 = (s.putPins { s.pins with porstN := false }).setReg F.ENG_PWR_STATE_STATE 3 :=
    if_neg (show s.power ≠ 15 by omega)
  unfold State.porstFall
  dsimp only
  rw [if_pos (show (s.putPins { s.pins with porstN := false }).power = 4 ∨ (s.putPins { s.pins with porstN := false }).power = 5 ∨
    (s.putPins { s.pins with porstN := false }).power = 6 from h), hset, ← State.porstLow, State.porstLow_running]

/-- What a fall of PORST_N leaves in a field that is neither STATE nor the state of a link, nor that of a running Score. -/
theorem State.porstFall_reg_other {s : State} (h : s.power = 4 ∨ s.power = 5 ∨ s.power = 6) {g : Field} {m : Nat}
    (hg : g.key m ∉ [F.ENG_PWR_STATE_STATE.key 0, F.BEAT_STATUS_STATE.key 0]) (hlink : ∀ k < 256, g.key m ≠ F.PORT_LINK_STATE.key k) :
    s.porstFall.reg g m = s.reg g m := by
  rw [List.mem_cons, List.mem_singleton, not_or] at hg
  have hlow : s.porstLow.reg g m = s.reg g m := by
    rw [State.porstLow, State.dropLinks_reg_other _ hlink, State.reg_setReg_other _ _ hg.1]
    rfl
  rw [State.porstFall_eq h]
  split
  · rw [State.putBeatU_reg, State.reg_setReg_other _ _ hg.2, hlow]
  · exact hlow

theorem State.porstFall_frame {s : State} (h : s.power = 4 ∨ s.power = 5 ∨ s.power = 6) : s.porstFall =
    (((s.putRegs s.porstFall.regs).putPins { s.pins with porstN := false }).putLinks s.porstFall.links).putBeatU s.porstFall.beatU := by
  have hlow := s.porstLow_frame
  rw [State.porstFall_eq h]
  generalize s.porstLow = t at hlow ⊢
  split
  · rw [hlow]
    rfl
  · rw [hlow]
    rfl

theorem State.porstFall_state {s : State} (h : s.power = 4 ∨ s.power = 5 ∨ s.power = 6) : s.porstFall.reg F.ENG_PWR_STATE_STATE = 3 := by
  have hlow : s.porstLow.reg F.ENG_PWR_STATE_STATE = 3 := by
    rw [State.porstLow, State.dropLinks_reg_apart _ (by decide) (by decide)]
    exact State.reg_setReg_same ..
  rw [State.porstFall_eq h]
  split
  · rw [State.putBeatU_reg, State.reg_setReg_apart _ _ (by decide) (by decide) (by decide), hlow]
  · exact hlow

theorem State.porstFall_links {s : State} (h : s.power = 4 ∨ s.power = 5 ∨ s.power = 6) {k : Nat} (hk : k < 256) :
    s.porstFall.reg F.PORT_LINK_STATE k = 0 := by
  have hlow : s.porstLow.reg F.PORT_LINK_STATE k = 0 := State.dropped_off _ _ (List.mem_range.mpr hk)
  rw [State.porstFall_eq h]
  split
  · rw [State.putBeatU_reg, State.reg_setReg_apart _ _ (by decide) hk (by decide), hlow]
  · exact hlow

theorem State.porstFall_score {s : State} (h : s.power = 4 ∨ s.power = 5 ∨ s.power = 6) : s.porstFall.reg F.BEAT_STATUS_STATE =
    if s.reg F.BEAT_STATUS_STATE = 2 then 4 else s.reg F.BEAT_STATUS_STATE := by
  have hlow : s.porstLow.reg F.BEAT_STATUS_STATE = s.reg F.BEAT_STATUS_STATE := by
    rw [State.porstLow, State.dropLinks_reg_apart _ (by decide) (by decide), State.reg_setReg_apart _ _ (by decide) (by decide) (by decide)]
    rfl
  rw [State.porstFall_eq h]
  have hrun : s.running = true ↔ s.reg F.BEAT_STATUS_STATE = 2 := decide_eq_true_iff
  by_cases hstate : s.reg F.BEAT_STATUS_STATE = 2
  · rw [if_pos hstate, if_pos (hrun.mpr hstate), State.putBeatU_reg]
    exact State.reg_setReg_same ..
  · rw [if_neg hstate, if_neg (fun h => hstate (hrun.mp h)), hlow]

/-- GRP_OK shows group 1 alone, and what lives while group 2 is in regulation is lost. -/
def State.groupsLost (s : State) : State := (s.clearSense.setReg F.ENG_PWR_STATE_GRP_OK (s.reg F.ENG_PWR_STATE_GRP_OK % 2)).dropGroup2

/-- The registers after a loss of groups 2 to 4. -/
def State.railsLost (s : State) : State :=
  if s.power = 2 ∨ s.power = 3 then s.groupsLost.setReg F.ENG_PWR_STATE_STATE 1 else s.groupsLost

theorem State.groupsLost_shows (s : State) : s.groupsLost.reg F.ENG_PWR_STATE_GRP_OK = s.reg F.ENG_PWR_STATE_GRP_OK % 2 ∧
    s.groupsLost.reg F.OPT_MIRROR_BEAT_VALID = 0 ∧ s.groupsLost.reg F.OPT_MIRROR_BEAT_BEAT = 0 ∧
    s.groupsLost.reg F.CKPT_STATUS_MIRROR_POISON = 0 ∧ s.groupsLost.power = s.power := by
  have hgroups : s.reg F.ENG_PWR_STATE_GRP_OK % 2 % 2 ^ F.ENG_PWR_STATE_GRP_OK.width = s.reg F.ENG_PWR_STATE_GRP_OK % 2 :=
    Nat.mod_eq_of_lt (Nat.lt_of_lt_of_le (Nat.mod_lt _ (by decide)) (by decide))
  have hpower : s.clearSense.reg F.ENG_PWR_STATE_STATE = s.reg F.ENG_PWR_STATE_STATE := s.clearSense_reg_kept (by unfold senseKey; decide)
  unfold State.groupsLost State.dropGroup2 State.power
  simp (disch := decide) only [State.reg_setReg_apart, State.reg_setReg_same, hgroups, hpower]
  exact ⟨trivial, rfl, rfl, rfl, trivial⟩

theorem State.railsLost_reg (s : State) {g : Field} {m : Nat} (h : g.apart F.ENG_PWR_STATE_STATE = true) (hm : m < g.count) :
    s.railsLost.reg g m = s.groupsLost.reg g m := by
  unfold State.railsLost
  split
  · exact State.reg_setReg_apart _ _ h hm (by decide)
  · rfl

theorem State.railsLost_state (s : State) : s.railsLost.reg F.ENG_PWR_STATE_STATE =
    if s.reg F.ENG_PWR_STATE_STATE = 2 ∨ s.reg F.ENG_PWR_STATE_STATE = 3 then 1 else s.reg F.ENG_PWR_STATE_STATE := by
  obtain ⟨-, -, -, -, hpower⟩ := s.groupsLost_shows
  show s.railsLost.reg F.ENG_PWR_STATE_STATE = if s.power = 2 ∨ s.power = 3 then 1 else s.power
  unfold State.railsLost
  split
  · exact State.reg_setReg_same ..
  · exact hpower

theorem State.railsLost_frame (s : State) : s.railsLost = s.putRegs s.railsLost.regs := by
  unfold State.railsLost
  split <;> rfl

theorem State.railsLost_regsKept (s : State) : s.regsKeptSense s.railsLost [F.ENG_PWR_STATE_GRP_OK.key 0, F.OPT_MIRROR_BEAT_VALID.key 0,
    F.OPT_MIRROR_BEAT_BEAT.key 0, F.CKPT_STATUS_MIRROR_POISON.key 0, F.ENG_PWR_STATE_STATE.key 0] := by
  have h : s.regsKeptSense s.groupsLost [F.ENG_PWR_STATE_GRP_OK.key 0, F.OPT_MIRROR_BEAT_VALID.key 0,
      F.OPT_MIRROR_BEAT_BEAT.key 0, F.CKPT_STATUS_MIRROR_POISON.key 0, F.ENG_PWR_STATE_STATE.key 0] :=
    ((((s.regsKeptSense_clear _).setReg (by simp) _).setReg (by simp) _).setReg (by simp) _).setReg (by simp) _
  unfold State.railsLost
  split
  · exact h.setReg (by simp) _
  · exact h

/-- The records owed of C4 faults made, and no other record kept (17 R533). -/
def State.c4Recorded (s : State) : State :=
  (s.faults.owed.filter (fun r => decide (r.msg.cls = 4))).foldl State.makeRecord
    (s.putFaults { s.faults with kept := [], waiting := [], owed := s.faults.owed.filter (fun r => decide (r.msg.cls = 4)) })

/-- Registers change as `railsLost` says, no byte of memory is left, and the records of C4 faults are made. -/
theorem State.railsDown_eq (s : State) : s.railsDown =
    ((((s.putRegs s.railsLost.regs).putMem []).putPoison []).putSoft []).putFaults s.railsDown.faults := by
  obtain ⟨-, -, -, -, hpower⟩ := s.groupsLost_shows
  have hlost : (if s.groupsLost.power = 2 ∨ s.groupsLost.power = 3 then s.groupsLost.setPower 1 else s.groupsLost) = s.railsLost := by
    rw [hpower, State.railsLost]
    split
    · rename_i h
      rw [State.setPower_eq (by rw [hpower]; omega)]
    · rfl
  have hdown : s.railsDown = ((s.railsLost.c4Recorded.putMem []).putPoison []).putSoft [] := by
    rw [← hlost]
    rfl
  have hframe := s.railsLost_frame
  rw [hdown, State.c4Recorded, State.makeRecords_eq]
  generalize s.railsLost = u at hframe ⊢
  rw [hframe]
  rfl

theorem State.group1Loss_shows (s : State) : s.group1Loss.reg F.ENG_PWR_STATE_C4_CAUSE = 0 ∧ s.group1Loss.reg F.ENG_PWR_STATE_GRP_OK = 0 ∧
    s.group1Loss.reg F.ENG_PWR_STATE_STATE = 1 := by
  unfold State.group1Loss
  simp (disch := decide) only [State.putPins_reg, State.reg_setReg_apart, State.reg_setReg_same]
  exact ⟨rfl, rfl, rfl⟩

theorem State.group1Loss_regsKept (s : State) : s.regsKeptSense s.group1Loss
    [F.ENG_PWR_STATE_C4_CAUSE.key 0, F.ENG_PWR_STATE_GRP_OK.key 0, F.ENG_PWR_STATE_STATE.key 0] := by
  unfold State.group1Loss
  exact ((((s.regsKeptSense_clear _).setReg (by simp) _).setReg (by simp) _).setReg (by simp) _).putPins _

/-- Settles O4: each move of the rails is one of the lemmas above. -/
theorem powerMovesWithItsRails : Obligations.PowerMovesWithItsRails := by
  refine ⟨fun s => ⟨?_, ?_, ?_, ?_⟩, fun s => ⟨?_, ?_, ?_⟩⟩
  · intro sel
    exact ⟨s.aonUp sel, rfl, rfl, s.aonUp_regsKept sel, State.memKept_of_mem rfl, s.aonUp_shows sel⟩
  · intro hstate hgroup
    exact ⟨_, congrArg Host.Outcome.next (State.railRise_first hstate hgroup),
      ⟨rfl, (s.regsKept_refl _).setReg (List.mem_singleton_self _) 2, State.memKept_of_mem rfl⟩, State.reg_setReg_same ..⟩
  · intro g hg hgroup
    exact congrArg Host.Outcome.next (State.railRise_later (fun h => hg (Fin.ext h)) hgroup)
  · intro ok
    exact ⟨s.groupsOk ok.toNat, rfl, s.groupsOk_onlyRegs _, s.groupsOk_groups ok.isLt, s.groupsOk_state _⟩
  · intro hstate
    have h : s.power = 4 ∨ s.power = 5 ∨ s.power = 6 := by simpa [State.power] using hstate
    refine ⟨s.porstFall, rfl, State.porstFall_state h, ?_, fun k hk => State.porstFall_links h hk, State.porstFall_score h, ?_, ?_,
      fun f n hf hlink => State.porstFall_reg_other h hf hlink⟩
    · rw [State.porstFall_frame h]
      rfl
    · have hpins : s.porstFall.pins = { s.pins with porstN := false } := by
        rw [State.porstFall_frame h]
        rfl
      rw [hpins]
      exact State.porstFall_frame h
    · exact State.memKept_of_mem (by rw [State.porstFall_frame h]; rfl)
  · obtain ⟨hgroups, hvalid, hbeat, hpoison, -⟩ := s.groupsLost_shows
    have hregs : s.railsDown.regs = s.railsLost.regs := by
      rw [State.railsDown_eq]
      rfl
    have hreg : ∀ (g : Field) (m : Nat), s.railsDown.reg g m = s.railsLost.reg g m := State.reg_congr hregs
    refine ⟨s.railsDown, rfl, ?_, ?_, ?_, ?_, ?_, s.railsLost_regsKept.congr hregs, ?_, ?_⟩
    · rw [hreg, s.railsLost_reg (by decide) (by decide), hgroups]
    · rw [hreg, s.railsLost_reg (by decide) (by decide), hvalid]
    · rw [hreg, s.railsLost_reg (by decide) (by decide), hbeat]
    · rw [hreg, s.railsLost_reg (by decide) (by decide), hpoison]
    · rw [hreg, s.railsLost_state]
    · intro a
      rw [State.railsDown_eq]
      rfl
    · rw [hregs]
      exact s.railsDown_eq
  · exact ⟨s.group1Loss, rfl, rfl, State.memKept_of_mem rfl, s.group1Loss_regsKept, s.group1Loss_shows⟩

end Sys2Proof.Machine
end

section
/-!
PROOFS. C4 faults and samples of the sensors: the statement SensorsClearOrTrip.
-/
namespace Sys2Proof.Machine

/-! ### C4 faults (01 R54; 17 R516) -/

/-- A C4 message to the hub joins its queue, and nothing counts it. -/
theorem State.send_c4 (s : State) {r : Rep} (hlevel : r.msg.level = 4) (hclass : r.msg.cls = 4) :
    s.send r = s.putFaults { s.faults with hub := s.faults.hub ++ [r] } := by
  unfold State.send
  rw [hlevel, hclass, State.loadHit_of_class s (by decide)]
  simp [State.toHub, hclass]

/-- The message of a C4 fault, with its ACTION bits. -/
def State.c4Rep (s : State) (cause : Nat) : Rep :=
  (repOf ((s.c4 cause).msg (0x4001 + cause) 4 4 (if cause = 5 then 5 else if cause = 4 then 7 else 1) 7 none)).acted

theorem State.c4Fault_eq (s : State) (cause : Nat) : s.c4Fault cause = (s.c4 cause).putFaults (s.c4Fault cause).faults := by
  have h : s.c4Fault cause = ((s.c4 cause).owe (s.c4Rep cause)).send (s.c4Rep cause) := rfl
  rw [h, State.send_c4 _ rfl rfl, State.owe_eq]
  rfl

/-- The hub has the fault's message last in its queue. -/
theorem State.c4Fault_hub (s : State) (cause : Nat) :
    ∃ r, (s.c4Fault cause).faults.hub = s.faults.hub ++ [r] ∧ r.msg.kind = 0x4001 + cause ∧ r.msg.cls = 4 := by
  have h : s.c4Fault cause = ((s.c4 cause).owe (s.c4Rep cause)).send (s.c4Rep cause) := rfl
  refine ⟨s.c4Rep cause, ?_, rfl, rfl⟩
  rw [h, State.send_c4 _ rfl rfl, State.owe]
  split <;> rfl

theorem State.c4Fault_frame (s : State) (cause : Nat) : s.c4Fault cause = ((s.putRegs (s.c4Fault cause).regs).putPins
    { s.pins with faultN := true, thermtripN := s.pins.thermtripN || decide (cause = 1), portsStopped := true
                  c4At := (s.c4Fault cause).pins.c4At }).putFaults (s.c4Fault cause).faults := by
  rw [State.c4Fault_eq, State.c4_eq]
  rfl

theorem State.c4Fault_regs (s : State) (cause : Nat) : (s.c4Fault cause).regs = (s.c4 cause).regs := by
  rw [State.c4Fault_eq]
  rfl

theorem State.c4Fault_regsKept (s : State) (cause : Nat) :
    s.regsKept (s.c4Fault cause) [F.ENG_PWR_STATE_STATE.key 0, F.ENG_PWR_STATE_C4_CAUSE.key 0] := by
  refine State.regsKept.congr (t := (s.setReg F.ENG_PWR_STATE_STATE 0xF).setReg F.ENG_PWR_STATE_C4_CAUSE (s.c4Cause cause)) ?_
    (s.c4Fault_regs cause)
  exact ((s.regsKept_refl _).setReg (by simp) _).setReg (by simp) _

theorem State.c4Fault_state (s : State) (cause : Nat) : (s.c4Fault cause).reg F.ENG_PWR_STATE_STATE = 15 := by
  rw [State.reg_congr (s.c4Fault_regs cause)]
  unfold State.c4
  rw [State.putPins_reg, State.reg_setReg_apart _ _ (by decide) (by decide) (by decide)]
  exact State.reg_setReg_same ..

/-- The cause latched: the first, and of two in one sample the lower. -/
theorem State.c4Fault_cause (s : State) {cause : Nat} (h : cause < 16) : (s.c4Fault cause).reg F.ENG_PWR_STATE_C4_CAUSE =
    if s.reg F.ENG_PWR_STATE_C4_CAUSE = 0 then cause
    else if s.pins.c4At = some (s.ck, s.toll) then min (s.reg F.ENG_PWR_STATE_C4_CAUSE) cause else s.reg F.ENG_PWR_STATE_C4_CAUSE := by
  have hold : s.reg F.ENG_PWR_STATE_C4_CAUSE < 16 := s.reg_lt _ 0
  have hlt : s.c4Cause cause < 16 := by
    unfold State.c4Cause
    dsimp only
    split_ifs <;> omega
  rw [State.reg_congr (s.c4Fault_regs cause)]
  exact State.reg_setReg_lt _ 0 hlt

/-- A C4 fault other than a thermal trip, as 01 R54 and 17 R516 state it. -/
theorem State.c4Fault_shows (s : State) {cause : Nat} (h : cause < 16) (htrip : cause ≠ 1) :
    s.c4Fault cause = ((s.putRegs (s.c4Fault cause).regs).putPins
      { s.pins with faultN := true, portsStopped := true, c4At := (s.c4Fault cause).pins.c4At }).putFaults (s.c4Fault cause).faults ∧
    s.memKept (s.c4Fault cause) ∧ s.regsKept (s.c4Fault cause) [F.ENG_PWR_STATE_STATE.key 0, F.ENG_PWR_STATE_C4_CAUSE.key 0] ∧
    (s.c4Fault cause).reg F.ENG_PWR_STATE_STATE = 15 ∧
    (s.c4Fault cause).reg F.ENG_PWR_STATE_C4_CAUSE = (if s.reg F.ENG_PWR_STATE_C4_CAUSE = 0 then cause
      else if s.pins.c4At = some (s.ck, s.toll) then min (s.reg F.ENG_PWR_STATE_C4_CAUSE) cause else s.reg F.ENG_PWR_STATE_C4_CAUSE) ∧
    ∃ r, (s.c4Fault cause).faults.hub = s.faults.hub ++ [r] ∧ r.msg.kind = 0x4001 + cause ∧ r.msg.cls = 4 := by
  have hframe := s.c4Fault_frame cause
  refine ⟨?_, State.memKept_of_mem ?_, s.c4Fault_regsKept cause, s.c4Fault_state cause, s.c4Fault_cause h, s.c4Fault_hub cause⟩
  · rw [decide_eq_false htrip, Bool.or_false] at hframe
    exact hframe
  · rw [hframe]
    rfl

/-! ### The registers of the sensors (01 R38) -/

/-- Of four fields, for the regions, the hub, the memory stacks and the optical engines, the one of sensor `i`. -/
def sensePick (region hub mem oe : Field) (i : Nat) : Field := if i < 8 then region else if i = 8 then hub else if i < 25 then mem else oe

/-- The field of sensor `i`'s temperature. -/
def senseTemp (i : Nat) : Field := sensePick F.ENG_SENSE_REGION_TEMP F.ENG_SENSE_HUB_TEMP F.ENG_SENSE_MEM_TEMP F.ENG_SENSE_OE_TEMP i

/-- The field of sensor `i`'s first rail. -/
def senseMain (i : Nat) : Field :=
  sensePick F.ENG_SENSE_REGION_VMAIN_MV F.ENG_SENSE_HUB_VMAIN_MV F.ENG_SENSE_MEM_VMAIN_MV F.ENG_SENSE_OE_VMAIN_MV i

/-- The field of sensor `i`'s second rail. -/
def senseAux (i : Nat) : Field :=
  sensePick F.ENG_SENSE_REGION_VAUX_MV F.ENG_SENSE_HUB_VAUX_MV F.ENG_SENSE_MEM_VAUX_MV F.ENG_SENSE_OE_VAUX_MV i

/-- The number of sensor `i` among those of its field. -/
def senseInst (i : Nat) : Nat := if i < 8 then i else if i = 8 then 0 else if i < 25 then i - 9 else i - 25

/-- The byte offset of sensor `i`'s register. -/
def senseBase (i : Nat) : Nat :=
  if i < 8 then 0x160440 + 8 * i else if i = 8 then 0x160480 else if i < 25 then 0x160500 + 8 * (i - 9) else 0x160580 + 8 * (i - 25)

theorem senseTemp_key (i : Nat) : (senseTemp i).key (senseInst i) = senseBase i * 64 := by
  unfold senseTemp sensePick senseInst senseBase
  split_ifs <;> rfl

theorem senseMain_key (i : Nat) : (senseMain i).key (senseInst i) = senseBase i * 64 + 16 := by
  unfold senseMain sensePick senseInst senseBase
  split_ifs <;> rfl

theorem senseAux_key (i : Nat) : (senseAux i).key (senseInst i) = senseBase i * 64 + 32 := by
  unfold senseAux sensePick senseInst senseBase
  split_ifs <;> rfl

theorem sense_width (i : Nat) : (senseTemp i).width = 16 ∧ (senseMain i).width = 16 ∧ (senseAux i).width = 16 := by
  unfold senseTemp senseMain senseAux sensePick
  split_ifs <;> exact ⟨rfl, rfl, rfl⟩

/-- Two sensors have registers of their own. -/
theorem senseBase_ne {i j : Nat} (hi : i < 33) (hj : j < 33) (h : i ≠ j) : senseBase i + 8 ≤ senseBase j ∨ senseBase j + 8 ≤ senseBase i := by
  unfold senseBase
  split_ifs <;> omega

theorem senseBase_bounds {i : Nat} (hi : i < 33) : 0x160440 ≤ senseBase i ∧ senseBase i < 0x1605C0 := by
  unfold senseBase
  split_ifs <;> omega

/-! ### One sensor read -/

theorem State.setSensor_eq (s : State) (i : Nat) (r : Reading) :
    s.setSensor i r = s.setSense (senseTemp i) (senseMain i) (senseAux i) (senseInst i) r := by
  unfold State.setSensor senseTemp senseMain senseAux sensePick senseInst
  split_ifs <;> rfl

theorem State.temp_eq (s : State) (i : Nat) : s.temp i = sxt 16 (s.reg (senseTemp i) (senseInst i)) := by
  unfold State.temp senseTemp sensePick senseInst
  split_ifs <;> rfl

/-- A field of another register reads as before. -/
theorem State.setSensor_reg_other (s : State) (i : Nat) (r : Reading) {g : Field} {m : Nat}
    (h : g.key m < senseBase i * 64 ∨ (senseBase i + 1) * 64 ≤ g.key m) : (s.setSensor i r).reg g m = s.reg g m := by
  rw [State.setSensor_eq, State.setSense, State.reg_setReg_other _ _ (by rw [senseAux_key]; omega),
    State.reg_setReg_other _ _ (by rw [senseMain_key]; omega), State.reg_setReg_other _ _ (by rw [senseTemp_key]; omega)]

theorem State.setSensor_shows (s : State) (i : Nat) (r : Reading) : (s.setSensor i r).reg (senseTemp i) (senseInst i) = r.temp.toNat ∧
    (s.setSensor i r).reg (senseMain i) (senseInst i) = r.vmain.toNat ∧ (s.setSensor i r).reg (senseAux i) (senseInst i) = r.vaux.toNat := by
  obtain ⟨ht, hm, ha⟩ := sense_width i
  rw [State.setSensor_eq, State.setSense]
  refine ⟨?_, ?_, ?_⟩
  · rw [State.reg_setReg_other _ _ (by rw [senseTemp_key, senseAux_key]; omega),
      State.reg_setReg_other _ _ (by rw [senseTemp_key, senseMain_key]; omega)]
    exact State.reg_setReg_lt _ _ (by rw [ht]; exact r.temp.isLt)
  · rw [State.reg_setReg_other _ _ (by rw [senseMain_key, senseAux_key]; omega)]
    exact State.reg_setReg_lt _ _ (by rw [hm]; exact r.vmain.isLt)
  · exact State.reg_setReg_lt _ _ (by rw [ha]; exact r.vaux.isLt)

/-! ### All sensors read -/

theorem State.setSensors_frame (s : State) (i : Nat) (rs : List Reading) : s.setSensors i rs = s.putRegs (s.setSensors i rs).regs := by
  induction rs generalizing s i with
  | nil => rfl
  | cons r rs ih =>
    have hone : s.setSensor i r = s.putRegs (s.setSensor i r).regs := by
      rw [State.setSensor_eq]
      rfl
    rw [State.setSensors, ih (s.setSensor i r) (i + 1), hone]
    rfl

/-- A field outside the registers of the sensors read is as before. -/
theorem State.setSensors_reg_other (s : State) (i : Nat) (rs : List Reading) {g : Field} {m : Nat}
    (h : ∀ j, i ≤ j → j < i + rs.length → g.key m < senseBase j * 64 ∨ (senseBase j + 1) * 64 ≤ g.key m) :
    (s.setSensors i rs).reg g m = s.reg g m := by
  induction rs generalizing s i with
  | nil => rfl
  | cons r rs ih =>
    rw [List.length_cons] at h
    rw [State.setSensors, ih _ _ (fun j hlo hhi => h j (by omega) (by omega)), s.setSensor_reg_other i r (h i (Nat.le_refl i) (by omega))]

/-- What the reading of sensor `j` leaves in a field of its register stays while the others are read. -/
theorem State.setSensors_reg (s : State) {i j : Nat} (rs : List Reading) {g : Field} {m v : Nat} (hlo : i ≤ j) (hhi : j < i + rs.length)
    (hall : i + rs.length ≤ 33) (hkey : senseBase j * 64 ≤ g.key m ∧ g.key m < (senseBase j + 1) * 64)
    (hset : ∀ t : State, (t.setSensor j (rs.getD (j - i) ⟨0, 0, 0⟩)).reg g m = v) : (s.setSensors i rs).reg g m = v := by
  induction rs generalizing s i with
  | nil => exact absurd hhi (by simp only [List.length_nil]; omega)
  | cons r rs ih =>
    rw [List.length_cons] at hhi hall
    rw [State.setSensors]
    rcases Nat.eq_or_lt_of_le hlo with rfl | hlt
    · rw [State.setSensors_reg_other]
      · rw [Nat.sub_self] at hset
        exact hset s
      · intro k hk hk'
        have := senseBase_ne (i := k) (j := i) (by omega) (by omega) (by omega)
        omega
    · refine ih _ hlt (by omega) (by omega) ?_
      intro t
      rw [show j - i = j - (i + 1) + 1 by omega, List.getD_cons_succ] at hset
      exact hset t

section
variable {rs : List Reading} (hlen : rs.length = 33) {j : Nat} (hj : j < 33) (s : State)
include hlen hj

theorem State.setSensors_temp : (s.setSensors 0 rs).reg (senseTemp j) (senseInst j) = (rs.getD j ⟨0, 0, 0⟩).temp.toNat :=
  s.setSensors_reg rs (Nat.zero_le j) (by omega) (by omega) (by rw [senseTemp_key]; omega) (fun t => (t.setSensor_shows j _).1)

theorem State.setSensors_main : (s.setSensors 0 rs).reg (senseMain j) (senseInst j) = (rs.getD j ⟨0, 0, 0⟩).vmain.toNat :=
  s.setSensors_reg rs (Nat.zero_le j) (by omega) (by omega) (by rw [senseMain_key]; omega) (fun t => (t.setSensor_shows j _).2.1)

theorem State.setSensors_aux : (s.setSensors 0 rs).reg (senseAux j) (senseInst j) = (rs.getD j ⟨0, 0, 0⟩).vaux.toNat :=
  s.setSensors_reg rs (Nat.zero_le j) (by omega) (by omega) (by rw [senseAux_key]; omega) (fun t => (t.setSensor_shows j _).2.2)

end

/-- A field outside ENG_SENSE is as before, however many of the 33 sensors are read. -/
theorem State.setSensors_reg_kept (s : State) {rs : List Reading} (hlen : rs.length ≤ 33) {g : Field} {m : Nat} (h : ¬ senseKey (g.key m)) :
    (s.setSensors 0 rs).reg g m = s.reg g m := by
  refine s.setSensors_reg_other 0 rs (fun j _ hj => ?_)
  have := senseBase_bounds (i := j) (by omega)
  unfold senseKey at h
  omega

/-! ### A sample with nothing hot (01 R39 to R41) -/

/-- The threshold of a sensor stands in ENG_THERM_CFG, beside the readings. -/
theorem State.setSensors_thrC (s : State) {rs : List Reading} (hlen : rs.length ≤ 33) (i : Nat) : (s.setSensors 0 rs).thrC i = s.thrC i := by
  unfold State.thrC
  rw [s.setSensors_reg_kept hlen (by unfold senseKey; decide), s.setSensors_reg_kept hlen (by unfold senseKey; decide)]

theorem State.setSensors_tripC (s : State) {rs : List Reading} (hlen : rs.length ≤ 33) (i : Nat) : (s.setSensors 0 rs).tripC i = s.tripC i := by
  unfold State.tripC
  rw [s.setSensors_reg_kept hlen (by unfold senseKey; decide), s.setSensors_reg_kept hlen (by unfold senseKey; decide),
    s.setSensors_reg_kept hlen (by unfold senseKey; decide)]

theorem State.hot_eq_false {s : State} (h : ∀ i < 25, s.temp i ≤ 4 * (s.thrC i - 5)) : s.hot = false := by
  unfold State.hot
  rw [List.any_eq_false]
  intro i hi
  have := h i (List.mem_range.mp hi)
  rw [decide_eq_true_eq]
  omega

theorem State.cool_eq_true {s : State} (h : ∀ i < 25, s.temp i ≤ 4 * (s.thrC i - 5)) : s.cool = true := by
  unfold State.cool
  rw [List.all_eq_true]
  intro i hi
  exact decide_eq_true (h i (List.mem_range.mp hi))

theorem State.trips_eq_false {s : State} (h : ∀ i < 33, s.temp i < 4 * s.tripC i) : s.trips = false := by
  unfold State.trips
  rw [List.any_eq_false]
  intro i hi
  have := h i (List.mem_range.mp hi)
  rw [decide_eq_true_eq]
  omega

/-- Every sensor is cool: the floor is lifted. -/
theorem State.floor_cool {s : State} (h : ∀ i < 25, s.temp i ≤ 4 * (s.thrC i - 5)) :
    s.floor = s.levelKept (s.setReg F.ENG_PWR_STATUS_THERM_FLOOR 0) := by
  rw [State.floor, State.hot_eq_false h, if_neg Bool.false_ne_true, State.cool_eq_true h, if_pos rfl]

/-- The sample of `rs` with the floor lifted. -/
def State.sensedCool (s : State) (rs : List Reading) : State :=
  (s.setSensors 0 rs).levelKept ((s.setSensors 0 rs).setReg F.ENG_PWR_STATUS_THERM_FLOOR 0)

theorem State.sensedCool_reg (s : State) (rs : List Reading) {g : Field} {m : Nat} (h : g.key m ≠ F.ENG_PWR_STATUS_THERM_FLOOR.key 0) :
    (s.sensedCool rs).reg g m = (s.setSensors 0 rs).reg g m := by
  rw [State.sensedCool, State.levelKept_reg, State.reg_setReg_other _ _ h]

theorem State.sensedCool_frame (s : State) (rs : List Reading) : s.sensedCool rs = (s.putRegs (s.sensedCool rs).regs).putGov
    { s.gov with changed := (s.sensedCool rs).gov.changed, was := (s.sensedCool rs).gov.was } := by
  have h := s.setSensors_frame 0 rs
  rw [State.sensedCool, State.levelKept_eq]
  generalize s.setSensors 0 rs = t at h ⊢
  rw [h]
  rfl

theorem sense_key_ne_floor {g : Field} {m i : Nat} (hi : i < 33) (h : senseBase i * 64 ≤ g.key m) :
    g.key m ≠ F.ENG_PWR_STATUS_THERM_FLOOR.key 0 := by
  have hfloor : F.ENG_PWR_STATUS_THERM_FLOOR.key 0 < 0x160440 * 64 := by decide
  have := (senseBase_bounds hi).1
  omega

section
variable {rs : List Reading} (hlen : rs.length = 33) {j : Nat} (hj : j < 33) (s : State)
include hlen hj

theorem State.sensedCool_temp : (s.sensedCool rs).reg (senseTemp j) (senseInst j) = (rs.getD j ⟨0, 0, 0⟩).temp.toNat := by
  rw [s.sensedCool_reg rs (sense_key_ne_floor hj (senseTemp_key j).ge), s.setSensors_temp hlen hj]

theorem State.sensedCool_main : (s.sensedCool rs).reg (senseMain j) (senseInst j) = (rs.getD j ⟨0, 0, 0⟩).vmain.toNat := by
  rw [s.sensedCool_reg rs (sense_key_ne_floor hj (by rw [senseMain_key]; omega)), s.setSensors_main hlen hj]

theorem State.sensedCool_aux : (s.sensedCool rs).reg (senseAux j) (senseInst j) = (rs.getD j ⟨0, 0, 0⟩).vaux.toNat := by
  rw [s.sensedCool_reg rs (sense_key_ne_floor hj (by rw [senseAux_key]; omega)), s.setSensors_aux hlen hj]

end

/-- With every sensor below its trip value and those of R40 at least 5 degrees below their thresholds a sample lifts the floor and trips nothing. -/
theorem State.senseAll_cool {s : State} {rs : List Reading} (hlen : rs.length = 33)
    (htrip : ∀ i < 33, sxt 16 (rs.getD i ⟨0, 0, 0⟩).temp.toNat < 4 * s.tripC i)
    (hcool : ∀ i < 25, sxt 16 (rs.getD i ⟨0, 0, 0⟩).temp.toNat ≤ 4 * (s.thrC i - 5)) : s.senseAll rs = s.sensedCool rs := by
  have hfloor : (s.setSensors 0 rs).floor = s.sensedCool rs := by
    refine State.floor_cool (fun i hi => ?_)
    rw [State.temp_eq, s.setSensors_temp hlen (by omega), s.setSensors_thrC hlen.le]
    exact hcool i hi
  have hnone : (s.sensedCool rs).trips = false := by
    refine State.trips_eq_false (fun i hi => ?_)
    have htripC : (s.sensedCool rs).tripC i = s.tripC i := by
      rw [← s.setSensors_tripC hlen.le]
      unfold State.tripC
      rw [s.sensedCool_reg rs (by decide), s.sensedCool_reg rs (by decide), s.sensedCool_reg rs (by decide)]
    rw [State.temp_eq, s.sensedCool_temp hlen hi, htripC]
    exact htrip i hi
  unfold State.senseAll
  dsimp only
  rw [List.take_of_length_le hlen.le, hfloor, hnone, if_neg Bool.false_ne_true]

/-- Settles O6: both faults are `c4Fault` with their cause, and a cool sample is `sensedCool`. -/
theorem sensorsClearOrTrip : Obligations.SensorsClearOrTrip := by
  refine ⟨fun s => ⟨?_, ?_, ?_⟩, ?_⟩
  · intro hlow
    exact congrArg Host.Outcome.next (by rw [hlow]; rfl)
  · intro hhigh
    exact ⟨s.c4Fault 2, congrArg Host.Outcome.next (if_pos hhigh), s.c4Fault_shows (cause := 2) (by decide) (by decide)⟩
  · intro g hgroup
    have hrail : s.railRise (g.val + 2) = s.c4Fault 3 := by
      rw [State.railRise, Nat.add_sub_cancel, hgroup, if_neg Bool.false_ne_true]
    exact ⟨s.c4Fault 3, congrArg Host.Outcome.next hrail, s.c4Fault_shows (cause := 3) (by decide) (by decide)⟩
  · intro rs s hlen htrip hcool
    refine ⟨s.sensedCool rs, congrArg Host.Outcome.next (State.senseAll_cool hlen htrip hcool), s.sensedCool_frame rs, ?_, ?_, ?_, ?_, ?_, ?_⟩
    · refine State.memKept_of_mem ?_
      rw [State.sensedCool_frame]
      rfl
    · rw [State.sensedCool, State.levelKept_reg]
      exact State.reg_setReg_same ..
    · intro i hi
      have ht := s.sensedCool_temp hlen (j := i) (by omega)
      have hm := s.sensedCool_main hlen (j := i) (by omega)
      have ha := s.sensedCool_aux hlen (j := i) (by omega)
      simp only [senseTemp, senseMain, senseAux, sensePick, senseInst, if_pos hi] at ht hm ha
      exact ⟨ht, hm, ha⟩
    · exact s.sensedCool_temp hlen (j := 8) (by decide)
    · intro i hi
      have ht := s.sensedCool_temp hlen (j := i + 9) (by omega)
      simpa [senseTemp, sensePick, senseInst, show ¬ i + 9 < 8 by omega, show i + 9 < 25 by omega] using ht
    · intro i hi
      have ht := s.sensedCool_temp hlen (j := i + 25) (by omega)
      simpa [senseTemp, sensePick, senseInst, show ¬ i + 25 < 8 by omega] using ht

end Sys2Proof.Machine
end

section
/-!
PROOFS. The pins agree with the power state: the statement PowerStepsKeepPinsAgreeing.
-/
namespace Sys2Proof.Machine

/-! ### What keeps the pins in agreement (01 R51, R52, R54) -/

/-- The agreement speaks of STATE and of the pins alone. -/
theorem State.pinsAgree.congr {s t : State} (h : s.pinsAgree) (hstate : t.power = s.power) (hpins : t.pins = s.pins) : t.pinsAgree := by
  unfold State.pinsAgree at h ⊢
  unfold State.power at hstate
  rw [hstate, hpins]
  exact h

/-- Neither FAULTED nor SAFE_OFF asks anything but that a thermal trip is held with FAULT_N. -/
theorem State.pinsAgree_of_on {t : State} {v : Nat} (hstate : t.power = v) (hv : v ≠ 15 ∧ v ≠ 6)
    (htrip : t.pins.thermtripN = true → t.pins.faultN = true) : t.pinsAgree :=
  ⟨fun h => absurd (hstate.symm.trans h) hv.1, fun h => absurd (hstate.symm.trans h) hv.2, htrip⟩

theorem State.pinsAgree_setState (s : State) {v : Nat} (hlt : v < 16) (hv : v ≠ 15 ∧ v ≠ 6)
    (htrip : s.pins.thermtripN = true → s.pins.faultN = true) : (s.setReg F.ENG_PWR_STATE_STATE v).pinsAgree :=
  State.pinsAgree_of_on (s.reg_setReg_lt 0 hlt) hv htrip

theorem State.pinsAgree_setPower {s : State} (h : s.pinsAgree) {v : Nat} (hlt : v < 16) (hv : v ≠ 15 ∧ v ≠ 6) : (s.setPower v).pinsAgree := by
  obtain ⟨-, -, htrip⟩ := id h
  unfold State.setPower
  split
  · exact h
  · exact s.pinsAgree_setState hlt hv htrip

/-- SAFE_OFF with every port stopped agrees, whatever STATE was before. -/
theorem State.pinsAgree_safeOff {s : State} (h : s.pinsAgree) (hpower : s.power ≠ 15) :
    ((s.setPower 6).putPins { s.pins with portsStopped := true }).pinsAgree := by
  obtain ⟨-, -, htrip⟩ := h
  have hstate : ((s.setPower 6).putPins { s.pins with portsStopped := true }).reg F.ENG_PWR_STATE_STATE = 6 := by
    rw [State.setPower_eq hpower, State.putPins_reg]
    exact State.reg_setReg_same ..
  exact ⟨fun h15 => absurd (hstate.symm.trans h15) (by decide), fun _ => rfl, htrip⟩

/-- A C4 fault asserts FAULT_N and stops every port. -/
theorem State.c4Fault_pinsAgree (s : State) (cause : Nat) : (s.c4Fault cause).pinsAgree := by
  have hfault : (s.c4Fault cause).pins.faultN = true ∧ (s.c4Fault cause).pins.portsStopped = true := by
    rw [State.c4Fault_frame]
    exact ⟨rfl, rfl⟩
  exact ⟨fun _ => hfault, fun _ => hfault.2, fun _ => hfault.1⟩

theorem State.pinsAgree_setReg {s : State} (h : s.pinsAgree) {f : Field} (v : Nat) {n : Nat} (hf : F.ENG_PWR_STATE_STATE.apart f = true)
    (hn : n < f.count) : (s.setReg f v n).pinsAgree :=
  h.congr (s.reg_setReg_apart v hf (by decide) hn) rfl

/-! ### Each command of the family -/

/-- A command that is total in the state keeps the agreement. -/
def keepsPins (f : State → State) : Prop := ∀ s : State, s.pinsAgree → (f s).pinsAgree

theorem aonUp_keepsPins (sel : Bool) : keepsPins (State.aonUp · sel) := fun s ⟨_, _, htrip⟩ =>
  State.pinsAgree_of_on (s.aonUp_shows sel).1 (by decide) htrip

theorem group1Loss_keepsPins : keepsPins State.group1Loss := fun s _ =>
  State.pinsAgree_of_on s.group1Loss_shows.2.2 (by decide) (fun h => h)

theorem railRise_keepsPins (g : Nat) : keepsPins (State.railRise · g) := by
  intro s h
  dsimp only [State.railRise]
  split
  · split
    · exact State.pinsAgree_setPower h (by decide) (by decide)
    · exact h
  · exact s.c4Fault_pinsAgree 3

theorem groupsOk_keepsPins (ok : Nat) : keepsPins (State.groupsOk · ok) := by
  intro s h
  have hset := State.pinsAgree_setReg h ok (f := F.ENG_PWR_STATE_GRP_OK) (n := 0) (by decide) (by decide)
  dsimp only [State.groupsOk]
  split
  · exact State.pinsAgree_setPower hset (by decide) (by decide)
  · exact hset

theorem railsDown_keepsPins : keepsPins State.railsDown := by
  intro s h
  have hpins : s.railsDown.pins = s.pins := by
    rw [State.railsDown_eq]
    rfl
  have hstate : s.railsDown.power = if s.power = 2 ∨ s.power = 3 then 1 else s.power := by
    have hregs : s.railsDown.regs = s.railsLost.regs := by
      rw [State.railsDown_eq]
      rfl
    exact (State.reg_congr hregs _ _).trans s.railsLost_state
  split at hstate
  · exact State.pinsAgree_of_on hstate (by decide) (by rw [hpins]; exact h.2.2)
  · exact h.congr hstate hpins

/-- A start stops every port of a machine that is FAULTED or in SAFE_OFF. -/
theorem startReset_keepsPins : keepsPins State.startReset := by
  intro s h
  obtain ⟨hfaulted, -, htrip⟩ := h
  have hpins : s.startReset.pins = { s.pins with portsStopped := decide (s.power = 15 ∨ s.power = 6), jtagOpen := false } := by
    rw [State.startReset_eq]
    rfl
  have hstate : s.startReset.reg F.ENG_PWR_STATE_STATE = s.power := s.startReset_reg_kept (by decide)
  unfold State.pinsAgree
  rw [hstate, hpins]
  exact ⟨fun h15 => ⟨(hfaulted h15).1, decide_eq_true (Or.inl h15)⟩, fun h6 => decide_eq_true (Or.inr h6), htrip⟩

theorem porstRise_keepsPins : keepsPins State.porstRise := by
  intro s h
  have hs : ((s.putPins { s.pins with porstN := true }).putCk 0).pinsAgree := h
  unfold State.porstRise
  dsimp only
  split
  · split
    · exact startReset_keepsPins _ (State.pinsAgree_setPower hs (by decide) (by decide))
    · exact hs
  · exact State.c4Fault_pinsAgree _ 3

theorem porstFall_keepsPins : keepsPins State.porstFall := by
  intro s h
  by_cases hon : s.power = 4 ∨ s.power = 5 ∨ s.power = 6
  · have hpins : s.porstFall.pins = { s.pins with porstN := false } := by
      rw [State.porstFall_frame hon]
      rfl
    exact State.pinsAgree_of_on (State.porstFall_state hon) (by decide) (by rw [hpins]; exact h.2.2)
  · have hfall : s.porstFall = s.putPins { s.pins with porstN := false } := if_neg hon
    rw [hfall]
    exact h

theorem regulatorFault_keepsPins : keepsPins (fun s => if s.pins.porstN then s.c4Fault 2 else s) := by
  intro s h
  dsimp only
  split
  · exact s.c4Fault_pinsAgree 2
  · exact h

theorem govern_keepsPins (w : Nat) : keepsPins (State.govern · w) := by
  intro s h
  refine h.congr (s.govern_regsKept w _ _ (by decide)) ?_
  dsimp only
  rw [State.govern_frame]
  rfl

/-- What a sample does to the floor leaves STATE and the pins. -/
theorem State.floor_kept (s : State) : s.floor.power = s.power ∧ s.floor.pins = s.pins := by
  have hset : ∀ v : Nat, (s.levelKept (s.setReg F.ENG_PWR_STATUS_THERM_FLOOR v)).power = s.power ∧
      (s.levelKept (s.setReg F.ENG_PWR_STATUS_THERM_FLOOR v)).pins = s.pins := by
    intro v
    refine ⟨?_, ?_⟩
    · rw [State.power, State.levelKept_reg]
      exact s.reg_setReg_apart _ (by decide) (by decide) (by decide)
    · rw [State.levelKept_eq]
      rfl
  unfold State.floor
  split
  · split
    · exact ⟨rfl, rfl⟩
    · rw [State.power, State.tell_hub_reg (by decide) (by decide), State.tell_pins]
      exact hset 8
  · split
    · exact hset 0
    · exact ⟨rfl, rfl⟩

theorem senseAll_keepsPins (rs : List Reading) : keepsPins (State.senseAll · rs) := by
  intro s h
  have hread : (s.setSensors 0 (rs.take 33)).pinsAgree := by
    refine h.congr (s.setSensors_reg_kept (List.length_take_le 33 rs) (by unfold senseKey; decide)) ?_
    rw [State.setSensors_frame]
    rfl
  obtain ⟨hpower, hpins⟩ := (s.setSensors 0 (rs.take 33)).floor_kept
  dsimp only [State.senseAll]
  split
  · exact State.c4Fault_pinsAgree _ 1
  · exact hread.congr hpower hpins

theorem offReq_keepsPins : keepsPins State.offReq := by
  intro s h
  by_cases hfaulted : s.power = 15
  · rw [State.offReq_faulted hfaulted]
    exact h
  · have hset := State.pinsAgree_setReg h 1 (f := F.ENG_PWR_STATE_OFF_REQ) (n := 0) (by decide) (by decide)
    by_cases hpower : s.power = 4
    · cases hrun : s.running with
      | true =>
        rw [State.offReq_departs hpower hrun]
        exact State.pinsAgree_setState (s.setReg F.ENG_PWR_STATE_OFF_REQ 1) (v := 5) (by decide) (by decide) h.2.2
      | false =>
        rw [State.offReq_stops hpower hrun, ← State.setOffReq_setPower hpower]
        exact State.pinsAgree_safeOff hset (by rw [State.power_setOffReq, hpower]; decide)
    · have hother : s.offReq = s.setReg F.ENG_PWR_STATE_OFF_REQ 1 := by
        unfold State.offReq
        dsimp only
        rw [if_neg hfaulted, State.power_setOffReq, if_neg hpower]
      rw [hother]
      exact hset

theorem safeOff_keepsPins : keepsPins State.safeOff := by
  intro s h
  unfold State.safeOff
  split
  · rename_i hpending
    have hneither : s.power ≠ 15 := by rw [hpending.1]; decide
    have hpins : (s.setPower 6).pins = s.pins := by
      rw [State.setPower_eq hneither]
      rfl
    dsimp only
    rw [hpins]
    exact State.pinsAgree_safeOff h hneither
  · exact h

theorem keepsPins.of_exec {f : State → State} (hf : keepsPins f) {s t : State} (h : s.pinsAgree)
    (hexec : Host.Outcome.next (f s) = (.next t : Host.Outcome State Fault Refusal)) : t.pinsAgree := Host.Outcome.next.inj hexec ▸ hf s h

/-- Settles O59: a step runs the command at the front of the queue, and each of the family keeps the agreement. -/
theorem powerStepsKeepPinsAgreeing : Obligations.PowerStepsKeepPinsAgreeing := by
  intro sel g ok w rs rest s t c hc hpending hagree hstep
  have hrest : (s.putPending rest).pinsAgree := hagree
  have hexec : exec c (s.putPending rest) = .next t := by
    rw [← hstep, step, hpending]
    rfl
  simp only [List.mem_cons, List.not_mem_nil, or_false] at hc
  obtain rfl | rfl | rfl | rfl | rfl | rfl | rfl | rfl | rfl | rfl | rfl | rfl := hc
  · exact (aonUp_keepsPins sel).of_exec hrest hexec
  · exact group1Loss_keepsPins.of_exec hrest hexec
  · exact (railRise_keepsPins (g.val + 2)).of_exec hrest hexec
  · exact (groupsOk_keepsPins ok.toNat).of_exec hrest hexec
  · exact railsDown_keepsPins.of_exec hrest hexec
  · exact porstRise_keepsPins.of_exec hrest hexec
  · exact porstFall_keepsPins.of_exec hrest hexec
  · exact regulatorFault_keepsPins.of_exec hrest hexec
  · exact (govern_keepsPins w.toNat).of_exec hrest hexec
  · exact (senseAll_keepsPins rs).of_exec hrest hexec
  · exact offReq_keepsPins.of_exec hrest hexec
  · exact safeOff_keepsPins.of_exec hrest hexec

end Sys2Proof.Machine
end

section
/-!
LAWS. Instances of one field set in a row, updates of the persistent copy, the loading of parts, and the training of the Acvel link.
-/
namespace Sys2Proof.Machine

/-! ### Instances of one field set in a row -/

/-- Instance `n` of a field set to `v n`, for each `n` of a list. -/
def State.setEach (s : State) (f : Field) (v : Nat → Nat) (ks : List Nat) : State := ks.foldl (fun t n => t.setReg f (v n) n) s

theorem State.setEach_frame (s : State) (f : Field) (v : Nat → Nat) (ks : List Nat) : s.setEach f v ks = s.putRegs (s.setEach f v ks).regs := by
  induction ks generalizing s with
  | nil => rfl
  | cons k ks ih => exact ih (s.setReg f (v k) k)

theorem State.setEach_reg_other (s : State) {f g : Field} (v : Nat → Nat) {ks : List Nat} {m : Nat} (h : ∀ k ∈ ks, g.key m ≠ f.key k) :
    (s.setEach f v ks).reg g m = s.reg g m := by
  induction ks generalizing s with
  | nil => rfl
  | cons k ks ih =>
    rw [List.forall_mem_cons] at h
    exact (ih (s.setReg f (v k) k) h.2).trans (s.reg_setReg_other _ h.1)

theorem State.setEach_reg_apart (s : State) {f g : Field} (v : Nat → Nat) {ks : List Nat} {m : Nat} (h : g.apart f = true) (hm : m < g.count)
    (hks : ∀ k ∈ ks, k < f.count) : (s.setEach f v ks).reg g m = s.reg g m :=
  s.setEach_reg_other v (fun k hk => Field.key_ne_of_apart h hm (hks k hk))

/-- The first `n` instances of a field leave every field apart from it as it was. -/
theorem State.setRange_reg_apart (s : State) {f g : Field} (v : Nat → Nat) {n m : Nat} (h : g.apart f = true) (hm : m < g.count)
    (hn : n ≤ f.count) : (s.setEach f v (List.range n)).reg g m = s.reg g m :=
  s.setEach_reg_apart v h hm (fun _ hk => Nat.lt_of_lt_of_le (List.mem_range.mp hk) hn)

/-- Two instances of a field have keys of their own. -/
theorem Field.key_inj {f : Field} (h : 0 < f.stride) {j k : Nat} (hkey : f.key j = f.key k) : j = k := by
  unfold Field.key at hkey
  exact Nat.eq_of_mul_eq_mul_left h (by omega)

theorem State.setEach_reg_same (s : State) {f : Field} (v : Nat → Nat) {ks : List Nat} {k : Nat} (hstride : 0 < f.stride) (hk : k ∈ ks) :
    (s.setEach f v ks).reg f k = v k % 2 ^ f.width := by
  induction ks generalizing s with
  | nil => cases hk
  | cons j ks ih =>
    by_cases hmem : k ∈ ks
    · exact ih (s.setReg f (v j) j) hmem
    · obtain rfl : k = j := (List.mem_cons.mp hk).resolve_right hmem
      have hother : ∀ i ∈ ks, f.key k ≠ f.key i := fun i hi hkey => hmem (Field.key_inj hstride hkey ▸ hi)
      exact (State.setEach_reg_other (s.setReg f (v k) k) v hother).trans (State.reg_setReg_same ..)

theorem State.regsKept.setEach {s t : State} {js : List Nat} (h : s.regsKept t js) {f : Field} (v : Nat → Nat) {ks : List Nat}
    (hks : ∀ k ∈ ks, f.key k ∈ js) : s.regsKept (t.setEach f v ks) js := by
  induction ks generalizing t with
  | nil => exact h
  | cons k ks ih =>
    rw [List.forall_mem_cons] at hks
    exact ih (h.setReg hks.1 (v k)) hks.2

/-- A digest changes the registers that show it and nothing else. -/
theorem State.setDigest_frame (s : State) (f : Field) (l : List Byte) : s.setDigest f l = s.putRegs (s.setDigest f l).regs :=
  s.setEach_frame f _ _

theorem State.setDigest_reg_apart (s : State) {f g : Field} (l : List Byte) {m : Nat} (h : g.apart f = true) (hm : m < g.count)
    (hf : f.count = 4) : (s.setDigest f l).reg g m = s.reg g m :=
  s.setRange_reg_apart _ h hm hf.ge

theorem State.setChallenge_reg_apart (s : State) {g : Field} {m : Nat} (h : g.apart F.BOOT_DBG_CHAL_DIGEST = true) (hm : m < g.count) :
    s.setChallenge.reg g m = s.reg g m :=
  s.setDigest_reg_apart _ h hm rfl

theorem State.setChallenge_frame (s : State) : s.setChallenge = s.putRegs s.setChallenge.regs := s.setDigest_frame _ _

/-! ### The persistent copy and the counter (19 R577, R582) -/

theorem State.flashPuts_frame (s : State) (dst : Nat) (fields : List (Nat × List Byte)) :
    fields.foldl (fun t f => t.flashPut (dst + f.1) f.2) s =
      s.putFlash (fields.foldl (fun t f => t.flashPut (dst + f.1) f.2) s).flash := by
  induction fields generalizing s with
  | nil => rfl
  | cons f fields ih => exact ih (s.flashPut (dst + f.1) f.2)

/-- An update of the persistent copy touches boot flash alone. -/
theorem State.writeCopy_frame (s : State) (fields : List (Nat × List Byte)) : s.writeCopy fields = s.putFlash (s.writeCopy fields).flash := by
  unfold State.writeCopy
  split
  · rfl
  · dsimp only
    rw [State.flashPuts_frame]
    rfl

@[simp] theorem State.writeCopy_reg (s : State) (fields : List (Nat × List Byte)) (g : Field) (m : Nat) :
    (s.writeCopy fields).reg g m = s.reg g m := by
  rw [State.writeCopy_frame]
  rfl

theorem State.raiseCounter_reg_apart (s : State) (v : Nat) {g : Field} {m : Nat} (h : g.apart F.BOOT_COUNTER_COUNTER = true)
    (hm : m < g.count) : (s.raiseCounter v).reg g m = s.reg g m := by
  unfold State.raiseCounter
  split
  · dsimp only
    rw [State.reg_setReg_apart _ _ h hm (by decide), State.writeCopy_reg]
    rfl
  · rfl

/-- A number in the copy in use comes from boot flash and the records that the device has signed. -/
theorem State.copyNat_congr {s t : State} (hflash : t.flash = s.flash) (hboot : t.boot = s.boot) (o n : Nat) : t.copyNat o n = s.copyNat o n := by
  unfold State.copyNat State.copyBank State.copyGood State.copySeq State.flashBytes
  rw [hflash, hboot]

/-- IDENTITY_V, DEVICE_ID and COUNTER set, and the count of free values. -/
def State.identityShown (s : State) (n v c : Nat) (l : List Byte) : State :=
  (((s.putDraws n).setReg F.BOOT_STATUS_IDENTITY_V v).setDigest F.BOOT_DEVICE_ID_DIGEST l).setReg F.BOOT_COUNTER_COUNTER c

theorem State.identityShown_frame (s : State) (n v c : Nat) (l : List Byte) :
    s.identityShown n v c l = (s.putRegs (s.identityShown n v c l).regs).putDraws n := by
  have h := State.setDigest_frame ((s.putDraws n).setReg F.BOOT_STATUS_IDENTITY_V v) F.BOOT_DEVICE_ID_DIGEST l
  unfold State.identityShown
  generalize State.setDigest _ _ l = t at h ⊢
  rw [h]
  rfl

/-- What the first stage finds of identity and counter changes registers, and one free value is read. -/
theorem State.startIdentity_frame (s : State) : s.startIdentity = (s.putRegs s.startIdentity.regs).putDraws (s.draws + 1) :=
  s.identityShown_frame (s.draws + 1) (b2n (Config.unwraps s.draws && !s.keyErased (s.copyBank.getD 0))) (s.copyNat 0x180 4) s.deviceId

/-! ### The firmware of a bank (19 R576, R580) -/

/-- Loading parts reads free values and nothing else. -/
theorem State.loadParts_frame (s : State) (b : Nat) : (s.loadParts b).2 = s.putDraws (s.loadParts b).2.draws := by
  have hall : ∀ (l : List Nat) (p : Bool × State),
      (l.foldl (fun (p : Bool × State) ty =>
        if p.1 && p.2.partGood b ty then (Config.partReady p.2.draw.1, p.2.draw.2) else (false, p.2)) p).2 =
      p.2.putDraws (l.foldl (fun (p : Bool × State) ty =>
        if p.1 && p.2.partGood b ty then (Config.partReady p.2.draw.1, p.2.draw.2) else (false, p.2)) p).2.draws := by
    intro l
    induction l with
    | nil => exact fun p => rfl
    | cons ty l ih =>
      intro p
      rw [List.foldl_cons]
      split
      · exact ih _
      · exact ih _
  exact hall loadOrder (true, s)

theorem State.loadParts_reg (s : State) (b : Nat) (g : Field) (m : Nat) : (s.loadParts b).2.reg g m = s.reg g m := by
  rw [State.loadParts_frame]
  rfl

theorem State.runBank_reg_apart (s : State) (b : Nat) {g : Field} {m : Nat} (hbank : g.apart F.BOOT_STATUS_BANK = true)
    (hsvn : g.apart F.BOOT_FW_SVN = true) (hfw : g.apart F.BOOT_FW_FW_VERSION = true) (hm : m < g.count) : (s.runBank b).reg g m = s.reg g m := by
  unfold State.runBank State.measureBank
  rw [State.putBoot_reg, State.reg_setReg_apart _ _ hfw hm (by decide), State.reg_setReg_apart _ _ hsvn hm (by decide),
    State.reg_setReg_apart _ _ hbank hm (by decide)]

/-- BANK shows the bank whose firmware runs (19 R593). -/
theorem State.runBank_bank (s : State) (b : Nat) : (s.runBank b).reg F.BOOT_STATUS_BANK = b % 2 := by
  unfold State.runBank State.measureBank
  rw [State.putBoot_reg, State.reg_setReg_apart _ _ (by decide) (by decide) (by decide),
    State.reg_setReg_apart _ _ (by decide) (by decide) (by decide), State.reg_setReg_same]
  rfl

/-! ### The Acvel link trains (15 R469) -/

/-- The link that was UP is told of to the hub. -/
def State.acvDownTold (s : State) : State := if s.acvUp then s.tell 0x0407 1 4 3 7 none else s

theorem State.acvTrain_eq (s : State) : s.acvTrain = (s.acvDownTold.setReg F.ACV_LINK_STATE 1).putAcv
    { s.acvDownTold.acv with sentHello := false, hello := none, since := s.acvDownTold.toll } := rfl

theorem State.acvDownTold_boot (s : State) : s.acvDownTold.boot = s.boot := by
  unfold State.acvDownTold
  split
  · exact State.tell_boot ..
  · rfl

theorem State.acvTrain_boot (s : State) : s.acvTrain.boot = s.boot := s.acvDownTold_boot

theorem State.acvTrain_state (s : State) : s.acvTrain.reg F.ACV_LINK_STATE = 1 := by
  rw [State.acvTrain_eq, State.putAcv_reg]
  exact State.reg_setReg_same ..

theorem State.acvTrain_reg_apart (s : State) {g : Field} {m : Nat} (hg : ∀ f ∈ hubFields, g.apart f = true)
    (h : g.apart F.ACV_LINK_STATE = true) (hm : m < g.count) : s.acvTrain.reg g m = s.reg g m := by
  have htold : s.acvDownTold.reg g m = s.reg g m := by
    unfold State.acvDownTold
    split
    · exact State.tell_hub_reg hg hm ..
    · rfl
  rw [← htold]
  exact s.acvDownTold.reg_setReg_apart 1 h hm (by decide)

end Sys2Proof.Machine
end

section
/-!
PROOFS. Starts: the statement StartsRunTheirSteps.
-/
namespace Sys2Proof.Machine

/-! ### The mask ROM (19 R571) -/

/-- BOOT_UE: the start has found nothing to run, and a C4 fault with cause 5 is latched. -/
def State.bootUe (s : State) : State := (s.putBoot { s.boot with step := 0 }).c4Fault 5

theorem State.bootUe_shows (s : State) : s.bootUe.reg F.ENG_PWR_STATE_STATE = 15 ∧ s.bootUe.boot.step = 0 ∧ s.bootUe.pins.faultN = true ∧
    s.bootUe.pins.portsStopped = true ∧ s.bootUe.reg F.ENG_PWR_STATE_C4_CAUSE = if s.reg F.ENG_PWR_STATE_C4_CAUSE = 0 then 5
      else if s.pins.c4At = some (s.ck, s.toll) then min (s.reg F.ENG_PWR_STATE_C4_CAUSE) 5 else s.reg F.ENG_PWR_STATE_C4_CAUSE := by
  obtain ⟨hframe, -, -, hstate, hcause, -⟩ := (s.putBoot { s.boot with step := 0 }).c4Fault_shows (cause := 5) (by decide) (by decide)
  refine ⟨hstate, ?_, ?_, ?_, hcause⟩
  · rw [State.bootUe, hframe]
    rfl
  · rw [State.bootUe, hframe]
    rfl
  · rw [State.bootUe, hframe]
    rfl

theorem State.romAccept_none {s : State} (hstep : s.boot.step = 2) (hfind : s.romNext.find? s.headerGood = none) : s.romAccept = s.bootUe := by
  unfold State.romAccept
  rw [if_neg (not_not.mpr hstep), hfind]
  rfl

/-- The state in which the ROM has started bank `b`. -/
def State.romStarted (s : State) (b : Nat) : State :=
  (((s.putBoot { s.boot with step := 3, home := b }).setReg F.BOOT_STATUS_STAGE 1).setReg F.BOOT_STATUS_BANK b).setReg F.BOOT_STATUS_FALLBACK
    (if s.romOrder.head? = some b then 0 else 1)

theorem State.romAccept_some {s : State} {b : Nat} (hstep : s.boot.step = 2) (hfind : s.romNext.find? s.headerGood = some b) :
    s.romAccept = s.romStarted b := by
  unfold State.romAccept
  rw [if_neg (not_not.mpr hstep), hfind]
  rfl

theorem State.romStarted_shows (s : State) {b : Nat} (hb : b < 2) :
    s.romStarted b = (s.putRegs (s.romStarted b).regs).putBoot { s.boot with step := 3, home := b } ∧
    (s.romStarted b).reg F.BOOT_STATUS_STAGE = 1 ∧ (s.romStarted b).reg F.BOOT_STATUS_BANK = b ∧
    (s.romStarted b).reg F.BOOT_STATUS_FALLBACK = (if s.romOrder.head? = some b then 0 else 1) ∧
    s.regsKept (s.romStarted b) [F.BOOT_STATUS_STAGE.key 0, F.BOOT_STATUS_BANK.key 0, F.BOOT_STATUS_FALLBACK.key 0] := by
  have hbank : b % 2 ^ F.BOOT_STATUS_BANK.width = b := Nat.mod_eq_of_lt hb
  refine ⟨?_, ?_, ?_, ?_, ?_⟩
  · unfold State.romStarted
    generalize (if s.romOrder.head? = some b then 0 else 1) = v
    rfl
  · unfold State.romStarted
    rw [State.reg_setReg_apart _ _ (by decide) (by decide) (by decide), State.reg_setReg_apart _ _ (by decide) (by decide) (by decide)]
    exact State.reg_setReg_same ..
  · unfold State.romStarted
    rw [State.reg_setReg_apart _ _ (by decide) (by decide) (by decide), State.reg_setReg_same, hbank]
  · exact State.reg_setReg_lt _ 0 (by split <;> decide)
  · unfold State.romStarted
    refine State.regsKept.setReg (State.regsKept.setReg (State.regsKept.setReg ?_ (by simp) _) (by simp) _) (by simp) _
    exact s.regsKept_refl _

/-! ### The first stage (19 R576 to R579) -/

/-- With the key erased in neither copy there is nothing to erase. -/
theorem State.eraseRest_whole {s : State} (h0 : s.keyErased 0 = false) (h1 : s.keyErased 1 = false) : s.eraseRest = s := by
  rw [State.eraseRest, h0, if_neg Bool.false_ne_true, h1, if_neg Bool.false_ne_true]

/-- The firmware of bank `b` runs and the memories train. -/
def State.trainingBegun (s : State) (svn b : Nat) : State :=
  ((((s.raiseCounter svn).runBank b).setChallenge.putBoot { ((s.raiseCounter svn).runBank b).setChallenge.boot with step := 4 }).setReg
    F.BOOT_STATUS_STAGE 2).setEach F.MEM_STACK_STATE (fun _ => 1) (List.range 16)

section
variable {s : State} (hstep : s.boot.step = 3) (h0 : s.keyErased 0 = false) (h1 : s.keyErased 1 = false)
include hstep h0 h1

/-- With no valid copy the start ends in BOOT_UE. -/
theorem State.firstStage_noCopy (hcopy : s.copyBank = none) : s.firstStage = s.bootUe := by
  unfold State.firstStage
  dsimp only
  rw [if_neg (not_not.mpr hstep), State.eraseRest_whole h0 h1, hcopy]
  rfl

/-- A manifest that fails rejects its bank. -/
theorem State.firstStage_rejects (hcopy : s.copyBank ≠ none) (hmanifest : s.startIdentity.manifestGood s.boot.home = false) :
    s.firstStage = s.startIdentity.rejectBank s.boot.home := by
  have hsome : ¬ s.copyBank.isNone = true := fun h => hcopy (Option.isNone_iff_eq_none.mp h)
  unfold State.firstStage
  dsimp only
  rw [if_neg (not_not.mpr hstep), State.eraseRest_whole h0 h1, if_neg hsome, hmanifest, if_pos (by rfl)]

/-- A bank whose manifest and parts pass runs, and the memories train. -/
theorem State.firstStage_trains (hcopy : s.copyBank ≠ none) (hmanifest : s.startIdentity.manifestGood s.boot.home = true)
    (hparts : ((s.startIdentity.startCopy s.boot.home).loadParts s.boot.home).1 = true) :
    s.firstStage = ((s.startIdentity.startCopy s.boot.home).loadParts s.boot.home).2.trainingBegun (s.startIdentity.manSvn s.boot.home)
      s.boot.home := by
  have hsome : ¬ s.copyBank.isNone = true := fun h => hcopy (Option.isNone_iff_eq_none.mp h)
  unfold State.firstStage
  dsimp only
  rw [if_neg (not_not.mpr hstep), State.eraseRest_whole h0 h1, if_neg hsome, hmanifest, if_neg (by decide), hparts, if_neg (by decide)]
  rfl

end

theorem State.rejectBank_shows (s : State) (b : Nat) :
    (s.rejectBank b).boot = { s.boot with step := 2, tried := b :: s.boot.tried } ∧ (s.rejectBank b).reg F.BOOT_STATUS_STAGE = 0 ∧
    (s.rejectBank b).flash = s.flash :=
  ⟨rfl, State.reg_setReg_same .., rfl⟩

theorem State.startIdentity_kept (s : State) : s.startIdentity.boot = s.boot ∧ s.startIdentity.flash = s.flash := by
  rw [State.startIdentity_frame, State.putDraws_boot, State.putRegs_boot, State.putDraws_flash, State.putRegs_flash]
  exact ⟨rfl, rfl⟩

/-- The start counts one boot more than the copy in use (19 R578). -/
theorem State.startCopy_bootCount (s : State) (b : Nat) :
    (s.startCopy b).reg F.BOOT_STATUS_BOOT_COUNT = (s.copyNat 0x10 8 + 1) % 2 ^ 32 := by
  unfold State.startCopy
  dsimp only
  rw [State.putBoot_reg, State.reg_setReg_same]
  rfl

/-- A field that training begins with, but for those that show it, is that of the firmware loaded. -/
theorem State.trainingBegun_reg_apart (s : State) (svn b : Nat) {g : Field} {m : Nat} (hm : m < g.count)
    (hstack : g.apart F.MEM_STACK_STATE = true) (hstage : g.apart F.BOOT_STATUS_STAGE = true) (hchal : g.apart F.BOOT_DBG_CHAL_DIGEST = true) :
    (s.trainingBegun svn b).reg g m = ((s.raiseCounter svn).runBank b).reg g m := by
  unfold State.trainingBegun
  rw [State.setRange_reg_apart _ _ hstack hm (by decide), State.reg_setReg_apart _ _ hstage hm (by decide),
    State.putBoot_reg, State.setChallenge_reg_apart _ hchal hm]

theorem State.trainingBegun_shows (s : State) (svn b : Nat) : (s.trainingBegun svn b).boot.step = 4 ∧
    (s.trainingBegun svn b).reg F.BOOT_STATUS_STAGE = 2 ∧ (s.trainingBegun svn b).reg F.BOOT_STATUS_BANK = b % 2 ∧
    (s.trainingBegun svn b).reg F.BOOT_STATUS_BOOT_COUNT = s.reg F.BOOT_STATUS_BOOT_COUNT ∧
    ∀ n < 16, (s.trainingBegun svn b).reg F.MEM_STACK_STATE n = 1 := by
  refine ⟨?_, ?_, ?_, ?_, fun n hn => ?_⟩
  · unfold State.trainingBegun
    rw [State.setEach_frame]
    rfl
  · unfold State.trainingBegun
    rw [State.setRange_reg_apart _ _ (by decide) (by decide) (by decide)]
    exact State.reg_setReg_same ..
  · rw [State.trainingBegun_reg_apart _ _ _ (by decide) (by decide) (by decide) (by decide), State.runBank_bank]
  · rw [State.trainingBegun_reg_apart _ _ _ (by decide) (by decide) (by decide) (by decide),
      State.runBank_reg_apart _ _ (by decide) (by decide) (by decide) (by decide), State.raiseCounter_reg_apart _ _ (by decide) (by decide)]
  · exact State.setEach_reg_same _ _ (by decide) (List.mem_range.mpr hn)

/-! ### Memory training ends (19 R567) -/

/-- The state of each stack after training. -/
def State.stacksTrained (s : State) (failed : Nat) : State :=
  s.setEach F.MEM_STACK_STATE (fun n => if failed.testBit n then 3 else 2) (List.range 16)

/-- READY, or FAILED with the first code of a failed start. -/
def State.startEnded (s : State) (failed : Nat) : State :=
  if failed % 2 ^ 16 = 0 then (s.stacksTrained failed).setReg F.BOOT_STATUS_STAGE 3
  else ((s.stacksTrained failed).setReg F.BOOT_STATUS_FAIL 1).setReg F.BOOT_STATUS_STAGE 5

theorem State.trainingEnd_eq {s : State} (hstep : s.boot.step = 4) (failed : Nat) :
    s.trainingEnd failed = ((s.startEnded failed).putBoot { (s.startEnded failed).boot with step := 5 }).acvTrain := by
  unfold State.trainingEnd
  rw [if_neg (not_not.mpr hstep)]
  rfl

theorem State.startEnded_reg_apart (s : State) (failed : Nat) {g : Field} {m : Nat} (hm : m < g.count)
    (hstage : g.apart F.BOOT_STATUS_STAGE = true) (hfail : g.apart F.BOOT_STATUS_FAIL = true) :
    (s.startEnded failed).reg g m = (s.stacksTrained failed).reg g m := by
  unfold State.startEnded
  split
  · exact State.reg_setReg_apart _ _ hstage hm (by decide)
  · rw [State.reg_setReg_apart _ _ hstage hm (by decide), State.reg_setReg_apart _ _ hfail hm (by decide)]

theorem State.startEnded_stage (s : State) (failed : Nat) :
    (s.startEnded failed).reg F.BOOT_STATUS_STAGE = if failed % 2 ^ 16 = 0 then 3 else 5 := by
  unfold State.startEnded
  split
  · exact State.reg_setReg_same ..
  · exact State.reg_setReg_same ..

theorem State.startEnded_fail (s : State) (failed : Nat) :
    (s.startEnded failed).reg F.BOOT_STATUS_FAIL = if failed % 2 ^ 16 = 0 then s.reg F.BOOT_STATUS_FAIL else 1 := by
  unfold State.startEnded
  split
  · rw [State.reg_setReg_apart _ _ (by decide) (by decide) (by decide), State.stacksTrained,
      State.setRange_reg_apart _ _ (by decide) (by decide) (by decide)]
  · rw [State.reg_setReg_apart _ _ (by decide) (by decide) (by decide)]
    exact State.reg_setReg_same ..

/-- No field of the boot registers or of a stack's state is touched as the Acvel link begins to train. -/
theorem State.trainingEnd_reg {s : State} (hstep : s.boot.step = 4) (failed : Nat) {g : Field} {m : Nat} (hm : m < g.count)
    (hg : ∀ f ∈ hubFields, g.apart f = true) (hlink : g.apart F.ACV_LINK_STATE = true) :
    (s.trainingEnd failed).reg g m = (s.startEnded failed).reg g m := by
  rw [State.trainingEnd_eq hstep, State.acvTrain_reg_apart _ hg hlink hm]
  rfl

theorem State.trainingEnd_stack {s : State} (hstep : s.boot.step = 4) (failed : Nat) {n : Nat} (hn : n < 16) :
    (s.trainingEnd failed).reg F.MEM_STACK_STATE n = if failed.testBit n then 3 else 2 := by
  rw [State.trainingEnd_reg hstep _ hn (by decide) (by decide), State.startEnded_reg_apart _ _ hn (by decide) (by decide),
    State.stacksTrained, State.setEach_reg_same _ _ (by decide) (List.mem_range.mpr hn)]
  split <;> rfl

/-! ### The watchdog and the reset after a C3 fault (17 R510, R514, R516; 19 R566) -/

theorem State.wdog_late {s : State} (h : 3 < s.boot.step) : s.wdog = s.detect 0x2005 4 0 7 none := by
  unfold State.wdog
  split
  · omega
  · omega
  · omega
  · rfl

/-- A C3 kind owes the device a reset, whatever else its message does. -/
theorem State.raise_resetDue (s : State) (r : Rep) (h : r.msg.kind = 0x2005) : (s.raise r).beatU.resetDue = true := by
  unfold State.raise
  rw [State.capture_eq, h]
  exact (State.c3_eq _ 0).2

theorem State.deviceReset_kept {s : State} (h : s.beatU.resetDue = false ∨ s.running = true) : s.deviceReset = s := by
  refine if_neg ?_
  rcases h with h | h <;> simp [h]

theorem State.deviceReset_starts {s : State} (hdue : s.beatU.resetDue = true) (hrun : s.running = false) : s.deviceReset = s.startReset :=
  if_pos (by rw [hdue, hrun]; rfl)

/-- What a start leaves outside the registers and memory. -/
theorem State.startReset_shows (s : State) : s.startReset.boot.step = 2 ∧ s.startReset.beatU.resetDue = false ∧
    s.startReset.pending = s.pending ∧ s.startReset.flash = s.flash ∧ s.startReset.host = s.host ∧ s.startReset.nvme = s.nvme ∧
    s.startReset.groups = [] ∧ s.startReset.links = [] ∧ s.startReset.clusters = [] := by
  rw [State.startReset_eq]
  exact ⟨rfl, rfl, rfl, rfl, rfl, rfl, rfl, rfl, rfl⟩

/-- Settles O50: each step of a start is one of the parts above. -/
theorem startsRunTheirSteps : Obligations.StartsRunTheirSteps := by
  intro failed s
  dsimp only
  refine ⟨?_, ?_, ?_, ?_, ?_, ?_, ?_, ?_, ?_, ?_, ?_⟩
  · exact fun hstep => congrArg Host.Outcome.next (if_pos hstep)
  · intro hstep
    refine ⟨s.romAccept, rfl, fun hfind => ?_, fun b hb hfind => ?_⟩
    · rw [State.romAccept_none hstep hfind]
      exact s.bootUe_shows
    · rw [State.romAccept_some hstep hfind]
      exact s.romStarted_shows hb
  · exact fun hstep => congrArg Host.Outcome.next (if_pos hstep)
  · intro hstep h0 h1
    refine ⟨s.firstStage, rfl, fun hcopy => ?_, fun hcopy hmanifest => ?_, fun hcopy hmanifest hparts => ?_⟩
    · rw [State.firstStage_noCopy hstep h0 h1 hcopy]
      exact s.bootUe_shows
    · obtain ⟨hboot, hflash⟩ := s.startIdentity_kept
      obtain ⟨hrejected, hstage, hkept⟩ := s.startIdentity.rejectBank_shows s.boot.home
      rw [State.firstStage_rejects hstep h0 h1 hcopy hmanifest, hrejected, hstage, hkept, hboot, hflash]
      exact ⟨rfl, rfl, rfl, rfl⟩
    · obtain ⟨hboot, hflash⟩ := s.startIdentity_kept
      obtain ⟨hbegun, hstage, hbank, hcount, hstacks⟩ := State.trainingBegun_shows
        ((s.startIdentity.startCopy s.boot.home).loadParts s.boot.home).2 (s.startIdentity.manSvn s.boot.home) s.boot.home
      rw [State.loadParts_reg, State.startCopy_bootCount, State.copyNat_congr hflash hboot] at hcount
      rw [State.firstStage_trains hstep h0 h1 hcopy hmanifest hparts]
      exact ⟨hbegun, hstage, hbank, hcount, hstacks⟩
  · exact fun hstep => congrArg Host.Outcome.next (if_pos hstep)
  · intro hstep
    have hzero : failed.toNat % 2 ^ 16 = 0 ↔ failed = 0 := by
      rw [Nat.mod_eq_of_lt failed.isLt]
      exact (BitVec.toNat_eq (y := 0)).symm
    refine ⟨s.trainingEnd failed.toNat, rfl, ?_, ?_, fun n hn => State.trainingEnd_stack hstep _ hn, ?_, ?_⟩
    · rw [State.trainingEnd_eq hstep, State.acvTrain_boot]
      rfl
    · rw [State.trainingEnd_eq hstep, State.acvTrain_state]
    · rw [State.trainingEnd_reg hstep _ (by decide) (by decide) (by decide), State.startEnded_stage]
      exact if_congr hzero rfl rfl
    · rw [State.trainingEnd_reg hstep _ (by decide) (by decide) (by decide), State.startEnded_fail]
      exact if_congr hzero rfl rfl
  · intro hstep
    have hwdog : s.wdog = s := by simp only [State.wdog, hstep]
    exact congrArg Host.Outcome.next hwdog
  · intro hstep
    have hwdog : s.wdog = s.rejectBank s.boot.home := by simp only [State.wdog, hstep]
    obtain ⟨hboot, hstage, -⟩ := s.rejectBank_shows s.boot.home
    refine ⟨s.rejectBank s.boot.home, congrArg Host.Outcome.next hwdog, ⟨rfl, ?_, State.memKept_of_mem rfl⟩, hboot, hstage⟩
    exact ((s.regsKept_refl _).setReg (f := F.BOOT_STATUS_STAGE) (n := 0) (List.mem_singleton_self _) 0).congr rfl
  · intro hstep
    refine ⟨s.wdog, rfl, ?_, ?_⟩
    · rw [State.wdog_late hstep]
      exact s.raise_resetDue _ rfl
    · rw [State.wdog_late hstep]
      exact s.raise_byte _
  · exact fun h => congrArg Host.Outcome.next (State.deviceReset_kept h)
  · intro hdue hrun
    obtain ⟨hstep, hreset, hpending, hflash, hhost, hnvme, hgroups, hlinks, hclusters⟩ := s.startReset_shows
    exact ⟨s.startReset, congrArg Host.Outcome.next (State.deviceReset_starts hdue hrun), hstep, fun g m hg => s.startReset_reg_other hg,
      fun f hf => s.startReset_reg_kept hf, hreset, hpending, hflash, hhost, hnvme, hgroups, hlinks, hclusters, s.startReset_byte⟩

end Sys2Proof.Machine
end

section
/-!
LAWS. Bytes written to a memory and read back, the fields of a byte string, and writes of the device to host memory.
-/
namespace Sys2Proof.Machine

/-! ### Byte strings -/

@[simp] theorem leBytes_length (n v : Nat) : (leBytes n v).length = n := by
  induction n generalizing v with
  | zero => rfl
  | succ n ih => rw [leBytes, List.length_cons, ih]

/-- The number of the `n` bytes of a number that fits in them is that number (00 R8). -/
theorem leNat_leBytes {n v : Nat} (h : v < 256 ^ n) : leNat (leBytes n v) = v := by
  induction n generalizing v with
  | zero =>
    rw [pow_zero] at h
    obtain rfl : v = 0 := by omega
    rfl
  | succ n ih =>
    rw [pow_succ] at h
    rw [leBytes, leNat, ih (Nat.div_lt_of_lt_mul (by omega)), BitVec.toNat_ofNat]
    omega

@[simp] theorem fitBytes_length (n : Nat) (l : List Byte) : (fitBytes n l).length = n := by
  simp [fitBytes]

theorem fitBytes_of_length {n : Nat} {l : List Byte} (h : l.length = n) : fitBytes n l = l := List.take_left' h

/-- Bytes that fit stand at the front, with zeros behind them. -/
theorem fitBytes_append {n k : Nat} {l : List Byte} (h : l.length + k = n) : fitBytes n l = l ++ List.replicate k 0 := by
  subst h
  rw [fitBytes, List.take_length_add_append, List.take_replicate, Nat.min_eq_left (Nat.le_add_left _ _)]

/-- The part of a byte string that follows what comes before it. -/
theorem part_of_append {l p q r : List Byte} {o n : Nat} (h : l = p ++ (q ++ r)) (hp : p.length = o) (hq : q.length = n) :
    (l.drop o).take n = q := by
  rw [h, List.drop_left' hp, List.take_left' hq]

@[simp] theorem State.digest_length (s : State) (f : Field) : (s.digest f).length = 32 := by
  simp [State.digest, List.range_succ]

/-! ### Reading back what was written -/

theorem span_length (a n : Nat) : (span a n).length = n := by
  rw [span, List.length_map, List.length_range]

/-- Bytes inside what was written read as that part of it. -/
theorem memBytes_memWrite_in (m : List Host.Cell) (a : Nat) (l : List Byte) {o n : Nat} (h : o + n ≤ l.length) :
    memBytes (memWrite m a l) (a + o) n = (l.drop o).take n := by
  refine List.ext_getElem ?_ (fun i hi hi' => ?_)
  · simp only [memBytes, List.length_map, span_length, List.length_take, List.length_drop]
    omega
  · have hin : i < n := by simpa [memBytes, span_length] using hi
    have hread := memWrite_in m a l (i := o + i) (by omega)
    rw [List.getD_eq_getElem _ _ (by omega), ← Nat.add_assoc] at hread
    simpa [memBytes, span] using hread

/-- Bytes outside what was written read as before. -/
theorem memBytes_memWrite_out (m : List Host.Cell) (a : Nat) (l : List Byte) {b n : Nat} (h : b + n ≤ a ∨ a + l.length ≤ b) :
    memBytes (memWrite m a l) b n = memBytes m b n := by
  refine List.map_congr_left (fun x hx => ?_)
  obtain ⟨i, hi, rfl⟩ := List.mem_map.mp hx
  rw [List.mem_range] at hi
  rcases h with hbelow | habove
  · exact memWrite_below m a l (by omega)
  · exact memWrite_above m a l (by omega)

theorem memWrite_append (m : List Host.Cell) (a : Nat) (l l' : List Byte) :
    memWrite m a (l ++ l') = memWrite (memWrite m a l) (a + l.length) l' := by
  induction l generalizing m a with
  | nil => rfl
  | cons b l ih =>
    rw [List.cons_append, memWrite, memWrite, ih, List.length_cons]
    congr 1
    omega

/-- A byte string written in packets of at most 256 bytes. -/
theorem memWrite_packet (m : List Host.Cell) (a : Nat) (l : List Byte) :
    memWrite (memWrite m a (l.take 256)) (a + 256) (l.drop 256) = memWrite m a l := by
  rcases Nat.lt_or_ge l.length 256 with hshort | hlong
  · rw [List.drop_of_length_le hshort.le, List.take_of_length_le hshort.le]
    rfl
  · have hlen : (l.take 256).length = 256 := List.length_take_of_le hlong
    conv_rhs => rw [← List.take_append_drop 256 l, memWrite_append, hlen]

/-! ### The device's own writes (15 R465, R467, R473) -/

/-- Everything handed to an Acvel link that is UP has left, `n` packets of it unacknowledged. -/
def State.acvIdle (s : State) (n : Nat) : Prop := s.acvUp = true ∧ s.acv.unacked.length = n ∧ s.acv.tries.length = n

/-- `t` is `s` with `l` written to host memory from `a` on, by packets that have left. -/
def State.hostWritten (s t : State) (a : Nat) (l : List Byte) : Prop :=
  ∃ (x : AcvLink) (o : List Out), t = ((s.putAcv x).putOut o).putHost (memWrite s.host a l)

/-- The one packet that has not been sent leaves while the link is UP. -/
theorem State.acvPump_one {s : State} {p : AcvPkt} (hup : s.acvUp = true)
    (hwaits : (s.acv.unacked.take (min s.acv.unacked.length 2048)).drop s.acv.sent = [p]) :
    s.acvPump = (s.putAcv { s.acv with tries := s.acv.tries ++ [(0, s.toll)] }).acvFirst p := by
  unfold State.acvPump
  dsimp only
  rw [if_pos hup, hwaits]
  rfl

/-- On a link with room an MWR leaves at once. -/
theorem State.acvSend_leaves {s : State} {n : Nat} (hidle : s.acvIdle n) (hroom : n < 2048) (a : Nat) (data : List Byte) :
    s.hostWritten (s.acvSend acvMwr a 0 0 0 data) a data ∧ (s.acvSend acvMwr a 0 0 0 data).acvIdle (n + 1) := by
  obtain ⟨hup, hunacked, htries⟩ := hidle
  have hwaits : ∀ p : AcvPkt, ((s.acv.unacked ++ [p]).take (min (s.acv.unacked ++ [p]).length 2048)).drop s.acv.tries.length = [p] := by
    intro p
    rw [List.length_append, List.length_singleton, hunacked, Nat.min_eq_left hroom, htries, ← hunacked,
      List.take_of_length_le (by rw [List.length_append, List.length_singleton]), List.drop_left]
  have hpump : s.acvSend acvMwr a 0 0 0 data = (s.putAcv { s.acv with
      lsend := (s.acv.lsend + 1) % 4096
      unacked := s.acv.unacked ++ [AcvPkt.mk acvMwr s.acv.lsend a 0 0 0 data]
      tries := s.acv.tries ++ [(0, s.toll)] }).acvFirst (AcvPkt.mk acvMwr s.acv.lsend a 0 0 0 data) :=
    State.acvPump_one hup (hwaits _)
  rw [hpump]
  refine ⟨⟨_, _, rfl⟩, hup, ?_, ?_⟩
  · show (s.acv.unacked ++ _).length = n + 1
    rw [List.length_append, hunacked]
    rfl
  · show (s.acv.tries ++ _).length = n + 1
    rw [List.length_append, htries]
    rfl

/-- Bytes that fit in `k` packets are in host memory once they have been handed on. -/
theorem State.acvWrite_written (k : Nat) {s : State} {n : Nat} (hidle : s.acvIdle n) (hroom : n + k ≤ 2048) (a : Nat) (l : List Byte)
    (hlen : l.length ≤ 256 * k) : s.hostWritten (State.acvWrite k s a l) a l := by
  induction k generalizing s n a l with
  | zero =>
    obtain rfl : l = [] := List.length_eq_zero_iff.mp (by omega)
    exact ⟨s.acv, s.out, rfl⟩
  | succ k ih =>
    rw [State.acvWrite]
    split
    · rename_i hempty
      obtain rfl := List.isEmpty_iff.mp hempty
      exact ⟨s.acv, s.out, rfl⟩
    · obtain ⟨hsent, hnext⟩ := State.acvSend_leaves hidle (by omega) a (l.take 256)
      have hrest := ih hnext (by omega) (a + 256) (l.drop 256) (by rw [List.length_drop]; omega)
      obtain ⟨x, o, ht⟩ := hsent
      obtain ⟨y, p, hu⟩ := hrest
      have hlast : ∀ h h' : List Host.Cell, (((((s.putAcv x).putOut o).putHost h).putAcv y).putOut p).putHost h' =
          ((s.putAcv y).putOut p).putHost h' := by
        intro h h'
        simp only [State.putAcv, State.putOut, State.putHost]
      rw [hu, ht, hlast, State.putHost_host, memWrite_packet]
      exact ⟨y, p, rfl⟩

/-- A byte string of at most 500,000 bytes is in host memory as soon as it is handed to an idle link. -/
theorem State.toHost_written {s : State} (hidle : s.acvIdle 0) (a : Nat) (l : List Byte) (hlen : l.length < 500000) :
    s.hostWritten (s.toHost a l) a l :=
  State.acvWrite_written _ hidle (by omega) a l (by omega)

end Sys2Proof.Machine
end

section
/-!
PROOFS. Attestation and debug: the statement AttestAndDebugOpen.
-/
namespace Sys2Proof.Machine

/-! ### A completion entry (15 R484) -/

theorem State.complete_frame (s : State) (d : Desc) (code v0 v1 : Nat) : s.complete d code v0 v1 =
    (s.putRegs (s.complete d code v0 v1).regs).putComps (s.comps ++ [⟨d.ring.val, d.slot.toNat, d.id.toNat, code, v0, v1, s.toll⟩]) := rfl

theorem State.regsKept.complete {s t : State} {ks : List Nat} (h : s.regsKept t ks) {d : Desc}
    (hd : F.ACV_RSTAT_INFLIGHT.key d.ring.val ∈ ks) (code v0 v1 : Nat) : s.regsKept (t.complete d code v0 v1) ks := by
  rw [State.complete_eq]
  exact State.regsKept.setReg (h.congr rfl) hd _

/-! ### The attestation record (19 R580) -/

/-- A part of a byte string given by its parts in order. -/
theorem part_of_flatten {parts : List (List Byte)} {rest q : List Byte} {k o : Nat} (hk : parts[k]? = some q)
    (ho : ((parts.map List.length).take k).sum = o) : (((parts.flatten ++ rest).drop o).take q.length) = q := by
  obtain ⟨hlt, hq⟩ := List.getElem?_eq_some_iff.mp hk
  refine part_of_append (p := (parts.take k).flatten) (r := (parts.drop (k + 1)).flatten ++ rest) ?_ ?_ rfl
  · conv_lhs => rw [← List.take_append_drop k parts, List.drop_eq_getElem_cons hlt, hq, List.flatten_append, List.flatten_cons]
    rw [List.append_assoc, List.append_assoc]
  · rw [List.length_flatten, List.map_take, ho]

/-- The bytes of a register field that fits in them. -/
theorem State.leNat_leBytes_reg (s : State) (f : Field) (m : Nat) {n : Nat} (h : 2 ^ f.width ≤ 256 ^ n) :
    leNat (leBytes n (s.reg f m)) = s.reg f m :=
  leNat_leBytes (Nat.lt_of_lt_of_le (s.reg_lt f m) h)

theorem State.measurements_length (s : State) : s.measurements.length = 320 := by
  simp [State.measurements, List.length_flatMap]

/-- The parts of the record before its measurements, in order. -/
def State.attestParts (s : State) (nonce : List Byte) : List (List Byte) :=
  [ascii "UN9ATTST", leBytes 2 0x0100, leBytes 2 8,
    leBytes 4 (b2n (decide (s.updState = 4)) + 2 * s.reg F.BOOT_STATUS_BANK + 4 * s.reg F.BOOT_STATUS_FALLBACK), leBytes 8 s.toll, nonce,
    s.digest F.BOOT_DEVICE_ID_DIGEST, leBytes 4 (s.reg F.BOOT_FW_SVN), leBytes 4 (s.reg F.BOOT_COUNTER_COUNTER),
    leBytes 4 (s.reg F.BOOT_FW_FW_VERSION), List.replicate 28 0]

theorem State.attestParts_lengths (s : State) {nonce : List Byte} (h : nonce.length = 32) :
    (s.attestParts nonce).map List.length = [8, 2, 2, 4, 8, 32, 32, 4, 4, 4, 28] := by
  simp only [State.attestParts, List.map_cons, List.map_nil, leBytes_length, State.digest_length, List.length_replicate, h]
  rfl

theorem State.attestBody_eq (s : State) {nonce : List Byte} (h : nonce.length = 32) :
    s.attestBody nonce = (s.attestParts nonce).flatten ++ s.measurements := by
  have hascii : (ascii "UN9ATTST").length = 8 := rfl
  unfold State.attestBody
  dsimp only
  rw [fitBytes_append (k := 28), fitBytes_of_length h]
  · simp only [State.attestParts, List.flatten_cons, List.flatten_nil, List.append_assoc, List.nil_append]
  · simp only [List.length_append, leBytes_length, fitBytes_length, State.digest_length, hascii]

/-- The whole record. -/
def State.attestRecord (s : State) (nonce sig : List Byte) : List Byte := s.attestBody nonce ++ fitBytes 384 sig

section
variable (s : State) {nonce : List Byte} (hnonce : nonce.length = 32) (sig : List Byte)
include hnonce

theorem State.attestRecord_length : (s.attestRecord nonce sig).length = 832 := by
  rw [State.attestRecord, s.attestBody_eq hnonce, List.length_append, List.length_append, List.length_flatten, s.attestParts_lengths hnonce,
    s.measurements_length, fitBytes_length]
  rfl

variable {t : State} {m : List Host.Cell} {a : Nat} (hhost : t.host = memWrite m a (s.attestRecord nonce sig))
include hhost

/-- Part `k` of a record written to host memory stands at the sum of the lengths before it. -/
theorem State.hostBytes_attestPart {k o n : Nat} {q : List Byte} (hk : (s.attestParts nonce)[k]? = some q) (hq : q.length = n)
    (ho : ([8, 2, 2, 4, 8, 32, 32, 4, 4, 4, 28].take k).sum = o) (hin : o + n ≤ 832) : t.hostBytes (a + o) n = q := by
  subst hq
  rw [State.hostBytes, hhost, memBytes_memWrite_in _ _ _ (by rw [s.attestRecord_length hnonce]; exact hin), State.attestRecord,
    s.attestBody_eq hnonce, List.append_assoc]
  exact part_of_flatten hk (by rw [s.attestParts_lengths hnonce, ho])

/-- A register field in the record reads back. -/
theorem State.hostBytes_attestField {k o n : Nat} {f : Field} (hk : (s.attestParts nonce)[k]? = some (leBytes n (s.reg f)))
    (hf : 2 ^ f.width ≤ 256 ^ n) (ho : ([8, 2, 2, 4, 8, 32, 32, 4, 4, 4, 28].take k).sum = o) (hin : o + n ≤ 832) :
    leNat (t.hostBytes (a + o) n) = s.reg f := by
  rw [s.hostBytes_attestPart hnonce sig hhost hk (leBytes_length ..) ho hin, s.leNat_leBytes_reg f 0 hf]

theorem State.hostBytes_attestRecord : t.hostBytes a 8 = ascii "UN9ATTST" ∧ leNat (t.hostBytes (a + 16) 8) = s.toll ∧
    t.hostBytes (a + 24) 32 = nonce ∧ t.hostBytes (a + 56) 32 = s.digest F.BOOT_DEVICE_ID_DIGEST ∧
    leNat (t.hostBytes (a + 88) 4) = s.reg F.BOOT_FW_SVN ∧ leNat (t.hostBytes (a + 92) 4) = s.reg F.BOOT_COUNTER_COUNTER ∧
    leNat (t.hostBytes (a + 96) 4) = s.reg F.BOOT_FW_FW_VERSION :=
  ⟨s.hostBytes_attestPart hnonce sig hhost (k := 0) rfl rfl rfl (by decide),
    s.hostBytes_attestField hnonce sig hhost (k := 4) (f := F.TOLL_COUNT_COUNT) rfl (by decide) rfl (by decide),
    s.hostBytes_attestPart hnonce sig hhost (k := 5) rfl hnonce rfl (by decide),
    s.hostBytes_attestPart hnonce sig hhost (k := 6) rfl (s.digest_length _) rfl (by decide),
    s.hostBytes_attestField hnonce sig hhost (k := 7) rfl (by decide) rfl (by decide),
    s.hostBytes_attestField hnonce sig hhost (k := 8) rfl (by decide) rfl (by decide),
    s.hostBytes_attestField hnonce sig hhost (k := 9) rfl (by decide) rfl (by decide)⟩

end

/-! ### The device writes the record (19 R580) -/

/-- A record handed to an idle link that is UP lies in host memory, and the command completes. -/
theorem State.attest_written {s : State} (hid : s.reg F.BOOT_STATUS_IDENTITY_V = 1) (hidle : s.acvIdle 0) (d : Desc) {nonce : List Byte}
    (hnonce : nonce.length = 32) (host : Nat) : ∃ (x : AcvLink) (o : List Out) (sig : List Byte), s.attest d nonce host true =
      (((((s.putDraws (s.draws + 1)).putAcv x).putOut o).putHost (memWrite s.host host (s.attestRecord nonce sig))).complete d 0) := by
  have hwritten := State.toHost_written (s := s.putDraws (s.draws + 1)) hidle host (s.attestRecord nonce (Config.signature s.draws))
    (by rw [s.attestRecord_length hnonce]; decide)
  obtain ⟨x, o, ht⟩ := hwritten
  refine ⟨x, o, Config.signature s.draws, ?_⟩
  rw [← State.putDraws_host s (s.draws + 1), ← ht, State.attest, if_neg (by rw [hid]; decide), if_neg (by decide)]
  rfl

/-- The nonce of a descriptor is its first four words. -/
theorem nonce_length {ws : List (BitVec 64)} (h : 5 ≤ ws.length) : ((ws.take 4).flatMap (fun x => leBytes 8 x.toNat)).length = 32 := by
  simp only [List.length_flatMap, leBytes_length, List.map_const', List.sum_replicate, List.length_take, smul_eq_mul]
  omega

/-! ### The key of a copy erased (19 R577, R590) -/

theorem memBytes_memWrite_replicate (m : List Host.Cell) (a n : Nat) (x : Byte) :
    memBytes (memWrite m a (List.replicate n x)) a n = List.replicate n x := by
  have hin := memBytes_memWrite_in m a (List.replicate n x) (o := 0) (n := n) (by rw [List.length_replicate, Nat.zero_add])
  rwa [List.drop_zero, List.take_replicate, Nat.min_self] at hin

theorem State.keyErased_of_bytes {s : State} {b : Nat}
    (h : s.flashBytes (copyBase b + 0x3000) 0x1000 = List.replicate 0x1000 0xFF) : s.keyErased b = true := by
  rw [State.keyErased, h, List.all_eq_true]
  exact fun x hx => decide_eq_true (List.eq_of_mem_replicate hx)

/-- Boot flash with the key's place in both copies erased. -/
def State.keylessFlash (s : State) : List Host.Cell :=
  memWrite (memWrite s.flash (copyBase 0 + 0x3000) (List.replicate 0x1000 0xFF)) (copyBase 1 + 0x3000) (List.replicate 0x1000 0xFF)

theorem State.flashPut_flashPut (s : State) (a b : Nat) (l k : List Byte) :
    (s.flashPut a l).flashPut b k = s.putFlash (memWrite (memWrite s.flash a l) b k) := rfl

theorem State.eraseKeys_eq (s : State) : (s.eraseKey 0).eraseKey 1 = s.putFlash s.keylessFlash := by
  rw [State.eraseKey, State.eraseKey, State.flashPut_flashPut, State.keylessFlash]

/-- The key is erased in both copies. -/
theorem State.keyErased_of_keyless {s t : State} (h : t.flash = s.keylessFlash) : t.keyErased 0 = true ∧ t.keyErased 1 = true := by
  refine ⟨State.keyErased_of_bytes ?_, State.keyErased_of_bytes ?_⟩
  · rw [State.flashBytes, h, State.keylessFlash, memBytes_memWrite_out _ _ _ (Or.inl (by decide)), memBytes_memWrite_replicate]
  · rw [State.flashBytes, h, State.keylessFlash, memBytes_memWrite_replicate]

/-! ### A try of DEBUG_OPEN (19 R590) -/

/-- TRIES counted, and the next challenge. -/
def State.debugTried (s : State) : State := (s.tick F.BOOT_DEBUG_TRIES).setChallenge

/-- Debug and JTAG open and no identity, with boot flash as given. -/
def State.debugOpened (s : State) (m : List Host.Cell) : State :=
  (((s.putFlash m).setReg F.BOOT_STATUS_IDENTITY_V 0).setReg F.BOOT_DEBUG_OPEN 1).putPins { s.pins with jtagOpen := true }

theorem State.putRegs_of_counts {s t u : State} (ht : t = (s.putRegs t.regs).putFresh t.fresh) (hu : u = t.putRegs u.regs) :
    u = (s.putRegs u.regs).putFresh u.fresh := by
  have hfresh : u.fresh = t.fresh := by rw [hu, State.putRegs_fresh]
  rw [hfresh]
  exact hu.trans (congrArg (fun x => x.putRegs u.regs) ht)

/-- Counters and what is kept beside them are all that such a change touches. -/
theorem State.counts_leave {s u : State} (h : u = (s.putRegs u.regs).putFresh u.fresh) : u.comps = s.comps ∧ u.flash = s.flash ∧ u.pins = s.pins := by
  rw [h]
  exact ⟨rfl, rfl, rfl⟩

theorem State.debugTried_frame (s : State) : s.debugTried = (s.putRegs s.debugTried.regs).putFresh s.debugTried.fresh :=
  State.putRegs_of_counts (s.update_onlyCounts ..).1 (s.tick F.BOOT_DEBUG_TRIES).setChallenge_frame

theorem State.debugTried_tries (s : State) : s.debugTried.reg F.BOOT_DEBUG_TRIES = (s.reg F.BOOT_DEBUG_TRIES + 1) % 2 ^ 32 := by
  rw [State.debugTried, State.setChallenge_reg_apart _ (by decide) (by decide), State.tick_reg_same]
  rfl

/-- A try does not touch the Toll count. -/
theorem State.debugTried_toll (s : State) : s.debugTried.toll = s.toll := by
  unfold State.toll
  rw [State.debugTried, State.setChallenge_reg_apart _ (by decide) (by decide), State.tick_reg_apart _ _ (by decide) (by decide) (by decide)]

theorem State.debugTried_regsKept (s : State) {ks : List Nat} (htries : F.BOOT_DEBUG_TRIES.key 0 ∈ ks)
    (hchal : ∀ k ∈ List.range 4, F.BOOT_DBG_CHAL_DIGEST.key k ∈ ks) : s.regsKept s.debugTried ks :=
  ((s.regsKept_refl ks).update htries _ _).setEach _ hchal

theorem State.debugOpened_eq (s : State) (m : List Host.Cell) :
    (((s.putFlash m).setReg F.BOOT_STATUS_IDENTITY_V 0).setReg F.BOOT_DEBUG_OPEN 1).putPins
      { (((s.putFlash m).setReg F.BOOT_STATUS_IDENTITY_V 0).setReg F.BOOT_DEBUG_OPEN 1).pins with jtagOpen := true } =
      s.debugOpened m := rfl

@[simp] theorem State.debugOpened_comps (s : State) (m : List Host.Cell) : (s.debugOpened m).comps = s.comps := rfl
@[simp] theorem State.debugOpened_flash (s : State) (m : List Host.Cell) : (s.debugOpened m).flash = m := rfl
@[simp] theorem State.debugOpened_pins (s : State) (m : List Host.Cell) : (s.debugOpened m).pins = { s.pins with jtagOpen := true } := rfl

theorem State.debugOpened_reg_apart (s : State) (m : List Host.Cell) {g : Field} {n : Nat} (hid : g.apart F.BOOT_STATUS_IDENTITY_V = true)
    (hopen : g.apart F.BOOT_DEBUG_OPEN = true) (hn : n < g.count) : (s.debugOpened m).reg g n = s.reg g n := by
  rw [State.debugOpened, State.putPins_reg, State.reg_setReg_apart _ _ hopen hn (by decide), State.reg_setReg_apart _ _ hid hn (by decide)]
  rfl

theorem State.debugOpened_shows (s : State) (m : List Host.Cell) :
    (s.debugOpened m).reg F.BOOT_DEBUG_OPEN = 1 ∧ (s.debugOpened m).reg F.BOOT_STATUS_IDENTITY_V = 0 := by
  rw [State.debugOpened, State.putPins_reg, State.putPins_reg, State.reg_setReg_same,
    State.reg_setReg_apart _ _ (by decide) (by decide) (by decide), State.reg_setReg_same]
  exact ⟨rfl, rfl⟩

theorem State.regsKept.debugOpened {s t : State} {ks : List Nat} (h : s.regsKept t ks) (hid : F.BOOT_STATUS_IDENTITY_V.key 0 ∈ ks)
    (hopen : F.BOOT_DEBUG_OPEN.key 0 ∈ ks) (m : List Host.Cell) : s.regsKept (t.debugOpened m) ks := by
  have hflash : s.regsKept (t.putFlash m) ks := h.congr rfl
  exact ((hflash.setReg hid 0).setReg hopen 1).congr rfl

theorem State.debugOpen_busy {s : State} (h : s.scoreBusy = true ∨ s.bootBusy = true) (d : Desc) (host : Nat) (ok : Bool) :
    s.debugOpen d host ok = s.complete d 0x8A :=
  if_pos (by rcases h with h | h <;> simp [h])

section
variable {s : State} (hidle : s.scoreBusy = false ∧ s.bootBusy = false) (d : Desc) (host : Nat)
include hidle

theorem State.debugOpen_hostError : s.debugOpen d host false = s.debugTried.complete d 0x14 := by
  rw [State.debugOpen, hidle.1, hidle.2, if_neg (by decide)]
  exact if_pos rfl

/-- The certificate answers the challenge that stood when it was asked for. -/
theorem State.debugOpen_refused (hcert : s.certGood (s.hostBytes host 512) (s.digest F.BOOT_DBG_CHAL_DIGEST) = false) :
    s.debugOpen d host true = s.debugTried.complete d 0x89 := by
  rw [State.debugOpen, hidle.1, hidle.2, if_neg (by decide)]
  dsimp only
  rw [if_neg (by decide), hcert, if_pos (by decide)]
  rfl

theorem State.debugOpen_opens (hcert : s.certGood (s.hostBytes host 512) (s.digest F.BOOT_DBG_CHAL_DIGEST) = true) :
    s.debugOpen d host true = (s.debugTried.debugOpened s.debugTried.keylessFlash).complete d 0 := by
  rw [State.debugOpen, hidle.1, hidle.2, if_neg (by decide)]
  dsimp only
  rw [if_neg (by decide), hcert, if_neg (by decide), State.eraseKeys_eq, ← State.debugTried]
  exact congrArg (State.complete · d 0) (State.debugOpened_eq ..)

end

/-! ### What each command shows -/

/-- A command that only completes. -/
theorem State.complete_plain (s : State) (d : Desc) (code : Nat) :
    s.complete d code = (s.putRegs (s.complete d code).regs).putComps (s.comps ++ [⟨d.ring.val, d.slot.toNat, d.id.toNat, code, 0, 0, s.toll⟩]) ∧
    s.regsKept (s.complete d code) [F.ACV_RSTAT_INFLIGHT.key d.ring.val] :=
  ⟨s.complete_frame d code 0 0, (s.regsKept_refl _).complete (List.mem_singleton_self _) code 0 0⟩

/-- The record lies in host memory, and nothing of the device changes but the ring's count of commands. -/
theorem State.attest_shows {s : State} (hid : s.reg F.BOOT_STATUS_IDENTITY_V = 1) (hidle : s.acvIdle 0) (d : Desc) {nonce : List Byte}
    (hnonce : nonce.length = 32) (host : Nat) : ∃ sig, (s.attest d nonce host true).host = memWrite s.host host (s.attestRecord nonce sig) ∧
    (s.attest d nonce host true).comps = s.comps ++ [⟨d.ring.val, d.slot.toNat, d.id.toNat, 0, 0, 0, s.toll⟩] ∧
    s.memKept (s.attest d nonce host true) ∧ s.regsKept (s.attest d nonce host true) [F.ACV_RSTAT_INFLIGHT.key d.ring.val] := by
  obtain ⟨x, o, sig, hwritten⟩ := State.attest_written hid hidle d hnonce host
  refine ⟨sig, ?_, ?_, State.memKept_of_mem ?_, ?_⟩
  · rw [hwritten, State.complete_host, State.putHost_host]
  · simp [hwritten, State.toll]
  · simp [hwritten]
  · rw [hwritten]
    exact State.regsKept.complete ((s.regsKept_refl _).congr (by simp)) (List.mem_singleton_self _) 0 0 0

/-- A try that opens nothing is counted and completes. -/
theorem State.debugTried_shows (s : State) (d : Desc) (code : Nat) :
    (s.debugTried.complete d code).reg F.BOOT_DEBUG_TRIES = (s.reg F.BOOT_DEBUG_TRIES + 1) % 2 ^ 32 ∧
    (s.debugTried.complete d code).comps = s.comps ++ [⟨d.ring.val, d.slot.toNat, d.id.toNat, code, 0, 0, s.toll⟩] ∧
    (s.debugTried.complete d code).flash = s.flash ∧ (s.debugTried.complete d code).pins = s.pins ∧
    s.regsKept (s.debugTried.complete d code)
      (F.ACV_RSTAT_INFLIGHT.key d.ring.val :: F.BOOT_DEBUG_TRIES.key 0 :: (List.range 4).map F.BOOT_DBG_CHAL_DIGEST.key) := by
  obtain ⟨hcomps, hflash, hpins⟩ := State.counts_leave s.debugTried_frame
  refine ⟨?_, ?_, ?_, ?_, ?_⟩
  · rw [State.complete_reg_apart (by decide) (by decide), State.debugTried_tries]
  · rw [State.complete_comps, hcomps, State.debugTried_toll]
  · rw [State.complete_flash, hflash]
  · rw [State.complete_pins, hpins]
  · refine State.regsKept.complete (s.debugTried_regsKept ?_ fun k hk => ?_) (List.mem_cons_self ..) code 0 0
    · exact List.mem_cons_of_mem _ (List.mem_cons_self ..)
    · exact List.mem_cons_of_mem _ (List.mem_cons_of_mem _ (List.mem_map_of_mem hk))

/-- A try whose certificate passes opens debug for good. -/
theorem State.debugOpen_shows (s : State) (d : Desc) (m : List Host.Cell) :
    ((s.debugTried.debugOpened m).complete d 0).reg F.BOOT_DEBUG_TRIES = (s.reg F.BOOT_DEBUG_TRIES + 1) % 2 ^ 32 ∧
    ((s.debugTried.debugOpened m).complete d 0).comps = s.comps ++ [⟨d.ring.val, d.slot.toNat, d.id.toNat, 0, 0, 0, s.toll⟩] ∧
    ((s.debugTried.debugOpened m).complete d 0).reg F.BOOT_DEBUG_OPEN = 1 ∧
    ((s.debugTried.debugOpened m).complete d 0).reg F.BOOT_STATUS_IDENTITY_V = 0 ∧
    ((s.debugTried.debugOpened m).complete d 0).pins = { s.pins with jtagOpen := true } ∧
    ((s.debugTried.debugOpened m).complete d 0).flash = m ∧
    s.regsKept ((s.debugTried.debugOpened m).complete d 0) (F.ACV_RSTAT_INFLIGHT.key d.ring.val :: F.BOOT_DEBUG_TRIES.key 0 ::
      F.BOOT_DEBUG_OPEN.key 0 :: F.BOOT_STATUS_IDENTITY_V.key 0 :: (List.range 4).map F.BOOT_DBG_CHAL_DIGEST.key) := by
  obtain ⟨hcomps, -, hpins⟩ := State.counts_leave s.debugTried_frame
  have htoll : (s.debugTried.debugOpened m).toll = s.toll := by
    rw [← s.debugTried_toll]
    exact State.debugOpened_reg_apart _ _ (by decide) (by decide) (by decide)
  obtain ⟨hopen, hid⟩ := s.debugTried.debugOpened_shows m
  refine ⟨?_, ?_, ?_, ?_, ?_, ?_, ?_⟩
  · rw [State.complete_reg_apart (by decide) (by decide), State.debugOpened_reg_apart _ _ (by decide) (by decide) (by decide),
      State.debugTried_tries]
  · rw [State.complete_comps, htoll, State.debugOpened_comps, hcomps]
  · rw [State.complete_reg_apart (by decide) (by decide), hopen]
  · rw [State.complete_reg_apart (by decide) (by decide), hid]
  · rw [State.complete_pins, State.debugOpened_pins, hpins]
  · rw [State.complete_flash, State.debugOpened_flash]
  · refine State.regsKept.complete (State.regsKept.debugOpened (s.debugTried_regsKept ?_ fun k hk => ?_) ?_ ?_ m) (List.mem_cons_self ..) 0 0 0
    · simp
    · exact List.mem_append_right [_, _, _, _] (List.mem_map_of_mem hk)
    · simp
    · simp

/-- Settles O53: the record lies where its packets left it, and each case of a try shows what the lemmas above say. -/
theorem attestAndDebugOpen : Obligations.AttestAndDebugOpen := by
  intro d ws s haccepts
  have hattest : ∀ ok, exec (.attest d ws ok) s =
      .next (s.attest d ((ws.take 4).flatMap (fun x => leBytes 8 x.toNat)) (ws.getD 4 0).toNat ok) :=
    fun ok => congrArg Host.Outcome.next (s.accept_now d _ haccepts.1 haccepts.2)
  have hopen : ∀ ok, exec (.debugOpen d ws ok) s = .next (s.debugOpen d (ws.getD 0 0).toNat ok) :=
    fun ok => congrArg Host.Outcome.next (s.accept_now d _ haccepts.1 haccepts.2)
  dsimp only
  refine ⟨fun hid => ?_, fun hid => ?_, fun hid hws hlink hunacked htries => ?_, fun hbusy => ?_, fun hidle => ?_, fun hidle => ?_⟩
  · exact ⟨s.complete d 0x88, (hattest true).trans (congrArg _ (if_pos hid)), s.complete_plain d _⟩
  · have hfails : ∀ nonce host, s.attest d nonce host false = s.complete d 0x14 := fun nonce host =>
      (if_neg (by rw [hid]; decide)).trans (if_pos rfl)
    exact ⟨s.complete d 0x14, (hattest false).trans (congrArg _ (hfails _ _)), s.complete_plain d _⟩
  · have hnonce := nonce_length hws
    have hidle : s.acvIdle 0 := ⟨decide_eq_true hlink, by rw [hunacked]; rfl, by rw [htries]; rfl⟩
    obtain ⟨sig, hhost, hcomps, hmem, hregs⟩ := State.attest_shows hid hidle d hnonce (ws.getD 4 0).toNat
    obtain ⟨hmagic, htoll, hgiven, hdevice, hsvn, hcounter, hversion⟩ := State.hostBytes_attestRecord s hnonce sig hhost
    refine ⟨_, hattest true, hcomps, hmagic, htoll, hgiven, hdevice, hsvn, hcounter, hversion, fun x hx => ?_, hmem, hregs⟩
    rw [hhost]
    rcases hx with hbelow | habove
    · exact memWrite_below _ _ _ hbelow
    · exact memWrite_above _ _ _ (by rwa [s.attestRecord_length hnonce])
  · exact ⟨s.complete d 0x8A, (hopen true).trans (congrArg _ (State.debugOpen_busy hbusy ..)), s.complete_plain d _⟩
  · obtain ⟨htries, hcomps, hflash, -, hregs⟩ := s.debugTried_shows d 0x14
    exact ⟨_, (hopen false).trans (congrArg _ (State.debugOpen_hostError hidle ..)), htries, hcomps, hflash, hregs⟩
  · cases hcert : s.certGood (s.hostBytes (ws.getD 0 0).toNat 512) (s.digest F.BOOT_DBG_CHAL_DIGEST)
    case false =>
      obtain ⟨htries, hcomps, hflash, hpins, hregs⟩ := s.debugTried_shows d 0x89
      exact ⟨_, (hopen true).trans (congrArg _ (State.debugOpen_refused hidle d _ hcert)), htries,
        fun _ => ⟨hcomps, hflash, hpins, hregs⟩, fun h => absurd h Bool.false_ne_true⟩
    case true =>
      obtain ⟨htries, hcomps, hdebug, hid, hpins, hflash, hregs⟩ := s.debugOpen_shows d s.debugTried.keylessFlash
      obtain ⟨hkey0, hkey1⟩ := State.keyErased_of_keyless hflash
      exact ⟨_, (hopen true).trans (congrArg _ (State.debugOpen_opens hidle d _ hcert)), htries,
        fun h => absurd h.symm Bool.false_ne_true, fun _ => ⟨hcomps, hdebug, hid, hpins, hkey0, hkey1, hregs⟩⟩

end Sys2Proof.Machine
end

section
/-!
LAWS. Control blocks taken in order and sent: what they leave of the state (14 R434 to R436).
-/
namespace Sys2Proof.Machine

/-- `t` is `s` after control blocks have left it: links and what has left the device may differ, but no link expects another CSEQ. -/
def State.sentOnly (s t : State) : Prop := t = (s.putLinks t.links).putOut t.out ∧ ∀ j, (t.link j).cnext = (s.link j).cnext

theorem State.sentOnly_refl (s : State) : s.sentOnly s := ⟨rfl, fun _ => rfl⟩

theorem State.sentOnly.trans {s t u : State} (h : s.sentOnly t) (h' : t.sentOnly u) : s.sentOnly u := by
  obtain ⟨ht, hcnext⟩ := h
  obtain ⟨hu, hcnext'⟩ := h'
  refine ⟨?_, fun j => (hcnext' j).trans (hcnext j)⟩
  calc u = (t.putLinks u.links).putOut u.out := hu
    _ = _ := by rw [ht]; rfl

theorem State.sentOnly.emit {s t : State} (h : s.sentOnly t) (o : Out) : s.sentOnly (t.emit o) := by
  refine h.trans ⟨rfl, fun _ => rfl⟩

/-- A link replaced by one that expects the same CSEQ. -/
theorem State.sentOnly_setLink (s : State) (k : Nat) {x : Link} (hx : x.cnext = (s.link k).cnext) : s.sentOnly (s.setLink k x) := by
  refine ⟨rfl, fun j => ?_⟩
  by_cases hj : j = k
  · rw [hj, State.link_setLink_same, hx]
  · rw [State.link_setLink_other s x hj]

theorem State.issueBlock_sentOnly (s : State) (k ty body : Nat) : s.sentOnly (s.issueBlock k ty body) := by
  unfold State.issueBlock State.emitSeq
  refine State.sentOnly.emit ?_ _
  exact s.sentOnly_setLink k rfl

theorem State.sendBlock_sentOnly (s : State) (k ty body : Nat) : s.sentOnly (s.sendBlock k ty body) := by
  unfold State.sendBlock
  dsimp only
  split
  · split
    · exact s.issueBlock_sentOnly k ty body
    · exact s.sentOnly_setLink k rfl
  · exact s.sentOnly_refl

theorem State.sendPorts_sentOnly (s : State) (ps : List Nat) (ty body : Nat) : s.sentOnly (s.sendPorts ps ty body) := by
  unfold State.sendPorts foldKeys
  induction ps generalizing s with
  | nil => exact s.sentOnly_refl
  | cons p ps ih => exact (s.sendBlock_sentOnly _ ty body).trans (ih _)

theorem State.sendUp_sentOnly (s : State) (ty body : Nat) : s.sentOnly (s.sendUp ty body) := by
  unfold State.sendUp
  split
  · exact s.sentOnly_refl
  · exact s.sendBlock_sentOnly _ ty body

/-- The state after a sequenced block was taken on link `k`: the next CSEQ is expected, and an ACK has left. -/
def State.blockTaken (s : State) (k : Nat) : State :=
  (s.setLink k { s.link k with cnext := ((s.link k).cnext + 1) % 256, cmiss := false }).sendAck k

theorem State.ready_eq {s : State} {k : Nat} (hstate : s.reg F.PORT_LINK_STATE k = 6) (hopen : s.pins.portsStopped = false) :
    s.ready k = true := by
  simp [State.ready, State.linkState, hstate, hopen]

/-- A block with its good CRC and the CSEQ that a READY link expects is taken (14 R434, R436). -/
theorem State.takeBlock_good {s : State} {k ty crc cseq body : Nat} (hstate : s.reg F.PORT_LINK_STATE k = 6)
    (hopen : s.pins.portsStopped = false) (hcrc : crc = blockCrc ty cseq body) (hnext : cseq = (s.link k).cnext) :
    s.takeBlock k ty crc cseq body = (true, s.blockTaken k) := by
  rw [State.takeBlock, if_pos hcrc, State.takeSeq, if_pos (State.ready_eq hstate hopen)]
  exact if_pos hnext

/-- Taking a block changes links and what has left the device, and no more. -/
theorem State.blockTaken_eq (s : State) (k : Nat) : ∃ ls o, s.blockTaken k = (s.putLinks ls).putOut o := by
  refine ⟨(s.blockTaken k).links, (s.blockTaken k).out, ?_⟩
  unfold State.blockTaken State.sendAck State.sendPlain
  split
  · split <;> rfl
  · rfl

theorem State.sendAck_link (s : State) (k j : Nat) : (s.sendAck k).link j = s.link j := by
  unfold State.sendAck State.sendPlain
  split
  · split <;> rfl
  · rfl

theorem State.blockTaken_cnext (s : State) (k : Nat) : ((s.blockTaken k).link k).cnext = ((s.link k).cnext + 1) % 256 := by
  rw [State.blockTaken, State.sendAck_link, State.link_setLink_same]

end Sys2Proof.Machine
end

section
/-!
PROOFS. The Toll count and tick marks: the statements TollPresetOnlyAtFreeRoot, TickMarkSetsAndLocksToll and TollIsLostAndTicksAreSent.
-/
namespace Sys2Proof.Machine

/-! ### TOLL_PRESET (02 R68, R75) -/

theorem State.preset_taken {s : State} (hroot : s.reg F.GONG_CFG_ROOT = 1) (hfree : s.reg F.TOLL_STATUS_STATE = 0)
    (hidle : s.reg F.BEAT_STATUS_STATE ≠ 2) (v : Nat) :
    s.preset v = (s.setReg F.TOLL_COUNT_COUNT v).setReg F.TOLL_STATUS_STATE 2 := by
  simp [State.preset, State.isRoot, State.tollState, hroot, hfree, State.running_eq_false hidle]

theorem State.preset_rejected {s : State}
    (h : ¬(s.reg F.GONG_CFG_ROOT = 1 ∧ s.reg F.TOLL_STATUS_STATE = 0 ∧ s.reg F.BEAT_STATUS_STATE ≠ 2)) (v : Nat) :
    s.preset v = s.mark F.TOLL_STATUS_PRESET_REJ := by
  refine if_neg fun htaken => h ?_
  simp only [State.isRoot, State.running, Bool.and_eq_true, Bool.not_eq_true', decide_eq_true_eq, decide_eq_false_iff_not] at htaken
  obtain ⟨⟨hroot, hfree⟩, hidle⟩ := htaken
  exact ⟨hroot, hfree, hidle⟩

/-- Settles O10: the preset is taken at the free root with no Score running, and else only marked as rejected. -/
theorem tollPresetOnlyAtFreeRoot : Obligations.TollPresetOnlyAtFreeRoot := by
  intro v s
  refine ⟨fun hroot hfree hidle => ⟨s.preset v.toNat, rfl, ?_⟩, fun h => ⟨s.preset v.toNat, rfl, ?_⟩⟩
  · rw [State.preset_taken hroot hfree hidle]
    refine ⟨⟨rfl, ((s.regsKept_refl _).setReg (by simp) _).setReg (by simp) _, fun _ => rfl⟩, ?_, State.reg_setReg_same ..⟩
    rw [State.toll, State.reg_setReg_apart _ _ (by decide) (by decide) (by decide)]
    exact State.reg_setReg_lt s 0 v.isLt
  · rw [State.preset_rejected h]
    refine ⟨s.update_onlyCounts _ _ _ _, ?_⟩
    have hbit : ∀ x < 2, (x ||| 1) % 2 = 1 := by decide
    rw [State.mark, State.update_reg, State.reg_setReg_same]
    exact hbit _ (s.reg_lt _ _)

/-! ### TICK blocks from the parent (02 R71 to R73) -/

/-- A TICK block taken from the parent port: the link expects the next CSEQ, and DEPTH is the block's plus 1. -/
def State.tickCame (s : State) (k depth : Nat) : State := (s.blockTaken k).setReg F.TOLL_STATUS_DEPTH (min (depth + 1) 255)

/-- The link after a TICK block, as other blocks leave it. -/
theorem State.tickCame_eq (s : State) (k depth : Nat) :
    ∃ ls o, s.tickCame k depth = ((s.putLinks ls).putOut o).setReg F.TOLL_STATUS_DEPTH (min (depth + 1) 255) := by
  obtain ⟨ls, o, h⟩ := s.blockTaken_eq k
  exact ⟨ls, o, by rw [State.tickCame, h]⟩

theorem State.tickCame_reg_apart (s : State) (k depth : Nat) {g : Field} {m : Nat} (h : g.apart F.TOLL_STATUS_DEPTH = true)
    (hm : m < g.count) : (s.tickCame k depth).reg g m = s.reg g m := by
  obtain ⟨ls, o, hcame⟩ := s.tickCame_eq k depth
  rw [hcame, State.reg_setReg_apart _ _ h hm (by decide)]
  rfl

theorem State.tickCame_toll (s : State) (k depth : Nat) : (s.tickCame k depth).toll = s.toll :=
  s.tickCame_reg_apart k depth (by decide) (by decide)

theorem State.tickCame_tollU (s : State) (k depth : Nat) : (s.tickCame k depth).tollU = s.tollU := by
  obtain ⟨ls, o, h⟩ := s.tickCame_eq k depth
  rw [h]
  rfl

theorem State.tickCame_depth (s : State) (k depth : Nat) : (s.tickCame k depth).reg F.TOLL_STATUS_DEPTH = min (depth + 1) 255 := by
  rw [State.tickCame, State.reg_setReg_lt]
  exact Nat.lt_of_le_of_lt (Nat.min_le_right _ _) (by decide)

theorem State.tickCame_memKept (s : State) (k depth : Nat) : s.memKept (s.tickCame k depth) := by
  obtain ⟨ls, o, h⟩ := s.tickCame_eq k depth
  rw [h]
  exact fun _ => rfl

theorem State.tickCame_regsKept (s : State) (k depth : Nat) {ks : List Nat} (h : F.TOLL_STATUS_DEPTH.key 0 ∈ ks) :
    s.regsKept (s.tickCame k depth) ks := by
  obtain ⟨ls, o, hcame⟩ := s.tickCame_eq k depth
  rw [hcame]
  exact ((s.regsKept_refl _).congr rfl).setReg h _

theorem State.tickBlock_taken {s : State} {k crc cseq : Nat} (count depth : Nat) (hcrc : crc = blockCrc tyTick cseq (count + depth * 2 ^ 64))
    (hstate : s.reg F.PORT_LINK_STATE k = 6) (hopen : s.pins.portsStopped = false) (hroot : s.reg F.GONG_CFG_ROOT = 0)
    (hparent : k / 2 = s.reg F.GONG_CFG_PARENT_PORT) (hnext : cseq = (s.link k).cnext) :
    s.tickBlock k crc cseq count depth = (s.tickCame k depth).tickMark count := by
  obtain ⟨ls, o, h⟩ := s.blockTaken_eq k
  have hfrom : (s.blockTaken k).fromParent k = true := by
    rw [h]
    simp [State.fromParent, State.isRoot, State.parentPort, hroot, hparent]
  rw [State.tickBlock, State.takeBlock_good hstate hopen hcrc hnext]
  exact if_pos (by rw [hfrom]; rfl)

/-- The offset of a mark from this device's count, in 1/16 CK. -/
def State.markOffset (s : State) (count : Nat) : Int := 16 * (count : Int) + s.reg F.TOLL_DELAY_DELAY - 16 * s.toll

/-- The count set by a mark in FREE (02 R73). -/
def State.tollSet (s : State) (count : Nat) : State :=
  (((s.setReg F.TOLL_COUNT_COUNT ((16 * count + s.reg F.TOLL_DELAY_DELAY + 8) / 16)).setReg F.TOLL_STATUS_STATE 1).setReg
    F.TOLL_STATUS_OFFSET (offsetField (s.markOffset count))).putTollU { s.tollU with lastMark := s.ck, goodMarks := 0, corr := 0 }

theorem State.tickMark_free {s : State} (hfree : s.reg F.TOLL_STATUS_STATE = 0) (hidle : s.reg F.BEAT_STATUS_STATE ≠ 2) (count : Nat) :
    s.tickMark count = s.tollSet count := by
  simp [State.tickMark, State.tollState, hfree, State.running_eq_false hidle]
  rfl

theorem State.tollSet_shows (s : State) (count : Nat) :
    (s.tollSet count).toll = ((16 * count + s.reg F.TOLL_DELAY_DELAY + 8) / 16) % 2 ^ 64 ∧ (s.tollSet count).reg F.TOLL_STATUS_STATE = 1 ∧
    (s.tollSet count).reg F.TOLL_STATUS_DEPTH = s.reg F.TOLL_STATUS_DEPTH := by
  unfold State.tollSet State.toll
  simp (disch := decide) only [State.putTollU_reg, State.reg_setReg_apart, State.reg_setReg_same]
  exact ⟨rfl, rfl, trivial⟩

/-- A mark measured by a device that has its count (02 R72, R73). -/
theorem State.tickMark_measured {s : State} (h : s.reg F.TOLL_STATUS_STATE = 1 ∨ s.reg F.TOLL_STATUS_STATE = 2) (count : Nat) :
    s.tickMark count = s.takeOffset (s.markOffset count) := by
  have hlost : s.tollState ≠ 3 := by unfold State.tollState; omega
  have hfree : s.tollState ≠ 0 := by unfold State.tollState; omega
  rw [State.tickMark, if_neg hlost, if_neg hfree]
  rfl

/-- The measures of a mark: OFFSET, a new RATE_PPB and the marks counted. -/
def State.offsetTaken (s : State) (off : Int) : State :=
  ((s.setReg F.TOLL_STATUS_OFFSET (offsetField off)).publishRate).putTollU
    { s.tollU with goodMarks := if off.natAbs ≤ 64 then s.tollU.goodMarks + 1 else 0, lastMark := s.ck, corr := off }

theorem State.offsetTaken_reg_apart (s : State) (off : Int) {g : Field} {m : Nat} (h : g.apart F.TOLL_STATUS_OFFSET = true)
    (h' : g.apart F.TOLL_STATUS_RATE_PPB = true) (hm : m < g.count) : (s.offsetTaken off).reg g m = s.reg g m := by
  unfold State.offsetTaken State.publishRate State.draw
  rw [State.putTollU_reg, State.reg_setReg_apart _ _ h' hm (by decide), State.putDraws_reg, State.reg_setReg_apart _ _ h hm (by decide)]

theorem State.offsetTaken_offset (s : State) (off : Int) : (s.offsetTaken off).reg F.TOLL_STATUS_OFFSET = offsetField off % 2 ^ 16 := by
  unfold State.offsetTaken State.publishRate State.draw
  rw [State.putTollU_reg, State.reg_setReg_apart _ _ (by decide) (by decide) (by decide), State.putDraws_reg, State.reg_setReg_same]
  rfl

theorem State.regsKept.offsetTaken {s t : State} {ks : List Nat} (hkept : s.regsKept t ks) (h : F.TOLL_STATUS_OFFSET.key 0 ∈ ks)
    (h' : F.TOLL_STATUS_RATE_PPB.key 0 ∈ ks) (off : Int) : s.regsKept (t.offsetTaken off) ks := by
  have hoffset : s.regsKept ((t.setReg F.TOLL_STATUS_OFFSET (offsetField off)).draw).2 ks := (hkept.setReg h _).congr rfl
  exact (hoffset.setReg h' _).congr rfl

/-- What a measured offset does beyond its measures. -/
theorem State.takeOffset_eq (s : State) (off : Int) : s.takeOffset off =
    if (s.offsetTaken off).tollState = 2 then
      if off.natAbs > 256 then (s.offsetTaken off).tollLost
      else if off.natAbs ≤ 64 then s.offsetTaken off else (s.offsetTaken off).count F.TOLL_EXCURSIONS_SLEWS
    else if (if off.natAbs ≤ 64 then s.tollU.goodMarks + 1 else 0) ≥ 16 then (s.offsetTaken off).setReg F.TOLL_STATUS_STATE 2
    else s.offsetTaken off := by
  by_cases hnear : off.natAbs ≤ 64
  · simp only [State.takeOffset, State.offsetTaken, decide_eq_true hnear, if_pos hnear, if_true]
    rfl
  · simp only [State.takeOffset, State.offsetTaken, decide_eq_false hnear, if_neg hnear, Bool.false_eq_true, if_false]
    rfl

/-- The sixteenth good mark in a row locks a COARSE device. -/
theorem State.takeOffset_locks {s : State} {off : Int} (hcoarse : s.reg F.TOLL_STATUS_STATE = 1) (hmarks : 15 ≤ s.tollU.goodMarks)
    (hnear : off.natAbs ≤ 64) : s.takeOffset off = (s.offsetTaken off).setReg F.TOLL_STATUS_STATE 2 := by
  have hstate : (s.offsetTaken off).tollState ≠ 2 := by
    rw [State.tollState, s.offsetTaken_reg_apart off (by decide) (by decide) (by decide), hcoarse]
    decide
  have hgood : (if off.natAbs ≤ 64 then s.tollU.goodMarks + 1 else 0) ≥ 16 := by
    rw [if_pos hnear]
    omega
  rw [State.takeOffset_eq, if_neg hstate, if_pos hgood]

/-- An offset beyond ±16 CK loses a LOCKED device. -/
theorem State.takeOffset_loses {s : State} {off : Int} (hlocked : s.reg F.TOLL_STATUS_STATE = 2) (hfar : 256 < off.natAbs) :
    s.takeOffset off = (s.offsetTaken off).tollLost := by
  have hstate : (s.offsetTaken off).tollState = 2 := by
    rw [State.tollState, s.offsetTaken_reg_apart off (by decide) (by decide) (by decide), hlocked]
  rw [State.takeOffset_eq, if_pos hstate, if_pos hfar]

/-! ### The loss of the Toll count (02 R73; 17 R514, R516) -/

/-- STATE LOST, RATE_PPB 0 and no correction. -/
def State.lostShown (s : State) : State :=
  ((s.setReg F.TOLL_STATUS_STATE 3).setReg F.TOLL_STATUS_RATE_PPB 0).putTollU { s.tollU with corr := 0 }

/-- The message TOLL_LOST, with its ACTION bits. -/
def State.tollLostRep (s : State) : Rep := (repOf (s.lostShown.msg 0x2001 3 4 2 7 none)).acted

/-- A C3 message to the hub joins its queue, and nothing counts it. -/
theorem State.send_hub_c3 (s : State) {r : Rep} (hlevel : r.msg.level = 4) (hclass : r.msg.cls = 3) :
    s.send r = s.putFaults { s.faults with hub := s.faults.hub ++ [r] } := by
  unfold State.send
  rw [hlevel, hclass, State.loadHit_of_class s (by decide)]
  simp [State.toHub, hclass]

theorem State.tollLost_eq (s : State) : s.tollLost =
    (s.lostShown.putFaults { s.faults with owed := s.faults.owed ++ [s.tollLostRep], hub := s.faults.hub ++ [s.tollLostRep] }).c3 0x100 := by
  have howe : s.lostShown.owe s.tollLostRep = s.lostShown.putFaults { s.faults with owed := s.faults.owed ++ [s.tollLostRep] } := rfl
  have hsend := State.send_hub_c3 (s.lostShown.owe s.tollLostRep) (r := s.tollLostRep) rfl rfl
  calc s.tollLost = (((s.lostShown.owe s.tollLostRep).send s.tollLostRep).sealOf 0x2001).capture (repOf (s.lostShown.msg 0x2001 3 4 2 7 none)) := rfl
    _ = ((s.lostShown.owe s.tollLostRep).send s.tollLostRep).c3 0x100 := rfl
    _ = _ := by rw [hsend, howe]; rfl

/-- What the loss of the count leaves (17 R514). -/
theorem State.tollLost_frame (s : State) :
    s.tollLost = ((s.lostShown.putFaults s.tollLost.faults).putBeatU s.tollLost.beatU) ∧ s.tollLost.beatU.resetDue = true ∧
    s.tollLost.faults.hub = s.faults.hub ++ [s.tollLostRep] := by
  rw [State.tollLost_eq]
  obtain ⟨hframe, hreset⟩ := State.c3_eq (s.lostShown.putFaults
    { s.faults with owed := s.faults.owed ++ [s.tollLostRep], hub := s.faults.hub ++ [s.tollLostRep] }) 0x100
  rw [hframe]
  exact ⟨rfl, hreset, rfl⟩

theorem State.lostShown_shows (s : State) : s.lostShown.reg F.TOLL_STATUS_STATE = 3 ∧ s.lostShown.reg F.TOLL_STATUS_RATE_PPB = 0 ∧
    s.lostShown.toll = s.toll ∧ s.lostShown.running = s.running := by
  unfold State.lostShown State.toll State.running
  simp (disch := decide) only [State.putTollU_reg, State.reg_setReg_apart, State.reg_setReg_same]
  exact ⟨rfl, rfl, trivial, trivial⟩

theorem State.regsKept.lostShown {s t : State} {ks : List Nat} (hkept : s.regsKept t ks) (h : F.TOLL_STATUS_STATE.key 0 ∈ ks)
    (h' : F.TOLL_STATUS_RATE_PPB.key 0 ∈ ks) : s.regsKept t.lostShown ks := by
  have hset : s.regsKept ((t.setReg F.TOLL_STATUS_STATE 3).setReg F.TOLL_STATUS_RATE_PPB 0) ks := (hkept.setReg h _).setReg h' _
  exact hset.congr rfl

/-- The registers after the loss of the count. -/
theorem State.tollLost_regs (s : State) : s.tollLost.regs = s.lostShown.regs := by
  rw [s.tollLost_frame.1]
  rfl

theorem State.tollLost_shows (s : State) : s.tollLost.reg F.TOLL_STATUS_STATE = 3 ∧ s.tollLost.reg F.TOLL_STATUS_RATE_PPB = 0 ∧
    s.tollLost.toll = s.toll := by
  obtain ⟨hstate, hrate, htoll, -⟩ := s.lostShown_shows
  exact ⟨(State.reg_congr s.tollLost_regs ..).trans hstate, (State.reg_congr s.tollLost_regs ..).trans hrate,
    (State.reg_congr s.tollLost_regs ..).trans htoll⟩

theorem State.tollLost_mem (s : State) : s.tollLost.mem = s.mem := by
  rw [s.tollLost_frame.1]
  rfl

/-- While a Score runs a C3 fault asks for a halt with its causes and DEVICE_STOP (17 R514). -/
theorem State.c3_halts {s : State} (h : s.running = true) (causes : Nat) :
    (s.c3 causes).beatU.haltReq = true ∧ (s.c3 causes).beatU.haltCause = s.beatU.haltCause ||| (causes ||| 0x400) := by
  unfold State.c3
  rw [State.halt_eq, if_pos h]
  exact ⟨rfl, rfl⟩

theorem State.tollLost_halts {s : State} (h : s.running = true) :
    s.tollLost.beatU.haltReq = true ∧ s.tollLost.beatU.haltCause = s.beatU.haltCause ||| (0x100 ||| 0x400) := by
  obtain ⟨-, -, -, hrun⟩ := s.lostShown_shows
  rw [State.tollLost_eq]
  generalize { s.faults with owed := s.faults.owed ++ [s.tollLostRep], hub := s.faults.hub ++ [s.tollLostRep] } = f
  exact State.c3_halts (s := s.lostShown.putFaults f) (hrun.trans h) 0x100

theorem State.offsetTaken_mem (s : State) (off : Int) : (s.offsetTaken off).mem = s.mem := rfl

/-- OFFSET shows a small offset as it is, in two's complement. -/
theorem offsetField_near {off : Int} (h : off.natAbs ≤ 64) : offsetField off % 2 ^ 16 = (off % 65536).toNat := by
  have hcut : max (-32768) (min 32767 off) = off := by omega
  rw [offsetField, hcut, toField]
  norm_num
  omega

/-- Settles O11: a TICK block taken from the parent is the mark of its count, and each course of a mark is one equation above. -/
theorem tickMarkSetsAndLocksToll : Obligations.TickMarkSetsAndLocksToll := by
  intro k crc cseq count depth s hcrc hstate hopen hroot hparent hnext
  have hexec : exec (.tickMark ⟨k, crc⟩ cseq count depth) s = .next ((s.tickCame k depth.toNat).tickMark count.toNat) :=
    congrArg _ (State.tickBlock_taken _ _ hcrc hstate hopen hroot hparent hnext)
  have hcnext : ((s.tickCame k depth.toNat).link k).cnext = (cseq.toNat + 1) % 256 := by
    rw [hnext]
    exact s.blockTaken_cnext k
  have hmem := s.tickCame_memKept k depth.toNat
  have htoll := s.tickCame_toll k depth.toNat
  have htollState : (s.tickCame k depth.toNat).reg F.TOLL_STATUS_STATE = s.reg F.TOLL_STATUS_STATE :=
    s.tickCame_reg_apart _ _ (by decide) (by decide)
  have hdelay : (s.tickCame k depth.toNat).reg F.TOLL_DELAY_DELAY = s.reg F.TOLL_DELAY_DELAY :=
    s.tickCame_reg_apart _ _ (by decide) (by decide)
  have hoffset : (s.tickCame k depth.toNat).markOffset count.toNat = s.markOffset count.toNat := by
    rw [State.markOffset, htoll, hdelay]
    rfl
  refine ⟨fun hfree hidle => ⟨_, hexec, ?_⟩, fun hcoarse hmarks hnear => ⟨_, hexec, ?_⟩, fun hlocked hfar => ⟨_, hexec, ?_⟩⟩
  · have hbeat : (s.tickCame k depth.toNat).reg F.BEAT_STATUS_STATE ≠ 2 := by
      rwa [s.tickCame_reg_apart _ _ (by decide) (by decide)]
    rw [State.tickMark_free (htollState.trans hfree) hbeat]
    obtain ⟨hcount, hone, hdepth⟩ := (s.tickCame k depth.toNat).tollSet_shows count.toNat
    refine ⟨?_, hmem, ?_, ?_, hone, ?_, hcnext⟩
    · obtain ⟨ls, o, hcame⟩ := s.tickCame_eq k depth.toNat
      rw [hcame]
      rfl
    · have hcame := s.tickCame_regsKept k depth.toNat (ks := [F.TOLL_COUNT_COUNT.key 0, F.TOLL_STATUS_STATE.key 0,
        F.TOLL_STATUS_OFFSET.key 0, F.TOLL_STATUS_DEPTH.key 0]) (by simp)
      exact (((hcame.setReg (by simp) _).setReg (by simp) _).setReg (by simp) _).congr rfl
    · rw [hcount, hdelay]
    · rw [hdepth, s.tickCame_depth]
  · rw [State.tickMark_measured (Or.inl (htollState.trans hcoarse)), hoffset,
      State.takeOffset_locks (htollState.trans hcoarse) (by rwa [s.tickCame_tollU]) (off := s.markOffset count.toNat) hnear]
    have hcame := s.tickCame_regsKept k depth.toNat (ks := [F.TOLL_STATUS_OFFSET.key 0, F.TOLL_STATUS_RATE_PPB.key 0,
      F.TOLL_STATUS_STATE.key 0, F.TOLL_STATUS_DEPTH.key 0]) (by simp)
    refine ⟨(hcame.offsetTaken (by simp) (by simp) _).setReg (by simp) _, State.reg_setReg_same .., ?_, hmem, ?_⟩
    · rw [State.toll, State.reg_setReg_apart _ _ (by decide) (by decide) (by decide),
        State.offsetTaken_reg_apart _ _ (by decide) (by decide) (by decide)]
      exact htoll
    · rw [State.reg_setReg_apart _ _ (by decide) (by decide) (by decide), State.offsetTaken_offset]
      exact offsetField_near hnear
  · rw [State.tickMark_measured (Or.inr (htollState.trans hlocked)), hoffset,
      State.takeOffset_loses (htollState.trans hlocked) (off := s.markOffset count.toNat) hfar]
    obtain ⟨hlost, hrate, hcount⟩ := ((s.tickCame k depth.toNat).offsetTaken (s.markOffset count.toNat)).tollLost_shows
    obtain ⟨-, hreset, -⟩ := ((s.tickCame k depth.toNat).offsetTaken (s.markOffset count.toNat)).tollLost_frame
    refine ⟨hlost, hreset, hrate, ?_, fun a => (State.byte_congr (State.tollLost_mem _) a).trans (hmem a)⟩
    rw [hcount, State.toll, State.offsetTaken_reg_apart _ _ (by decide) (by decide) (by decide)]
    exact htoll

/-! ### No mark, and TICK blocks sent (02 R71, R73) -/

theorem exec_tollMarkTimeout (s : State) : exec .tollMarkTimeout s = .next s.markTimeout := rfl

theorem State.passCk_reg (s : State) (n : Nat) (g : Field) (m : Nat) : (s.passCk n).reg g m = s.reg g m := rfl

theorem State.advance_reg (s : State) (n : Nat) {g : Field} {m : Nat} (h : g.apart F.TOLL_COUNT_COUNT = true) (hm : m < g.count) :
    (s.advance n).reg g m = s.reg g m := by
  rw [State.advance, State.passCk_reg, State.reg_setReg_apart _ _ h hm (by decide)]

theorem State.advance_frame (s : State) (n : Nat) :
    s.advance n = ((s.putRegs (s.advance n).regs).putCk (s.advance n).ck).putFresh (s.advance n).fresh := rfl

theorem State.advance_regsKept (s : State) (n : Nat) {ks : List Nat} (h : F.TOLL_COUNT_COUNT.key 0 ∈ ks) : s.regsKept (s.advance n) ks := by
  have hset : s.regsKept (s.setReg F.TOLL_COUNT_COUNT (s.toll + n)) ks := (s.regsKept_refl _).setReg h _
  exact hset.congr rfl

/-- The count lost after `n` CK (02 R73; 17 R514). -/
theorem State.advance_tollLost_shows (s : State) (n : Nat) :
    (s.advance n).tollLost = (((((s.putRegs (s.advance n).tollLost.regs).putCk (s.advance n).tollLost.ck).putFresh
      (s.advance n).tollLost.fresh).putTollU { s.tollU with corr := 0 }).putFaults (s.advance n).tollLost.faults).putBeatU
      (s.advance n).tollLost.beatU ∧
    s.regsKept (s.advance n).tollLost [F.TOLL_COUNT_COUNT.key 0, F.TOLL_STATUS_STATE.key 0, F.TOLL_STATUS_RATE_PPB.key 0] ∧
    (∃ r, (s.advance n).tollLost.faults.hub = s.faults.hub ++ [r] ∧ r.msg.kind = 0x2001 ∧ r.msg.cls = 3) ∧
    (s.reg F.BEAT_STATUS_STATE = 2 → (s.advance n).tollLost.beatU.haltReq = true ∧
      (s.advance n).tollLost.beatU.haltCause = s.beatU.haltCause ||| (0x100 ||| 0x400)) := by
  obtain ⟨hframe, -, hhub⟩ := (s.advance n).tollLost_frame
  have hkept := s.advance_regsKept n
    (ks := [F.TOLL_COUNT_COUNT.key 0, F.TOLL_STATUS_STATE.key 0, F.TOLL_STATUS_RATE_PPB.key 0]) (by simp)
  refine ⟨?_, (hkept.lostShown (by simp) (by simp)).congr (s.advance n).tollLost_regs, ⟨_, hhub, rfl, rfl⟩, fun hrun => ?_⟩
  · rw [hframe]
    rfl
  · refine State.tollLost_halts (s := s.advance n) (decide_eq_true ?_)
    rw [State.advance_reg _ _ (by decide) (by decide), hrun]

theorem State.markTimeout_locked {s : State} (hlocked : s.reg F.TOLL_STATUS_STATE = 2) (hroot : s.reg F.GONG_CFG_ROOT = 0) :
    s.markTimeout = (s.advance (s.tollU.lastMark + 1048576 - s.ck)).tollLost := by
  refine if_pos ⟨hlocked, ?_⟩
  simp [State.isRoot, hroot]

theorem State.markTimeout_none {s : State}
    (h : s.reg F.TOLL_STATUS_STATE = 0 ∨ s.reg F.TOLL_STATUS_STATE = 1 ∨ s.reg F.GONG_CFG_ROOT = 1) : s.markTimeout = s := by
  refine if_neg fun hdue => ?_
  simp only [State.isRoot, Bool.not_eq_true', decide_eq_false_iff_not] at hdue
  obtain ⟨hlocked, hroot⟩ := hdue
  have hstate : s.reg F.TOLL_STATUS_STATE = 2 := hlocked
  omega

/-- A block on a READY link while fewer than 128 are unacknowledged leaves at once. -/
theorem State.sendBlock_room {s : State} {k : Nat} (hready : s.ready k = true) (hroom : (s.link k).blocks.length < 128) (ty body : Nat) :
    s.sendBlock k ty body = s.issueBlock k ty body := by
  rw [State.sendBlock, if_pos hready]
  exact if_pos hroom

/-- With 128 unacknowledged it waits. -/
theorem State.sendBlock_full {s : State} {k : Nat} (hready : s.ready k = true) (hfull : 128 ≤ (s.link k).blocks.length) (ty body : Nat) :
    s.sendBlock k ty body = s.setLink k { s.link k with waitq := (s.link k).waitq ++ [(ty, body)] } := by
  rw [State.sendBlock, if_pos hready]
  exact if_neg (Nat.not_lt.mpr hfull)

theorem State.sendBlock_link_other (s : State) {k j : Nat} (hj : j ≠ k) (ty body : Nat) : (s.sendBlock k ty body).link j = s.link j := by
  unfold State.sendBlock
  dsimp only
  split
  · split
    · rw [State.issueBlock, State.emitSeq, State.emit_link, State.link_setLink_other _ _ hj]
    · rw [State.link_setLink_other _ _ hj]
  · rfl

/-- What has left the device stays so. -/
theorem State.sendBlock_out (s : State) (k ty body : Nat) {o : Out} (h : o ∈ s.out) : o ∈ (s.sendBlock k ty body).out := by
  unfold State.sendBlock
  dsimp only
  split
  · split
    · exact List.mem_cons_of_mem _ h
    · exact h
  · exact h

theorem State.issueBlock_out (s : State) (k ty body : Nat) :
    (s.issueBlock k ty body).out = .block k (blockBits ty (s.link k).csend (s.restamp ty body)) :: s.out := rfl

theorem State.issueBlock_link (s : State) (k ty body : Nat) : (s.issueBlock k ty body).link k =
    { s.link k with csend := ((s.link k).csend + 1) % 256, blocks := (s.link k).blocks ++ [((s.link k).csend, ty, body)] } :=
  s.link_setLink_same k _

theorem State.portLink_half (s : State) (p : Nat) : s.portLink p / 2 = p := by
  unfold State.portLink
  split_ifs <;> omega

theorem State.sendPorts_cons (s : State) (p : Nat) (ps : List Nat) (ty body : Nat) :
    s.sendPorts (p :: ps) ty body = (s.sendBlock (s.portLink p) ty body).sendPorts ps ty body := rfl

theorem State.sendPorts_link_other (s : State) {ps : List Nat} {k : Nat} (hk : k / 2 ∉ ps) (ty body : Nat) :
    (s.sendPorts ps ty body).link k = s.link k := by
  induction ps generalizing s with
  | nil => rfl
  | cons p ps ih =>
    rw [List.mem_cons, not_or] at hk
    obtain ⟨hp, hps⟩ := hk
    have hother : k ≠ s.portLink p := fun h => hp (by rw [h, State.portLink_half])
    rw [State.sendPorts_cons, ih _ hps, State.sendBlock_link_other _ hother]

theorem State.sendPorts_out (s : State) (ps : List Nat) (ty body : Nat) {o : Out} (h : o ∈ s.out) : o ∈ (s.sendPorts ps ty body).out := by
  induction ps generalizing s with
  | nil => exact h
  | cons p ps ih => exact ih _ (s.sendBlock_out _ ty body h)

/-- Blocks to the ports of a list: on the first link of each that is READY the block is sent as alone, at the same Toll count. -/
theorem State.sendPorts_sends (s : State) {ps : List Nat} (hps : ps.Nodup) {p : Nat} (hp : p ∈ ps) (hready : s.ready (2 * p) = true)
    (ty body : Nat) : ∃ u : State, s.sentOnly u ∧ u.link (2 * p) = s.link (2 * p) ∧
      (s.sendPorts ps ty body).link (2 * p) = (u.sendBlock (2 * p) ty body).link (2 * p) ∧
      ∀ o ∈ (u.sendBlock (2 * p) ty body).out, o ∈ (s.sendPorts ps ty body).out := by
  induction ps generalizing s with
  | nil => cases hp
  | cons q ps ih =>
    obtain ⟨hq, hnodup⟩ := List.nodup_cons.mp hps
    have hsent := s.sendBlock_sentOnly (s.portLink q) ty body
    rw [State.sendPorts_cons]
    rcases List.mem_cons.mp hp with rfl | hmem
    · have hlink : s.portLink p = 2 * p := if_pos hready
      rw [hlink]
      refine ⟨s, s.sentOnly_refl, rfl, State.sendPorts_link_other _ (by rwa [Nat.mul_div_cancel_left p Nat.two_pos]) ty body, fun o ho => ?_⟩
      exact State.sendPorts_out _ ps ty body ho
    · have hother : 2 * p ≠ s.portLink q := by
        intro h
        have hhalf := s.portLink_half q
        rw [← h, Nat.mul_div_cancel_left p Nat.two_pos] at hhalf
        exact hq (hhalf ▸ hmem)
      have hsame := s.sendBlock_link_other hother ty body
      have hreadyNow : (s.sendBlock (s.portLink q) ty body).ready (2 * p) = true := by
        rw [hsent.1]
        exact hready
      obtain ⟨u, hu, hlink, hends, hout⟩ := ih _ hnodup hmem hreadyNow
      exact ⟨u, hsent.trans hu, hlink.trans hsame, hends, hout⟩

theorem State.childPorts_nodup (s : State) : s.childPorts.Nodup := List.nodup_range.filter _

/-- A TICK block sent carries the count and DEPTH of its sender. -/
theorem State.restamp_tick {s u : State} (hu : s.sentOnly u) : u.restamp tyTick s.tickBody = s.tickBody := by
  have htoll : s.toll < 2 ^ 64 := s.reg_lt _ _
  have hdepth : s.reg F.TOLL_STATUS_DEPTH < 2 ^ 8 := s.reg_lt _ _
  have hsame : u.toll = s.toll := by
    rw [hu.1]
    rfl
  have hbits : bitsOf s.tickBody 71 64 = s.reg F.TOLL_STATUS_DEPTH := by
    rw [bitsOf, State.tickBody, Nat.shiftRight_eq_div_pow]
    omega
  rw [State.restamp, if_pos rfl, hsame, hbits]
  rfl

/-- Settles O12: no mark is the loss of the count after its time, and a tick is sent on each port as a block alone would be. -/
theorem tollIsLostAndTicksAreSent : Obligations.TollIsLostAndTicksAreSent := by
  refine ⟨fun s => ⟨fun hlocked hroot => ?_, fun hnone => ?_⟩, fun s hopen => ?_⟩
  · obtain ⟨n, hn⟩ : ∃ n, s.markTimeout = (s.advance n).tollLost := ⟨_, State.markTimeout_locked hlocked hroot⟩
    obtain ⟨hlost, hrate, -⟩ := (s.advance n).tollLost_shows
    obtain ⟨-, hreset, -⟩ := (s.advance n).tollLost_frame
    obtain ⟨hframe, hkept, hhub, hhalts⟩ := s.advance_tollLost_shows n
    exact ⟨_, (exec_tollMarkTimeout s).trans (congrArg Host.Outcome.next hn), hlost, hreset, hhub, hhalts, State.memKept_of_mem (s.advance n).tollLost_mem, hframe, hkept, hrate⟩
  · exact (exec_tollMarkTimeout s).trans (congrArg Host.Outcome.next (State.markTimeout_none hnone))
  · obtain ⟨hframe, -⟩ := s.sendPorts_sentOnly s.childPorts tyTick s.tickBody
    refine ⟨s.sendPorts s.childPorts tyTick s.tickBody, rfl, hframe, fun p hp hstate => ?_⟩
    have hready := State.ready_eq hstate hopen
    obtain ⟨u, hu, hlink, hends, hout⟩ := s.sendPorts_sends s.childPorts_nodup hp hready tyTick s.tickBody
    have hreadyNow : u.ready (2 * p) = true := by
      rw [hu.1]
      exact hready
    rw [← hlink]
    refine ⟨fun hroom => ?_, fun hfull => ?_⟩
    · have hissue := State.sendBlock_room hreadyNow hroom tyTick s.tickBody
      rw [hissue] at hends hout
      rw [State.issueBlock_out, State.restamp_tick hu] at hout
      rw [hends, State.issueBlock_link]
      exact ⟨rfl, rfl, hout _ (List.mem_cons_self ..)⟩
    · rw [hends, State.sendBlock_full hreadyNow hfull, State.link_setLink_same]
      rfl

end Sys2Proof.Machine
end

section
/-!
PROOFS. Chimes: the statement ChimeOperationsQueueAndApply fails, on a COUNT above 0xFFFFFFFF that an ARRIVE of 0 leaves as it is.
-/
namespace Sys2Proof.Machine

/-- Chime 0 with a COUNT that no register of 32 bits holds. -/
def State.chimeAbove : State := State.reset.putChimes [(0, ⟨0x100000000, 0⟩)]

/-- The same with ARRIVE(0) of Chime 0 waiting at its unit. -/
def State.arriveZeroWaits : State := State.chimeAbove.putChimeq [⟨0, false, 0, 0⟩]

theorem State.meetWait_none {s : State} {c : Nat} (h : (s.cl c).wait = none) (d : Nat) : s.meetWait d c = s := by
  unfold State.meetWait
  dsimp only
  rw [h]

/-- Where no sequencer waits for a Chime, none is met. -/
theorem State.meetWaits_none {s : State} {ks : List Nat} (h : ∀ c ∈ ks, (s.cl c).wait = none) (d : Nat) :
    foldKeys ks (fun t c => t.meetWait d c) s = s := by
  induction ks with
  | nil => rfl
  | cons c ks ih =>
    rw [List.forall_mem_cons] at h
    obtain ⟨hc, hks⟩ := h
    have hfirst : foldKeys (c :: ks) (fun t c => t.meetWait d c) s = foldKeys ks (fun t c => t.meetWait d c) (s.meetWait d c) := rfl
    rw [hfirst, State.meetWait_none hc, ih hks]

/-- The ARRIVE of 0 has no effect (02 R106): COUNT stays above 0xFFFFFFFF. -/
theorem State.arriveZeroWaits_applied : exec (.chimeOpApply false) State.arriveZeroWaits = .next State.chimeAbove := by
  have hunit : State.arriveZeroWaits.chimeUnit 0 = foldKeys (List.range 64) (fun t c => t.meetWait 0 c) State.chimeAbove := rfl
  have hnone : ∀ c ∈ List.range 64, (State.chimeAbove.cl c).wait = none := fun _ _ => rfl
  exact congrArg Host.Outcome.next (hunit.trans (State.meetWaits_none hnone 0))

/-- Refutes O23: its clause for a sum above 0xFFFFFFFF asks for COUNT 0xFFFFFFFF without `0 < o.arg`, and speaks of every state. On
`State.arriveZeroWaits` the sum of COUNT and the ARRIVE of 0 is 0x100000000, and the ARRIVE of 0 leaves COUNT there. -/
theorem not_chimeOperationsQueueAndApply : ¬ Obligations.ChimeOperationsQueueAndApply := by
  intro h
  obtain ⟨-, happly⟩ := h
  obtain ⟨-, -, -, -, hsum, -⟩ := happly ⟨0, false, 0, 0⟩ 0 ⟨0, 0, false, 0, 0⟩ State.arriveZeroWaits rfl rfl rfl
  obtain ⟨t, happlied, hchime, -⟩ := hsum rfl rfl rfl (by decide) rfl
  have hnext : exec (.chimeOpApply false) State.arriveZeroWaits = .next t := happlied
  rw [State.arriveZeroWaits_applied] at hnext
  obtain rfl : State.chimeAbove = t := Host.Outcome.next.inj hnext
  exact absurd (hchime 0) (by decide)

end Sys2Proof.Machine
end

section
/-!
LAWS. The words of the Gong tree by their fields, sorted lists of keys, and what an Acre's being the device's own rests on.
-/
namespace Sys2Proof.Machine

theorem mem_keyAdd {t : List Nat} {k x : Nat} : x ∈ keyAdd t k ↔ x = k ∨ x ∈ t := by
  induction t with
  | nil => simp [keyAdd]
  | cons j t ih =>
    unfold keyAdd
    split_ifs with hsame hlow
    · simp [hsame]
    · simp
    · rw [List.mem_cons, ih, List.mem_cons]
      tauto

theorem toField_lt (w : Nat) (i : Int) : toField w i < 2 ^ w := by
  have hpos : (0 : Int) < ((2 ^ w : Nat) : Int) := by exact_mod_cast Nat.two_pow_pos w
  have hlt := Int.emod_lt_of_pos i hpos
  have hnonneg := Int.emod_nonneg i hpos.ne'
  unfold toField
  omega

theorem bitsOf_eq_div_mod (v hi lo : Nat) : bitsOf v hi lo = v / 2 ^ lo % 2 ^ (hi + 1 - lo) := by
  rw [bitsOf, Nat.shiftRight_eq_div_pow]

theorem bitsOf_lt (v hi lo : Nat) : bitsOf v hi lo < 2 ^ (hi + 1 - lo) := Nat.mod_lt _ (Nat.two_pow_pos _)

/-- ACRE, BEAT and HOLD_K of a seal or HOLD round (02 R82, R94). -/
theorem sealBits_fields (beat cause : Nat) (adj : Int) (cnt acre hk flags : Nat) :
    bitsOf (sealBits beat cause adj cnt acre hk flags) 35 26 = acre % 1024 ∧
    bitsOf (sealBits beat cause adj cnt acre hk flags) 127 80 = beat % 2 ^ 48 ∧
    bitsOf (sealBits beat cause adj cnt acre hk flags) 11 8 = hk % 16 := by
  have hadj := toField_lt 24 adj
  simp only [bitsOf_eq_div_mod]
  unfold sealBits
  generalize toField 24 adj = a at hadj ⊢
  refine ⟨?_, ?_, ?_⟩ <;> omega

theorem gongBits_lt (beat cause : Nat) (adj : Int) (k acre tick verdict : Nat) : gongBits beat cause adj k acre tick verdict < 2 ^ 128 := by
  have hadj := toField_lt 24 adj
  unfold gongBits
  generalize toField 24 adj = a at hadj ⊢
  omega

/-- What makes an Acre the device's own: the loaded Score and the active route bank. -/
theorem State.ownAcre_congr {s t : State} (hscore : t.score = s.score) (hroute : t.route = s.route)
    (hactive : t.reg F.ROUTE_BANK_ACTIVE = s.reg F.ROUTE_BANK_ACTIVE) (a : Nat) : t.ownAcre a = s.ownAcre a := by
  unfold State.ownAcre State.bank
  rw [hscore, hroute, hactive]

/-- The device's own Acre is that of its Score. -/
theorem State.scoreAcre_of_own {s : State} {a : Nat} (h : s.ownAcre a = true) : s.scoreAcre = a := by
  unfold State.ownAcre at h
  unfold State.scoreAcre State.acre
  split at h
  · exact of_decide_eq_true h
  · rw [of_decide_eq_true h]
    rfl

end Sys2Proof.Machine
end

section
/-!
PROOFS. Gong words, HOLD rounds and the probe round: the statements HaltWordMakesHaltDue, HoldIsRaisedAndGoesUpOnce and
ProbeReportsAndTimeout.
-/
namespace Sys2Proof.Machine

/-! ### Gong words (02 R81, R82, R90, R91) -/

theorem State.regsKept.peak {s t : State} {ks : List Nat} (h : s.regsKept t ks) {f : Field} {n : Nat} (hf : f.key n ∈ ks) (v : Nat) :
    s.regsKept (t.peak f v n) ks := h.update hf _ _

theorem State.regsKept.of_regs {s t u : State} {ks : List Nat} (h : t.regsKept u ks) (hregs : t.regs = s.regs) : s.regsKept u ks :=
  fun g m hg => (h g m hg).trans (State.reg_congr hregs g m)

/-- GONG_WORD and CAUSE_ACC after a word (02 R114). -/
def State.wordShown (s : State) (w : Nat) : State :=
  ((s.setReg F.GONG_WORD_LO_WORD (w % 2 ^ 64)).setReg F.GONG_WORD_HI_WORD (w / 2 ^ 64)).mark F.GONG_CAUSES_CAUSE_ACC (bitsOf w 79 64)

theorem State.wordShown_frame (s : State) (w : Nat) :
    s.wordShown w = (s.putRegs (s.wordShown w).regs).putFresh (s.wordShown w).fresh := by
  rw [State.wordShown, State.mark_eq]
  rfl

theorem State.wordShown_reg_apart (s : State) (w : Nat) {g : Field} {m : Nat} (hlo : g.apart F.GONG_WORD_LO_WORD = true)
    (hhi : g.apart F.GONG_WORD_HI_WORD = true) (hcause : g.apart F.GONG_CAUSES_CAUSE_ACC = true) (hm : m < g.count) :
    (s.wordShown w).reg g m = s.reg g m := by
  rw [State.wordShown, State.mark, State.update_reg_apart _ _ _ hcause hm (by decide), State.reg_setReg_apart _ _ hhi hm (by decide),
    State.reg_setReg_apart _ _ hlo hm (by decide)]

theorem State.wordShown_shows (s : State) {w : Nat} (h : w < 2 ^ 128) : (s.wordShown w).reg F.GONG_WORD_LO_WORD = w % 2 ^ 64 ∧
    (s.wordShown w).reg F.GONG_WORD_HI_WORD = w / 2 ^ 64 ∧ (s.wordShown w).reg F.GONG_CAUSES_CAUSE_ACC =
      (s.reg F.GONG_CAUSES_CAUSE_ACC ||| bitsOf w 79 64) % 2 ^ F.GONG_CAUSES_CAUSE_ACC.width := by
  have hhi : w / 2 ^ 64 < 2 ^ 64 := by omega
  unfold State.wordShown State.mark
  simp (disch := decide) only [State.update_reg, State.reg_setReg_apart, State.reg_setReg_same]
  exact ⟨Nat.mod_mod _ _, Nat.mod_eq_of_lt hhi, trivial⟩

theorem State.wordShown_regsKept (s : State) (w : Nat) {ks : List Nat} (hlo : F.GONG_WORD_LO_WORD.key 0 ∈ ks)
    (hhi : F.GONG_WORD_HI_WORD.key 0 ∈ ks) (hcause : F.GONG_CAUSES_CAUSE_ACC.key 0 ∈ ks) : s.regsKept (s.wordShown w) ks :=
  (((s.regsKept_refl _).setReg hlo _).setReg hhi _).update hcause _ _

theorem State.wordShown_ownAcre (s : State) (w a : Nat) : (s.wordShown w).ownAcre a = s.ownAcre a := by
  have hframe := s.wordShown_frame w
  refine State.ownAcre_congr ?_ ?_ (s.wordShown_reg_apart w (by decide) (by decide) (by decide) (by decide)) a
  · rw [hframe]
    rfl
  · rw [hframe]
    rfl

/-- The time from the device's seal to the word that answers it is kept as the longest (02 R114). -/
def State.wordTimed (s : State) (w : Nat) : State :=
  match s.beatU.sealed with
  | some (b, t) => if b = bitsOf w 127 80 ∧ bitsOf w 3 0 ≠ 3 then
      ((s.peak F.GONG_LAT_MAX_CK (s.toll - t)).putBeatU { s.beatU with sealed := none }) else s
  | none => s

theorem State.wordTimed_cases (s : State) (w : Nat) : s.wordTimed w = s ∨
    ∃ v, s.wordTimed w = (s.peak F.GONG_LAT_MAX_CK v).putBeatU { s.beatU with sealed := none } := by
  unfold State.wordTimed
  split
  · split
    · exact Or.inr ⟨_, rfl⟩
    · exact Or.inl rfl
  · exact Or.inl rfl

theorem State.wordTimed_frame (s : State) (w : Nat) :
    s.wordTimed w = ((s.putRegs (s.wordTimed w).regs).putFresh (s.wordTimed w).fresh).putBeatU (s.wordTimed w).beatU := by
  obtain h | ⟨v, h⟩ := s.wordTimed_cases w
  · rw [h]
    rfl
  · rw [h, State.peak_eq]
    rfl

/-- A word shown and timed changes registers and the Beat unit alone. -/
theorem State.wordShown_wordTimed_frame (s : State) (w : Nat) : (s.wordShown w).wordTimed w =
    ((s.putRegs ((s.wordShown w).wordTimed w).regs).putFresh ((s.wordShown w).wordTimed w).fresh).putBeatU
      ((s.wordShown w).wordTimed w).beatU := by
  have htimed := (s.wordShown w).wordTimed_frame w
  have hshown := s.wordShown_frame w
  generalize (s.wordShown w).wordTimed w = y at htimed ⊢
  generalize s.wordShown w = x at htimed hshown
  calc y = ((x.putRegs y.regs).putFresh y.fresh).putBeatU y.beatU := htimed
    _ = _ := by rw [hshown]; rfl

theorem State.wordTimed_reg_apart (s : State) (w : Nat) {g : Field} {m : Nat} (h : g.apart F.GONG_LAT_MAX_CK = true) (hm : m < g.count) :
    (s.wordTimed w).reg g m = s.reg g m := by
  obtain hcase | ⟨v, hcase⟩ := s.wordTimed_cases w
  · rw [hcase]
  · rw [hcase, State.putBeatU_reg, State.peak, State.update_reg_apart _ _ _ h hm (by decide)]

theorem State.regsKept.wordTimed {s t : State} {ks : List Nat} (hkept : s.regsKept t ks) (h : F.GONG_LAT_MAX_CK.key 0 ∈ ks) (w : Nat) :
    s.regsKept (t.wordTimed w) ks := by
  obtain hcase | ⟨v, hcase⟩ := t.wordTimed_cases w
  · rw [hcase]
    exact hkept
  · rw [hcase]
    exact (hkept.peak h v).congr rfl

/-- A word of another Acre is shown, and HOLD rounds of what it decides are forgotten. -/
theorem State.applyWord_foreign {s : State} {w : Nat} (h : s.ownAcre (bitsOf w 35 26) = false) :
    s.applyWord w = (s.wordShown w).forgetHolds (bitsOf w 35 26) (bitsOf w 127 80) (bitsOf w 3 0) := by
  have hown : (s.wordShown w).ownAcre (bitsOf w 35 26) = false := (s.wordShown_ownAcre w _).trans h
  refine if_pos ?_
  rw [← State.wordShown, hown]
  rfl

/-- A word of the device's own Acre while a Score runs is shown, timed and acted on. -/
theorem State.applyWord_own {s : State} {w : Nat} (h : s.ownAcre (bitsOf w 35 26) = true) (hrun : s.running = true) :
    s.applyWord w = ((s.wordShown w).wordTimed w).actOnWord w := by
  have hown : (s.wordShown w).ownAcre (bitsOf w 35 26) = true := (s.wordShown_ownAcre w _).trans h
  have hrunNow : ((s.wordShown w).wordTimed w).running = true := by
    unfold State.running at hrun ⊢
    rwa [State.wordTimed_reg_apart _ _ (by decide) (by decide),
      State.wordShown_reg_apart _ _ (by decide) (by decide) (by decide) (by decide)]
  have hnot : ¬ (!(s.wordShown w).ownAcre (bitsOf w 35 26)) = true := by
    rw [hown]
    decide
  have happly : s.applyWord w =
      if ((s.wordShown w).wordTimed w).running then ((s.wordShown w).wordTimed w).actOnWord w else (s.wordShown w).wordTimed w := if_neg hnot
  rw [happly, if_pos hrunNow]

theorem State.actOnWord_halt (s : State) {w : Nat} (h : bitsOf w 3 0 = 4) : s.actOnWord w = s.putBeatU { s.beatU with haltDue := true } :=
  if_pos h

/-- A device that is FREE or LOST takes no mark of a word. -/
theorem State.wordMark_none {s : State} (h : s.reg F.TOLL_STATUS_STATE = 0 ∨ s.reg F.TOLL_STATUS_STATE = 3) (low : Nat) :
    s.wordMark low = s := by
  unfold State.wordMark State.tickMark State.tollState
  obtain h | h := h
  · rw [if_pos h]
  · rw [if_neg (by omega)]
    exact if_pos h

theorem exec_gongWord (k : Fin 256) (crc : BitVec 32) (cseq : BitVec 8) (w : BitVec 128) (s : State) :
    exec (.gongWord k crc cseq w) s = .next (if (s.takeBlock k.val tyGong crc.toNat cseq.toNat w.toNat).1 then
      (s.takeBlock k.val tyGong crc.toNat cseq.toNat w.toNat).2.gongIn k.val w.toNat
      else (s.takeBlock k.val tyGong crc.toNat cseq.toNat w.toNat).2) := rfl

/-- A word from the parent, at a device that takes no mark: it goes on to the children, and takes its effect here. -/
theorem State.gongIn_parent {s : State} {k w : Nat} (hroot : s.reg F.GONG_CFG_ROOT = 0) (hparent : k / 2 = s.reg F.GONG_CFG_PARENT_PORT)
    (htoll : s.reg F.TOLL_STATUS_STATE = 0 ∨ s.reg F.TOLL_STATUS_STATE = 3) :
    s.gongIn k w = (s.sendPorts s.childPorts tyGong (s.stampWord w)).applyWord w := by
  have hfrom : s.fromParent k = true := by simp [State.fromParent, State.isRoot, State.parentPort, hroot, hparent]
  have hmark := State.wordMark_none (s := s.sendPorts s.childPorts tyGong (s.stampWord w))
    (by rw [(s.sendPorts_sentOnly ..).1]; exact htoll) (bitsOf w 25 4)
  rw [State.gongIn, if_pos hfrom, hmark]

/-- What has gone on to the children before a word takes effect differs from the state in links and in what has left the device. -/
theorem State.exec_gongWord_sent (s : State) {k : Fin 256} {crc : BitVec 32} {cseq : BitVec 8} {w : BitVec 128}
    (hstate : s.reg F.PORT_LINK_STATE k = 6) (hopen : s.pins.portsStopped = false)
    (hcrc : crc.toNat = blockCrc tyGong cseq.toNat w.toNat) (hnext : cseq.toNat = (s.link k).cnext) (hroot : s.reg F.GONG_CFG_ROOT = 0)
    (hparent : k.val / 2 = s.reg F.GONG_CFG_PARENT_PORT) (htoll : s.reg F.TOLL_STATUS_STATE = 0 ∨ s.reg F.TOLL_STATUS_STATE = 3) :
    ∃ v, v = (s.putLinks v.links).putOut v.out ∧ exec (.gongWord k crc cseq w) s = .next (v.applyWord w.toNat) := by
  obtain ⟨ls, o, htaken⟩ := s.blockTaken_eq k
  have hin : (s.blockTaken k).gongIn k w.toNat = ((s.blockTaken k).sendPorts (s.blockTaken k).childPorts tyGong
      ((s.blockTaken k).stampWord w.toNat)).applyWord w.toNat := by
    rw [htaken]
    exact State.gongIn_parent hroot hparent htoll
  obtain ⟨hsent, -⟩ := (s.blockTaken k).sendPorts_sentOnly (s.blockTaken k).childPorts tyGong ((s.blockTaken k).stampWord w.toNat)
  refine ⟨(s.blockTaken k).sendPorts (s.blockTaken k).childPorts tyGong ((s.blockTaken k).stampWord w.toNat), ?_, ?_⟩
  · refine hsent.trans ?_
    rw [htaken]
    rfl
  · rw [exec_gongWord, State.takeBlock_good hstate hopen hcrc hnext, if_pos rfl, hin]

/-- Settles O17: the word is taken and sent on, which changes links alone; then it is shown, timed and acted on. -/
theorem haltWordMakesHaltDue : Obligations.HaltWordMakesHaltDue := by
  intro k crc cseq w s hstate hopen hcrc hnext hroot hparent htoll hrun hown hverdict
  obtain ⟨v, hsent, hexec⟩ := s.exec_gongWord_sent hstate hopen hcrc hnext hroot hparent htoll
  have hregs : v.regs = s.regs := by rw [hsent]; rfl
  have hownNow : v.ownAcre (bitsOf w.toNat 35 26) = true := by rw [hsent]; exact hown
  have hrunNow : v.running = true := by rw [hsent]; exact decide_eq_true hrun
  obtain ⟨hlo, hhi, hcause⟩ := v.wordShown_shows w.isLt
  have hcauses : v.reg F.GONG_CAUSES_CAUSE_ACC = s.reg F.GONG_CAUSES_CAUSE_ACC := by rw [hsent]; rfl
  have htimed := v.wordShown_wordTimed_frame w.toNat
  refine ⟨_, hexec.trans (congrArg Host.Outcome.next
    ((State.applyWord_own hownNow hrunNow).trans (State.actOnWord_halt _ hverdict))), rfl, ?_, ?_, ?_, ?_, ?_, ?_⟩
  · rw [State.putBeatU_reg, State.wordTimed_reg_apart _ _ (by decide) (by decide), hlo]
  · rw [State.putBeatU_reg, State.wordTimed_reg_apart _ _ (by decide) (by decide), hhi]
  · rw [State.putBeatU_reg, State.wordTimed_reg_apart _ _ (by decide) (by decide), hcause, hcauses]
  · exact (((v.wordShown_regsKept w.toNat (by decide) (by decide) (by decide)).wordTimed (by decide) w.toNat).congr rfl).of_regs hregs
  · refine State.memKept_of_mem ?_
    rw [State.putBeatU_mem, htimed, hsent]
    rfl
  · generalize (v.wordShown w.toNat).wordTimed w.toNat = y at htimed
    rw [htimed, hsent]
    rfl

end Sys2Proof.Machine
end

section
/-!
PROOFS. HOLD rounds and the probe round: the statements HoldIsRaisedAndGoesUpOnce and ProbeReportsAndTimeout.
-/
namespace Sys2Proof.Machine

/-! ### Time passing -/

theorem State.advanceTo_frame (s : State) (n : Nat) :
    s.advanceTo n = ((s.putRegs (s.advanceTo n).regs).putCk (s.advanceTo n).ck).putFresh (s.advanceTo n).fresh := by
  rw [State.advanceTo_eq]
  split <;> rfl

theorem State.advanceTo_reg_apart (s : State) (n : Nat) {g : Field} {m : Nat} (h : g.apart F.TOLL_COUNT_COUNT = true) (hm : m < g.count) :
    (s.advanceTo n).reg g m = s.reg g m := s.advanceTo_reg n (Field.key_ne_of_apart h hm (by decide))

theorem State.advanceTo_regsKept (s : State) (n : Nat) {ks : List Nat} (h : F.TOLL_COUNT_COUNT.key 0 ∈ ks) : s.regsKept (s.advanceTo n) ks :=
  fun _ _ hg => s.advanceTo_reg n (fun hkey => hg (hkey ▸ h))

theorem State.advanceTo_mem (s : State) (n : Nat) : (s.advanceTo n).mem = s.mem := by
  rw [State.advanceTo_frame]
  rfl

theorem State.advanceTo_beatU (s : State) (n : Nat) : (s.advanceTo n).beatU = s.beatU := by
  rw [State.advanceTo_frame]
  rfl

theorem State.advanceTo_score (s : State) (n : Nat) : (s.advanceTo n).score = s.score := by
  rw [State.advanceTo_frame]
  rfl

theorem State.advanceTo_comps (s : State) (n : Nat) : (s.advanceTo n).comps = s.comps := by
  rw [State.advanceTo_frame]
  rfl

theorem State.advanceTo_scoreAcre (s : State) (n : Nat) : (s.advanceTo n).scoreAcre = s.scoreAcre := by
  have hactive := s.advanceTo_reg_apart n (g := F.ROUTE_BANK_ACTIVE) (m := 0) (by decide) (by decide)
  have hroute : (s.advanceTo n).route = s.route := by rw [State.advanceTo_frame]; rfl
  unfold State.scoreAcre State.acre State.bank
  rw [State.advanceTo_score, hactive, hroute]

theorem State.advanceTo_pastHold (s : State) (n : Nat) {c : Nat} (hc : c < 64) : (s.advanceTo n).pastHold c = s.pastHold c := by
  have hstate := s.advanceTo_reg_apart n (g := F.SEQ_CLUSTER_STATE) (by decide) hc
  unfold State.pastHold State.scoreFenced
  rw [State.advanceTo_score, hstate]

/-! ### HOLD rounds (02 R94, R95, R97) -/

/-- The Acre, Beat and stretches that a HOLD round names. -/
def holdPair (w : Nat) : Nat × Nat × Nat := (bitsOf w 35 26, bitsOf w 127 80, bitsOf w 11 8)

/-- The Beat unit after a HOLD round, which is kept once. -/
def BeatUnit.holdKept (b : BeatUnit) (x : Nat × Nat × Nat) : BeatUnit :=
  if x ∈ b.holds then b else { b with holds := b.holds ++ [x] }

/-- Below the root a HOLD round is kept, and leaves links and what has left the device changed besides. -/
theorem State.holdRound_below {s : State} (hroot : s.reg F.GONG_CFG_ROOT = 0) (w : Nat) :
    (s.putBeatU (s.beatU.holdKept (holdPair w))).sentOnly (s.holdRound w) := by
  have hnot : ¬ s.isRoot = true := by
    rw [State.isRoot, decide_eq_true_iff]
    omega
  have hbelow : s.holdRound w = if holdPair w ∈ s.beatU.holds then s
      else (s.putBeatU { s.beatU with holds := s.beatU.holds ++ [holdPair w] }).sendUp tyHoldr w := if_neg hnot
  rw [hbelow, BeatUnit.holdKept]
  split
  · exact s.sentOnly_refl
  · exact State.sendUp_sentOnly _ _ _

theorem State.holdOpen_of {s : State} (hrun : s.reg F.BEAT_STATUS_STATE = 2) (hgoing : s.beatU.abandoned = false)
    (hdue : s.beatU.haltDue = false) : s.holdOpen s.beat = true := by
  simp only [State.holdOpen, State.running, hrun, hgoing, hdue]
  decide

/-- The HOLD check of a running Beat, below the root: time comes to HOLD_LEAD before its end, and a HOLD round starts where a cluster
has not passed its mark. -/
theorem State.holdCheck_cases {s : State} (hrun : s.reg F.BEAT_STATUS_STATE = 2) (hgoing : s.beatU.abandoned = false)
    (hdue : s.beatU.haltDue = false) : ∃ n w, holdPair w = (s.scoreAcre % 1024, s.beat, s.reg F.BEAT_STATUS_STRETCHES) ∧
    s.holdCheck = if (List.range 64).any (fun c => !s.pastHold c) then (s.advanceTo n).holdRound w else s.advanceTo n := by
  refine ⟨s.reg F.BEAT_NEXT_BOUNDARY - s.reg F.BEAT_LEAD_HOLD_LEAD,
    sealBits s.beat (2 ^ 5) 0 0 s.scoreAcre (s.reg F.BEAT_STATUS_STRETCHES) 2, ?_, ?_⟩
  · obtain ⟨hacre, hbeat, hk⟩ := sealBits_fields s.beat (2 ^ 5) 0 0 s.scoreAcre (s.reg F.BEAT_STATUS_STRETCHES) 2
    have hbeatFits : s.beat % 2 ^ 48 = s.beat := Nat.mod_eq_of_lt (s.reg_lt F.BEAT_NUM_NUM 0)
    have hkFits : s.reg F.BEAT_STATUS_STRETCHES % 16 = s.reg F.BEAT_STATUS_STRETCHES :=
      Nat.mod_eq_of_lt (s.reg_lt F.BEAT_STATUS_STRETCHES 0)
    rw [holdPair, hacre, hbeat, hk, hbeatFits, hkFits]
  · generalize hn : s.reg F.BEAT_NEXT_BOUNDARY - s.reg F.BEAT_LEAD_HOLD_LEAD = n
    have hbeat : (s.advanceTo n).beat = s.beat := s.advanceTo_reg_apart n (by decide) (by decide)
    have hstretch : (s.advanceTo n).reg F.BEAT_STATUS_STRETCHES = s.reg F.BEAT_STATUS_STRETCHES := s.advanceTo_reg_apart n (by decide) (by decide)
    have hacre : (s.advanceTo n).scoreAcre = s.scoreAcre := s.advanceTo_scoreAcre n
    have hopen : (s.advanceTo n).holdOpen s.beat = true := by
      rw [← hbeat]
      refine State.holdOpen_of ?_ ?_ ?_
      · rw [s.advanceTo_reg_apart n (by decide) (by decide), hrun]
      · rw [s.advanceTo_beatU, hgoing]
      · rw [s.advanceTo_beatU, hdue]
    have hpast : (List.range 64).any (fun c => !(s.advanceTo n).pastHold c) = (List.range 64).any (fun c => !s.pastHold c) := by
      rw [Bool.eq_iff_iff, List.any_eq_true, List.any_eq_true]
      refine exists_congr fun c => and_congr_right fun hc => ?_
      rw [s.advanceTo_pastHold n (List.mem_range.mp hc)]
    have hrunning : s.running = true := decide_eq_true hrun
    rw [State.holdCheck, if_pos hrunning, hn]
    simp only [hbeat, hopen, Bool.true_and, hpast, hstretch, hacre]

theorem exec_holdCheck (s : State) : exec .holdCheck s = .next s.holdCheck := rfl

theorem exec_holdRound (k : Came) (cseq : BitVec 8) (w : BitVec 128) (s : State) :
    exec (.holdRound k cseq w) s = .next (if (s.takeBlock k.link tyHoldr k.crc.toNat cseq.toNat w.toNat).1 then
      (s.takeBlock k.link tyHoldr k.crc.toNat cseq.toNat w.toNat).2.holdIn k.link w.toNat
      else (s.takeBlock k.link tyHoldr k.crc.toNat cseq.toNat w.toNat).2) := rfl

/-- A HOLD round from a child counts where it is of another Acre or of the running Beat. -/
theorem State.holdIn_counts {s : State} {k w : Nat} (hchild : k / 2 ∈ s.childPorts)
    (hopen : s.ownAcre (bitsOf w 35 26) = true → s.holdOpen (bitsOf w 127 80) = true) : s.holdIn k w = s.holdRound w := by
  rw [State.holdIn, if_neg (not_not_intro hchild)]
  split
  · rfl
  · rename_i hown
    rw [if_pos (hopen (by simpa using hown))]

/-- Settles O18: the pair of a HOLD round is kept once below the root, and its block goes up by links alone. -/
theorem holdIsRaisedAndGoesUpOnce : Obligations.HoldIsRaisedAndGoesUpOnce := by
  refine ⟨?_, ?_⟩
  · intro s hrun hroot hgoing hdue
    obtain ⟨n, w, hpair, hcheck⟩ := State.holdCheck_cases hrun hgoing hdue
    refine ⟨?_, ?_⟩
    · rintro ⟨c, hc, hlate⟩ hnew
      have hany : (List.range 64).any (fun c => !s.pastHold c) = true :=
        List.any_eq_true.mpr ⟨c, List.mem_range.mpr hc, by rw [hlate]; rfl⟩
      rw [if_pos hany] at hcheck
      have hrootNow : (s.advanceTo n).reg F.GONG_CFG_ROOT = 0 := (s.advanceTo_reg_apart n (by decide) (by decide)).trans hroot
      obtain ⟨hsent, -⟩ := State.holdRound_below hrootNow w
      rw [← hcheck, State.advanceTo_beatU, hpair, BeatUnit.holdKept, if_neg hnew] at hsent
      refine ⟨s.holdCheck, exec_holdCheck s, ?_, ?_, ?_, ?_⟩
      · exact congrArg State.beatU hsent
      · exact (s.advanceTo_regsKept n (by decide)).congr ((congrArg State.regs hsent).trans rfl)
      · exact State.memKept_of_mem ((congrArg State.mem hsent).trans (s.advanceTo_mem n))
      · have htime := s.advanceTo_frame n
        generalize s.advanceTo n = x at htime hsent
        rw [htime] at hsent
        generalize s.holdCheck = t at hsent ⊢
        rw [hsent]
        rfl
    · intro hpast
      have hnone : ¬ (List.range 64).any (fun c => !s.pastHold c) = true := by
        simpa using hpast
      rw [if_neg hnone] at hcheck
      exact ⟨s.advanceTo n, (exec_holdCheck s).trans (congrArg Host.Outcome.next hcheck), s.advanceTo_frame n,
        s.advanceTo_regsKept n (by decide), State.memKept_of_mem (s.advanceTo_mem n)⟩
  · intro k crc cseq w s hstate hopen hcrc hnext hroot hchild hown
    obtain ⟨ls, o, htaken⟩ := s.blockTaken_eq k
    have hround : (s.blockTaken k).holdIn k w.toNat = (s.blockTaken k).holdRound w.toNat := by
      refine State.holdIn_counts (by rw [htaken]; exact hchild) fun hmine => ?_
      have hmineThen : s.ownAcre (bitsOf w.toNat 35 26) = true := by
        rw [htaken] at hmine
        exact hmine
      obtain ⟨hrun, hbeat, hgoing, hdue⟩ := hown hmineThen
      rw [htaken, hbeat]
      exact State.holdOpen_of (s := (s.putLinks ls).putOut o) hrun hgoing hdue
    obtain ⟨hsent, hcnext⟩ := State.holdRound_below (s := s.blockTaken k) (by rw [htaken]; exact hroot) w.toNat
    have hbeatU : (s.blockTaken k).beatU = s.beatU := by rw [htaken]; rfl
    have hnow : (s.blockTaken k).holdRound w.toNat = ((s.putBeatU (s.beatU.holdKept (holdPair w.toNat))).putLinks
        ((s.blockTaken k).holdRound w.toNat).links).putOut ((s.blockTaken k).holdRound w.toNat).out := by
      refine hsent.trans ?_
      rw [hbeatU, htaken]
      rfl
    refine ⟨(s.blockTaken k).holdRound w.toNat, ?_, ?_, ?_, congrArg State.beatU hnow, ?_⟩
    · rw [exec_holdRound, State.takeBlock_good hstate hopen hcrc hnext, if_pos rfl, hround]
    · generalize (s.blockTaken k).holdRound w.toNat = t at hnow
      rw [hnow]
      rfl
    · exact State.memKept_of_mem ((congrArg State.mem hnow).trans rfl)
    · rw [hcnext k]
      exact (s.blockTaken_cnext k).trans (by rw [hnext])

/-! ### The probe round of a load (02 R88; 07 R260) -/

/-- The children of an Acre: the child ports of the Gong tree and the records of the active route bank. -/
theorem State.acreChildren_congr {s t : State} (hlo : t.reg F.GONG_CHILD_LO_CHILD = s.reg F.GONG_CHILD_LO_CHILD)
    (hhi : t.reg F.GONG_CHILD_HI_CHILD = s.reg F.GONG_CHILD_HI_CHILD) (hroute : t.route = s.route)
    (hactive : t.reg F.ROUTE_BANK_ACTIVE = s.reg F.ROUTE_BANK_ACTIVE) (a : Nat) : t.acreChildren a = s.acreChildren a := by
  unfold State.acreChildren State.childPorts State.portRec State.bank
  rw [hlo, hhi, hroute, hactive]

theorem State.probeAcre_congr {s t : State} (hscore : t.score = s.score) (hroute : t.route = s.route)
    (hactive : t.reg F.ROUTE_BANK_ACTIVE = s.reg F.ROUTE_BANK_ACTIVE) : t.probeAcre = s.probeAcre := by
  unfold State.probeAcre State.acre State.bank
  rw [hscore, hroute, hactive]

/-- The probe round goes on while this device has not joined or a child of the Acre has not reported. -/
theorem State.probeUp_waits {s : State} (h : s.probe.joined = false ∨ ∃ p ∈ s.acreChildren s.probeAcre, p ∉ s.probe.heard) :
    s.probeUp = s := by
  refine if_neg ?_
  rw [Bool.and_eq_true, Bool.and_eq_true, List.all_eq_true]
  rintro ⟨⟨hjoined, -⟩, hall⟩
  obtain hout | ⟨p, hp, hsilent⟩ := h
  · rw [hjoined] at hout
    exact absurd hout (by decide)
  · exact hsilent (of_decide_eq_true (hall p hp))

/-- SUBTREE_CK and the probe unit after a child's report. -/
def State.reported (s : State) (p v : Nat) : State :=
  (s.setReg F.GONG_WAIT_SUBTREE_CK (min (max (s.reg F.GONG_WAIT_SUBTREE_CK) (if s.probe.joined then s.toll - s.probe.since else 0)) 0xFFFFFF)).putProbe
    { s.probe with heard := keyAdd s.probe.heard p, value := max s.probe.value v }

theorem State.probeIn_report {s : State} {k : Nat} (hchild : k / 2 ∈ s.childPorts) (hsome : s.probe.heard ≠ []) (v : Nat) :
    s.probeIn k false s.probeAcre v = (s.reported (k / 2) v).probeUp := by
  have hheard : ¬ s.probe.heard.isEmpty = true := fun h => hsome (List.isEmpty_iff.mp h)
  rw [State.probeIn, if_neg Bool.false_ne_true, if_neg (not_not_intro hchild), if_neg (not_not_intro rfl)]
  simp only [State.setReg_probe, hheard]
  rfl

/-- A report that does not end the round leaves SUBTREE_CK and the probe unit changed. -/
theorem State.reported_waits {s : State} {p : Nat} (h : s.probe.joined = false ∨ ∃ q ∈ s.acreChildren s.probeAcre, q ≠ p ∧ q ∉ s.probe.heard)
    (v : Nat) : (s.reported p v).probeUp = s.reported p v := by
  refine State.probeUp_waits (h.imp id ?_)
  rintro ⟨q, hq, hother, hsilent⟩
  have hacre : (s.reported p v).probeAcre = s.probeAcre :=
    State.probeAcre_congr rfl rfl (State.reg_setReg_apart s _ (by decide) (by decide) (by decide))
  have hchildren : (s.reported p v).acreChildren s.probeAcre = s.acreChildren s.probeAcre :=
    State.acreChildren_congr (State.reg_setReg_apart s _ (by decide) (by decide) (by decide))
      (State.reg_setReg_apart s _ (by decide) (by decide) (by decide)) rfl (State.reg_setReg_apart s _ (by decide) (by decide) (by decide)) _
  refine ⟨q, by rw [hacre, hchildren]; exact hq, fun hmem => ?_⟩
  obtain hsame | hheard := mem_keyAdd.mp hmem
  · exact hother hsame
  · exact hsilent hheard

theorem exec_probeRound (k : Came) (cseq : BitVec 8) (down : Bool) (acre : BitVec 10) (v : ProbeVal) (s : State) :
    exec (.probeRound k cseq down acre v) s = .next
      (if (s.takeBlock k.link tyProbe k.crc.toNat cseq.toNat (probeBody down acre.toNat v.ck.toNat v.both.toNat)).1 then
        (s.takeBlock k.link tyProbe k.crc.toNat cseq.toNat (probeBody down acre.toNat v.ck.toNat v.both.toNat)).2.probeIn k.link down
          acre.toNat v.ck.toNat
      else (s.takeBlock k.link tyProbe k.crc.toNat cseq.toNat (probeBody down acre.toNat v.ck.toNat v.both.toNat)).2) := rfl

theorem exec_probeTimeout (s : State) : exec .probeTimeout s = .next s.probeTimeout := rfl

/-- The load's end with a code. -/
theorem State.failLoad_shows (s : State) (d : Desc) {code : Nat} (hcode : code < 2 ^ 16) : (s.failLoad d code).score.load = none ∧
    (s.failLoad d code).probe.joined = false ∧ (s.failLoad d code).reg F.SEQ_SCORE_LAST_CODE = code ∧ (s.failLoad d code).mem = s.mem ∧
    s.regsKept (s.failLoad d code) [F.SEQ_SCORE_LAST_CODE.key 0, F.ACV_RSTAT_INFLIGHT.key d.ring.val] ∧
    ∃ e, (s.failLoad d code).comps = s.comps ++ [e] ∧ e.code = code ∧ e.id = d.id.toNat := by
  refine ⟨rfl, rfl, ?_, rfl, ?_, ⟨_, rfl, rfl, rfl⟩⟩
  · rw [State.failLoad, State.complete_eq, State.reg_setReg_apart _ _ (by decide) (by decide) d.ring.isLt]
    exact State.reg_setReg_lt _ _ hcode
  · have hplain : s.regsKept ((s.putScore { s.score with load := none }).putProbe { s.probe with joined := false, up := false, heard := [] })
        [F.SEQ_SCORE_LAST_CODE.key 0, F.ACV_RSTAT_INFLIGHT.key d.ring.val] := (s.regsKept_refl _).congr rfl
    exact (hplain.setReg (by simp) code).complete (by simp) code 0 0

/-- The load's end when its probe round has not completed in time. -/
def State.loadTimedOut (s : State) (n : Nat) (l : Load) : State := ((s.advanceTo n).failLoad l.desc 0x4A).setReg F.SEQ_SCORE_STATE l.back

theorem State.loadTimedOut_shows (s : State) (n : Nat) (l : Load) : (s.loadTimedOut n l).score.load = none ∧
    (s.loadTimedOut n l).probe.joined = false ∧ (s.loadTimedOut n l).reg F.SEQ_SCORE_LAST_CODE = 0x4A ∧
    (s.loadTimedOut n l).reg F.SEQ_SCORE_STATE = l.back % 2 ^ F.SEQ_SCORE_STATE.width ∧ s.memKept (s.loadTimedOut n l) ∧
    s.regsKept (s.loadTimedOut n l) [F.TOLL_COUNT_COUNT.key 0, F.SEQ_SCORE_LAST_CODE.key 0, F.SEQ_SCORE_STATE.key 0,
      F.ACV_RSTAT_INFLIGHT.key l.desc.ring.val] ∧
    ∃ e, (s.loadTimedOut n l).comps = s.comps ++ [e] ∧ e.code = 0x4A ∧ e.id = l.desc.id.toNat := by
  obtain ⟨hnone, hout, hlast, hmem, hkept, e, hcomps, hcode, hid⟩ := (s.advanceTo n).failLoad_shows l.desc (code := 0x4A) (by decide)
  refine ⟨hnone, hout, ?_, ?_, ?_, ?_, e, ?_, hcode, hid⟩
  · rw [State.loadTimedOut, State.reg_setReg_apart _ _ (by decide) (by decide) (by decide), hlast]
  · rw [State.loadTimedOut, State.reg_setReg_same]
  · exact State.memKept_of_mem (hmem.trans (s.advanceTo_mem n))
  · refine State.regsKept.setReg (fun g m hg => ?_) (by simp) _
    simp only [List.mem_cons, not_or] at hg
    obtain ⟨htoll, hlastKey, -, hring, -⟩ := hg
    exact (hkept g m (by simp [hlastKey, hring])).trans (s.advanceTo_reg n htoll)
  · exact hcomps.trans (by rw [s.advanceTo_comps])

theorem State.probeTimeout_ends {s : State} {l : Load} (hload : s.score.load = some l) (hjoined : s.probe.joined = true) :
    ∃ n, s.probeTimeout = s.loadTimedOut n l := by
  refine ⟨s.probe.since + 2500000000, ?_⟩
  rw [State.probeTimeout, hload]
  exact if_pos hjoined

theorem State.reported_regsKept (s : State) (p v : Nat) : s.regsKept (s.reported p v) [F.GONG_WAIT_SUBTREE_CK.key 0] :=
  State.regsKept.congr ((s.regsKept_refl _).setReg (List.mem_singleton_self _) _) rfl

/-- Settles O19: a report adds to the probe unit alone while the round waits; a load that times out fails with its code. -/
theorem probeReportsAndTimeout : Obligations.ProbeReportsAndTimeout := by
  intro s
  refine ⟨?_, ?_⟩
  · intro k crc cseq acre v both hstate hopen hcrc hnext hchild hacre hwait hsome
    obtain ⟨ls, o, htaken⟩ := s.blockTaken_eq k
    have hround : (s.blockTaken k).probeIn k false acre.toNat v.toNat = ((s.putLinks ls).putOut o).reported (k.val / 2) v.toNat := by
      rw [htaken, hacre]
      exact (State.probeIn_report (s := (s.putLinks ls).putOut o) hchild hsome v.toNat).trans (State.reported_waits (s := (s.putLinks ls).putOut o) hwait v.toNat)
    refine ⟨((s.putLinks ls).putOut o).reported (k.val / 2) v.toNat, ?_, rfl, ?_, ?_, ?_, ?_, ?_, ?_⟩
    · rw [exec_probeRound, State.takeBlock_good hstate hopen hcrc hnext, if_pos rfl, hround]
    · exact mem_keyAdd.mpr (Or.inl rfl)
    · exact fun p hp => mem_keyAdd.mpr (Or.inr hp)
    · exact State.reg_setReg_lt _ _ (lt_of_le_of_lt (min_le_right _ _) (by decide))
    · exact (((s.putLinks ls).putOut o).reported_regsKept _ _).of_regs rfl
    · exact State.memKept_of_mem rfl
    · rfl
  · intro l hload hjoined
    obtain ⟨n, hends⟩ := State.probeTimeout_ends hload hjoined
    exact ⟨s.loadTimedOut n l, (exec_probeTimeout s).trans (congrArg Host.Outcome.next hends), s.loadTimedOut_shows n l⟩

end Sys2Proof.Machine
end

section
/-!
PROOFS. Seal rounds: the statement SealsVouchCombineAndClose.
-/
namespace Sys2Proof.Machine

/-! ### Rounds (02 R81, R84) -/

theorem exec_gongVouch (b : BitVec 48) (s : State) :
    exec (.gongVouch b) s = .next (s.putBeatU { s.beatU with vouched := keyAdd s.beatU.vouched b.toNat }) := rfl

theorem exec_sealReceived (k : Fin 256) (crc : BitVec 32) (cseq : BitVec 8) (w : BitVec 128) (s : State) :
    exec (.sealReceived k crc cseq w) s = .next (if (s.takeBlock k.val tySeal crc.toNat cseq.toNat w.toNat).1 then
      (s.takeBlock k.val tySeal crc.toNat cseq.toNat w.toNat).2.sealIn k.val w.toNat
      else (s.takeBlock k.val tySeal crc.toNat cseq.toNat w.toNat).2) := rfl

theorem exec_sealWaitExpiry (s : State) : exec .sealWaitExpiry s = .next s.sealWait := rfl

/-- A good seal block on a READY link is looked at after its ACK has left. -/
theorem State.exec_sealReceived_taken {s : State} {k : Fin 256} {crc : BitVec 32} {cseq : BitVec 8} {w : BitVec 128}
    (hstate : s.reg F.PORT_LINK_STATE k = 6) (hopen : s.pins.portsStopped = false)
    (hcrc : crc.toNat = blockCrc tySeal cseq.toNat w.toNat) (hnext : cseq.toNat = (s.link k).cnext) :
    exec (.sealReceived k crc cseq w) s = .next ((s.blockTaken k).sealIn k w.toNat) := by
  rw [exec_sealReceived, State.takeBlock_good hstate hopen hcrc hnext, if_pos rfl]

/-- A round that is not in progress takes its place behind those that are. -/
theorem State.putRound_new {s : State} {r : Round} (h : s.roundOf r.acre r.beat = none) :
    s.putRound r = s.putBeatU { s.beatU with rounds := s.beatU.rounds ++ [r] } := by
  have hall : s.beatU.rounds.filter (fun x => !x.isOf r.acre r.beat) = s.beatU.rounds := by
    refine List.filter_eq_self.mpr fun x hx => ?_
    simpa using List.find?_eq_none.mp h x hx
  rw [State.putRound, hall]

/-- A round stays open while a seal that it waits for is out. -/
theorem State.tryRound_open {s : State} {r : Round} (h : r.own = false ∨ ∃ p ∈ s.roundPorts r, p ∉ r.heard) : s.tryRound r = s := by
  refine if_neg ?_
  rw [Bool.and_eq_true, List.all_eq_true]
  rintro ⟨hown, hall⟩
  obtain hout | ⟨p, hp, hsilent⟩ := h
  · rw [hown] at hout
    exact absurd hout (by decide)
  · exact hsilent (of_decide_eq_true (hall p hp))

/-- The round that a first seal of its Beat makes, from the child at port `p`. -/
def roundWith (r : Round) (p w : Nat) : Round := { r.merge w with heard := [p] }

/-- What a round with one seal in it shows of the seal. -/
theorem roundWith_shows {r : Round} (p w : Nat) (hflags : r.flags = 0) (hcause : r.cause = 0) (hadj : r.adj = 0) (hcnt : r.adjCnt = 0) :
    (roundWith r p w).flags = bitsOf w 7 0 ∧ (roundWith r p w).cause = bitsOf w 79 64 ∧
    (roundWith r p w).adj = sxt 24 (bitsOf w 63 40) ∧ (roundWith r p w).adjCnt = min 2 (bitsOf w 39 38) := by
  simp [roundWith, Round.merge, hflags, hcause, hadj, hcnt]

/-! ### The first seal of the running Beat (02 R82, R84) -/

theorem State.sealIn_first {s : State} {k w : Nat} (hown : s.ownAcre (bitsOf w 35 26) = true) (hchild : k / 2 ∈ s.acreChildren (bitsOf w 35 26))
    (hnone : s.roundOf (bitsOf w 35 26) (bitsOf w 127 80) = none) (hrun : s.reg F.BEAT_STATUS_STATE = 2) (hbeat : bitsOf w 127 80 = s.beat)
    (hdrain : s.beatU.drain = false) (hgoing : s.beatU.abandoned = false) :
    s.sealIn k w = s.putRound (roundWith (Round.empty (bitsOf w 35 26) (bitsOf w 127 80)) (k / 2) w) := by
  have hrunning : s.running = true := decide_eq_true hrun
  have hempty : s.roundFor (bitsOf w 35 26) (bitsOf w 127 80) = Round.empty (bitsOf w 35 26) (bitsOf w 127 80) := by
    rw [State.roundFor, hnone]
    rfl
  have hcount : ((s.roundOf (bitsOf w 35 26) (bitsOf w 127 80)).isSome ||
      (s.running && decide (bitsOf w 127 80 = s.beat) && !s.beatU.drain && !s.beatU.abandoned)) = true := by
    rw [hnone, hrunning, hdrain, hgoing, decide_eq_true hbeat]
    rfl
  have hin : s.sealIn k w = (s.putRound (roundWith (Round.empty (bitsOf w 35 26) (bitsOf w 127 80)) (k / 2) w)).tryRound
      (roundWith (Round.empty (bitsOf w 35 26) (bitsOf w 127 80)) (k / 2) w) := by
    rw [State.sealIn, hown, if_neg (by decide), if_neg (not_not_intro hchild), if_pos hcount]
    simp only [hempty]
    exact if_neg (List.not_mem_nil)
  rw [hin, State.tryRound_open (Or.inl rfl)]

/-! ### A seal of another Acre at the root (02 R81, R86) -/

theorem bitsOf_gongBits_acre (beat cause : Nat) (adj : Int) (k acre tick verdict : Nat) :
    bitsOf (gongBits beat cause adj k acre tick verdict) 35 26 = acre % 1024 := by
  have hadj := toField_lt 24 adj
  rw [bitsOf_eq_div_mod]
  unfold gongBits
  generalize toField 24 adj = a at hadj ⊢
  omega

/-- The round that the first seal of a Beat of another Acre opens at the root. -/
def State.rootRound (s : State) (a b : Nat) : Round :=
  { Round.empty a b with boundary := s.toll, own := true, run := (s.treeBeat a b).run, k := (s.treeBeat a b).k }

/-- That round with the seal from port `p` in it. -/
def State.rootFirst (s : State) (p w : Nat) : Round := roundWith (s.rootRound (bitsOf w 35 26) (bitsOf w 127 80)) p w

theorem State.rootFirst_shows (s : State) (p w : Nat) : (s.rootFirst p w).flags = bitsOf w 7 0 ∧ (s.rootFirst p w).cause = bitsOf w 79 64 ∧
    (s.rootFirst p w).adj = sxt 24 (bitsOf w 63 40) ∧ (s.rootFirst p w).adjCnt = min 2 (bitsOf w 39 38) :=
  roundWith_shows p w rfl rfl rfl rfl

/-- The root once a seal of another Acre's later Beat has come: it forgets the Acre's Beats that are done. -/
def State.doneForgotten (s : State) (a : Nat) : State :=
  s.putBeatU { s.beatU with trees := s.beatU.trees.filter (fun y => !(decide (y.acre = a) && y.done)) }

/-- The root with that round in hand. -/
def State.rootOpened (s : State) (p w : Nat) : State :=
  (s.doneForgotten (bitsOf w 35 26)).putBeatU
    { (s.doneForgotten (bitsOf w 35 26)).beatU with rounds := s.beatU.rounds ++ [s.rootFirst p w] }

theorem State.sealIn_root {s : State} {k w : Nat} (hroot : s.reg F.GONG_CFG_ROOT = 1) (hown : s.ownAcre (bitsOf w 35 26) = false)
    (hchild : k / 2 ∈ s.childPorts) (hdone : (s.treeBeat (bitsOf w 35 26) (bitsOf w 127 80)).done = false)
    (hnone : s.roundOf (bitsOf w 35 26) (bitsOf w 127 80) = none) :
    s.sealIn k w = (s.rootOpened (k / 2) w).tryRound (s.rootFirst (k / 2) w) := by
  have hisRoot : s.isRoot = true := decide_eq_true hroot
  have hput : (s.doneForgotten (bitsOf w 35 26)).putRound (s.rootFirst (k / 2) w) = s.rootOpened (k / 2) w := State.putRound_new hnone
  have hseal : s.rootSeal (k / 2) w =
      ((s.doneForgotten (bitsOf w 35 26)).putRound (s.rootFirst (k / 2) w)).tryRound (s.rootFirst (k / 2) w) := by
    rw [State.rootSeal, hdone, if_neg (by decide), hnone]
    rfl
  rw [State.sealIn, hown, if_pos (by decide), if_neg (not_not_intro hchild), if_pos hisRoot, hseal, hput]

theorem State.treeVerdict_frame (s : State) (a b v : Nat) : s.treeVerdict a b v = s.putBeatU (s.treeVerdict a b v).beatU := by
  unfold State.treeVerdict
  dsimp only
  split
  · rfl
  · split <;> rfl

theorem State.forgetHolds_frame (s : State) (a b v : Nat) : s.forgetHolds a b v = s.putBeatU (s.forgetHolds a b v).beatU := by
  unfold State.forgetHolds
  split <;> rfl

/-- A round of another Acre with every seal in closes with its verdict (02 R86). -/
theorem State.closeRound_foreign {s : State} {r : Round} (hown : s.ownAcre r.acre = false) (hall : ∀ p ∈ s.treePorts r.acre, p ∈ r.heard) :
    s.closeRound r = (s.dropRound r).giveVerdict r r.cause r.flags := by
  have hports : s.roundPorts r = s.treePorts r.acre := by
    rw [State.roundPorts, hown]
    rfl
  have hin : (s.roundPorts r).all (fun p => decide (p ∈ r.heard)) = true := by
    rw [hports]
    simpa using hall
  have hdropped : ¬ (s.dropRound r).ownAcre r.acre = true := by
    have hsame : (s.dropRound r).ownAcre r.acre = s.ownAcre r.acre := rfl
    rw [hsame, hown]
    decide
  simp only [State.closeRound, hin, Bool.not_true, Bool.false_eq_true, if_false, Nat.or_zero, if_neg hdropped]

/-- The root's word for a round of another Acre. -/
def State.foreignWord (s : State) (r : Round) (cause flags : Nat) : Nat :=
  gongBits r.beat (cause ||| (verdictOf flags r.run r.adjCnt r.adj).2.1) (verdictOf flags r.run r.adjCnt r.adj).2.2 r.k r.acre
    (s.toll % 2 ^ 22) (verdictOf flags r.run r.adjCnt r.adj).1

theorem State.giveVerdict_eq {s : State} {r : Round} (hown : ¬ s.ownAcre r.acre = true) (cause flags : Nat) : s.giveVerdict r cause flags =
    ((s.treeVerdict r.acre r.beat (verdictOf flags r.run r.adjCnt r.adj).1).sendPorts
      (s.treeVerdict r.acre r.beat (verdictOf flags r.run r.adjCnt r.adj).1).childPorts tyGong (s.foreignWord r cause flags)).applyWord
      (s.foreignWord r cause flags) := by
  simp only [State.giveVerdict, if_neg hown, State.foreignWord]

/-- The verdict goes down with the root's records of the Acre changed, and links besides. -/
theorem State.giveVerdict_sent {s : State} {r : Round} (hown : ¬ s.ownAcre r.acre = true) (cause flags : Nat) :
    ∃ x : State, x = ((s.putBeatU x.beatU).putLinks x.links).putOut x.out ∧
      s.giveVerdict r cause flags = x.applyWord (s.foreignWord r cause flags) := by
  rw [State.giveVerdict_eq hown]
  generalize (verdictOf flags r.run r.adjCnt r.adj).1 = v
  generalize s.foreignWord r cause flags = w
  refine ⟨(s.treeVerdict r.acre r.beat v).sendPorts (s.treeVerdict r.acre r.beat v).childPorts tyGong w, ?_, rfl⟩
  obtain ⟨hsent, -⟩ := (s.treeVerdict r.acre r.beat v).sendPorts_sentOnly (s.treeVerdict r.acre r.beat v).childPorts tyGong w
  have htree := s.treeVerdict_frame r.acre r.beat v
  generalize s.treeVerdict r.acre r.beat v = y at hsent htree ⊢
  generalize y.sendPorts y.childPorts tyGong w = x at hsent ⊢
  rw [hsent, htree]
  rfl

/-- A word of another Acre shows in GONG_WORD, and no byte of memory changes. -/
theorem State.applyWord_foreign_shows {s : State} {w : Nat} (hown : s.ownAcre (bitsOf w 35 26) = false) (hfit : w < 2 ^ 128) :
    (s.applyWord w).reg F.GONG_WORD_HI_WORD * 2 ^ 64 + (s.applyWord w).reg F.GONG_WORD_LO_WORD = w ∧ (s.applyWord w).mem = s.mem := by
  obtain ⟨hlo, hhi, -⟩ := s.wordShown_shows hfit
  have hforget := (s.wordShown w).forgetHolds_frame (bitsOf w 35 26) (bitsOf w 127 80) (bitsOf w 3 0)
  rw [State.applyWord_foreign hown]
  generalize (s.wordShown w).forgetHolds (bitsOf w 35 26) (bitsOf w 127 80) (bitsOf w 3 0) = y at hforget ⊢
  have hregs : y.regs = (s.wordShown w).regs := (congrArg State.regs hforget).trans rfl
  have hmem : y.mem = (s.wordShown w).mem := (congrArg State.mem hforget).trans rfl
  refine ⟨?_, ?_⟩
  · rw [State.reg_congr hregs, State.reg_congr hregs, hlo, hhi]
    exact Nat.div_add_mod' w (2 ^ 64)
  · rw [hmem, State.wordShown_frame]
    rfl

theorem State.rootOpened_roundPorts (s : State) (p : Nat) {w : Nat} (hown : s.ownAcre (bitsOf w 35 26) = false) :
    (s.rootOpened p w).roundPorts (s.rootFirst p w) = s.treePorts (bitsOf w 35 26) := by
  have hsame : (s.rootOpened p w).ownAcre (s.rootFirst p w).acre = false := hown
  rw [State.roundPorts, hsame]
  rfl

/-- The word that such a round closes with. -/
def State.rootWord (s : State) (p w : Nat) : Nat :=
  ((s.rootOpened p w).dropRound (s.rootFirst p w)).foreignWord
    (s.rootFirst p w) (bitsOf w 79 64) (bitsOf w 7 0)

theorem State.rootWord_eq (s : State) (p w : Nat) : s.rootWord p w =
    (let x := s.treeBeat (bitsOf w 35 26) (bitsOf w 127 80)
     let v := verdictOf (bitsOf w 7 0) x.run (min 2 (bitsOf w 39 38)) (sxt 24 (bitsOf w 63 40))
     gongBits (bitsOf w 127 80) (bitsOf w 79 64 ||| v.2.1) v.2.2 x.k (bitsOf w 35 26) (s.toll % 2 ^ 22) v.1) := by
  obtain ⟨-, -, hadj, hcnt⟩ := s.rootFirst_shows p w
  rw [State.rootWord, State.foreignWord, hadj, hcnt]
  rfl

theorem State.rootWord_acre (s : State) (p w : Nat) : bitsOf (s.rootWord p w) 35 26 = bitsOf w 35 26 := by
  have hlt : bitsOf w 35 26 < 1024 := bitsOf_lt w 35 26
  rw [State.rootWord_eq, bitsOf_gongBits_acre, Nat.mod_eq_of_lt hlt]

theorem State.rootWord_lt (s : State) (p w : Nat) : s.rootWord p w < 2 ^ 128 := by
  rw [State.rootWord_eq]
  exact gongBits_lt ..

/-- The verdict of such a round shows in GONG_WORD (02 R86). -/
theorem State.giveVerdict_word {s t : State} {r : Round} {cause flags : Nat} (hown : s.ownAcre r.acre = false)
    (ht : t = s.giveVerdict r cause flags) (hacre : bitsOf (s.foreignWord r cause flags) 35 26 = r.acre)
    (hfit : s.foreignWord r cause flags < 2 ^ 128) :
    t.reg F.GONG_WORD_HI_WORD * 2 ^ 64 + t.reg F.GONG_WORD_LO_WORD = s.foreignWord r cause flags ∧ t.mem = s.mem := by
  obtain ⟨x, hx, hgive⟩ := State.giveVerdict_sent (s := s) (r := r) (by rw [hown]; decide) cause flags
  have hregs : x.regs = s.regs := (congrArg State.regs hx).trans rfl
  have hscore : x.score = s.score := (congrArg State.score hx).trans rfl
  have hroute : x.route = s.route := (congrArg State.route hx).trans rfl
  have hmem : x.mem = s.mem := (congrArg State.mem hx).trans rfl
  have hforeign : x.ownAcre (bitsOf (s.foreignWord r cause flags) 35 26) = false := by
    rw [hacre, State.ownAcre_congr hscore hroute (State.reg_congr hregs _ _), hown]
  obtain ⟨hshow, hmemShown⟩ := State.applyWord_foreign_shows hforeign hfit
  rw [ht, hgive]
  exact ⟨hshow, hmemShown.trans hmem⟩

theorem State.rootOpened_word {s t : State} {p w : Nat} (hown : s.ownAcre (bitsOf w 35 26) = false)
    (ht : t = ((s.rootOpened p w).dropRound (s.rootFirst p w)).giveVerdict (s.rootFirst p w) (bitsOf w 79 64) (bitsOf w 7 0)) :
    t.reg F.GONG_WORD_HI_WORD * 2 ^ 64 + t.reg F.GONG_WORD_LO_WORD = s.rootWord p w ∧ t.mem = s.mem := by
  have hout : ((s.rootOpened p w).dropRound (s.rootFirst p w)).ownAcre (s.rootFirst p w).acre = false :=
    (State.ownAcre_congr rfl rfl rfl _).trans hown
  exact State.giveVerdict_word hout ht (s.rootWord_acre p w) (s.rootWord_lt p w)

/-- With another child that leads to the Acre, the round stays open. -/
theorem State.rootOpened_waits {s : State} {p w : Nat} (hown : s.ownAcre (bitsOf w 35 26) = false)
    (hother : ∃ q ∈ s.treePorts (bitsOf w 35 26), q ≠ p) : (s.rootOpened p w).tryRound (s.rootFirst p w) = s.rootOpened p w := by
  obtain ⟨q, hq, hne⟩ := hother
  refine State.tryRound_open (Or.inr ⟨q, ?_, fun h => hne (List.mem_singleton.mp h)⟩)
  rw [s.rootOpened_roundPorts p hown]
  exact hq

/-- With no other child that leads to the Acre, its first seal at the root closes the round. -/
theorem State.rootOpened_closes {s : State} {p w : Nat} (hown : s.ownAcre (bitsOf w 35 26) = false)
    (hall : ∀ q ∈ s.treePorts (bitsOf w 35 26), q = p) :
    (s.rootOpened p w).tryRound (s.rootFirst p w) =
      ((s.rootOpened p w).dropRound (s.rootFirst p w)).giveVerdict
        (s.rootFirst p w) (bitsOf w 79 64) (bitsOf w 7 0) := by
  obtain ⟨hflags, hcause, -, -⟩ := s.rootFirst_shows p w
  have hheard : ∀ q ∈ (s.rootOpened p w).treePorts (s.rootFirst p w).acre,
      q ∈ (s.rootFirst p w).heard := fun q hq => List.mem_singleton.mpr (hall q hq)
  have hclose := State.closeRound_foreign (s := s.rootOpened p w)
    (r := s.rootFirst p w) hown hheard
  rw [hflags, hcause] at hclose
  have hports := s.rootOpened_roundPorts p hown
  have hready : ((s.rootFirst p w).own &&
      ((s.rootOpened p w).roundPorts (s.rootFirst p w)).all
        (fun q => decide (q ∈ (s.rootFirst p w).heard))) = true := by
    rw [hports, Bool.and_eq_true, List.all_eq_true]
    exact ⟨rfl, fun q hq => decide_eq_true (hheard q hq)⟩
  rw [State.tryRound, if_pos hready, hclose]

/-! ### SEAL_WAIT (02 R84) -/

/-- The report that a child's seal is missing. -/
def State.missingRep (s : State) (acre : Nat) : Rep :=
  { (repOf (s.msg 0x2002 1 5 acre 7 none)).acted with action := (if s.running then 0 else 0 / 4 * 4) ||| kindAction 0x2002 s.running }

theorem State.tell_missing {s : State} (hload : s.score.load = none) (acre : Nat) :
    s.tell 0x2002 1 5 acre 7 none = s.toHub (s.missingRep acre) := by
  have hidle : s.loadHit (s.missingRep acre).msg.cls = s := s.loadHit_idle _ hload
  have hsend : s.tell 0x2002 1 5 acre 7 none = (s.loadHit (s.missingRep acre).msg.cls).toHub (s.missingRep acre) := rfl
  rw [hsend, hidle]

/-- GONG_SEAL with a combined seal (02 R114). -/
def State.sealRegs (s : State) (sl : Nat) : State :=
  (s.setReg F.GONG_SEAL_LO_SEAL (sl % 2 ^ 64)).setReg F.GONG_SEAL_HI_SEAL (sl / 2 ^ 64)

/-- The same, and the time at which the seal left is kept. -/
def State.sealShown (s : State) (sl b : Nat) : State :=
  (s.sealRegs sl).putBeatU { (s.sealRegs sl).beatU with sealed := some (b, (s.sealRegs sl).toll) }

theorem State.sealShown_reg_apart (s : State) (sl b : Nat) {g : Field} {m : Nat} (hlo : g.apart F.GONG_SEAL_LO_SEAL = true)
    (hhi : g.apart F.GONG_SEAL_HI_SEAL = true) (hm : m < g.count) : (s.sealShown sl b).reg g m = s.reg g m := by
  rw [State.sealShown, State.putBeatU_reg, State.sealRegs, State.reg_setReg_apart _ _ hhi hm (by decide),
    State.reg_setReg_apart _ _ hlo hm (by decide)]

theorem State.sealShown_mem (s : State) (sl b : Nat) : (s.sealShown sl b).mem = s.mem := by
  rw [State.sealShown, State.putBeatU_mem, State.sealRegs, State.setReg_mem, State.setReg_mem]

theorem State.sealShown_shows (s : State) (sl b : Nat) : (s.sealShown sl b).reg F.GONG_SEAL_LO_SEAL = sl % 2 ^ 64 ∧
    (s.sealShown sl b).reg F.GONG_SEAL_HI_SEAL = sl / 2 ^ 64 % 2 ^ 64 := by
  unfold State.sealShown State.sealRegs
  rw [State.putBeatU_reg, State.putBeatU_reg, State.reg_setReg_apart _ _ (by decide) (by decide) (by decide), State.reg_setReg_same,
    State.reg_setReg_same]
  exact ⟨Nat.mod_mod _ _, rfl⟩

/-- The device's own round closes at SEAL_WAIT with a child's seal missing: the message to the hub, the round dropped, the seal shown and sent up. -/
theorem State.closeRound_missing {s : State} {r : Round} (hown : s.ownAcre r.acre = true) (hroot : s.reg F.GONG_CFG_ROOT = 0)
    (hload : s.score.load = none) (hmiss : ∃ p ∈ s.acreChildren r.acre, p ∉ r.heard) :
    s.closeRound r = (((s.toHub (s.missingRep r.acre)).dropRound r).sealShown
      (sealBits r.beat (r.cause ||| 0x800) r.adj r.adjCnt r.acre 0 (r.flags ||| 32)) r.beat).sendUp tySeal
      (sealBits r.beat (r.cause ||| 0x800) r.adj r.adjCnt r.acre 0 (r.flags ||| 32)) := by
  have hall : (s.roundPorts r).all (fun p => decide (p ∈ r.heard)) = false := by
    rw [State.roundPorts, hown, if_pos rfl, List.all_eq_false]
    obtain ⟨p, hp, hsilent⟩ := hmiss
    exact ⟨p, hp, by simpa using hsilent⟩
  have htold := State.tell_missing hload r.acre
  have hhub := s.toHub_eq (s.missingRep r.acre)
  have hregs := fun {g : Field} (hg : ∀ f ∈ hubFields, g.apart f = true) (h : 0 < g.count) => State.toHub_reg_apart hg h s (s.missingRep r.acre)
  generalize s.toHub (s.missingRep r.acre) = x at htold hhub hregs
  have hscore : x.score = s.score := (congrArg State.score hhub).trans rfl
  have hroute : x.route = s.route := (congrArg State.route hhub).trans rfl
  have hownNow : x.ownAcre r.acre = true :=
    (State.ownAcre_congr hscore hroute (hregs (g := F.ROUTE_BANK_ACTIVE) (by decide) (by decide)) _).trans hown
  have hnotRoot : ∀ sl, ¬ ((x.dropRound r).sealShown sl r.beat).isRoot = true := by
    intro sl
    have hsame : ((x.dropRound r).sealShown sl r.beat).reg F.GONG_CFG_ROOT = 0 :=
      ((x.dropRound r).sealShown_reg_apart sl r.beat (by decide) (by decide) (by decide)).trans ((hregs (by decide) (by decide)).trans hroot)
    rw [State.isRoot, hsame]
    decide
  have hdropped : (x.dropRound r).ownAcre r.acre = true := hownNow
  simp only [State.closeRound, hall, Bool.not_false, if_true, htold, if_pos hdropped]
  exact if_neg (hnotRoot _)

/-- What the close of such a round shows. -/
theorem State.closeRound_missing_shows {s : State} {r : Round} (hown : s.ownAcre r.acre = true) (hroot : s.reg F.GONG_CFG_ROOT = 0)
    (hload : s.score.load = none) (hmiss : ∃ p ∈ s.acreChildren r.acre, p ∉ r.heard) :
    (s.closeRound r).beatU.rounds = s.beatU.rounds.filter (fun x => !x.isOf r.acre r.beat) ∧ (s.closeRound r).toll = s.toll ∧
    (s.closeRound r).reg F.GONG_SEAL_LO_SEAL = sealBits r.beat (r.cause ||| 0x800) r.adj r.adjCnt r.acre 0 (r.flags ||| 32) % 2 ^ 64 ∧
    (s.closeRound r).reg F.GONG_SEAL_HI_SEAL = sealBits r.beat (r.cause ||| 0x800) r.adj r.adjCnt r.acre 0 (r.flags ||| 32) / 2 ^ 64 % 2 ^ 64 ∧
    (∃ x, (s.closeRound r).faults.hub = s.faults.hub ++ [x] ∧ x.msg.kind = 0x2002) ∧ (s.closeRound r).mem = s.mem := by
  rw [State.closeRound_missing hown hroot hload hmiss]
  generalize sealBits r.beat (r.cause ||| 0x800) r.adj r.adjCnt r.acre 0 (r.flags ||| 32) = sl
  have hhub := s.toHub_eq (s.missingRep r.acre)
  have hfaults := s.toHub_hub (s.missingRep r.acre)
  have htoll : (s.toHub (s.missingRep r.acre)).toll = s.toll := State.toHub_reg_apart (by decide) (by decide) s (s.missingRep r.acre)
  generalize s.toHub (s.missingRep r.acre) = x at hhub hfaults htoll ⊢
  obtain ⟨hsent, -⟩ := ((x.dropRound r).sealShown sl r.beat).sendUp_sentOnly tySeal sl
  obtain ⟨hlo, hhi⟩ := (x.dropRound r).sealShown_shows sl r.beat
  have htollShown : ((x.dropRound r).sealShown sl r.beat).toll = s.toll :=
    ((x.dropRound r).sealShown_reg_apart sl r.beat (by decide) (by decide) (by decide)).trans htoll
  have hrounds : x.beatU.rounds = s.beatU.rounds := (congrArg (fun y => y.beatU.rounds) hhub).trans rfl
  have hmem : x.mem = s.mem := (congrArg State.mem hhub).trans rfl
  generalize ((x.dropRound r).sealShown sl r.beat).sendUp tySeal sl = z at hsent ⊢
  have hregs : z.regs = ((x.dropRound r).sealShown sl r.beat).regs := (congrArg State.regs hsent).trans rfl
  have hbeatU : z.beatU.rounds = x.beatU.rounds.filter (fun y => !y.isOf r.acre r.beat) :=
    (congrArg (fun y => y.beatU.rounds) hsent).trans rfl
  have hfaultsNow : z.faults.hub = x.faults.hub := (congrArg (fun y => y.faults.hub) hsent).trans rfl
  have hmemNow : z.mem = x.mem := by
    rw [hsent, State.putOut_mem, State.putLinks_mem, State.sealShown_mem]
    rfl
  refine ⟨hbeatU.trans (by rw [hrounds]), (State.reg_congr hregs _ _).trans htollShown, (State.reg_congr hregs _ _).trans hlo,
    (State.reg_congr hregs _ _).trans hhi, ⟨s.missingRep r.acre, hfaultsNow.trans hfaults, rfl⟩, hmemNow.trans hmem⟩

/-- Settles O16: a first seal makes the round it belongs to, and a round closes when what it waits for is in, or at SEAL_WAIT. -/
theorem sealsVouchCombineAndClose : Obligations.SealsVouchCombineAndClose := by
  refine ⟨?_, ?_, ?_⟩
  · intro b s
    exact ⟨_, exec_gongVouch b s, rfl, fun x => mem_keyAdd⟩
  · intro k crc cseq w s hstate hopen hcrc hnext hnone
    obtain ⟨ls, o, htaken⟩ := s.blockTaken_eq k
    have hexec := State.exec_sealReceived_taken hstate hopen hcrc hnext
    have hcnext : ((s.blockTaken k).link k).cnext = (cseq.toNat + 1) % 256 := by rw [s.blockTaken_cnext, hnext]
    rw [htaken] at hexec hcnext
    refine ⟨?_, ?_⟩
    · intro hrun hown hchild hbeat hdrain hgoing
      obtain ⟨hflags, hcause, hadj, hcnt⟩ :=
        roundWith_shows (r := Round.empty (bitsOf w.toNat 35 26) (bitsOf w.toNat 127 80)) (k.val / 2) w.toNat rfl rfl rfl rfl
      have hin := State.sealIn_first (s := (s.putLinks ls).putOut o) hown hchild hnone hrun hbeat hdrain hgoing
      rw [State.putRound_new (s := (s.putLinks ls).putOut o)
        (r := roundWith (Round.empty (bitsOf w.toNat 35 26) (bitsOf w.toNat 127 80)) (k.val / 2) w.toNat) hnone] at hin
      exact ⟨_, _, hexec.trans (congrArg Host.Outcome.next hin), rfl, State.memKept_of_mem rfl, rfl, hbeat, rfl, rfl, hflags, hcause, hadj,
        hcnt, hcnext⟩
    · intro hroot hown hchild hdone
      rw [State.sealIn_root (s := (s.putLinks ls).putOut o) hroot hown hchild hdone hnone] at hexec
      refine ⟨?_, ?_⟩
      · rintro ⟨p, hp, hother⟩
        have hopened := State.rootOpened_waits (s := (s.putLinks ls).putOut o) hown ⟨p, hp, hother⟩
        have hflags := (((s.putLinks ls).putOut o).rootFirst_shows (k.val / 2) w.toNat).1
        exact ⟨_, _, hexec.trans (congrArg Host.Outcome.next hopened), rfl, rfl, rfl, rfl, rfl, hflags, rfl, rfl, State.memKept_of_mem rfl⟩
      · intro hall
        obtain ⟨hshow, hmem⟩ := State.rootOpened_word (s := (s.putLinks ls).putOut o) (p := k.val / 2) hown rfl
        refine ⟨_, hexec.trans (congrArg Host.Outcome.next (State.rootOpened_closes (s := (s.putLinks ls).putOut o) hown hall)), ?_, ?_⟩
        · rw [hshow, State.rootWord_eq]
          rfl
        · exact State.memKept_of_mem hmem
  · intro r s hfirst hown hroot hload hmiss
    have hsame : ∀ {g : Field}, g.apart F.TOLL_COUNT_COUNT = true → 0 < g.count →
        (s.advanceTo (r.boundary + s.reg F.GONG_WAIT_SEAL_WAIT)).reg g = s.reg g := fun hg hm => s.advanceTo_reg_apart _ hg hm
    have htime := s.advanceTo_toll (r.boundary + s.reg F.GONG_WAIT_SEAL_WAIT)
    have hframe := s.advanceTo_frame (r.boundary + s.reg F.GONG_WAIT_SEAL_WAIT)
    have hwait : s.sealWait = (s.advanceTo (r.boundary + s.reg F.GONG_WAIT_SEAL_WAIT)).closeRound r := by
      rw [State.sealWait, hfirst]
    generalize s.advanceTo (r.boundary + s.reg F.GONG_WAIT_SEAL_WAIT) = x at hsame htime hframe hwait
    have hscore : x.score = s.score := (congrArg State.score hframe).trans rfl
    have hroute : x.route = s.route := (congrArg State.route hframe).trans rfl
    have hhubBefore : x.faults = s.faults := (congrArg State.faults hframe).trans rfl
    have hbeatU : x.beatU = s.beatU := (congrArg State.beatU hframe).trans rfl
    have hmemBefore : x.mem = s.mem := (congrArg State.mem hframe).trans rfl
    have hactive := hsame (g := F.ROUTE_BANK_ACTIVE) (by decide) (by decide)
    have hchildren := State.acreChildren_congr (hsame (g := F.GONG_CHILD_LO_CHILD) (by decide) (by decide))
      (hsame (g := F.GONG_CHILD_HI_CHILD) (by decide) (by decide)) hroute hactive r.acre
    obtain ⟨hrounds, htoll, hlo, hhi, ⟨e, hhub, hkind⟩, hmem⟩ := State.closeRound_missing_shows (s := x) (r := r)
      ((State.ownAcre_congr hscore hroute hactive _).trans hown) ((hsame (by decide) (by decide)).trans hroot) (by rw [hscore, hload])
      (by rw [hchildren]; exact hmiss)
    rw [State.scoreAcre_of_own hown]
    refine ⟨x.closeRound r, (exec_sealWaitExpiry s).trans (congrArg Host.Outcome.next hwait), ?_, htoll.trans htime, hlo, hhi,
      ⟨e, ?_, hkind⟩, State.memKept_of_mem (hmem.trans hmemBefore)⟩
    · rw [hrounds, hbeatU]
      rfl
    · rw [hhub, hhubBefore]

end Sys2Proof.Machine
end

section
/-!
PROOFS. Control cells, drain markers and waves: the statement ControlCellsAndDrainMarkersAct.
-/
namespace Sys2Proof.Machine

/-! ### Chime operations of control cells (02 R106, R107; 10 R332) -/

theorem exec_ctlChimeArrive (c : Cell) (s : State) : exec (.ctlChimeArrive c) s = .next (s.chimeCell false c) := rfl

theorem exec_ctlChimeReset (c : Cell) (s : State) : exec (.ctlChimeReset c) s = .next (s.chimeCell true c) := rfl

/-- A queued Chime operation waits last, and QMAX may rise. -/
theorem State.queueChime_shows (s : State) (o : ChimeOp) :
    s.queueChime o = (((s.putRegs (s.queueChime o).regs).putFresh (s.queueChime o).fresh).putChimeq (s.chimeq ++ [o])) ∧
    s.regsKept (s.queueChime o) [F.CHIME_STATUS_QMAX.key 0] := by
  refine ⟨?_, ?_⟩
  · rw [State.queueChime, State.peak_eq]
    rfl
  · have hplain : s.regsKept (s.putChimeq (s.chimeq ++ [o])) [F.CHIME_STATUS_QMAX.key 0] := (s.regsKept_refl _).congr rfl
    exact hplain.peak (List.mem_singleton_self _) _

theorem State.chimeCell_waits {s : State} {c : Cell} (h : s.chimeHolds c = true) (reset : Bool) : s.chimeCell reset c = s := if_pos h

theorem State.chimeCell_queues {s : State} {c : Cell} (h : s.chimeHolds c = false) (reset : Bool) :
    s.chimeCell reset c = (s.taken c).queueChime ⟨kChime c, reset, kArg c, cBeat c⟩ := by
  rw [State.chimeCell, h]
  rfl

theorem State.chimeCell_shows {s : State} {c : Cell} (h : s.chimeHolds c = false) (reset : Bool) :
    s.chimeCell reset c = (((s.putRegs (s.chimeCell reset c).regs).putFresh (s.chimeCell reset c).fresh).putDelivered
      (s.delivered.erase c)).putChimeq (s.chimeq ++ [⟨kChime c, reset, kArg c, cBeat c⟩]) ∧
    s.regsKept (s.chimeCell reset c) [F.CHIME_STATUS_QMAX.key 0] := by
  rw [State.chimeCell_queues h]
  obtain ⟨hframe, hkept⟩ := (s.taken c).queueChime_shows ⟨kChime c, reset, kArg c, cBeat c⟩
  refine ⟨?_, hkept.of_regs rfl⟩
  generalize (s.taken c).queueChime ⟨kChime c, reset, kArg c, cBeat c⟩ = t at hframe ⊢
  rw [hframe]
  rfl

/-! ### Markers on their way out (11 R375, R381) -/

/-- `t` is `s` after markers have left it or wait to: links, what has left the device and the markers that wait may differ. -/
def State.marksOnly (s t : State) : Prop := t = ((s.putLinks t.links).putOut t.out).putRoute { s.route with marks := t.route.marks }

theorem State.marksOnly_refl (s : State) : s.marksOnly s := rfl

theorem State.marksOnly.trans {s t u : State} (h : s.marksOnly t) (h' : t.marksOnly u) : s.marksOnly u := by
  unfold State.marksOnly at h h' ⊢
  have hroute : { t.route with marks := u.route.marks } = { s.route with marks := u.route.marks } := by
    rw [h]
    rfl
  rw [hroute] at h'
  generalize { s.route with marks := u.route.marks } = r at h' ⊢
  generalize { s.route with marks := t.route.marks } = q at h
  calc u = ((t.putLinks u.links).putOut u.out).putRoute r := h'
    _ = ((s.putLinks u.links).putOut u.out).putRoute r := by rw [h]; dsimp only [State.putRoute, State.putLinks, State.putOut]

theorem State.sendMarker_marksOnly (s : State) (p : Nat) (c : Cell) : s.marksOnly (s.sendMarker p c) := by
  unfold State.sendMarker State.sendCell
  dsimp only
  split
  · rfl
  · split
    · split <;> rfl
    · rfl

theorem State.sendMarkers_marksOnly (s : State) (ps : List Nat) (c : Cell) : s.marksOnly (s.sendMarkers ps c) := by
  unfold State.sendMarkers foldKeys
  induction ps generalizing s with
  | nil => exact s.marksOnly_refl
  | cons p ps ih => exact (s.sendMarker_marksOnly p c).trans (ih _)

/-- A marker that may leave on its port goes out against a credit of CTL. -/
theorem State.sendMarker_goes {s : State} {p : Nat} (hmarks : s.route.marks = []) (hgoes : s.ctlGoes (2 * p) = true) (c : Cell) :
    (s.sendMarker p c).route.marks = [] ∧ ((s.sendMarker p c).link (2 * p)).credit = (s.link (2 * p)).credit.modify 3 (· - 1) ∧
    ((s.sendMarker p c).link (2 * p)).replay = (s.link (2 * p)).replay ++ [((s.link (2 * p)).lsend, c)] := by
  have hready : s.ready (2 * p) = true := by
    simp only [State.ctlGoes, Bool.and_eq_true] at hgoes
    exact hgoes.1.1
  have hlink : s.portLink p = 2 * p := if_pos hready
  have hnow : ¬ (s.route.marks.any (fun m => decide (m.1 = p)) || !s.ctlGoes (2 * p)) = true := by
    rw [hmarks, hgoes]
    exact Bool.false_ne_true
  generalize hl : { s.link (2 * p) with credit := (s.link (2 * p)).credit.modify 3 (· - 1) } = l
  have hsent : s.sendMarker p c = (s.setLink (2 * p) l).sendCell (2 * p) c := by
    rw [State.sendMarker, hlink, ← hl]
    exact if_neg hnow
  have hreadyThen : (s.setLink (2 * p) l).ready (2 * p) = true := hready
  have hcell : ∃ o, (s.setLink (2 * p) l).sendCell (2 * p) c =
      ((s.setLink (2 * p) l).setLink (2 * p) { l with lsend := (l.lsend + 1) % 2 ^ 32, replay := l.replay ++ [(l.lsend, c)] }).putOut o := by
    rw [State.sendCell, if_pos hreadyThen, State.link_setLink_same]
    dsimp only
    split
    · exact ⟨_, rfl⟩
    · exact ⟨s.out, rfl⟩
  obtain ⟨o, hcell⟩ := hcell
  have hend : (s.sendMarker p c).link (2 * p) = { l with lsend := (l.lsend + 1) % 2 ^ 32, replay := l.replay ++ [(l.lsend, c)] } := by
    rw [hsent, hcell]
    exact State.link_setLink_same _ _ _
  refine ⟨?_, ?_, ?_⟩
  · rw [hsent, hcell]
    exact hmarks
  · rw [hend, ← hl]
  · rw [hend, ← hl]

/-- A marker that may not leave waits last. -/
theorem State.sendMarker_waits {s : State} {p : Nat} (hready : s.ready (2 * p) = true) (hstuck : s.ctlGoes (2 * p) = false) (c : Cell) :
    s.sendMarker p c = s.putRoute { s.route with marks := s.route.marks ++ [(p, c)] } := by
  have hlink : s.portLink p = 2 * p := if_pos hready
  rw [State.sendMarker, hlink, hstuck]
  exact if_pos (Bool.or_true _)

/-! ### Waves (11 R380 to R383) -/

/-- A wave taken: WAVE shows it, and nothing has answered it. -/
def State.waveCame (s : State) (a w : Nat) : State :=
  (s.setReg F.ROUTE_BANK_WAVE w).putRoute { s.route with wave := some (a, w), upHeard := [], upEmpty := true, upTx := 0, upRx := 0 }

theorem State.waveCame_reg_apart (s : State) (a w : Nat) {g : Field} {m : Nat} (h : g.apart F.ROUTE_BANK_WAVE = true) (hm : m < g.count) :
    (s.waveCame a w).reg g m = s.reg g m := s.reg_setReg_apart w h hm (by decide)

theorem State.waveCame_childPorts (s : State) (a w : Nat) : (s.waveCame a w).childPorts = s.childPorts := by
  unfold State.childPorts
  rw [s.waveCame_reg_apart a w (by decide) (by decide), s.waveCame_reg_apart a w (by decide) (by decide)]

theorem State.waveCame_regsKept (s : State) (a w : Nat) : s.regsKept (s.waveCame a w) [F.ROUTE_BANK_WAVE.key 0] :=
  State.regsKept.congr ((s.regsKept_refl _).setReg (List.mem_singleton_self _) w) rfl

theorem State.waveDown_eq (s : State) (a w : Nat) :
    s.waveDown a w = (s.waveCame a w).sendMarkers (s.waveCame a w).childPorts ((s.waveCame a w).marker a 0 w false 0 0 0) := rfl

/-- A device without children takes a wave and sends no marker on. -/
theorem State.waveDown_leaf {s : State} (h : s.childPorts = []) (a w : Nat) : s.waveDown a w = s.waveCame a w := by
  rw [State.waveDown_eq, State.waveCame_childPorts, h]
  rfl

/-- A wave waits for the children's answers. -/
theorem State.waveUp_waits {s : State} {p : Nat} (hp : p ∈ s.childPorts) (hout : p ∉ s.route.upHeard) : s.waveUp = s := by
  unfold State.waveUp
  split
  · rfl
  · refine if_neg fun hall => hout ?_
    exact of_decide_eq_true (List.all_eq_true.mp hall p hp)

/-- A device without children, not the root, answers a wave at once. -/
theorem State.waveUp_leaf {s : State} {a w : Nat} (hwave : s.route.wave = some (a, w)) (hleaf : s.childPorts = [])
    (hroot : s.reg F.GONG_CFG_ROOT = 0) : ∃ empty tx rx, s.waveUp =
      (s.putRoute { s.route with wave := none }).sendMarker s.parentPort (s.marker a 1 w empty 0 tx rx) := by
  have hnot : ¬ (s.putRoute { s.route with wave := none }).isRoot = true := by
    have hsame : (s.putRoute { s.route with wave := none }).reg F.GONG_CFG_ROOT = 0 := hroot
    rw [State.isRoot, hsame]
    decide
  refine ⟨s.route.upEmpty && s.emptyFor a, (s.route.upTx + tabGet 0 s.route.txc a) % 2 ^ 39,
    (s.route.upRx + tabGet 0 s.route.rxc a) % 2 ^ 39, ?_⟩
  simp only [State.waveUp, hwave, hleaf, List.all_nil, if_true, if_neg hnot]
  rfl

/-- A wave that a device with children takes goes on to them, and waits for their answers. -/
theorem State.waveDown_waits {s : State} {p : Nat} (hp : p ∈ s.childPorts) (a w : Nat) :
    (s.waveCame a w).marksOnly (s.waveDown a w) ∧ (s.waveDown a w).waveUp = s.waveDown a w := by
  have hmarks := (s.waveCame a w).sendMarkers_marksOnly (s.waveCame a w).childPorts ((s.waveCame a w).marker a 0 w false 0 0 0)
  rw [← State.waveDown_eq] at hmarks
  refine ⟨hmarks, State.waveUp_waits (p := p) ?_ ?_⟩
  · rw [hmarks]
    exact (s.waveCame_childPorts a w).symm ▸ hp
  · rw [hmarks]
    exact List.not_mem_nil

/-- What a wave that goes on shows. -/
theorem State.waveDown_shows {s : State} {p : Nat} (hp : p ∈ s.childPorts) (a : Nat) {w : Nat} (hw : w < 256) :
    (s.waveDown a w).reg F.ROUTE_BANK_WAVE = w ∧ s.regsKept (s.waveDown a w) [F.ROUTE_BANK_WAVE.key 0] ∧
    (s.waveDown a w).route.wave = some (a, w) ∧ (s.waveDown a w).route.drain = s.route.drain ∧ (s.waveDown a w).mem = s.mem := by
  obtain ⟨hmarks, -⟩ := State.waveDown_waits hp a w
  have hwave : (s.waveCame a w).reg F.ROUTE_BANK_WAVE = w := State.reg_setReg_lt s 0 hw
  have hmem : (s.waveCame a w).mem = s.mem := by rw [State.waveCame, State.putRoute_mem, State.setReg_mem]
  have hregs : (s.waveDown a w).regs = (s.waveCame a w).regs := (congrArg State.regs hmarks).trans rfl
  have hroute : (s.waveDown a w).route.wave = (s.waveCame a w).route.wave := (congrArg (fun x => x.route.wave) hmarks).trans rfl
  have hdrain : (s.waveDown a w).route.drain = (s.waveCame a w).route.drain := (congrArg (fun x => x.route.drain) hmarks).trans rfl
  have hmemNow : (s.waveDown a w).mem = (s.waveCame a w).mem := by
    rw [hmarks, State.putRoute_mem, State.putOut_mem, State.putLinks_mem]
  exact ⟨(State.reg_congr hregs _ _).trans hwave, (s.waveCame_regsKept a w).congr hregs, hroute, hdrain, hmemNow.trans hmem⟩

/-! ### DOWN from the parent (11 R381, R382) -/

theorem exec_drainDown (k : Fin 256) (c : Cell) (s : State) : exec (.drainDown k c) s = .next (if (s.taken c).fromParent k.val then
    ((s.taken c).waveDown (cAcre c) (kWave c)).waveUp else s.taken c) := rfl

theorem State.fromParent_of {s : State} {k : Nat} (hroot : s.reg F.GONG_CFG_ROOT = 0) (hparent : k / 2 = s.reg F.GONG_CFG_PARENT_PORT) :
    s.fromParent k = true := by
  simp [State.fromParent, State.isRoot, State.parentPort, hroot, hparent]

/-- A wave taken and answered at once: WAVE stays, and no wave is in progress. -/
def State.wavePassed (s : State) (a w : Nat) : State :=
  (s.waveCame a w).putRoute { (s.waveCame a w).route with wave := none }

theorem State.wavePassed_reg_apart (s : State) (a w : Nat) {g : Field} {m : Nat} (h : g.apart F.ROUTE_BANK_WAVE = true) (hm : m < g.count) :
    (s.wavePassed a w).reg g m = s.reg g m := s.waveCame_reg_apart a w h hm

theorem State.wavePassed_ready (s : State) (a w : Nat) {k : Nat} (hk : k < 256) : (s.wavePassed a w).ready k = s.ready k := by
  have hstate : (s.wavePassed a w).linkState k = s.linkState k := s.wavePassed_reg_apart a w (by decide) hk
  unfold State.ready
  rw [hstate]
  rfl

theorem State.wavePassed_ctlGoes (s : State) (a w : Nat) {k : Nat} (hk : k < 256) : (s.wavePassed a w).ctlGoes k = s.ctlGoes k := by
  unfold State.ctlGoes
  rw [s.wavePassed_ready a w hk]
  rfl

/-- A DOWN marker from the parent at a device without children is answered with UP on the parent port. -/
theorem State.exec_drainDown_leaf {s : State} {k : Fin 256} (hroot : s.reg F.GONG_CFG_ROOT = 0)
    (hparent : k.val / 2 = s.reg F.GONG_CFG_PARENT_PORT) (hleaf : s.childPorts = []) (c : Cell) : ∃ empty tx rx, exec (.drainDown k c) s =
      .next (((s.taken c).wavePassed (cAcre c) (kWave c)).sendMarker (k.val / 2) (s.marker (cAcre c) 1 (kWave c) empty 0 tx rx)) := by
  have hleafNow : (s.taken c).childPorts = [] := hleaf
  have hrootNow : ((s.taken c).waveCame (cAcre c) (kWave c)).reg F.GONG_CFG_ROOT = 0 :=
    ((s.taken c).waveCame_reg_apart _ _ (by decide) (by decide)).trans hroot
  have hport : ((s.taken c).waveCame (cAcre c) (kWave c)).parentPort = k.val / 2 :=
    ((s.taken c).waveCame_reg_apart _ _ (by decide) (by decide)).trans hparent.symm
  obtain ⟨empty, tx, rx, hup⟩ := State.waveUp_leaf (s := (s.taken c).waveCame (cAcre c) (kWave c)) (a := cAcre c) (w := kWave c) rfl
    (((s.taken c).waveCame_childPorts _ _).trans hleafNow) hrootNow
  refine ⟨empty, tx, rx, ?_⟩
  rw [exec_drainDown, if_pos (State.fromParent_of (s := s.taken c) hroot hparent), State.waveDown_leaf hleafNow, hup, hport]
  have hmarker : ((s.taken c).waveCame (cAcre c) (kWave c)).marker (cAcre c) 1 (kWave c) empty 0 tx rx =
      s.marker (cAcre c) 1 (kWave c) empty 0 tx rx := by
    have hbeat : ((s.taken c).waveCame (cAcre c) (kWave c)).beat = s.beat := (s.taken c).waveCame_reg_apart _ _ (by decide) (by decide)
    unfold State.marker
    rw [hbeat]
    rfl
  rw [hmarker]
  rfl

theorem kWave_lt (c : Cell) : kWave c < 256 := bitsOf_lt _ _ _

/-- What the answered wave shows. -/
theorem State.wavePassed_answered (s : State) (a w : Nat) (hw : w < 256) (p : Nat) (c : Cell) :
    ((s.wavePassed a w).sendMarker p c).reg F.ROUTE_BANK_WAVE = w ∧
    s.regsKept ((s.wavePassed a w).sendMarker p c) [F.ROUTE_BANK_WAVE.key 0] ∧ ((s.wavePassed a w).sendMarker p c).route.wave = none ∧
    ((s.wavePassed a w).sendMarker p c).mem = s.mem := by
  have hsent := (s.wavePassed a w).sendMarker_marksOnly p c
  have hwave : (s.wavePassed a w).reg F.ROUTE_BANK_WAVE = w := State.reg_setReg_lt s 0 hw
  have hkept : s.regsKept (s.wavePassed a w) [F.ROUTE_BANK_WAVE.key 0] := (s.waveCame_regsKept a w).congr rfl
  have hmem : (s.wavePassed a w).mem = s.mem := by
    rw [State.wavePassed, State.putRoute_mem, State.waveCame, State.putRoute_mem, State.setReg_mem]
  have hnone : (s.wavePassed a w).route.wave = none := rfl
  generalize (s.wavePassed a w).sendMarker p c = t at hsent ⊢
  generalize s.wavePassed a w = y at hsent hwave hkept hmem hnone
  have hregs : t.regs = y.regs := (congrArg State.regs hsent).trans rfl
  have hwaveNow : t.route.wave = y.route.wave := (congrArg (fun x => x.route.wave) hsent).trans rfl
  have hmemNow : t.mem = y.mem := (congrArg State.mem hsent).trans rfl
  exact ⟨(State.reg_congr hregs _ _).trans hwave, hkept.congr hregs, hwaveNow.trans hnone, hmemNow.trans hmem⟩

/-! ### UP, QUIET and SWAP (11 R380 to R385) -/

theorem exec_drainUp (k : Fin 256) (c : Cell) (s : State) : exec (.drainUp k c) s = .next ((s.taken c).drainUp k.val c) := rfl

theorem exec_drainQuiet (k : Fin 256) (c : Cell) (s : State) : exec (.drainQuiet k c) s =
    .next (if (s.taken c).draining (cAcre c) = true ∧ k.val / 2 ∈ (s.taken c).acreEndpoints (cAcre c) then
      (s.taken c).putRoute { (s.taken c).route with quiet := keyAdd (s.taken c).route.quiet (k.val / 2) } else s.taken c) := rfl

theorem exec_drainSwap (k : Fin 256) (c : Cell) (s : State) : exec (.drainSwap k c) s = .next (if (s.taken c).fromParent k.val then
    ((s.taken c).sendMarkers (s.taken c).childPorts c).applySwap (cAcre c) (kGen c) (kFlag c) else s.taken c) := rfl

/-- The root's first drain: Acre `a`, wave 1. -/
def State.drainBegun (s : State) (a : Nat) : State :=
  s.putRoute { s.route with requests := [], drain := some ⟨a, 1, none, s.toll, none⟩ }

/-- A request at the root with no drain in progress starts one (11 R380, R383). -/
theorem State.drainUp_begins {s : State} {k : Nat} {c : Cell} (hroot : s.reg F.GONG_CFG_ROOT = 1) (hchild : k / 2 ∈ s.childPorts)
    (hwave : kWave c = 0) (hdrain : s.route.drain = none) (hreq : s.route.requests = []) :
    s.drainUp k c = (s.drainBegun (cAcre c)).waveDown (cAcre c) 1 := by
  have hisRoot : s.isRoot = true := decide_eq_true hroot
  have hany : ¬ s.route.drain.any (fun d => decide (d.acre = cAcre c)) = true := by
    rw [hdrain]
    exact Bool.false_ne_true
  have hnext : (s.putRoute { s.route with requests := keyAdd s.route.requests (cAcre c) }).nextDrain =
      (s.drainBegun (cAcre c)).waveDown (cAcre c) 1 := by
    simp only [State.nextDrain, State.putRoute_route, hdrain, hreq, keyAdd]
    rfl
  rw [State.drainUp, if_neg (not_not_intro hchild), if_pos hwave, State.askDrain, if_pos hisRoot, if_neg hany, hnext]
  exact (State.waveDown_waits (s := s.drainBegun (cAcre c)) hchild (cAcre c) 1).2

/-- The end of a drain that a descriptor waits for: the bank's STATE is set, the drain's records are cleared, the descriptor completes. -/
theorem State.endDrain_done {s : State} {d : Desc} (hswap : s.route.swap = some d) (hback : s.route.back = []) (st : Nat) (ok : Bool) :
    s.endDrain st ok = ((s.setReg F.ROUTE_BANK_STATE st).putRoute { s.route with quiet := [], swap := none, back := [] }).complete d
      (if ok then 0 else 0x62) := by
  have hrelease : ((s.setReg F.ROUTE_BANK_STATE st).putRoute { s.route with quiet := [], swap := none }).release =
      (s.setReg F.ROUTE_BANK_STATE st).putRoute { s.route with quiet := [], swap := none, back := [] } := by
    simp only [State.release, State.putRoute_route, hback, List.foldl_nil]
    rfl
  simp only [State.endDrain, hswap, hrelease]

theorem State.endDrain_shows {s : State} {d : Desc} (hswap : s.route.swap = some d) (hback : s.route.back = []) {st : Nat} (hst : st < 8)
    (ok : Bool) : (s.endDrain st ok).reg F.ROUTE_BANK_STATE = st ∧ (s.endDrain st ok).route.swap = none ∧
    (∃ e, (s.endDrain st ok).comps = s.comps ++ [e] ∧ e.id = d.id.toNat ∧ e.code = if ok then 0 else 0x62) ∧
    (s.endDrain st ok).reg F.ROUTE_BANK_ACTIVE = s.reg F.ROUTE_BANK_ACTIVE ∧ (s.endDrain st ok).route.gen = s.route.gen := by
  rw [State.endDrain_done hswap hback, State.complete_eq]
  refine ⟨?_, rfl, ⟨_, rfl, rfl, rfl⟩, ?_, rfl⟩
  · rw [State.reg_setReg_apart _ _ (by decide) (by decide) d.ring.isLt]
    exact State.reg_setReg_lt s 0 hst
  · rw [State.reg_setReg_apart _ _ (by decide) (by decide) d.ring.isLt]
    exact s.reg_setReg_apart st (by decide) (by decide) (by decide)

/-- The active bank's neighbour records, where both banks have the same. -/
theorem State.bank_nbr {s t : State} (hnbr : s.route.bank0.nbr = s.route.bank1.nbr) (h0 : t.route.bank0 = s.route.bank0)
    (h1 : t.route.bank1 = s.route.bank1) : t.bank.nbr = s.route.bank0.nbr := by
  unfold State.bank
  rw [h0, h1]
  split
  · rfl
  · exact hnbr.symm

/-- The banks with equal neighbour records change places and no link moves. -/
theorem State.swapBanks_still {s : State} (hnbr : s.route.bank0.nbr = s.route.bank1.nbr) :
    s.swapBanks = s.setReg F.ROUTE_BANK_ACTIVE (1 - s.reg F.ROUTE_BANK_ACTIVE) := by
  have hnone : (List.range 128).filter (fun p => decide (tabGet 0 s.bank.nbr p ≠
      (s.setReg F.ROUTE_BANK_ACTIVE (1 - s.reg F.ROUTE_BANK_ACTIVE)).nbrRec p)) = [] := by
    rw [List.filter_eq_nil_iff]
    intro p _
    rw [State.nbrRec, State.bank_nbr hnbr rfl rfl,
      State.bank_nbr (t := s.setReg F.ROUTE_BANK_ACTIVE (1 - s.reg F.ROUTE_BANK_ACTIVE)) hnbr rfl rfl]
    simp
  rw [State.swapBanks, State.portsMoved, hnone]
  rfl

theorem State.acreEndpoints_none {s : State} (h : ∀ p < 128, s.nbrKind p ≠ 2) (a : Nat) : s.acreEndpoints a = [] := by
  unfold State.acreEndpoints
  rw [List.filter_eq_nil_iff]
  intro p hp
  simp [h p (List.mem_range.mp hp)]

/-- A SWAP with GO: the Acre's new generation. -/
def State.genTaken (s : State) (a gen : Nat) : State := s.putRoute { s.route with gen := tabSet 0 s.route.gen a gen }

theorem State.genTaken_genOf (s : State) (a gen b : Nat) : (s.genTaken a gen).genOf b = if b = a then gen else s.genOf b := by
  split
  · rename_i h
    rw [h]
    exact tabGet_tabSet_same _ _ _ _
  · rename_i h
    exact tabGet_tabSet_other _ _ _ _ h

theorem State.applySwap_other {s : State} {a : Nat} (hdrain : s.draining a = false) (gen : Nat) : s.applySwap a gen true = s.genTaken a gen := by
  have hnow : ¬ (s.genTaken a gen).draining a = true := by
    have hsame : (s.genTaken a gen).draining a = s.draining a := rfl
    rw [hsame, hdrain]
    exact Bool.false_ne_true
  exact if_neg hnow

theorem State.applySwap_stays {s : State} {a : Nat} (hdrain : s.draining a = true) (gen : Nat) : s.applySwap a gen false = s.endDrain 1 false := by
  rw [State.applySwap, if_neg Bool.false_ne_true, if_pos hdrain]

/-- SWAP with GO on a draining device without endpoints: the new generation, the banks changed, the drain over. -/
theorem State.applySwap_go {s : State} {a : Nat} (hdrain : s.draining a = true) (hnbr : s.route.bank0.nbr = s.route.bank1.nbr)
    (hkind : ∀ p < 128, s.nbrKind p ≠ 2) (gen : Nat) : s.applySwap a gen true =
      ((s.genTaken a gen).setReg F.ROUTE_BANK_ACTIVE (1 - s.reg F.ROUTE_BANK_ACTIVE)).endDrain 0 true := by
  have hnow : (s.genTaken a gen).draining a = true := hdrain
  have hswap : (s.genTaken a gen).swapBanks = (s.genTaken a gen).setReg F.ROUTE_BANK_ACTIVE (1 - s.reg F.ROUTE_BANK_ACTIVE) :=
    State.swapBanks_still hnbr
  have hends : ((s.genTaken a gen).setReg F.ROUTE_BANK_ACTIVE (1 - s.reg F.ROUTE_BANK_ACTIVE)).acreEndpoints a = [] := by
    refine State.acreEndpoints_none (fun p hp => ?_) a
    have hkindNow := hkind p hp
    rw [State.nbrKind, State.nbrRec, State.bank_nbr hnbr rfl rfl] at hkindNow
    rw [State.nbrKind, State.nbrRec,
      State.bank_nbr (t := (s.genTaken a gen).setReg F.ROUTE_BANK_ACTIVE (1 - s.reg F.ROUTE_BANK_ACTIVE)) hnbr rfl rfl]
    exact hkindNow
  have hgo : s.applySwap a gen true = ((s.genTaken a gen).swapBanks.sendMarkers ((s.genTaken a gen).swapBanks.acreEndpoints a)
      ((s.genTaken a gen).swapBanks.marker a 3 0 true gen 0 0)).endDrain 0 true := if_pos hnow
  rw [hgo, hswap, hends]
  rfl

theorem State.exec_drainSwap_leaf {s : State} {k : Fin 256} (hroot : s.reg F.GONG_CFG_ROOT = 0)
    (hparent : k.val / 2 = s.reg F.GONG_CFG_PARENT_PORT) (hleaf : s.childPorts = []) (c : Cell) :
    exec (.drainSwap k c) s = .next ((s.taken c).applySwap (cAcre c) (kGen c) (kFlag c)) := by
  have hleafNow : (s.taken c).childPorts = [] := hleaf
  rw [exec_drainSwap, if_pos (State.fromParent_of (s := s.taken c) hroot hparent), hleafNow]
  rfl

/-! ### The wave timer (11 R383) -/

theorem exec_drainWaveTimer {s : State} {d : Drain} {t0 : Nat} (hdrain : s.route.drain = some d) (hwait : d.wait = some t0) :
    exec .drainWaveTimer s = .next ((((s.advanceTo (t0 + 4096)).putRoute { (s.advanceTo (t0 + 4096)).route with
      drain := some { d with wave := d.wave % 255 + 1, wait := none } }).waveDown d.acre (d.wave % 255 + 1)).waveUp) := by
  have htimer : exec .drainWaveTimer s = .next (match s.route.drain with
    | some d =>
      match d.wait with
      | some t =>
        (((s.advanceTo (t + 4096)).putRoute { (s.advanceTo (t + 4096)).route with
          drain := some { d with wave := d.wave % 255 + 1, wait := none } }).waveDown d.acre (d.wave % 255 + 1)).waveUp
      | none => s
    | none => s) := rfl
  rw [htimer, hdrain]
  simp only [hwait]

/-- Settles O36: each cell acts on the route unit and WAVE alone, and markers leave by links. -/
theorem controlCellsAndDrainMarkersAct : Obligations.ControlCellsAndDrainMarkersAct := by
  intro k c s
  refine ⟨?_, ?_, ?_, ?_, ?_, ?_⟩
  · have hboth : ∀ reset, (s.chimeHolds c = false → ∃ t, Host.Outcome.next (s.chimeCell reset c) = (.next t : Host.Outcome State Fault Refusal) ∧
        t = (((s.putRegs t.regs).putFresh t.fresh).putDelivered (s.delivered.erase c)).putChimeq
          (s.chimeq ++ [⟨kChime c, reset, kArg c, cBeat c⟩]) ∧ s.regsKept t [F.CHIME_STATUS_QMAX.key 0]) ∧
        (s.chimeHolds c = true → Host.Outcome.next (s.chimeCell reset c) = (.next s : Host.Outcome State Fault Refusal)) := by
      intro reset
      refine ⟨fun hroom => ⟨s.chimeCell reset c, rfl, State.chimeCell_shows hroom reset⟩, fun hfull => ?_⟩
      rw [State.chimeCell_waits hfull]
    intro p hp
    simp only [List.mem_cons, List.not_mem_nil, or_false] at hp
    obtain rfl | rfl := hp
    · exact hboth false
    · exact hboth true
  · intro hroot hparent hleaf hstate hopen
    obtain ⟨empty, tx, rx, hexec⟩ := State.exec_drainDown_leaf hroot hparent hleaf c
    obtain ⟨hwave, hkept, hnone, hmem⟩ := (s.taken c).wavePassed_answered (cAcre c) (kWave c) (kWave_lt c) (k.val / 2)
      (s.marker (cAcre c) 1 (kWave c) empty 0 tx rx)
    have hk : 2 * (k.val / 2) < 256 := by omega
    have hready : ((s.taken c).wavePassed (cAcre c) (kWave c)).ready (2 * (k.val / 2)) = true :=
      ((s.taken c).wavePassed_ready _ _ hk).trans (State.ready_eq hstate hopen)
    have hgoes : ((s.taken c).wavePassed (cAcre c) (kWave c)).ctlGoes (2 * (k.val / 2)) = s.ctlGoes (2 * (k.val / 2)) :=
      (s.taken c).wavePassed_ctlGoes _ _ hk
    refine ⟨_, empty, tx, rx, (s.link (2 * (k.val / 2))).lsend, hexec, hwave, hkept.of_regs rfl, hnone, State.memKept_of_mem hmem, ?_, ?_⟩
    · intro hmarks hgo
      exact State.sendMarker_goes (s := (s.taken c).wavePassed (cAcre c) (kWave c)) hmarks (hgoes.trans hgo) _
    · intro hstuck
      rw [State.sendMarker_waits hready (hgoes.trans hstuck)]
      exact ⟨rfl, rfl⟩
  · intro hroot hchild hwave hdrain hreq
    have hbegin := State.drainUp_begins (s := s.taken c) hroot hchild hwave hdrain hreq
    obtain ⟨hshown, hkept, hroute, hnew, hmem⟩ :=
      State.waveDown_shows (s := (s.taken c).drainBegun (cAcre c)) (p := k.val / 2) hchild (cAcre c) (w := 1) (by decide)
    exact ⟨_, (exec_drainUp k c s).trans (congrArg Host.Outcome.next hbegin), hnew, hroute, hshown, hkept.of_regs rfl, State.memKept_of_mem hmem⟩
  · intro hstate hacre hend
    have hdraining : s.draining (cAcre c) = true := by
      rw [State.draining, hstate, hacre]
      simp
    refine ⟨(s.taken c).putRoute { s.route with quiet := keyAdd s.route.quiet (k.val / 2) }, ?_, mem_keyAdd.mpr (Or.inl rfl), rfl⟩
    exact (exec_drainQuiet k c s).trans (congrArg Host.Outcome.next (if_pos ⟨hdraining, hend⟩))
  · intro hroot hparent hleaf
    have hexec := State.exec_drainSwap_leaf hroot hparent hleaf c
    refine ⟨?_, ?_, ?_⟩
    · intro hgo hdrain
      rw [hgo, State.applySwap_other (s := s.taken c) hdrain] at hexec
      exact ⟨_, hexec, rfl, (s.taken c).genTaken_genOf (cAcre c) (kGen c)⟩
    · intro d hgo hdrain hback hswap
      rw [hgo, State.applySwap_stays (s := s.taken c) hdrain] at hexec
      obtain ⟨hstate, hnone, ⟨e, hcomps, hid, hcode⟩, hactive, -⟩ := State.endDrain_shows (s := s.taken c) hswap hback (st := 1) (by decide) false
      exact ⟨_, e, hexec, hstate, hnone, hcomps, hid, hcode, hactive⟩
    · intro d hgo hdrain hback hswap hnbr hkind
      rw [hgo, State.applySwap_go (s := s.taken c) hdrain hnbr hkind] at hexec
      obtain ⟨hstate, hnone, ⟨e, hcomps, hid, hcode⟩, hactive, hgen⟩ := State.endDrain_shows
        (s := ((s.taken c).genTaken (cAcre c) (kGen c)).setReg F.ROUTE_BANK_ACTIVE (1 - (s.taken c).reg F.ROUTE_BANK_ACTIVE)) hswap hback
        (st := 0) (by decide) true
      refine ⟨_, e, hexec, hstate, hnone, hcomps, hid, hcode, hactive.trans ?_, ?_⟩
      · exact State.reg_setReg_lt _ 0 (lt_of_le_of_lt (Nat.sub_le _ _) (by decide))
      · unfold State.genOf
        rw [hgen]
        exact tabGet_tabSet_same _ _ _ _
  · intro d t0 hdrain hwait hchildren hfits
    obtain ⟨p, hp⟩ := List.exists_mem_of_ne_nil _ hchildren
    have hexec := exec_drainWaveTimer hdrain hwait
    have htoll := s.advanceTo_toll_max hfits
    have hmemTime := s.advanceTo_mem (t0 + 4096)
    have hlo := s.advanceTo_reg_apart (t0 + 4096) (g := F.GONG_CHILD_LO_CHILD) (m := 0) (by decide) (by decide)
    have hhi := s.advanceTo_reg_apart (t0 + 4096) (g := F.GONG_CHILD_HI_CHILD) (m := 0) (by decide) (by decide)
    generalize s.advanceTo (t0 + 4096) = x at hexec htoll hmemTime hlo hhi
    generalize hy : x.putRoute { x.route with drain := some { d with wave := d.wave % 255 + 1, wait := none } } = y at hexec
    have hports : y.childPorts = s.childPorts := by
      unfold State.childPorts
      rw [← hy, State.putRoute_reg, State.putRoute_reg, hlo, hhi]
    have hpNow : p ∈ y.childPorts := hports ▸ hp
    obtain ⟨hshown, hkept, hroute, hnew, hmem⟩ := State.waveDown_shows hpNow d.acre (w := d.wave % 255 + 1) (by omega)
    rw [(State.waveDown_waits hpNow d.acre (d.wave % 255 + 1)).2] at hexec
    have htollNow : (y.waveDown d.acre (d.wave % 255 + 1)).toll = y.toll := hkept F.TOLL_COUNT_COUNT 0 (by decide)
    have hytoll : y.toll = x.toll := by rw [← hy]; rfl
    have hydrain : y.route.drain = some { d with wave := d.wave % 255 + 1, wait := none } := by rw [← hy]; rfl
    have hymem : y.mem = x.mem := by rw [← hy, State.putRoute_mem]
    exact ⟨_, hexec, htollNow.trans (hytoll.trans htoll), hnew.trans hydrain, hroute, hshown,
      State.memKept_of_mem (hmem.trans (hymem.trans hmemTime))⟩

end Sys2Proof.Machine
end

section
/-!
LAWS. What a boundary leaves alone: the Score unit, the Beat unit, the completions and every register but those of what it starts or clears.
-/
namespace Sys2Proof.Machine

/-- `t` is `s` but for registers of the fields listed and for units that say nothing of a Score's course: the Score unit, the Beat unit
and the completions are as they were. -/
structure State.keptBut (fs : List Field) (s t : State) : Prop where
  score : t.score = s.score
  beatU : t.beatU = s.beatU
  comps : t.comps = s.comps
  reg : ∀ {g : Field} {m : Nat}, (∀ f ∈ fs, g.apart f = true) → m < g.count → t.reg g m = s.reg g m

theorem State.keptBut_refl (fs : List Field) (s : State) : s.keptBut fs s := ⟨rfl, rfl, rfl, fun _ _ => rfl⟩

theorem State.keptBut.trans {fs : List Field} {s t u : State} (h : s.keptBut fs t) (h' : t.keptBut fs u) : s.keptBut fs u :=
  ⟨h'.score.trans h.score, h'.beatU.trans h.beatU, h'.comps.trans h.comps, fun hg hm => (h'.reg hg hm).trans (h.reg hg hm)⟩

theorem State.keptBut.mono {fs fs' : List Field} {s t : State} (h : s.keptBut fs t) (hsub : ∀ f ∈ fs, f ∈ fs') : s.keptBut fs' t :=
  ⟨h.score, h.beatU, h.comps, fun hg hm => h.reg (fun f hf => hg f (hsub f hf)) hm⟩

theorem State.keptBut.setReg {fs : List Field} {s t : State} (h : s.keptBut fs t) {f : Field} {n : Nat} (hf : f ∈ fs) (hn : n < f.count)
    (v : Nat) : s.keptBut fs (t.setReg f v n) :=
  ⟨h.score, h.beatU, h.comps, fun hg hm => (State.reg_setReg_apart t v (hg f hf) hm hn).trans (h.reg hg hm)⟩

theorem State.keptBut.update {fs : List Field} {s t : State} (h : s.keptBut fs t) {f : Field} {n : Nat} (hf : f ∈ fs) (hn : n < f.count)
    (v : Nat) (u : Nat → Nat) : s.keptBut fs (t.update f v u n) := by
  refine ⟨?_, ?_, ?_, fun hg hm => (State.update_reg_apart t v u (hg f hf) hm hn).trans (h.reg hg hm)⟩
  all_goals rw [State.update_eq]
  · exact h.score
  · exact h.beatU
  · exact h.comps

theorem State.keptBut.count {fs : List Field} {s t : State} (h : s.keptBut fs t) {f : Field} {n : Nat} (hf : f ∈ fs) (hn : n < f.count)
    (k : Nat) : s.keptBut fs (t.count f k n) := h.update hf hn _ _

theorem State.keptBut.peak {fs : List Field} {s t : State} (h : s.keptBut fs t) {f : Field} {n : Nat} (hf : f ∈ fs) (hn : n < f.count)
    (v : Nat) : s.keptBut fs (t.peak f v n) := h.update hf hn _ _

/-- A change of other units alone. -/
theorem State.keptBut.congr {fs : List Field} {s t u : State} (h : s.keptBut fs t) (hregs : u.regs = t.regs) (hscore : u.score = t.score)
    (hbeatU : u.beatU = t.beatU) (hcomps : u.comps = t.comps) : s.keptBut fs u :=
  ⟨hscore.trans h.score, hbeatU.trans h.beatU, hcomps.trans h.comps, fun hg hm => (State.reg_congr hregs _ _).trans (h.reg hg hm)⟩

/-- A walk over keys keeps what each of its steps keeps. -/
theorem State.keptBut_foldl {α : Type} {fs : List Field} {f : State → α → State} {l : List α} (hstep : ∀ t : State, ∀ x ∈ l, t.keptBut fs (f t x)) (s : State) :
    s.keptBut fs (l.foldl f s) := by
  induction l generalizing s with
  | nil => exact s.keptBut_refl fs
  | cons x l ih =>
    exact (hstep s x (by simp)).trans (ih (fun t y hy => hstep t y (by simp [hy])) _)

/-! ### Working memory, Score Bushels and Score Chimes (02 R108; 04 R159; 07 R244) -/

/-- The fields that a boundary changes besides those of the sequencers. -/
def clearedFields : List Field :=
  [F.TALLY_PARK_PARKED_D0, F.TALLY_PARK_PARKED_D1, F.CAL_PHASE_PAGES_D0, F.CAL_PHASE_PAGES_D1, F.XBAR_DROP_A_SC_STALE,
   F.CHIME_STATUS_QMAX, F.CHIME_STATUS_STALE]

theorem State.showPark_kept {fs : List Field} (h0 : F.TALLY_PARK_PARKED_D0 ∈ fs) (h1 : F.TALLY_PARK_PARKED_D1 ∈ fs) (s : State) :
    s.keptBut fs s.showPark := ((s.keptBut_refl fs).setReg h0 (by decide) _).setReg h1 (by decide) _

theorem State.restoreChimes_kept (fs : List Field) (s : State) (l : List (Nat × Nat)) (base : Nat) : s.keptBut fs (s.restoreChimes l base) := by
  have hall : ∀ (x : State × Nat), x.1.keptBut fs (l.foldl (fun (p : State × Nat) e => (p.1.setChime p.2 ⟨e.1, e.2⟩, p.2 + 1)) x).1 := by
    induction l with
    | nil => exact fun x => x.1.keptBut_refl fs
    | cons e l ih =>
      intro x
      have hset : x.1.keptBut fs (x.1.setChime x.2 ⟨e.1, e.2⟩) := (x.1.keptBut_refl fs).congr rfl rfl rfl rfl
      exact hset.trans (ih (x.1.setChime x.2 ⟨e.1, e.2⟩, x.2 + 1))
  exact hall (s, base)

theorem State.clearWm_kept (fs : List Field) (s : State) : s.keptBut fs s.clearWm := (s.keptBut_refl fs).congr rfl rfl rfl rfl

theorem State.clearScoreBushels_kept {fs : List Field} (h0 : F.TALLY_PARK_PARKED_D0 ∈ fs) (h1 : F.TALLY_PARK_PARKED_D1 ∈ fs) (s : State) :
    s.keptBut fs s.clearScoreBushels := by
  unfold State.clearScoreBushels
  dsimp only
  refine State.keptBut.trans ?_ (State.showPark_kept h0 h1 _)
  exact (s.keptBut_refl fs).congr rfl rfl rfl rfl

theorem State.scoreChimes_kept (fs : List Field) (s : State) : s.keptBut fs s.scoreChimes := by
  unfold State.scoreChimes
  split
  · exact (s.restoreChimes_kept fs _ _).trans (State.restoreChimes_kept fs _ _ _)
  · exact s.keptBut_refl fs

theorem State.freshBeat_kept (s : State) : s.keptBut clearedFields s.freshBeat :=
  ((s.clearWm_kept _).trans (State.clearScoreBushels_kept (by decide) (by decide) _)).trans (State.scoreChimes_kept _ _)

theorem State.queueChime_kept (s : State) (o : ChimeOp) : s.keptBut clearedFields (s.queueChime o) := by
  have hjoined : s.keptBut clearedFields (s.putChimeq (s.chimeq ++ [o])) := (s.keptBut_refl _).congr rfl rfl rfl rfl
  exact hjoined.peak (f := F.CHIME_STATUS_QMAX) (by decide) (by decide) _

theorem State.flushChimes_kept (s : State) : s.keptBut clearedFields s.flushChimes :=
  State.keptBut_foldl (fun t o _ => t.queueChime_kept o) s

theorem State.dropChimes_kept (s : State) : s.keptBut clearedFields s.dropChimes := by
  unfold State.dropChimes
  dsimp only
  split
  · exact s.keptBut_refl _
  · have hgone : s.keptBut clearedFields (s.putChimeq (s.chimeq.filter (fun o => !s.scoreChime o.index))) :=
      (s.keptBut_refl _).congr rfl rfl rfl rfl
    exact hgone.count (f := F.CHIME_STATUS_STALE) (by decide) (by decide) _

theorem State.dropStale_kept (s : State) : s.keptBut clearedFields s.dropStale := by
  unfold State.dropStale
  exact ((s.keptBut_refl clearedFields).count (f := F.XBAR_DROP_A_SC_STALE) (by decide) (by decide) _).congr rfl rfl rfl rfl

theorem State.selectPages_kept (s : State) (b : Nat) : s.keptBut clearedFields (s.selectPages b) :=
  ((s.keptBut_refl _).setReg (by decide) (by decide) _).setReg (by decide) (by decide) _

/-! ### The sequencers at the start of a Beat (06 R206) -/

/-- The fields of the sequencers. -/
def clusterFields : List Field :=
  [F.SEQ_CLUSTER_STATE, F.SEQ_CLUSTER_INDEX, F.SEQ_CLUSTER_CCOUNT, F.SEQ_CLUSTER_STALL, F.SEQ_CLUSTER_WAIT_CHIME]

/-- A cluster's sequencer at the start of Beat `b`. -/
def State.startOne (b : Nat) (t : State) (c : Nat) : State :=
  let t1 := (t.setReg F.SEQ_CLUSTER_STATE (t.startState b c) c).setReg F.SEQ_CLUSTER_INDEX (t.listStart b c) c
  ((t1.setReg F.SEQ_CLUSTER_CCOUNT 0 c).setReg F.SEQ_CLUSTER_STALL 0 c).setReg F.SEQ_CLUSTER_WAIT_CHIME 0 c

theorem State.startOne_kept (b : Nat) (t : State) {c : Nat} (hc : c < 64) : t.keptBut clusterFields (t.startOne b c) :=
  (((((t.keptBut_refl _).setReg (by decide) hc _).setReg (by decide) hc _).setReg (by decide) hc _).setReg (by decide) hc _).setReg
    (by decide) hc _

theorem State.startState_lt (s : State) (b c : Nat) : s.startState b c < 8 := by
  unfold State.startState
  split
  · decide
  · split <;> decide

theorem State.keptBut.drainBeat {fs : List Field} {s t : State} (h : s.keptBut fs t) (hpause : ∀ f ∈ fs, F.SEQ_PAUSE_PAUSE_BEAT.apart f = true)
    (b : Nat) : t.drainBeat b = s.drainBeat b := by
  unfold State.drainBeat
  rw [h.score, h.reg hpause (by decide)]

theorem State.keptBut.scoreFenced {fs : List Field} {s t : State} (h : s.keptBut fs t) (c : Nat) : t.scoreFenced c = s.scoreFenced c := by
  unfold State.scoreFenced
  rw [h.score]

theorem State.keptBut.startState {fs : List Field} {s t : State} (h : s.keptBut fs t) (hpause : ∀ f ∈ fs, F.SEQ_PAUSE_PAUSE_BEAT.apart f = true)
    (b c : Nat) : t.startState b c = s.startState b c := by
  unfold State.startState
  rw [h.drainBeat hpause, h.scoreFenced]

theorem State.startOne_state (b : Nat) (t : State) {c : Nat} (hc : c < 64) :
    (t.startOne b c).reg F.SEQ_CLUSTER_STATE c = t.startState b c := by
  unfold State.startOne
  dsimp only
  rw [State.reg_setReg_apart _ _ (by decide) hc hc, State.reg_setReg_apart _ _ (by decide) hc hc,
    State.reg_setReg_apart _ _ (by decide) hc hc, State.reg_setReg_apart _ _ (by decide) hc hc]
  exact State.reg_setReg_lt t c (t.startState_lt b c)

theorem State.startOne_state_other (b : Nat) (t : State) {c j : Nat} (hc : c < 64) (hj : j < 64) (hne : j ≠ c) :
    (t.startOne b c).reg F.SEQ_CLUSTER_STATE j = t.reg F.SEQ_CLUSTER_STATE j := by
  have hkey : F.SEQ_CLUSTER_STATE.key j ≠ F.SEQ_CLUSTER_STATE.key c := fun h => hne (Field.key_inj (by decide) h)
  unfold State.startOne
  dsimp only
  rw [State.reg_setReg_apart _ _ (by decide) hj hc, State.reg_setReg_apart _ _ (by decide) hj hc,
    State.reg_setReg_apart _ _ (by decide) hj hc, State.reg_setReg_apart _ _ (by decide) hj hc, State.reg_setReg_other _ _ hkey]

theorem State.startEach_other (b : Nat) {l : List Nat} (hl : ∀ c ∈ l, c < 64) {j : Nat} (hj : j < 64) (hout : j ∉ l) (s : State) :
    (l.foldl (State.startOne b) s).reg F.SEQ_CLUSTER_STATE j = s.reg F.SEQ_CLUSTER_STATE j := by
  induction l generalizing s with
  | nil => rfl
  | cons c l ih =>
    simp only [List.mem_cons, not_or] at hout
    exact (ih (fun x hx => hl x (by simp [hx])) hout.2 _).trans (State.startOne_state_other b s (hl c (by simp)) hj hout.1)

/-- After the walk over the clusters each has the STATE that the Beat gives it. -/
theorem State.startEach_state (b : Nat) {l : List Nat} (hl : ∀ c ∈ l, c < 64) (hnodup : l.Nodup) (s : State) {c : Nat} (hc : c ∈ l) :
    (l.foldl (State.startOne b) s).reg F.SEQ_CLUSTER_STATE c = s.startState b c := by
  induction l generalizing s with
  | nil => exact absurd hc List.not_mem_nil
  | cons x l ih =>
    obtain ⟨hx, hrest⟩ := List.nodup_cons.mp hnodup
    have hlow : ∀ y ∈ l, y < 64 := fun y hy => hl y (by simp [hy])
    have hxlow : x < 64 := hl x (by simp)
    obtain rfl | hmem := List.mem_cons.mp hc
    · exact (State.startEach_other b hlow hxlow hx _).trans (State.startOne_state b s hxlow)
    · exact (ih hlow hrest _ hmem).trans ((State.startOne_kept b s hxlow).startState (by decide) b c)

theorem State.startSequencers_eq (s : State) (b : Nat) : s.startSequencers b = (List.range 64).foldl (State.startOne b)
    (s.putClusters ((s.clusters.map (fun e => (e.1, e.2.restart))).filter (fun e => decide (e.2 ≠ Cluster.reset)))) := rfl

theorem State.startSequencers_kept (s : State) (b : Nat) : s.keptBut clusterFields (s.startSequencers b) := by
  rw [State.startSequencers_eq]
  refine State.keptBut.trans ?_ (State.keptBut_foldl (fun t c hc => t.startOne_kept b (List.mem_range.mp hc)) _)
  exact (s.keptBut_refl _).congr rfl rfl rfl rfl

theorem State.startSequencers_state (s : State) (b : Nat) {c : Nat} (hc : c < 64) :
    (s.startSequencers b).reg F.SEQ_CLUSTER_STATE c = s.startState b c := by
  have hclusters : s.keptBut clusterFields
      (s.putClusters ((s.clusters.map (fun e => (e.1, e.2.restart))).filter (fun e => decide (e.2 ≠ Cluster.reset)))) :=
    (s.keptBut_refl _).congr rfl rfl rfl rfl
  rw [State.startSequencers_eq, State.startEach_state b (fun x hx => List.mem_range.mp hx) List.nodup_range _ (List.mem_range.mpr hc)]
  exact hclusters.startState (by decide) b c

/-! ### A Beat starts (02 R78, R79, R113) -/

/-- The Beat unit as Beat `b` starts at `t`. -/
def State.beatUnitAt (s : State) (b t : Nat) (hasPrev : Bool) : BeatUnit :=
  { s.beatU with
    start := t, adj := 0, err := false, errCause := 0, hasPrev := hasPrev, prevVerdict := 0, abandoned := false, stopped := false,
    drain := s.drainBeat b, holds := s.beatU.holds.filter (fun h => !s.ownAcre h.1), claveMode := s.reg F.BEAT_CLAVE_CFG_MODE,
    inflight := s.beatU.inflight.filter (fun e => decide (e.1 = b)) }

/-- The Beat's number, its end and its stretches, before the clusters start. -/
def State.beatNumbered (s : State) (b t : Nat) (hasPrev : Bool) : State :=
  ((((s.putBeatU (s.beatUnitAt b t hasPrev)).putSw { s.sw with base := s.sw.time }).setReg F.BEAT_NUM_NUM b).setReg F.BEAT_NEXT_BOUNDARY
    (t + s.reg F.BEAT_PERIOD_PERIOD)).setReg F.BEAT_STATUS_STRETCHES 0

theorem State.startBeat_eq (s : State) (b t : Nat) (hasPrev : Bool) : s.startBeat b t hasPrev =
    ((((s.beatNumbered b t hasPrev).flushChimes.startSequencers b).freshBeat.selectPages b).dropStale) := rfl

/-- The fields that a Beat's start changes once its number is set. -/
def startedFields : List Field := clearedFields ++ clusterFields

theorem State.startBeat_kept (s : State) (b t : Nat) (hasPrev : Bool) :
    (s.beatNumbered b t hasPrev).keptBut startedFields (s.startBeat b t hasPrev) := by
  have hcleared : ∀ f ∈ clearedFields, f ∈ startedFields := fun f hf => List.mem_append_left _ hf
  have hclusters : ∀ f ∈ clusterFields, f ∈ startedFields := fun f hf => List.mem_append_right _ hf
  rw [State.startBeat_eq]
  exact ((((State.flushChimes_kept _).mono hcleared).trans ((State.startSequencers_kept _ b).mono hclusters)).trans
    (((State.freshBeat_kept _).trans (State.selectPages_kept _ b)).trans (State.dropStale_kept _) |>.mono hcleared))

theorem State.startBeat_state (s : State) (b t : Nat) (hasPrev : Bool) {c : Nat} (hc : c < 64) :
    (s.startBeat b t hasPrev).reg F.SEQ_CLUSTER_STATE c = (s.beatNumbered b t hasPrev).startState b c := by
  have hafter := ((State.freshBeat_kept ((s.beatNumbered b t hasPrev).flushChimes.startSequencers b)).trans (State.selectPages_kept _ b)).trans
    (State.dropStale_kept _)
  rw [State.startBeat_eq, hafter.reg (by decide) hc, State.startSequencers_state _ b hc]
  exact (State.flushChimes_kept _).startState (by decide) b c

end Sys2Proof.Machine
end

section
/-!
PROOFS. The launch of a Score: the statement LaunchTollStartsFirstBeat.
-/
namespace Sys2Proof.Machine

theorem exec_launchTollReached (s : State) : exec .launchTollReached s = .next s.launchNow := rfl

/-- The Beat unit of a device that goes from ARMED to RUNNING. -/
def State.launchUnit (s : State) : BeatUnit :=
  { BeatUnit.reset with startBeat := s.beatU.startBeat, next := s.beatU.startBeat, vouched := s.beatU.vouched, edgeCk := s.beatU.edgeCk,
                        rounds := s.beatU.rounds.filter (fun r => !s.ownAcre r.acre), trees := s.beatU.trees,
                        holds := s.beatU.holds, resetDue := s.beatU.resetDue, leaveDue := s.beatU.resetDue }

/-- The device RUNNING, its first Beat not yet begun. -/
def State.launched (s : State) : State := ((s.putBeatU s.launchUnit).setReg F.BEAT_STATUS_STATE 2).setReg F.BEAT_STATUS_REPLAY_RUN 0

theorem State.launched_reg_apart (s : State) {g : Field} {m : Nat} (hstate : g.apart F.BEAT_STATUS_STATE = true)
    (hrun : g.apart F.BEAT_STATUS_REPLAY_RUN = true) (hm : m < g.count) : s.launched.reg g m = s.reg g m := by
  rw [State.launched, State.reg_setReg_apart _ _ hrun hm (by decide), State.reg_setReg_apart _ _ hstate hm (by decide)]
  rfl

/-- The launch descriptor is done. -/
def State.launchDone (s : State) (d : Desc) : State := (s.putScore { s.score with launch := none }).complete d 0

theorem State.launchDone_reg {g : Field} {m : Nat} (hg : ∀ f ∈ hubFields, g.apart f = true) (hm : m < g.count) (s : State) (d : Desc) :
    (s.launchDone d).reg g m = s.reg g m := State.complete_reg_apart hg hm (s.putScore { s.score with launch := none }) d 0 0 0

/-- An ARMED device out of SAFE_OFF begins its first Beat at LAUNCH_TOLL, and its launch is done. -/
theorem State.launchNow_starts {s : State} {d : Desc} (harmed : s.reg F.BEAT_STATUS_STATE = 1) (hpower : s.reg F.ENG_PWR_STATE_STATE ≠ 6)
    (hlaunch : s.score.launch = some d) {x : State} (hx : x = s.advanceTo (s.reg F.BEAT_LAUNCH_LAUNCH_TOLL)) : s.launchNow =
    (x.launched.startBeat s.beatU.startBeat (s.reg F.BEAT_LAUNCH_LAUNCH_TOLL) false).launchDone d := by
  have htoll : (s.advanceTo (s.reg F.BEAT_LAUNCH_LAUNCH_TOLL)).reg F.BEAT_LAUNCH_LAUNCH_TOLL = s.reg F.BEAT_LAUNCH_LAUNCH_TOLL :=
    s.advanceTo_reg_apart _ (by decide) (by decide)
  have hbeatU := s.advanceTo_beatU (s.reg F.BEAT_LAUNCH_LAUNCH_TOLL)
  have hscore := s.advanceTo_score (s.reg F.BEAT_LAUNCH_LAUNCH_TOLL)
  have hkept := x.launched.startBeat_kept s.beatU.startBeat (s.reg F.BEAT_LAUNCH_LAUNCH_TOLL) false
  have hnow : (x.launched.startBeat s.beatU.startBeat (s.reg F.BEAT_LAUNCH_LAUNCH_TOLL) false).score.launch = some d := by
    rw [hkept.score, ← hlaunch, ← hscore, ← hx]
    rfl
  have hstep : s.launchNow = match (x.launched.startBeat x.beatU.startBeat (x.reg F.BEAT_LAUNCH_LAUNCH_TOLL) false).score.launch with
    | some d => (x.launched.startBeat x.beatU.startBeat (x.reg F.BEAT_LAUNCH_LAUNCH_TOLL) false).launchDone d
    | none => x.launched.startBeat x.beatU.startBeat (x.reg F.BEAT_LAUNCH_LAUNCH_TOLL) false := by
    rw [hx]
    exact if_pos ⟨harmed, hpower⟩
  rw [hstep]
  rw [← hx] at htoll hbeatU
  rw [htoll, hbeatU, hnow]

theorem State.beatNumbered_reg_apart (s : State) (b t : Nat) (hasPrev : Bool) {g : Field} {m : Nat} (hnum : g.apart F.BEAT_NUM_NUM = true)
    (hnext : g.apart F.BEAT_NEXT_BOUNDARY = true) (hstretch : g.apart F.BEAT_STATUS_STRETCHES = true) (hm : m < g.count) :
    (s.beatNumbered b t hasPrev).reg g m = s.reg g m := by
  rw [State.beatNumbered, State.reg_setReg_apart _ _ hstretch hm (by decide), State.reg_setReg_apart _ _ hnext hm (by decide),
    State.reg_setReg_apart _ _ hnum hm (by decide)]
  rfl

theorem State.beatNumbered_shows (s : State) (b t : Nat) (hasPrev : Bool) :
    (s.beatNumbered b t hasPrev).reg F.BEAT_NUM_NUM = b % 2 ^ 48 ∧
    (s.beatNumbered b t hasPrev).reg F.BEAT_NEXT_BOUNDARY = (t + s.reg F.BEAT_PERIOD_PERIOD) % 2 ^ F.BEAT_NEXT_BOUNDARY.width ∧
    (s.beatNumbered b t hasPrev).reg F.BEAT_STATUS_STRETCHES = 0 := by
  unfold State.beatNumbered
  refine ⟨?_, ?_, State.reg_setReg_lt _ 0 (by decide)⟩
  · rw [State.reg_setReg_apart _ _ (by decide) (by decide) (by decide), State.reg_setReg_apart _ _ (by decide) (by decide) (by decide),
      State.reg_setReg_same]
    rfl
  · rw [State.reg_setReg_apart _ _ (by decide) (by decide) (by decide), State.reg_setReg_same]

theorem State.launched_shows (s : State) : s.launched.reg F.BEAT_STATUS_STATE = 2 ∧ s.launched.reg F.BEAT_STATUS_REPLAY_RUN = 0 := by
  unfold State.launched
  refine ⟨?_, State.reg_setReg_lt _ 0 (by decide)⟩
  rw [State.reg_setReg_apart _ _ (by decide) (by decide) (by decide)]
  exact State.reg_setReg_lt _ 0 (by decide)

/-- Settles O14: at LAUNCH_TOLL the Beat is numbered, its sequencers start, and what else a boundary brings leaves these be. -/
theorem launchTollStartsFirstBeat : Obligations.LaunchTollStartsFirstBeat := by
  intro d q s harmed hpower hlaunch hcur
  obtain ⟨x, hx⟩ : ∃ x, x = s.advanceTo (s.reg F.BEAT_LAUNCH_LAUNCH_TOLL) := ⟨_, rfl⟩
  have hstarts := State.launchNow_starts harmed hpower hlaunch hx
  have hbefore : ∀ {g : Field} {m : Nat}, g.apart F.TOLL_COUNT_COUNT = true → m < g.count → x.reg g m = s.reg g m := by
    rw [hx]
    exact fun hg hm => s.advanceTo_reg_apart _ hg hm
  have hscore : x.score = s.score := hx ▸ s.advanceTo_score _
  have hcomps : x.comps = s.comps := hx ▸ s.advanceTo_comps _
  have hreached : s.reg F.BEAT_LAUNCH_LAUNCH_TOLL ≤ x.toll := by
    have hfits : s.reg F.BEAT_LAUNCH_LAUNCH_TOLL < 2 ^ 64 := s.reg_lt F.BEAT_LAUNCH_LAUNCH_TOLL 0
    rw [hx, s.advanceTo_toll_max hfits]
    exact le_max_right _ _
  clear hx
  have hkept := x.launched.startBeat_kept s.beatU.startBeat (s.reg F.BEAT_LAUNCH_LAUNCH_TOLL) false
  have hclusters := fun {c : Nat} (hc : c < 64) =>
    x.launched.startBeat_state s.beatU.startBeat (s.reg F.BEAT_LAUNCH_LAUNCH_TOLL) false hc
  obtain ⟨hnum, hend, hstretch⟩ := x.launched.beatNumbered_shows s.beatU.startBeat (s.reg F.BEAT_LAUNCH_LAUNCH_TOLL) false
  have hstill := fun {g : Field} (h1 : g.apart F.BEAT_NUM_NUM = true) (h2 : g.apart F.BEAT_NEXT_BOUNDARY = true)
    (h3 : g.apart F.BEAT_STATUS_STRETCHES = true) (hm : 0 < g.count) =>
    x.launched.beatNumbered_reg_apart s.beatU.startBeat (s.reg F.BEAT_LAUNCH_LAUNCH_TOLL) false h1 h2 h3 hm
  obtain ⟨hrunning, hreplay⟩ := x.launched_shows
  have hperiod : x.launched.reg F.BEAT_PERIOD_PERIOD = s.reg F.BEAT_PERIOD_PERIOD :=
    (x.launched_reg_apart (by decide) (by decide) (by decide)).trans (hbefore (by decide) (by decide))
  have hpause := (hstill (g := F.SEQ_PAUSE_PAUSE_BEAT) (by decide) (by decide) (by decide) (by decide)).trans
    ((x.launched_reg_apart (by decide) (by decide) (by decide)).trans (hbefore (by decide) (by decide)))
  have hnumberedScore : (x.launched.beatNumbered s.beatU.startBeat (s.reg F.BEAT_LAUNCH_LAUNCH_TOLL) false).score = s.score := hscore
  have hstart : (x.launched.beatNumbered s.beatU.startBeat (s.reg F.BEAT_LAUNCH_LAUNCH_TOLL) false).beatU.start =
    s.reg F.BEAT_LAUNCH_LAUNCH_TOLL := rfl
  have hprev : (x.launched.beatNumbered s.beatU.startBeat (s.reg F.BEAT_LAUNCH_LAUNCH_TOLL) false).beatU.hasPrev = false := rfl
  have hnumberedComps : (x.launched.beatNumbered s.beatU.startBeat (s.reg F.BEAT_LAUNCH_LAUNCH_TOLL) false).comps = s.comps := hcomps
  generalize x.launched.beatNumbered s.beatU.startBeat (s.reg F.BEAT_LAUNCH_LAUNCH_TOLL) false = n at *
  generalize x.launched.startBeat s.beatU.startBeat (s.reg F.BEAT_LAUNCH_LAUNCH_TOLL) false = y at *
  have hscoreNow : y.score = s.score := hkept.score.trans hnumberedScore
  refine ⟨y.launchDone d, (exec_launchTollReached s).trans (congrArg Host.Outcome.next hstarts), ?_, ?_, ?_, ?_, ?_, ?_, ?_, ?_, ?_, ?_, ?_, ?_⟩
  · rw [State.launchDone_reg (by decide) (by decide), hkept.reg (by decide) (by decide),
      hstill (by decide) (by decide) (by decide) (by decide), hrunning]
  · rw [State.launchDone_reg (by decide) (by decide), hkept.reg (by decide) (by decide), hnum]
  · rw [State.launchDone_reg (by decide) (by decide), hkept.reg (by decide) (by decide), hend, hperiod]
  · rw [State.launchDone_reg (by decide) (by decide), hkept.reg (by decide) (by decide), hstretch]
  · rw [State.launchDone_reg (by decide) (by decide), hkept.reg (by decide) (by decide),
      hstill (by decide) (by decide) (by decide) (by decide), hreplay]
  · have htoll : (y.launchDone d).toll = x.toll := (State.launchDone_reg (by decide) (by decide) y d).trans
      ((hkept.reg (by decide) (by decide)).trans ((hstill (by decide) (by decide) (by decide) (by decide)).trans
        (x.launched_reg_apart (by decide) (by decide) (by decide))))
    rw [htoll]
    exact hreached
  · exact (congrArg BeatUnit.start hkept.beatU).trans hstart
  · exact (congrArg BeatUnit.hasPrev hkept.beatU).trans hprev
  · intro c hc
    rw [State.launchDone_reg (by decide) hc, hclusters hc]
    unfold State.startState State.scoreFenced State.drainBeat
    rw [hnumberedScore, hpause, hcur]
  · rfl
  · exact (congrArg ScoreUnit.cur hscoreNow).trans hcur
  · exact ⟨_, congrArg (· ++ [_]) (hkept.comps.trans hnumberedComps), rfl, rfl⟩

end Sys2Proof.Machine
end

section
/-!
LAWS. A Score's course through faults, drains and stops: what is loaded, the pause that is pending, the first Beat that has not committed,
and every register below those of the ride, memory and fault units.
-/
namespace Sys2Proof.Machine

/-- The loaded Score, the pending pause, the load in progress and the first Beat that has not committed are as they were. -/
structure State.courseKept (s t : State) : Prop where
  cur : t.score.cur = s.score.cur
  pause : t.score.pause = s.score.pause
  load : t.score.load = s.score.load
  next : t.beatU.next = s.beatU.next

theorem State.courseKept.trans {s t u : State} (h : s.courseKept t) (h' : t.courseKept u) : s.courseKept u :=
  ⟨h'.cur.trans h.cur, h'.pause.trans h.pause, h'.load.trans h.load, h'.next.trans h.next⟩

theorem State.keptBut.course {fs : List Field} {s t : State} (h : s.keptBut fs t) : s.courseKept t := by
  refine ⟨?_, ?_, ?_, ?_⟩
  · rw [h.score]
  · rw [h.score]
  · rw [h.score]
  · rw [h.beatU]

/-- The same, and every register of the units before the ride unit (08 R300; 01 R24) is as it was. -/
structure State.faultKept (s t : State) : Prop where
  course : s.courseKept t
  low : ∀ {g : Field} {m : Nat}, g.key m < 0x80000 * 64 → t.reg g m = s.reg g m

theorem State.faultKept_refl (s : State) : s.faultKept s := ⟨⟨rfl, rfl, rfl, rfl⟩, fun _ => rfl⟩

theorem State.faultKept.trans {s t u : State} (h : s.faultKept t) (h' : t.faultKept u) : s.faultKept u :=
  ⟨h.course.trans h'.course, fun hg => (h'.low hg).trans (h.low hg)⟩

/-- A change of other units alone. -/
theorem State.faultKept.congr {s t u : State} (h : s.faultKept t) (hregs : u.regs = t.regs) (hscore : u.score = t.score)
    (hnext : u.beatU.next = t.beatU.next) : s.faultKept u := by
  refine h.trans ⟨⟨?_, ?_, ?_, hnext⟩, fun _ => State.reg_congr hregs _ _⟩
  · rw [hscore]
  · rw [hscore]
  · rw [hscore]

theorem Field.key_ge_base (f : Field) (n : Nat) : f.base * 64 ≤ f.key n := by
  unfold Field.key
  omega

theorem State.faultKept.update {s t : State} (h : s.faultKept t) {f : Field} (hf : 0x80000 ≤ f.base) (v : Nat) (u : Nat → Nat) (n : Nat) :
    s.faultKept (t.update f v u n) := by
  refine h.trans ⟨⟨?_, ?_, ?_, ?_⟩, fun {g m} hg => ?_⟩
  iterate 4 rw [State.update_eq]; rfl
  have hkey : g.key m ≠ f.key n := by
    have hbase := f.key_ge_base n
    omega
  rw [State.update_reg, State.reg_setReg_other t v hkey]

theorem State.faultKept.count {s t : State} (h : s.faultKept t) {f : Field} (hf : 0x80000 ≤ f.base) (k n : Nat) :
    s.faultKept (t.count f k n) := h.update hf _ _ n

theorem State.faultKept.setReg {s t : State} (h : s.faultKept t) {f : Field} (hf : 0x80000 ≤ f.base) (v n : Nat) :
    s.faultKept (t.setReg f v n) := by
  refine h.trans ⟨⟨rfl, rfl, rfl, rfl⟩, fun {g m} hg => State.reg_setReg_other t v ?_⟩
  have hbase := f.key_ge_base n
  omega

/-- A walk keeps what each of its steps keeps while no load is in progress. -/
theorem State.faultKept_foldl {α : Type} {f : State → α → State} {l : List α} (hstep : ∀ t : State, t.score.load = none → ∀ x, t.faultKept (f t x))
    {s : State} (hload : s.score.load = none) : s.faultKept (l.foldl f s) := by
  induction l generalizing s with
  | nil => exact s.faultKept_refl
  | cons x l ih =>
    have hfirst := hstep s hload x
    exact hfirst.trans (ih (hfirst.course.load.trans hload))

theorem State.putFaults_faultKept (s : State) (f : FaultUnit) : s.faultKept (s.putFaults f) := s.faultKept_refl.congr rfl rfl rfl

/-! ### Messages and detected faults (17 R505 to R516) -/

theorem State.toRegion_faultKept (s : State) (n : Nat) (r : Rep) : s.faultKept (s.toRegion n r) := by
  unfold State.toRegion
  split
  · exact s.putFaults_faultKept _
  · exact s.faultKept_refl.count (by decide) _ _

theorem State.toCluster_faultKept (s : State) (c : Nat) (r : Rep) : s.faultKept (s.toCluster c r) := by
  unfold State.toCluster
  dsimp only
  exact (s.putFaults_faultKept _).trans (State.toRegion_faultKept _ _ _)

theorem State.toDie_faultKept (s : State) (d : Nat) (r : Rep) : s.faultKept (s.toDie d r) := by
  unfold State.toDie
  split
  · exact s.putFaults_faultKept _
  · split
    · exact s.faultKept_refl.count (by decide) _ _
    · exact s.faultKept_refl.count (by decide) _ _

theorem State.toHub_faultKept (s : State) (r : Rep) : s.faultKept (s.toHub r) := by
  have hqueued : s.faultKept (s.putFaults { s.faults with hub := s.faults.hub ++ [r] }) := s.putFaults_faultKept _
  unfold State.toHub
  dsimp only
  split
  · exact hqueued.count (by decide) _ _
  · split
    · exact hqueued.count (by decide) _ _
    · split
      · exact hqueued.count (by decide) _ _
      · exact hqueued

theorem State.send_faultKept {s : State} (hload : s.score.load = none) (r : Rep) : s.faultKept (s.send r) := by
  unfold State.send
  rw [s.loadHit_idle _ hload]
  dsimp only
  split
  · exact s.toCluster_faultKept _ _
  · exact s.toCluster_faultKept _ _
  · exact s.toRegion_faultKept _ _
  · exact s.toDie_faultKept _ _
  · exact s.toHub_faultKept _

theorem State.tell_faultKept {s : State} (hload : s.score.load = none) (kind cls level unit access : Nat) (addr : Option Nat) (act : Nat) :
    s.faultKept (s.tell kind cls level unit access addr act) := State.send_faultKept hload _

theorem State.tellOnce_faultKept {s : State} (hload : s.score.load = none) (kind level unit access : Nat) (addr : Option Nat) :
    s.faultKept (s.tellOnce kind level unit access addr) := by
  unfold State.tellOnce
  dsimp only
  split
  · exact s.faultKept_refl
  · refine (s.putFaults_faultKept _).trans (State.tell_faultKept ?_ _ _ _ _ _ _ _)
    exact hload

theorem State.err_next (s : State) (cause : Nat) : (s.err cause).beatU.next = s.beatU.next := by
  unfold State.err
  split <;> rfl

theorem State.halt_next (s : State) (causes : Nat) : (s.halt causes).beatU.next = s.beatU.next := by
  unfold State.halt
  split <;> rfl

theorem State.c3_next (s : State) (causes : Nat) : (s.c3 causes).beatU.next = s.beatU.next := s.halt_next _

theorem State.sealOf_next (s : State) (kind : Nat) : (s.sealOf kind).beatU.next = s.beatU.next := by
  unfold State.sealOf
  repeat' split
  all_goals simp only [State.err_next, State.halt_next, State.c3_next]

/-- A seal effect changes the Beat unit, and not which Beat is the first that has not committed. -/
theorem State.sealOf_faultKept (s : State) (kind : Nat) : s.faultKept (s.sealOf kind) := by
  have hnext : (s.sealOf kind).beatU.next = s.beatU.next := s.sealOf_next kind
  have heq := s.sealOf_eq kind
  generalize s.sealOf kind = t at hnext heq ⊢
  exact s.faultKept_refl.congr ((congrArg State.regs heq).trans rfl) ((congrArg State.score heq).trans rfl) hnext

theorem State.capture_faultKept (s : State) (r : Rep) : s.faultKept (s.capture r) := by
  unfold State.capture
  split
  · dsimp only
    split
    · exact s.faultKept_refl.count (by decide) _ _
    · exact ((s.putFaults_faultKept _).setReg (by decide) _ _).setReg (by decide) _ _
  · exact s.faultKept_refl

theorem State.owe_faultKept (s : State) (r : Rep) : s.faultKept (s.owe r) := by
  unfold State.owe
  split
  · exact s.putFaults_faultKept _
  · exact s.faultKept_refl

theorem State.raise_faultKept {s : State} (hload : s.score.load = none) (r : Rep) : s.faultKept (s.raise r) := by
  have howed := s.owe_faultKept r.acted
  have hsent := howed.trans (State.send_faultKept (howed.course.load.trans hload) r.acted)
  exact (hsent.trans (State.sealOf_faultKept _ _)).trans (State.capture_faultKept _ _)

/-! ### Reads of memory that hold an error (13 R420, R421) -/

theorem State.correctOne_faultKept {s : State} (hload : s.score.load = none) (u : Nat) : s.faultKept (s.correctOne u) := by
  unfold State.correctOne
  split
  · have hcounted : s.faultKept (s.count F.MEM_STACK_CE 1 (stackOf u)) := s.faultKept_refl.count (by decide) _ _
    exact hcounted.trans (State.tellOnce_faultKept (hcounted.course.load.trans hload) _ _ _ _ _)
  · split
    · exact State.tellOnce_faultKept hload _ _ _ _ _
    · exact State.tellOnce_faultKept hload _ _ _ _ _

theorem State.correct_faultKept {s : State} (hload : s.score.load = none) (a n : Nat) : s.faultKept (s.correct a n) :=
  State.faultKept_foldl (fun _ ht u => State.correctOne_faultKept ht u) hload

theorem State.meetPoison_faultKept {s : State} (hload : s.score.load = none) (reader a access : Nat) :
    s.faultKept (s.meetPoison reader a access) := by
  unfold State.meetPoison State.meetPoisonIn
  split
  · have hfirst : ∀ u, s.faultKept (if s.reg F.MEM_UE_FIRST_VALID = 0 then
        ((s.mark F.MEM_UE_FIRST_VALID).setReg F.MEM_UE_FIRST_READER reader).setReg F.MEM_UE_FIRST_ADDR u else s) := by
      intro u
      split
      · exact ((s.faultKept_refl.update (by decide) _ _ _).setReg (by decide) _ _).setReg (by decide) _ _
      · exact s.faultKept_refl
    have hcounted := (hfirst (poisonUnit a)).count (f := F.MEM_STACK_UE) (by decide) 1 (stackOf a)
    exact hcounted.trans (State.raise_faultKept (hcounted.course.load.trans hload) _)
  · split
    · exact State.raise_faultKept hload _
    · exact State.raise_faultKept hload _

/-! ### Memory, poison and tags -/

theorem State.poke_faultKept (s : State) (a : Nat) (l : List Byte) : s.faultKept (s.poke a l) := s.faultKept_refl.congr rfl rfl rfl

theorem State.cleanse_faultKept (s : State) (a n : Nat) : s.faultKept (s.cleanse a n) := s.faultKept_refl.congr rfl rfl rfl

theorem State.poisonAt_faultKept (s : State) (a : Nat) : s.faultKept (s.poisonAt a) := s.faultKept_refl.congr rfl rfl rfl

theorem State.putPoison_faultKept (s : State) (l : List Nat) : s.faultKept (s.putPoison l) := s.faultKept_refl.congr rfl rfl rfl

theorem State.mend_faultKept {s : State} (hload : s.score.load = none) (a n : Nat) : s.faultKept (s.mend a n) := by
  unfold State.mend
  exact (State.faultKept_foldl (fun _ ht u => State.correctOne_faultKept ht u) hload).congr rfl rfl rfl

theorem State.putTag_faultKept {s : State} (hload : s.score.load = none) (l x : Nat) : s.faultKept (s.putTag l x) := by
  have hmended := State.mend_faultKept hload (tagAddr l) 8
  unfold State.putTag
  exact hmended.congr rfl rfl rfl

theorem State.setLog_faultKept (s : State) (d p n : Nat) : s.faultKept (s.setLog d p n) := ⟨⟨rfl, rfl, rfl, rfl⟩, fun _ => rfl⟩

/-! ### The holder's drain (08 R297, R299) -/

theorem State.dropRide_faultKept (s : State) (p : Nat → Bool) : s.faultKept (s.dropRide p) := by
  unfold State.dropRide State.showRide
  refine State.faultKept.setReg ?_ (by decide) _ _
  exact s.faultKept_refl.congr rfl rfl rfl

theorem State.drainBlock_faultKept {s : State} (hload : s.score.load = none) (beat k j : Nat) : s.faultKept (s.drainBlock beat k j) := by
  unfold State.drainBlock
  dsimp only
  split
  · exact ((State.meetPoison_faultKept hload _ _ _).trans (State.poisonAt_faultKept _ _)).setReg (by decide) _ _
  · exact ((State.correct_faultKept hload _ _).trans (State.poke_faultKept _ _ _)).trans (State.cleanse_faultKept _ _ _)

theorem State.drainEntry_faultKept {s : State} (hload : s.score.load = none) (beat k : Nat) : s.faultKept (s.drainEntry beat k) :=
  State.faultKept_foldl (fun _ ht j => State.drainBlock_faultKept ht beat k j) hload

/-- A running device does not settle. -/
theorem State.settle_running {s : State} (h : s.reg F.BEAT_STATUS_STATE = 2) : s.settle = s := by
  refine if_neg ?_
  rintro ⟨hstate, -⟩
  omega

theorem State.drainDone_faultKept {s : State} (hload : s.score.load = none) (hrun : s.reg F.BEAT_STATUS_STATE = 2) : s.faultKept s.drainDone := by
  unfold State.drainDone
  split
  · exact s.faultKept_refl
  · rename_i b hdrain
    dsimp only
    have hentries : s.faultKept (foldKeys (List.range (s.rideCount b)) (fun t k => t.drainEntry b k) s) :=
      State.faultKept_foldl (fun _ ht k => State.drainEntry_faultKept ht b k) hload
    generalize foldKeys (List.range (s.rideCount b)) (fun t k => t.drainEntry b k) s = x at hentries ⊢
    have hcleared : s.faultKept ((x.putRide { x.ride with drain := none }).dropRide (fun y => decide (y = b))) := by
      refine State.faultKept.trans ?_ (State.dropRide_faultKept _ _)
      exact hentries.congr rfl rfl rfl
    generalize (x.putRide { x.ride with drain := none }).dropRide (fun y => decide (y = b)) = y at hcleared ⊢
    have hshown : s.faultKept (((y.setReg F.OPT_MIRROR_BEAT_BEAT b).setReg F.OPT_MIRROR_BEAT_VALID 1).setReg F.OPT_RIDE_STATUS_DRAINING 0) :=
      ((hcleared.setReg (by decide) _ _).setReg (by decide) _ _).setReg (by decide) _ _
    generalize ((y.setReg F.OPT_MIRROR_BEAT_BEAT b).setReg F.OPT_MIRROR_BEAT_VALID 1).setReg F.OPT_RIDE_STATUS_DRAINING 0 = z at hshown ⊢
    have hend : s.faultKept (if z.reg F.CKPT_STATUS_MIRROR_POISON = 1 then z else z.setReg F.OPT_RIDE_STATUS_CONSISTENT 1) := by
      split
      · exact hshown
      · exact hshown.setReg (by decide) _ _
    rw [State.settle_running ((hend.low (by decide)).trans hrun)]
    exact hend

theorem State.drainStart_faultKept {s : State} (hload : s.score.load = none) (hrun : s.reg F.BEAT_STATUS_STATE = 2) (b : Nat) :
    s.faultKept (s.drainStart b) := by
  unfold State.drainStart
  split
  · have hdone := State.drainDone_faultKept hload hrun
    generalize s.drainDone = x at hdone ⊢
    dsimp only
    have hput : s.faultKept (x.putRide { x.ride with drain := some b }) := hdone.congr rfl rfl rfl
    exact (hput.setReg (by decide) _ _).setReg (by decide) _ _
  · exact s.faultKept_refl

/-- A commit keeps the Score's course, and its Beat is the last that has committed. -/
theorem State.commit_faultKept {s : State} (hload : s.score.load = none) (hrun : s.reg F.BEAT_STATUS_STATE = 2) (b : Nat) :
    (s.putBeatU { s.beatU with next := b + 1 }).faultKept (s.commit b) := by
  unfold State.commit
  have hlogs := (State.setLog_faultKept (s.putBeatU { s.beatU with next := b + 1 }) 0 (b % 2) 0).trans (State.setLog_faultKept _ 1 (b % 2) 0)
  refine hlogs.trans (State.drainStart_faultKept ?_ ?_ b)
  · exact hload
  · exact hrun

/-! ### Rollback of a Beat (07 R252) -/

theorem State.undoOne_faultKept {s : State} (hload : s.score.load = none) (base k : Nat) : s.faultKept (s.undoOne base k) := by
  unfold State.undoOne
  dsimp only
  split
  · exact State.meetPoison_faultKept hload _ _ _
  · have hcopied := (State.correct_faultKept hload (base + 4160 * k) 4160).trans (State.poke_faultKept _ (s.word (base + 4160 * k))
      (s.bytes (base + 4160 * k + 64) 4096))
    generalize (s.correct (base + 4160 * k) 4160).poke (s.word (base + 4160 * k)) (s.bytes (base + 4160 * k + 64) 4096) = x at hcopied ⊢
    generalize ((List.range 64).filter (fun i => decide (base + 4160 * k + 64 + 64 * i ∈ s.score.carried))).foldl
      (fun p j => keyAdd p (s.word (base + 4160 * k) + 64 * j)) x.poison = l
    have hmarked := hcopied.trans (x.putPoison_faultKept l)
    split
    · exact hmarked.trans (State.meetPoison_faultKept (hmarked.course.load.trans hload) _ _ _)
    · exact hmarked.trans (State.putTag_faultKept (hmarked.course.load.trans hload) _ _)

theorem State.undoLog_faultKept {s : State} (hload : s.score.load = none) (q : ScoreParams) (d p : Nat) : s.faultKept (s.undoLog q d p) :=
  (State.faultKept_foldl (fun _ ht _ => State.undoOne_faultKept ht _ _) hload).trans (State.setLog_faultKept _ _ _ _)

theorem State.undoBeat_faultKept {s : State} (hload : s.score.load = none) (b : Nat) : s.faultKept (s.undoBeat b) := by
  unfold State.undoBeat
  split
  · rename_i q _
    have hfirst := State.undoLog_faultKept hload q 0 (b % 2)
    exact hfirst.trans (State.undoLog_faultKept (hfirst.course.load.trans hload) _ _ _)
  · exact s.faultKept_refl

/-! ### Stops and last boundaries (06 R206, R209; 17 R512) -/

/-- A sequencer that has not ended is STOPPED (06 R209). -/
def State.stopOne (t : State) (c : Nat) : State :=
  if t.reg F.SEQ_CLUSTER_STATE c = 1 ∨ t.reg F.SEQ_CLUSTER_STATE c = 2 then
    ((t.setReg F.SEQ_CLUSTER_STATE 4 c).setReg F.SEQ_CLUSTER_STALL 0 c).setReg F.SEQ_CLUSTER_WAIT_CHIME 0 c
  else t

theorem State.stopOne_kept (t : State) {c : Nat} (hc : c < 64) : t.keptBut clusterFields (t.stopOne c) := by
  unfold State.stopOne
  split
  · exact (((t.keptBut_refl _).setReg (by decide) hc _).setReg (by decide) hc _).setReg (by decide) hc _
  · exact t.keptBut_refl _

theorem State.stopIssue_eq (s : State) : ∃ l, s.stopIssue =
    (List.range 64).foldl State.stopOne ((s.putBeatU { s.beatU with stopped := true }).putClusters l) := by
  unfold State.stopIssue foldKeys
  exact ⟨_, rfl⟩

theorem State.stopIssue_kept (s : State) : (s.putBeatU { s.beatU with stopped := true }).keptBut clusterFields s.stopIssue := by
  obtain ⟨l, hstop⟩ := s.stopIssue_eq
  rw [hstop]
  generalize s.putBeatU { s.beatU with stopped := true } = x
  have hclusters : x.keptBut clusterFields (x.putClusters l) := (x.keptBut_refl _).congr rfl rfl rfl rfl
  exact hclusters.trans (State.keptBut_foldl (fun t c hc => t.stopOne_kept (List.mem_range.mp hc)) _)

theorem State.setFence_kept (s : State) (j b : Nat) : s.keptBut [F.FLT_FENCE_MAP] (s.setFence j b) := by
  unfold State.setFence
  split
  · rename_i h
    rw [State.writeCopy_frame]
    have hcount : j - 1 < F.FLT_FENCE_MAP.count := by
      have hten : F.FLT_FENCE_MAP.count = 10 := rfl
      omega
    exact ((s.keptBut_refl _).setReg (List.mem_singleton_self _) hcount _).congr rfl rfl rfl rfl
  · exact s.keptBut_refl _

theorem State.setFences_kept (s : State) : (s.putBeatU { s.beatU with fences := [] }).keptBut [F.FLT_FENCE_MAP] s.setFences :=
  State.keptBut_foldl (fun t e _ => t.setFence_kept e.1 e.2) _

theorem State.lastBoundary_kept (s : State) : s.keptBut startedFields s.lastBoundary := by
  have hcleared : ∀ f ∈ clearedFields, f ∈ startedFields := fun f hf => List.mem_append_left _ hf
  unfold State.lastBoundary
  dsimp only
  refine State.keptBut.setReg (State.keptBut.setReg ?_ (by decide) (by decide) _) (by decide) (by decide) _
  refine State.keptBut.trans ?_ (State.keptBut_foldl (fun t c hc => (t.keptBut_refl _).setReg (by decide) (List.mem_range.mp hc) _) _)
  refine State.keptBut.trans ?_ (((State.dropChimes_kept _).trans (State.freshBeat_kept _)).mono hcleared)
  exact (s.keptBut_refl _).congr rfl rfl rfl rfl

end Sys2Proof.Machine
end

section
/-!
PROOFS. The boundary at which a Score halts or its drain Beat ends: the statement HaltAndDrainEndTheScore.
-/
namespace Sys2Proof.Machine

theorem exec_beatBoundary (s : State) : exec .beatBoundary s = .next s.boundary := rfl

/-! ### A stop (02 R90, R91, R93) -/

theorem State.discardBeats_beatU (s : State) (bs : List Nat) : (s.discardBeats bs).beatU = { s.beatU with rollback := bs } := by
  have hpurge : (s.purge bs).beatU = s.beatU := by
    unfold State.purge State.count
    dsimp only
    rw [State.update_eq]
    rfl
  unfold State.discardBeats
  dsimp only
  rw [State.putBeatU_beatU]
  have hdropped : (((s.purge bs).dropQueued bs).dropRide (fun x => decide (x ∈ bs))).beatU = s.beatU := hpurge
  rw [hdropped]

theorem State.showConsistent_beatU (s : State) : s.showConsistent.beatU = s.beatU := by
  unfold State.showConsistent
  split <;> rfl

theorem State.abortPause_shows (s : State) : s.abortPause.score.pause = none ∧ s.abortPause.beatU = s.beatU ∧
    s.abortPause.reg F.BEAT_STATUS_STATE = s.reg F.BEAT_STATUS_STATE := by
  unfold State.abortPause
  split
  · exact ⟨rfl, rfl, State.complete_reg_apart (by decide) (by decide) (s.putScore { s.score with pause := none }) _ _ _ _⟩
  · rename_i hpause
    exact ⟨hpause, rfl, rfl⟩

/-- STATE, and no adjustment of the Clave pending, as a device stops. -/
def State.stopRegs (s : State) (how : Nat) : State := (s.setReg F.BEAT_STATUS_STATE how).setReg F.BEAT_CLAVE_STATUS_PEND 0

/-- The device once its Beat's work is discarded, as it stops. -/
def State.stopCleared (s : State) (how : Nat) : State :=
  (s.stopRegs how).putBeatU { (s.stopRegs how).beatU with
    haltDue := false, leaveDue := false, abandoned := false, hasPrev := false, err := false, errCause := 0, haltReq := false, haltCause := 0,
    holds := (s.stopRegs how).beatU.holds.filter (fun h => !(s.stopRegs how).ownAcre h.1) }

/-- A stop discards what has not committed with issue stopped, clears the Beat unit, and brings what every last boundary brings. -/
theorem State.stopAt_eq (s : State) (how : Nat) (mayCommit : Bool) : ∃ x : State, x.beatU.stopped = true ∧
    s.stopAt how mayCommit = (x.stopCleared how).lastBoundary.setFences.abortPause := by
  have hcut : ∀ (y : State) (bs : List Nat) (p : Nat → Bool), ((y.stopIssue.discardBeats bs).dropRide p).showConsistent.beatU.stopped = true := by
    intro y bs p
    have hdropped : ((y.stopIssue.discardBeats bs).dropRide p).beatU = (y.stopIssue.discardBeats bs).beatU := rfl
    rw [State.showConsistent_beatU, hdropped, State.discardBeats_beatU, y.stopIssue_kept.beatU]
    rfl
  unfold State.stopAt
  exact ⟨_, hcut _ _ _, rfl⟩

/-- What a stop shows. -/
theorem State.stopAt_shows (s : State) {how : Nat} (hhow : how < 8) (mayCommit : Bool) :
    (s.stopAt how mayCommit).reg F.BEAT_STATUS_STATE = how ∧ (s.stopAt how mayCommit).beatU.haltDue = false ∧
    (s.stopAt how mayCommit).beatU.leaveDue = false ∧ (s.stopAt how mayCommit).beatU.err = false ∧
    (s.stopAt how mayCommit).beatU.haltReq = false ∧ (s.stopAt how mayCommit).beatU.stopped = true ∧
    (s.stopAt how mayCommit).score.pause = none := by
  obtain ⟨x, hstopped, hstop⟩ := s.stopAt_eq how mayCommit
  obtain ⟨hpause, hbeatU, hstate⟩ := (x.stopCleared how).lastBoundary.setFences.abortPause_shows
  have hlast := (x.stopCleared how).lastBoundary_kept
  have hfences := (x.stopCleared how).lastBoundary.setFences_kept
  rw [hstop]
  generalize hy : (x.stopCleared how).lastBoundary = y at *
  have hshown : (x.stopCleared how).reg F.BEAT_STATUS_STATE = how := by
    unfold State.stopCleared State.stopRegs
    rw [State.putBeatU_reg, State.reg_setReg_apart _ _ (by decide) (by decide) (by decide)]
    exact State.reg_setReg_lt _ 0 hhow
  have hunit : y.setFences.abortPause.beatU = { (x.stopCleared how).beatU with fences := [] } := by
    rw [hbeatU, hfences.beatU, State.putBeatU_beatU, hlast.beatU]
  refine ⟨?_, ?_, ?_, ?_, ?_, ?_, hpause⟩
  · rw [hstate, hfences.reg (by decide) (by decide), State.putBeatU_reg, hlast.reg (by decide) (by decide), hshown]
  all_goals rw [hunit]
  · rfl
  · rfl
  · rfl
  · rfl
  · exact hstopped

/-! ### The end of a drain Beat (07 R266, R267) -/

/-- The registers and the Beat unit at the end of a drain Beat. -/
def State.drainEnded (s : State) (how : Nat) : State :=
  let x := (((s.setReg F.BEAT_STATUS_STATE 0).setReg F.SEQ_SCORE_STATE how).setReg F.SEQ_PAUSE_PAUSE_BEAT 0).setReg F.BEAT_CLAVE_STATUS_PEND 0
  (x.putBeatU { x.beatU with hasPrev := false, haltReq := false, haltCause := 0, err := false, errCause := 0 }).setNext

/-- The Beat before a drain Beat, if any, commits as it ends. -/
def State.drainCommitted (s : State) : State := if s.beatU.hasPrev then s.commit (s.beat - 1) else s

/-- The drain Beat is that of a pause, and no end (07 R267). -/
def State.drainPauses (s : State) (b : Nat) : Bool :=
  decide (s.reg F.SEQ_PAUSE_PAUSE_BEAT = b) &&
    (match s.score.cur with | some p => decide (p.beats = 0) || decide (b < p.beats) | none => true)

/-- A pending pause is done. -/
def State.pauseDone (s : State) : State :=
  match s.score.pause with
  | some d => (s.putScore { s.score with pause := none }).complete d 0
  | none => s

theorem State.drainEnd_eq (s : State) : s.drainEnd =
    ((s.drainCommitted.stopIssue.undoBeat s.beat).lastBoundary.setFences.drainEnded
      (if s.drainCommitted.drainPauses s.beat then 5 else 6)).pauseDone := by
  have hcommitted : (if s.beatU.hasPrev then s.commit (s.beat - 1) else s) = s.drainCommitted := rfl
  unfold State.drainEnd
  dsimp only
  rw [hcommitted]
  generalize s.drainCommitted = x
  generalize (x.stopIssue.undoBeat s.beat).lastBoundary.setFences = y
  rfl

theorem State.drainEnded_shows (s : State) {how : Nat} (hhow : how < 8) : (s.drainEnded how).reg F.BEAT_STATUS_STATE = 0 ∧
    (s.drainEnded how).reg F.SEQ_SCORE_STATE = how ∧ (s.drainEnded how).reg F.SEQ_PAUSE_PAUSE_BEAT = 0 ∧
    (s.drainEnded how).reg F.CKPT_STATUS_NEXT_V = 1 ∧
    (s.drainEnded how).reg F.CKPT_STATUS_NEXT_BEAT = s.beatU.next % 2 ^ F.CKPT_STATUS_NEXT_BEAT.width := by
  unfold State.drainEnded State.setNext
  dsimp only
  refine ⟨?_, ?_, ?_, State.reg_setReg_lt _ 0 (by decide), ?_⟩
  · iterate 2 rw [State.reg_setReg_apart _ _ (by decide) (by decide) (by decide)]
    rw [State.putBeatU_reg]
    iterate 3 rw [State.reg_setReg_apart _ _ (by decide) (by decide) (by decide)]
    exact State.reg_setReg_lt _ 0 (by decide)
  · iterate 2 rw [State.reg_setReg_apart _ _ (by decide) (by decide) (by decide)]
    rw [State.putBeatU_reg]
    iterate 2 rw [State.reg_setReg_apart _ _ (by decide) (by decide) (by decide)]
    exact State.reg_setReg_lt _ 0 hhow
  · iterate 2 rw [State.reg_setReg_apart _ _ (by decide) (by decide) (by decide)]
    rw [State.putBeatU_reg, State.reg_setReg_apart _ _ (by decide) (by decide) (by decide)]
    exact State.reg_setReg_lt _ 0 (by decide)
  · rw [State.reg_setReg_apart _ _ (by decide) (by decide) (by decide), State.reg_setReg_same]
    rfl

theorem State.pauseDone_reg {g : Field} {m : Nat} (hg : g.apart F.ACV_RSTAT_INFLIGHT = true) (hm : m < g.count) (s : State) :
    s.pauseDone.reg g m = s.reg g m := by
  unfold State.pauseDone
  split
  · rename_i d _
    rw [State.complete_eq, State.reg_setReg_apart _ _ hg hm d.ring.isLt]
    rfl
  · rfl

theorem State.pauseDone_shows (s : State) : s.pauseDone.score.pause = none ∧
    ∀ d, s.score.pause = some d → ∃ l e, s.pauseDone.comps = l ++ [e] ∧ e.code = 0 ∧ e.id = d.id.toNat := by
  unfold State.pauseDone
  split
  · rename_i d hpause
    refine ⟨rfl, fun x hx => ⟨s.comps, _, rfl, rfl, ?_⟩⟩
    rw [Option.some.inj (hpause.symm.trans hx)]
  · rename_i hpause
    exact ⟨hpause, fun d hd => absurd (hpause.symm.trans hd) (by simp)⟩

/-- The Beat before commits with the course of the Score kept. -/
theorem State.drainCommitted_shows {s : State} (hload : s.score.load = none) (hrun : s.reg F.BEAT_STATUS_STATE = 2) :
    s.drainCommitted.score.cur = s.score.cur ∧ s.drainCommitted.score.pause = s.score.pause ∧ s.drainCommitted.score.load = none ∧
    s.drainCommitted.reg F.SEQ_PAUSE_PAUSE_BEAT = s.reg F.SEQ_PAUSE_PAUSE_BEAT ∧
    (s.beatU.hasPrev = true → s.drainCommitted.beatU.next = s.beat - 1 + 1) := by
  unfold State.drainCommitted
  split
  · have hkept := State.commit_faultKept hload hrun (s.beat - 1)
    exact ⟨hkept.course.cur, hkept.course.pause, hkept.course.load.trans hload, hkept.low (by decide), fun _ => hkept.course.next⟩
  · rename_i hprev
    exact ⟨rfl, rfl, hload, rfl, fun h => absurd h hprev⟩

/-- What follows keeps the Score's course. -/
theorem State.drainStopped_course {s : State} (hload : s.score.load = none) (b : Nat) :
    s.courseKept (s.stopIssue.undoBeat b).lastBoundary.setFences := by
  have hissue : s.courseKept s.stopIssue := by
    have hkept := s.stopIssue_kept.course
    exact ⟨hkept.cur, hkept.pause, hkept.load, hkept.next⟩
  have hundone := hissue.trans (State.undoBeat_faultKept (hissue.load.trans hload) b).course
  have hlast := hundone.trans (State.lastBoundary_kept _).course
  generalize (s.stopIssue.undoBeat b).lastBoundary = x at hlast ⊢
  have hfences := x.setFences_kept.course
  exact hlast.trans ⟨hfences.cur, hfences.pause, hfences.load, hfences.next⟩

theorem State.drainPauses_iff {s : State} {q : ScoreParams} (hcur : s.score.cur = some q) (b : Nat) :
    s.drainPauses b = true ↔ s.reg F.SEQ_PAUSE_PAUSE_BEAT = b ∧ (q.beats = 0 ∨ b < q.beats) := by
  unfold State.drainPauses
  rw [hcur]
  simp only [Bool.and_eq_true, Bool.or_eq_true, decide_eq_true_eq]

/-- The boundary of a running Beat after SEAL_HALT stops the device. -/
theorem State.boundary_halts {s : State} (hrun : s.reg F.BEAT_STATUS_STATE = 2) (hdue : s.beatU.haltDue = true) :
    ∃ x : State, s.boundary = x.stopAt (if s.beatU.leaveDue then 4 else 3) true := by
  have hnot : ¬ (!s.running) = true := by
    rw [State.running, hrun]
    decide
  refine ⟨s.advanceTo (s.reg F.BEAT_NEXT_BOUNDARY), ?_⟩
  rw [State.boundary, if_neg hnot]
  simp only [s.advanceTo_beatU, hdue, if_true]
  split <;> rfl

/-- The boundary of a drain Beat, the Beat before it good, ends the drain Beat. -/
theorem State.boundary_drains {s : State} (hrun : s.reg F.BEAT_STATUS_STATE = 2) (hdue : s.beatU.haltDue = false)
    (hleave : s.beatU.leaveDue = false) (hgoing : s.beatU.abandoned = false) (hverdict : s.beatU.hasPrev = true → s.beatU.prevVerdict = 1)
    (hdrain : s.beatU.drain = true) : s.boundary = (s.advanceTo (s.reg F.BEAT_NEXT_BOUNDARY)).drainEnd := by
  have hnot : ¬ (!s.running) = true := by
    rw [State.running, hrun]
    decide
  have hgood : (s.beatU.hasPrev && decide (s.beatU.prevVerdict = 0)) = false := by
    cases hprev : s.beatU.hasPrev
    · rfl
    · rw [hverdict hprev]
      rfl
  rw [State.boundary, if_neg hnot]
  simp only [State.drainLeave, s.advanceTo_beatU, hdue, hgood, hgoing, hdrain, hleave, Bool.false_eq_true, if_false, if_true]

/-- Settles O15: a stop clears the Beat unit after the discards; a drain Beat's end commits the Beat before and sets the Score's registers last. -/
theorem haltAndDrainEndTheScore : Obligations.HaltAndDrainEndTheScore := by
  refine ⟨?_, ?_⟩
  · intro s hrun hdue
    obtain ⟨x, hstop⟩ := State.boundary_halts hrun hdue
    exact ⟨_, (exec_beatBoundary s).trans (congrArg Host.Outcome.next hstop), x.stopAt_shows (by split <;> decide) true⟩
  · intro q s hrun hdue hleave hgoing hverdict hdrain hcur hload
    have hends := State.boundary_drains hrun hdue hleave hgoing hverdict hdrain
    have hsame : ∀ {g : Field}, g.apart F.TOLL_COUNT_COUNT = true → 0 < g.count →
        (s.advanceTo (s.reg F.BEAT_NEXT_BOUNDARY)).reg g = s.reg g := fun hg hm => s.advanceTo_reg_apart _ hg hm
    have hscore := s.advanceTo_score (s.reg F.BEAT_NEXT_BOUNDARY)
    have hbeatU := s.advanceTo_beatU (s.reg F.BEAT_NEXT_BOUNDARY)
    generalize s.advanceTo (s.reg F.BEAT_NEXT_BOUNDARY) = x at hends hsame hscore hbeatU
    have hbeat : x.beat = s.beat := hsame (by decide) (by decide)
    have hloadNow : x.score.load = none := by rw [hscore, hload]
    obtain ⟨hcurNow, hpauseNow, hidle, hpauseBeat, hnext⟩ := State.drainCommitted_shows hloadNow ((hsame (by decide) (by decide)).trans hrun)
    have hcourse := State.drainStopped_course hidle x.beat
    have hpauses := State.drainPauses_iff (hcurNow.trans ((congrArg ScoreUnit.cur hscore).trans hcur)) x.beat
    rw [hpauseBeat, hsame (by decide) (by decide), hbeat] at hpauses
    have hdrainEnd := x.drainEnd_eq
    rw [hbeat] at hdrainEnd hcourse
    generalize hhow : (if x.drainCommitted.drainPauses s.beat then 5 else 6) = how at hdrainEnd
    have hhowEq : how = if s.reg F.SEQ_PAUSE_PAUSE_BEAT = s.beat ∧ (q.beats = 0 ∨ s.beat < q.beats) then 5 else 6 := by
      rw [← hhow, if_congr hpauses rfl rfl]
    have hhowLt : how < 8 := by
      rw [hhowEq]
      split <;> decide
    have hprev : s.beatU.hasPrev = true → (x.drainCommitted.stopIssue.undoBeat s.beat).lastBoundary.setFences.beatU.next = s.beat - 1 + 1 := by
      intro h
      rw [hcourse.next, hnext (by rw [hbeatU]; exact h), hbeat]
    have hpauseEnd : (x.drainCommitted.stopIssue.undoBeat s.beat).lastBoundary.setFences.score.pause = s.score.pause := by
      rw [hcourse.pause, hpauseNow, hscore]
    generalize (x.drainCommitted.stopIssue.undoBeat s.beat).lastBoundary.setFences = y at hdrainEnd hprev hpauseEnd
    obtain ⟨hstate, hscoreState, hpauseReg, hnextV, hnextBeat⟩ := y.drainEnded_shows hhowLt
    have hpauseEnded : (y.drainEnded how).score.pause = s.score.pause := hpauseEnd
    obtain ⟨hnone, hdone⟩ := (y.drainEnded how).pauseDone_shows
    refine ⟨(y.drainEnded how).pauseDone, (exec_beatBoundary s).trans (congrArg Host.Outcome.next (hends.trans hdrainEnd)), ?_, ?_, ?_, ?_, hnone,
      ?_, ?_⟩
    · exact (State.pauseDone_reg (by decide) (by decide) _).trans hstate
    · exact ((State.pauseDone_reg (by decide) (by decide) _).trans hscoreState).trans hhowEq
    · exact (State.pauseDone_reg (by decide) (by decide) _).trans hpauseReg
    · exact (State.pauseDone_reg (by decide) (by decide) _).trans hnextV
    · intro h
      exact (State.pauseDone_reg (by decide) (by decide) _).trans (hnextBeat.trans (by rw [hprev h]))
    · intro d hd
      exact hdone d (hpauseEnded.trans hd)

end Sys2Proof.Machine
end

section
/-!
LAWS. The parts of a Score load: what staging a file leaves alone and where its header lies, what joining the probe round changes, what the
loader's writes and the drain after them leave alone.
-/
namespace Sys2Proof.Machine

/-! ### The file in the staging area (07 R238, R258) -/

/-- `t` is `s` but for memory, poison and bad symbols. -/
def State.memOnly (s t : State) : Prop := t = ((s.putMem t.mem).putPoison t.poison).putSoft t.soft

theorem State.memOnly_refl (s : State) : s.memOnly s := rfl

theorem State.memOnly.trans {s t u : State} (h : s.memOnly t) (h' : t.memOnly u) : s.memOnly u := by
  unfold State.memOnly at h h' ⊢
  rw [h] at h'
  exact h'

theorem State.loaderPut_memOnly (s : State) (a : Nat) (l : List Byte) : s.memOnly (s.loaderPut a l) := rfl

theorem State.loaderPut_mem (s : State) (a : Nat) (l : List Byte) : (s.loaderPut a l).mem = memWrite s.mem a l := rfl

theorem State.stagePart_memOnly (s : State) (off : Nat) (l : List Byte) : s.memOnly (s.stagePart off l) := s.loaderPut_memOnly _ _

theorem State.stage_memOnly (s : State) (host : Nat) (f : ScoreFile) : s.memOnly (s.stage host f) := by
  have hfirst := (s.stagePart_memOnly 0 f.hdr).trans ((State.stagePart_memOnly _ (imgNat f.hdr 0x38 8)
    (s.hostBytes (host + imgNat f.hdr 0x38 8) (8 * imgNat f.hdr 0x34 2))).trans (State.stagePart_memOnly _ (imgNat f.hdr 0x40 8) f.table))
  unfold State.stage
  dsimp only
  split
  · exact hfirst.trans (State.stagePart_memOnly _ _ _)
  · exact hfirst

/-- Nothing outside the staging area is written. -/
theorem State.stagePart_byte_out (s : State) (off : Nat) (l : List Byte) {x : Nat} (hx : x < 0x4400000000 ∨ 0x4400000000 + 0x40000000 ≤ x) :
    (s.stagePart off l).byte x = s.byte x := by
  have hlen : (l.take (0x40000000 - off)).length ≤ 0x40000000 - off := List.length_take_le ..
  unfold State.byte State.stagePart
  rw [State.loaderPut_mem]
  obtain hlow | hhigh := hx
  · exact memWrite_below _ _ _ (by omega)
  · obtain hnone | hsome := Nat.lt_or_ge off 0x40000000
    · exact memWrite_above _ _ _ (by omega)
    · rw [Nat.sub_eq_zero_of_le hsome, List.take_zero]
      rfl

theorem State.memKeptOut.trans {s t u : State} {a n : Nat} (h : s.memKeptOut t a n) (h' : t.memKeptOut u a n) : s.memKeptOut u a n :=
  fun x hx => (h' x hx).trans (h x hx)

theorem State.stagePart_memKeptOut (s : State) (off : Nat) (l : List Byte) : s.memKeptOut (s.stagePart off l) 0x4400000000 0x40000000 :=
  fun _ hx => s.stagePart_byte_out off l hx

theorem State.stage_memKeptOut (s : State) (host : Nat) (f : ScoreFile) : s.memKeptOut (s.stage host f) 0x4400000000 0x40000000 := by
  have hfirst := (s.stagePart_memKeptOut 0 f.hdr).trans ((State.stagePart_memKeptOut _ (imgNat f.hdr 0x38 8)
    (s.hostBytes (host + imgNat f.hdr 0x38 8) (8 * imgNat f.hdr 0x34 2))).trans (State.stagePart_memKeptOut _ (imgNat f.hdr 0x40 8) f.table))
  unfold State.stage
  dsimp only
  split
  · exact hfirst.trans (State.stagePart_memKeptOut _ _ _)
  · exact hfirst

/-- A part that begins after the header leaves it as it lies. -/
theorem State.stagePart_header (s : State) {off : Nat} (hoff : 256 ≤ off) (l : List Byte) :
    (s.stagePart off l).bytes 0x4400000000 256 = s.bytes 0x4400000000 256 :=
  memBytes_memWrite_out s.mem (0x4400000000 + off) (l.take (0x40000000 - off)) (Or.inl (by omega))

/-- The first part is the header. -/
theorem State.stagePart_first (s : State) {l : List Byte} (hl : l.length = 256) : (s.stagePart 0 l).bytes 0x4400000000 256 = l := by
  have hwhole : l.take (0x40000000 - 0) = l := List.take_of_length_le (by omega)
  have hread := memBytes_memWrite_in s.mem 0x4400000000 l (o := 0) (n := 256) (by omega)
  rw [State.stagePart, hwhole]
  refine Eq.trans hread ?_
  rw [List.drop_zero]
  exact List.take_of_length_le (by omega)

/-- The header lies at the start of the staging area where no other part begins before its end. -/
theorem State.stage_header (s : State) (host : Nat) {f : ScoreFile} (hlen : f.hdr.length = 256) (hseeds : 256 ≤ imgNat f.hdr 0x38 8)
    (htable : 256 ≤ imgNat f.hdr 0x40 8) (himage : ∀ e, f.entry = some e → 256 ≤ imgNat e 8 8) :
    (s.stage host f).bytes 0x4400000000 256 = f.hdr := by
  unfold State.stage
  dsimp only
  split
  next e he =>
    rw [State.stagePart_header _ (himage e he), State.stagePart_header _ htable, State.stagePart_header _ hseeds, State.stagePart_first _ hlen]
  next => rw [State.stagePart_header _ htable, State.stagePart_header _ hseeds, State.stagePart_first _ hlen]

/-- The checks of a file do not look at memory. -/
theorem State.memOnly.scoreCode {s t : State} (h : s.memOnly t) (f : ScoreFile) (len back : Nat) : t.scoreCode f len back = s.scoreCode f len back := by
  rw [h]
  rfl

theorem State.fetchScore_hdr_length (s : State) (host : Nat) : (s.fetchScore host).hdr.length = 256 := by
  unfold State.fetchScore State.hostBytes memBytes
  rw [List.length_map, span_length]

/-! ### Joining the probe round (02 R88; 07 R260) -/

/-- Blocks sent leave registers, Scores, completions and memory. -/
theorem State.sentOnly.leaves {s t : State} (h : s.sentOnly t) :
    t.regs = s.regs ∧ t.score = s.score ∧ t.comps = s.comps ∧ t.mem = s.mem := by
  obtain ⟨hframe, -⟩ := h
  exact ⟨(congrArg State.regs hframe).trans rfl, (congrArg State.score hframe).trans rfl, (congrArg State.comps hframe).trans rfl,
    (congrArg State.mem hframe).trans rfl⟩

theorem State.sentOnly.keptBut {s t : State} (h : s.sentOnly t) (fs : List Field) : s.keptBut fs t := by
  obtain ⟨hregs, hscore, hcomps, -⟩ := h.leaves
  exact (s.keptBut_refl fs).congr hregs hscore ((congrArg State.beatU h.1).trans rfl) hcomps

/-- The fields that a probe round which ends here changes. -/
def probeFields : List Field := [F.GONG_LAT_MEAS_CK, F.GONG_WAIT_SEAL_WAIT]

theorem State.probeDone_kept (s : State) (v : Nat) : s.keptBut probeFields (s.probeDone v) := by
  unfold State.probeDone
  dsimp only
  have hregs := ((s.keptBut_refl probeFields).setReg (f := F.GONG_LAT_MEAS_CK) (n := 0) (by decide) (by decide) v).setReg
    (f := F.GONG_WAIT_SEAL_WAIT) (n := 0) (by decide) (by decide) (min (max ((s.setReg F.GONG_LAT_MEAS_CK v).reg F.GONG_WAIT_SEAL_WAIT)
      ((s.setReg F.GONG_LAT_MEAS_CK v).reg F.GONG_WAIT_SUBTREE_CK + 1024)) 0xFFFFFF)
  exact hregs.congr rfl rfl rfl rfl

theorem State.probeDone_mem (s : State) (v : Nat) : (s.probeDone v).mem = s.mem := by
  unfold State.probeDone
  dsimp only
  rw [State.putProbe_mem, State.setReg_mem, State.setReg_mem]

theorem State.probeDown_kept (fs : List Field) (s : State) (acre v : Nat) :
    s.keptBut fs (s.probeDown acre v) ∧ (s.probeDown acre v).mem = s.mem := by
  have hdraw : s.keptBut fs (s.probeBlock true acre v).2 := (s.keptBut_refl fs).congr rfl rfl rfl rfl
  have hsent := (s.probeBlock true acre v).2.sendPorts_sentOnly (s.probeBlock true acre v).2.childPorts tyProbe (s.probeBlock true acre v).1
  exact ⟨hdraw.trans (hsent.keptBut fs), hsent.leaves.2.2.2⟩

theorem State.probeSendUp_kept (fs : List Field) (s : State) (acre v : Nat) :
    s.keptBut fs (s.probeSendUp acre v) ∧ (s.probeSendUp acre v).mem = s.mem := by
  have hdraw : s.keptBut fs (s.probeBlock false acre v).2 := (s.keptBut_refl fs).congr rfl rfl rfl rfl
  have hsent := (s.probeBlock false acre v).2.sendUp_sentOnly tyProbe (s.probeBlock false acre v).1
  exact ⟨hdraw.trans (hsent.keptBut fs), hsent.leaves.2.2.2⟩

theorem State.probeUp_kept (s : State) : s.keptBut probeFields s.probeUp ∧ s.probeUp.mem = s.mem := by
  unfold State.probeUp
  split
  · dsimp only
    have hup (v : Nat) : s.keptBut probeFields (s.draw.2.putProbe { s.draw.2.probe with up := true, value := v }) :=
      (s.keptBut_refl _).congr rfl rfl rfl rfl
    split
    · obtain ⟨hdown, hmem⟩ := State.probeDown_kept probeFields
        (s.draw.2.putProbe { s.draw.2.probe with up := true, value := max s.probe.value (Config.probeRtt s.draw.1 % 60001) })
        (s.draw.2.putProbe { s.draw.2.probe with up := true, value := max s.probe.value (Config.probeRtt s.draw.1 % 60001) }).probeAcre
        (max s.probe.value (Config.probeRtt s.draw.1 % 60001))
      exact ⟨((hup _).trans hdown).trans (State.probeDone_kept _ _), (State.probeDone_mem _ _).trans hmem⟩
    · obtain ⟨hsent, hmem⟩ := State.probeSendUp_kept probeFields
        (s.draw.2.putProbe { s.draw.2.probe with up := true, value := max s.probe.value (Config.probeRtt s.draw.1 % 60001) })
        (s.draw.2.putProbe { s.draw.2.probe with up := true, value := max s.probe.value (Config.probeRtt s.draw.1 % 60001) }).probeAcre
        (max s.probe.value (Config.probeRtt s.draw.1 % 60001))
      exact ⟨(hup _).trans hsent, hmem⟩
  · exact ⟨s.keptBut_refl _, rfl⟩

theorem State.probeJoin_kept (s : State) : s.keptBut probeFields s.probeJoin ∧ s.probeJoin.mem = s.mem := by
  have hjoined : s.keptBut probeFields (s.putProbe { s.probe with joined := true, since := s.toll, up := false }) :=
    (s.keptBut_refl _).congr rfl rfl rfl rfl
  obtain ⟨hup, hmem⟩ := (s.putProbe { s.probe with joined := true, since := s.toll, up := false }).probeUp_kept
  exact ⟨hjoined.trans hup, hmem⟩

/-! ### What the loader writes (07 R242, R245, R246, R262) -/

/-- The fields that the loader's memory writes change. -/
def parkFields : List Field := [F.TALLY_PARK_PARKED_D0, F.TALLY_PARK_PARKED_D1]

/-- What the loader's memory writes leave alone: all but memory, Bushels, Chimes, parked inputs and the counts of the park areas. -/
structure State.loaderKept (s t : State) : Prop where
  kept : s.keptBut parkFields t
  route : t.route = s.route

theorem State.loaderKept_refl (s : State) : s.loaderKept s := ⟨s.keptBut_refl _, rfl⟩

theorem State.loaderKept.trans {s t u : State} (h : s.loaderKept t) (h' : t.loaderKept u) : s.loaderKept u :=
  ⟨h.kept.trans h'.kept, h'.route.trans h.route⟩

/-- A change of other units alone. -/
theorem State.loaderKept.congr {s t u : State} (h : s.loaderKept t) (hregs : u.regs = t.regs) (hscore : u.score = t.score)
    (hbeatU : u.beatU = t.beatU) (hcomps : u.comps = t.comps) (hroute : u.route = t.route) : s.loaderKept u :=
  ⟨h.kept.congr hregs hscore hbeatU hcomps, hroute.trans h.route⟩

theorem State.loaderKept_foldl {α : Type} {f : State → α → State} (hstep : ∀ t x, State.loaderKept t (f t x)) (l : List α) (s : State) :
    s.loaderKept (l.foldl f s) := by
  induction l generalizing s with
  | nil => exact s.loaderKept_refl
  | cons x l ih => exact (hstep s x).trans (ih _)

theorem State.loaderPut_kept (s : State) (a : Nat) (l : List Byte) : s.loaderKept (s.loaderPut a l) :=
  s.loaderKept_refl.congr rfl rfl rfl rfl rfl

theorem State.loadList_kept (s : State) (base : Nat) (e : Nat × List Byte × List Byte) : s.loaderKept (s.loadList base e) :=
  (s.loaderPut_kept _ _).trans (State.loaderPut_kept _ _ _)

theorem State.writeRecord_kept (s : State) (c r : Nat) (ws : List Nat) : s.loaderKept (s.writeRecord c r ws) :=
  s.loaderKept_refl.congr rfl rfl rfl rfl rfl

theorem State.setBushel_kept (s : State) (c r : Nat) (b : Bushel) : s.loaderKept (s.setBushel c r b) :=
  s.loaderKept_refl.congr rfl rfl rfl rfl rfl

theorem State.recordReset_kept (s : State) (c r : Nat) (ws : List Nat) : s.loaderKept ((s.writeRecord c r ws).setBushel c r Bushel.reset) :=
  (s.writeRecord_kept c r ws).trans (State.setBushel_kept _ _ _ _)

theorem State.setCl_kept (s : State) (c : Nat) (x : Cluster) : s.loaderKept (s.setCl c x) :=
  s.loaderKept_refl.congr rfl rfl rfl rfl rfl

theorem State.releaseRec_kept (s : State) (c r : Nat) : s.loaderKept (s.releaseRec c r) := by
  have hgone := s.recordReset_kept c r []
  unfold State.releaseRec
  dsimp only
  generalize (s.writeRecord c r []).setBushel c r Bushel.reset = t at hgone ⊢
  have hparked (q : List Parked) : s.loaderKept (t.putParked q) := hgone.congr rfl rfl rfl rfl rfl
  have hshown (q : List Parked) : s.loaderKept (t.putParked q).showPark :=
    (hparked q).trans ⟨State.showPark_kept (by decide) (by decide) _, rfl⟩
  exact (hshown _).trans (State.setCl_kept _ _ _)

theorem State.restoreChimes_route (s : State) (l : List (Nat × Nat)) (base : Nat) : (s.restoreChimes l base).route = s.route := by
  have hall : ∀ x : State × Nat, (l.foldl (fun (p : State × Nat) e => (p.1.setChime p.2 ⟨e.1, e.2⟩, p.2 + 1)) x).1.route = x.1.route := by
    induction l with
    | nil => exact fun x => rfl
    | cons e l ih => exact fun x => ih (x.1.setChime x.2 ⟨e.1, e.2⟩, x.2 + 1)
  exact hall (s, base)

theorem State.restoreChimes_loaderKept (s : State) (l : List (Nat × Nat)) (base : Nat) : s.loaderKept (s.restoreChimes l base) :=
  ⟨s.restoreChimes_kept _ l base, s.restoreChimes_route l base⟩

/-- The loader's second step: the calendar, and registers of the park areas alone. -/
theorem State.loadMem_kept (s : State) (l : Load) :
    (s.putScore { s.score with calendar := calendarTab l.calendar }).loaderKept (s.loadMem l) := by
  unfold State.loadMem
  dsimp only
  refine State.loaderKept.trans ?_ (State.restoreChimes_loaderKept _ _ _)
  refine State.loaderKept.trans ?_ (State.restoreChimes_loaderKept _ _ _)
  refine State.loaderKept.trans ?_ (State.loaderKept_foldl (fun t e => t.loadList_kept _ e) _ _)
  refine State.loaderKept.trans ?_ (State.loaderKept_foldl (fun t e => t.recordReset_kept _ _ _) _ _)
  exact State.loaderKept_foldl (fun t k => t.releaseRec_kept _ _) _ _

/-- The loader's first step changes registers alone. -/
theorem State.loadRegs_leaves (s : State) (l : Load) : (s.loadRegs l).score = s.score ∧ (s.loadRegs l).route = s.route := by
  unfold State.loadRegs
  dsimp only
  exact ⟨by simp only [State.setReg_score], by simp only [State.setReg_route]⟩

/-- The routes of a load prepared: the inactive bank and ROUTE_BANK change. -/
theorem State.prepare_kept (s : State) (l : List Byte) : s.keptBut [F.ROUTE_BANK_STATE, F.ROUTE_BANK_PREP_ACRE] (s.prepare l) := by
  have hbank : s.keptBut [F.ROUTE_BANK_STATE, F.ROUTE_BANK_PREP_ACRE] (s.setInactive (s.imageBank l)) := (s.keptBut_refl _).congr rfl rfl rfl rfl
  exact (hbank.setReg (f := F.ROUTE_BANK_STATE) (n := 0) (by decide) (by decide) _).setReg (f := F.ROUTE_BANK_PREP_ACRE) (n := 0)
    (by decide) (by decide) _

theorem State.prepare_drain (s : State) (l : List Byte) : (s.prepare l).route.drain = s.route.drain ∧
    (s.prepare l).route.requests = s.route.requests := by
  have hbank : (s.setInactive (s.imageBank l)).route.drain = s.route.drain ∧
      (s.setInactive (s.imageBank l)).route.requests = s.route.requests := by
    unfold State.setInactive
    rw [State.putRoute_route]
    split <;> exact ⟨rfl, rfl⟩
  exact hbank

/-! ### The drain that a load begins (11 R380 to R383) -/

theorem State.marksOnly.keptBut {s t : State} (h : s.marksOnly t) (fs : List Field) : s.keptBut fs t :=
  (s.keptBut_refl fs).congr ((congrArg State.regs h).trans rfl) ((congrArg State.score h).trans rfl) ((congrArg State.beatU h).trans rfl)
    ((congrArg State.comps h).trans rfl)

theorem State.waveCame_kept (s : State) (a w : Nat) : s.keptBut [F.ROUTE_BANK_WAVE] (s.waveCame a w) :=
  ((s.keptBut_refl _).setReg (f := F.ROUTE_BANK_WAVE) (n := 0) (by decide) (by decide) w).congr rfl rfl rfl rfl

theorem State.waveDown_kept (s : State) (a w : Nat) : s.keptBut [F.ROUTE_BANK_WAVE] (s.waveDown a w) := by
  rw [State.waveDown_eq]
  exact (s.waveCame_kept a w).trans ((State.sendMarkers_marksOnly _ _ _).keptBut _)

/-- The first wave of a drain ends no drain: there is no earlier one to compare it with, and no time has passed. -/
theorem State.judge_first {s : State} {d : Drain} (hdrain : s.route.drain = some d) (hprev : d.prev = none) (htime : s.toll ≤ d.t0 + 2500000000)
    (fs : List Field) (empty : Bool) (tx rx : Nat) : s.keptBut fs (s.judge empty tx rx) := by
  have hfirst : ¬ (empty = true ∧ tx = rx ∧ d.prev = some (tx, rx)) := by
    rw [hprev]
    simp
  unfold State.judge
  rw [hdrain]
  dsimp only
  rw [if_neg hfirst, if_neg (Nat.not_lt.mpr htime)]
  exact (s.keptBut_refl fs).congr rfl rfl rfl rfl

theorem State.waveUp_first {s : State} {d : Drain} (hdrain : s.route.drain = some d) (hprev : d.prev = none) (htime : s.toll ≤ d.t0 + 2500000000)
    (fs : List Field) : s.keptBut fs s.waveUp := by
  unfold State.waveUp
  split
  · exact s.keptBut_refl fs
  · split
    · dsimp only
      have hdone : s.keptBut fs (s.putRoute { s.route with wave := none }) := (s.keptBut_refl fs).congr rfl rfl rfl rfl
      split
      · exact hdone.trans (State.judge_first (s := s.putRoute { s.route with wave := none }) hdrain hprev htime fs _ _ _)
      · exact hdone.trans ((State.sendMarker_marksOnly _ _ _).keptBut fs)
    · exact s.keptBut_refl fs

theorem State.waveDown_drain (s : State) (a w : Nat) : (s.waveDown a w).route.drain = s.route.drain := by
  have hmarks := (s.waveCame a w).sendMarkers_marksOnly (s.waveCame a w).childPorts ((s.waveCame a w).marker a 0 w false 0 0 0)
  rw [← State.waveDown_eq] at hmarks
  exact (congrArg (fun x => x.route.drain) hmarks).trans rfl

/-- A request for a drain while none is in progress or waits: WAVE may show its first wave. -/
theorem State.askDrain_kept {s : State} (hdrain : s.route.drain = none) (hreq : s.route.requests = []) (a : Nat) :
    s.keptBut [F.ROUTE_BANK_WAVE] (s.askDrain a) := by
  unfold State.askDrain
  split
  · have hany : ¬ s.route.drain.any (fun d => decide (d.acre = a)) = true := by
      rw [hdrain]
      exact Bool.false_ne_true
    have hnext : (s.putRoute { s.route with requests := keyAdd s.route.requests a }).nextDrain = (s.drainBegun a).waveDown a 1 := by
      simp only [State.nextDrain, State.putRoute_route, hdrain, hreq, keyAdd]
      rfl
    have hbegun : s.keptBut [F.ROUTE_BANK_WAVE] (s.drainBegun a) := (s.keptBut_refl _).congr rfl rfl rfl rfl
    have hwave := (s.drainBegun a).waveDown_kept a 1
    have htoll : ((s.drainBegun a).waveDown a 1).toll = s.toll := hwave.reg (g := F.TOLL_COUNT_COUNT) (by decide) (by decide)
    rw [if_neg hany, hnext]
    exact (hbegun.trans hwave).trans (State.waveUp_first ((s.drainBegun a).waveDown_drain a 1) rfl (htoll ▸ Nat.le_add_right _ _) _)
  · exact (State.sendMarker_marksOnly _ _ _).keptBut _

/-- A device enters DRAINING while no drain is in progress or waits. -/
theorem State.startDrain_kept {s : State} (hdrain : s.route.drain = none) (hreq : s.route.requests = []) (d : Option Desc) :
    (s.setReg F.ROUTE_BANK_STATE 2).keptBut [F.ROUTE_BANK_WAVE] (s.startDrain d) := by
  have hroute : (s.setReg F.ROUTE_BANK_STATE 2).keptBut [F.ROUTE_BANK_WAVE] ((s.setReg F.ROUTE_BANK_STATE 2).putRoute
      { (s.setReg F.ROUTE_BANK_STATE 2).route with quiet := [], swap := d }) := (State.keptBut_refl _ _).congr rfl rfl rfl rfl
  refine hroute.trans (State.askDrain_kept (s := (s.setReg F.ROUTE_BANK_STATE 2).putRoute
    { (s.setReg F.ROUTE_BANK_STATE 2).route with quiet := [], swap := d }) hdrain hreq _)

end Sys2Proof.Machine
end

section
/-!
PROOFS. Score load, launch and pause descriptors: the statement ScoresLoadLaunchAndPause.
-/
namespace Sys2Proof.Machine

/-! ### The end of a load (07 R259, R261, R262) -/

theorem exec_scoreLoadFinish (s : State) : exec .scoreLoadFinish s = .next s.scoreFinish := rfl

/-- A load whose probe round is over and that has not begun to write, while no drain uses the banks. -/
def State.loadEnds (s : State) (l : Load) : Prop :=
  s.score.load = some l ∧ s.probe.joined = false ∧ l.writing = false ∧ s.reg F.ROUTE_BANK_STATE ≠ 2

theorem State.loadEnds.ready {s : State} {l : Load} (h : s.loadEnds l) :
    ¬ (s.probe.joined = true ∨ l.writing = true ∨ s.routeState = 2) := by
  obtain ⟨-, hjoined, hwriting, hbank⟩ := h
  simp [hjoined, hwriting, State.routeState, hbank]

theorem State.beatCode_period {s : State} {l : Load} (h : l.period < 2 * s.reg F.GONG_LAT_MEAS_CK) : s.beatCode l = 0x4B := if_pos h

/-- A load that fails a check of its Beat. -/
theorem State.scoreFinish_fails {s : State} {l : Load} (hends : s.loadEnds l) (hcode : s.beatCode l ≠ 0) :
    s.scoreFinish = (s.failLoad l.desc (s.beatCode l)).setReg F.SEQ_SCORE_STATE l.back := by
  unfold State.scoreFinish
  rw [hends.1]
  dsimp only
  rw [if_neg hends.ready, if_pos hcode]

theorem State.scoreFinish_fails_shows (s : State) (l : Load) {code : Nat} (hcode : code < 2 ^ 16) :
    ((s.failLoad l.desc code).setReg F.SEQ_SCORE_STATE l.back).score.load = none ∧
    ((s.failLoad l.desc code).setReg F.SEQ_SCORE_STATE l.back).reg F.SEQ_SCORE_STATE = l.back % 2 ^ 3 ∧
    ((s.failLoad l.desc code).setReg F.SEQ_SCORE_STATE l.back).reg F.SEQ_SCORE_LAST_CODE = code ∧
    ((s.failLoad l.desc code).setReg F.SEQ_SCORE_STATE l.back).comps =
      s.comps ++ [⟨l.desc.ring.val, l.desc.slot.toNat, l.desc.id.toNat, code, 0, 0, s.toll⟩] ∧
    s.memKept ((s.failLoad l.desc code).setReg F.SEQ_SCORE_STATE l.back) := by
  obtain ⟨hnone, -, hlast, hmem, -⟩ := s.failLoad_shows l.desc hcode
  refine ⟨hnone, State.reg_setReg_same .., ?_, ?_, State.memKept_of_mem hmem⟩
  · rw [State.reg_setReg_apart _ _ (by decide) (by decide) (by decide), hlast]
  · have htoll : (s.setReg F.SEQ_SCORE_LAST_CODE code).toll = s.toll := s.reg_setReg_apart code (by decide) (by decide) (by decide)
    rw [← htoll]
    rfl

/-- The load as its writes begin. -/
def State.loadBegun (s : State) (l : Load) : State := s.putScore { s.score with load := some { l with writing := true } }

/-- The load's registers and memory written. -/
def State.loadWritten (s : State) (l : Load) : State := ((s.loadBegun l).loadRegs l).loadMem l

/-- The undo capacity shown and the routes prepared, before the drain. -/
def State.loadPrepared (s : State) (l : Load) : State :=
  ((s.loadWritten l).setReg F.SEQ_UNDO_CAP (l.params.undoBytes / 4160)).prepare l.routes

/-- A load that passes the checks of its Beat writes, and enters the drain. -/
theorem State.scoreFinish_writes {s : State} {l : Load} (hends : s.loadEnds l) (hcode : s.beatCode l = 0) :
    s.scoreFinish = (s.loadPrepared l).startDrain none := by
  unfold State.scoreFinish
  rw [hends.1]
  dsimp only
  rw [if_neg hends.ready, if_neg (not_not_intro hcode)]
  rfl

theorem State.loadWritten_leaves (s : State) (l : Load) : (s.loadWritten l).score =
    { s.score with load := some { l with writing := true }, calendar := calendarTab l.calendar } ∧ (s.loadWritten l).route = s.route := by
  obtain ⟨hscore, hroute⟩ := (s.loadBegun l).loadRegs_leaves l
  have hmem := ((s.loadBegun l).loadRegs l).loadMem_kept l
  refine ⟨hmem.kept.score.trans ?_, hmem.route.trans hroute⟩
  rw [State.putScore_score, hscore]
  rfl

theorem State.loadWritten_reg (s : State) (l : Load) {g : Field} {m : Nat} (hg : ∀ f ∈ parkFields, g.apart f = true) (hm : m < g.count) :
    (s.loadWritten l).reg g m = ((s.loadBegun l).loadRegs l).reg g m :=
  ((((s.loadBegun l).loadRegs l).loadMem_kept l).kept.reg hg hm).trans (State.putScore_reg ..)

/-- What the loader's register writes show. -/
theorem State.loadRegs_shows (s : State) (l : Load) :
    (s.loadRegs l).reg F.BEAT_PERIOD_PERIOD = l.period % 2 ^ F.BEAT_PERIOD_PERIOD.width ∧
    (s.loadRegs l).reg F.BEAT_PERIOD_STRETCH = l.stretch % 2 ^ F.BEAT_PERIOD_STRETCH.width ∧
    (s.loadRegs l).reg F.MXE_CFG_FIXED_LAT = 1 ∧ (s.loadRegs l).reg F.MXE_CFG_SCORED_LAT = 182 := by
  unfold State.loadRegs
  dsimp only
  refine ⟨?_, ?_, ?_, ?_⟩
  · rw [State.reg_setReg_apart _ _ (by decide) (by decide) (by decide), State.reg_setReg_apart _ _ (by decide) (by decide) (by decide),
      State.reg_setReg_same]
  · rw [State.reg_setReg_apart _ _ (by decide) (by decide) (by decide), State.reg_setReg_same]
  · rw [State.reg_setReg_apart _ _ (by decide) (by decide) (by decide), State.reg_setReg_apart _ _ (by decide) (by decide) (by decide),
      State.reg_setReg_apart _ _ (by decide) (by decide) (by decide), State.reg_setReg_apart _ _ (by decide) (by decide) (by decide)]
    exact State.reg_setReg_lt _ 0 (by decide)
  · rw [State.reg_setReg_apart _ _ (by decide) (by decide) (by decide), State.reg_setReg_apart _ _ (by decide) (by decide) (by decide),
      State.reg_setReg_apart _ _ (by decide) (by decide) (by decide)]
    exact State.reg_setReg_lt _ 0 (by decide)

/-- The fields that the end of a load changes after its register writes. -/
def finishFields : List Field :=
  F.ROUTE_BANK_STATE :: F.ROUTE_BANK_PREP_ACRE :: F.ROUTE_BANK_WAVE :: F.SEQ_UNDO_CAP :: parkFields

section
variable {s : State} {l : Load} (hdrain : s.route.drain = none) (hreq : s.route.requests = [])
include hdrain hreq

theorem State.loadPrepared_drains : ((s.loadPrepared l).setReg F.ROUTE_BANK_STATE 2).keptBut [F.ROUTE_BANK_WAVE]
    ((s.loadPrepared l).startDrain none) := by
  obtain ⟨-, hroute⟩ := s.loadWritten_leaves l
  obtain ⟨hdrainNow, hreqNow⟩ := ((s.loadWritten l).setReg F.SEQ_UNDO_CAP (l.params.undoBytes / 4160)).prepare_drain l.routes
  refine State.startDrain_kept (hdrainNow.trans ?_) (hreqNow.trans ?_) none
  · rw [State.setReg_route, hroute, hdrain]
  · rw [State.setReg_route, hroute, hreq]

theorem State.loadFinished_score : ((s.loadPrepared l).startDrain none).score =
    { s.score with load := some { l with writing := true }, calendar := calendarTab l.calendar } := by
  have hprepared := ((s.loadWritten l).setReg F.SEQ_UNDO_CAP (l.params.undoBytes / 4160)).prepare_kept l.routes
  calc ((s.loadPrepared l).startDrain none).score = (s.loadPrepared l).score := (State.loadPrepared_drains hdrain hreq).score
    _ = (s.loadWritten l).score := hprepared.score
    _ = _ := (s.loadWritten_leaves l).1

theorem State.loadFinished_bank : ((s.loadPrepared l).startDrain none).reg F.ROUTE_BANK_STATE = 2 :=
  ((State.loadPrepared_drains hdrain hreq).reg (by decide) (by decide)).trans (State.reg_setReg_lt _ 0 (by decide))

theorem State.loadFinished_capped {g : Field} {m : Nat} (hbank : g.apart F.ROUTE_BANK_STATE = true) (hacre : g.apart F.ROUTE_BANK_PREP_ACRE = true)
    (hwave : g.apart F.ROUTE_BANK_WAVE = true) (hm : m < g.count) : ((s.loadPrepared l).startDrain none).reg g m =
      ((s.loadWritten l).setReg F.SEQ_UNDO_CAP (l.params.undoBytes / 4160)).reg g m := by
  have hprepared := ((s.loadWritten l).setReg F.SEQ_UNDO_CAP (l.params.undoBytes / 4160)).prepare_kept l.routes
  rw [(State.loadPrepared_drains hdrain hreq).reg (by simpa using hwave) hm, State.reg_setReg_apart _ _ hbank hm (by decide)]
  exact hprepared.reg (by simp [hbank, hacre]) hm

/-- What the loader's register writes show stays through its memory writes and the drain's begin. -/
theorem State.loadFinished_reg {g : Field} {m : Nat} (hg : ∀ f ∈ finishFields, g.apart f = true) (hm : m < g.count) :
    ((s.loadPrepared l).startDrain none).reg g m = ((s.loadBegun l).loadRegs l).reg g m := by
  have hpark : ∀ f ∈ parkFields, g.apart f = true := fun f hf => hg f (by simp [finishFields, hf])
  rw [State.loadFinished_capped hdrain hreq (hg _ (by decide)) (hg _ (by decide)) (hg _ (by decide)) hm,
    State.reg_setReg_apart _ _ (hg _ (by decide)) hm (by decide), State.loadWritten_reg _ _ hpark hm]

end

/-! ### Load descriptors (07 R258 to R260) -/

theorem exec_scoreLoad {s : State} {d : Desc} (haccepts : s.accepts d) (hstart : s.reg F.BOOT_STATUS_FAIL = 0) (host len : BitVec 64)
    (ok : Bool) : exec (.scoreLoad d host len ok) s = .next (s.scoreLoad d host.toNat len.toNat ok) :=
  congrArg Host.Outcome.next ((s.accept_now d _ haccepts.1 haccepts.2).trans (if_pos hstart))

/-- A load that ends at once: LAST_CODE with the completion, and nothing else. -/
theorem State.loadCode_shows (s : State) (d : Desc) {code : Nat} (hcode : code < 2 ^ 16) :
    s.loadCode d code = (s.putRegs (s.loadCode d code).regs).putComps
      (s.comps ++ [⟨d.ring.val, d.slot.toNat, d.id.toNat, code, 0, 0, s.toll⟩]) ∧
    s.regsKept (s.loadCode d code) [F.ACV_RSTAT_INFLIGHT.key d.ring.val, F.SEQ_SCORE_LAST_CODE.key 0] ∧
    (s.loadCode d code).reg F.SEQ_SCORE_LAST_CODE = code := by
  have htoll : (s.setReg F.SEQ_SCORE_LAST_CODE code).toll = s.toll := s.reg_setReg_apart code (by decide) (by decide) (by decide)
  refine ⟨?_, ?_, ?_⟩
  · rw [← htoll]
    rfl
  · exact ((s.regsKept_refl _).setReg (by simp) code).complete (List.mem_cons_self ..) code 0 0
  · rw [State.loadCode, State.complete_eq, State.reg_setReg_apart _ _ (by decide) (by decide) d.ring.isLt]
    exact State.reg_setReg_lt _ 0 hcode

theorem State.scoreCode_lt (s : State) (f : ScoreFile) (len back : Nat) : s.scoreCode f len back < 2 ^ 16 := by
  unfold State.scoreCode
  repeat' split
  all_goals decide

theorem State.scoreCode_magic (s : State) {f : ScoreFile} (h : f.hdr.take 8 ≠ ascii "UN9SCORE") (len back : Nat) :
    s.scoreCode f len back = 0x41 := by
  have hbad : f.bad len = true := by
    unfold ScoreFile.bad ScoreFile.headBad
    simp [h]
  exact if_pos hbad

/-- Nothing stands in the way of a load: no checkpoint operation, a state that takes one, no pause that is pending. -/
def State.loadIdle (s : State) : Prop := s.ckpt.op = none ∧ s.scoreState ∈ [0, 2, 5, 6, 7] ∧ s.score.pause = none

theorem State.scoreLoad_busy {s : State} (h : s.scoreState ∉ [0, 2, 5, 6, 7]) (d : Desc) (host : Nat) {len : Nat} (hlen : len ≠ 0)
    (ok : Bool) : s.scoreLoad d host len ok = s.loadCode d 0x40 := by
  rw [State.scoreLoad, if_neg hlen, if_pos (Or.inr (Or.inl h))]

theorem State.loadIdle.free {s : State} (h : s.loadIdle) :
    ¬ (s.ckpt.op.isSome = true ∨ s.scoreState ∉ ([0, 2, 5, 6, 7] : List Nat) ∨ s.score.pause.isSome = true) := by
  obtain ⟨hop, hstate, hpause⟩ := h
  simp [hop, hpause, -List.mem_cons, hstate]

theorem State.scoreLoad_unread {s : State} (h : s.loadIdle) (d : Desc) (host : Nat) {len : Nat} (hlen : len ≠ 0) :
    s.scoreLoad d host len false = s.loadCode d 0x14 := by
  rw [State.scoreLoad, if_neg hlen, if_neg h.free]
  rfl

/-- The load taken: LOADING, with its parts. -/
def State.loadTaken (s : State) (d : Desc) (host : Nat) : State :=
  ((s.stage host (s.fetchScore host)).putScore { s.score with load := some ((s.fetchScore host).toLoad d s.scoreState) }).setReg
    F.SEQ_SCORE_STATE 1

theorem State.stage_score (s : State) (host : Nat) (f : ScoreFile) : (s.stage host f).score = s.score :=
  (congrArg State.score (s.stage_memOnly host f)).trans rfl

theorem State.scoreLoad_staged {s : State} (h : s.loadIdle) (d : Desc) (host : Nat) {len : Nat} (hlen : len ≠ 0) :
    s.scoreLoad d host len true = if s.scoreCode (s.fetchScore host) len s.scoreState ≠ 0 then
      (s.stage host (s.fetchScore host)).loadCode d (s.scoreCode (s.fetchScore host) len s.scoreState)
    else (s.loadTaken d host).probeJoin := by
  rw [State.scoreLoad, if_neg hlen, if_neg h.free, if_neg (by decide)]
  dsimp only
  rw [(s.stage_memOnly host _).scoreCode, State.stage_score]
  rfl

/-- A load whose checks fail shows its code; its parts stay in the staging area. -/
theorem State.loadRefused_shows (s : State) (d : Desc) (host : Nat) (f : ScoreFile) {code : Nat} (hcode : code < 2 ^ 16) :
    ((s.stage host f).loadCode d code).comps = s.comps ++ [⟨d.ring.val, d.slot.toNat, d.id.toNat, code, 0, 0, s.toll⟩] ∧
    s.regsKept ((s.stage host f).loadCode d code) [F.ACV_RSTAT_INFLIGHT.key d.ring.val, F.SEQ_SCORE_LAST_CODE.key 0] ∧
    ((s.stage host f).loadCode d code).score = s.score ∧ ((s.stage host f).loadCode d code).reg F.SEQ_SCORE_LAST_CODE = code ∧
    ((s.stage host f).loadCode d code).mem = (s.stage host f).mem := by
  have honly := s.stage_memOnly host f
  have hregs : (s.stage host f).regs = s.regs := (congrArg State.regs honly).trans rfl
  have hscore : (s.stage host f).score = s.score := s.stage_score host f
  have hcomps : (s.stage host f).comps = s.comps := (congrArg State.comps honly).trans rfl
  generalize s.stage host f = y at hregs hscore hcomps ⊢
  obtain ⟨hframe, hkept, hlast⟩ := y.loadCode_shows d hcode
  have htoll : y.toll = s.toll := State.reg_congr hregs _ _
  refine ⟨?_, hkept.of_regs hregs, ?_, hlast, ?_⟩
  · rw [hframe, State.putComps_comps, hcomps, htoll]
  · rw [hframe, State.putComps_score, State.putRegs_score, hscore]
  · rw [hframe, State.putComps_mem, State.putRegs_mem]

/-- A load that passes its checks waits for its probe round. -/
theorem State.loadJoined_shows (s : State) (d : Desc) (host : Nat) :
    (s.loadTaken d host).probeJoin.reg F.SEQ_SCORE_STATE = 1 ∧
    (s.loadTaken d host).probeJoin.score = { s.score with load := some ((s.fetchScore host).toLoad d s.scoreState) } ∧
    (s.loadTaken d host).probeJoin.comps = s.comps ∧ (s.loadTaken d host).probeJoin.mem = (s.stage host (s.fetchScore host)).mem := by
  obtain ⟨hkept, hmem⟩ := (s.loadTaken d host).probeJoin_kept
  have hcomps : (s.stage host (s.fetchScore host)).comps = s.comps := (congrArg State.comps (s.stage_memOnly host _)).trans rfl
  refine ⟨(hkept.reg (by decide) (by decide)).trans (State.reg_setReg_lt _ 0 (by decide)), hkept.score, hkept.comps.trans hcomps, ?_⟩
  rw [hmem, State.loadTaken, State.setReg_mem, State.putScore_mem]

/-! ### Launches (07 R264, R265) -/

theorem exec_launch {s : State} {d : Desc} (haccepts : s.accepts d) (hstart : s.reg F.BOOT_STATUS_FAIL = 0) (toll : BitVec 64)
    (beat : BitVec 48) : exec (.launch d toll beat) s = .next (s.launchDesc d toll.toNat beat.toNat) :=
  congrArg Host.Outcome.next (s.serve_good d _ haccepts.1 haccepts.2 hstart)

theorem State.launchDesc_refused {s : State} {toll start code : Nat} (hcode : s.launchCode toll start = code) (hne : code ≠ 0) (d : Desc) :
    s.launchDesc d toll start = s.complete d code := by
  subst hcode
  exact if_pos hne

theorem State.launchDesc_arms {s : State} {toll start : Nat} (hcode : s.launchCode toll start = 0) (d : Desc) :
    s.launchDesc d toll start = s.arm d toll start := if_neg (not_not_intro hcode)

/-- Piece i of the layout digest of the loaded Score. -/
def State.layoutPart (s : State) (i : Nat) : Nat :=
  leNat (((match s.score.cur with | some p => p.layout | none => []).drop (8 * i)).take 8)

/-- The registers of an armed Beat. -/
def State.armRegs (s : State) (toll : Nat) : State :=
  (((((s.setEach F.SEQ_LAYOUT_DIGEST s.layoutPart (List.range 4)).setReg F.SEQ_SCORE_STATE 3).setReg F.SEQ_PAUSE_PAUSE_BEAT 0).setReg
    F.CKPT_STATUS_NEXT_V 0).setReg F.BEAT_LAUNCH_LAUNCH_TOLL toll).setReg F.BEAT_STATUS_STATE 1

theorem State.armRegs_frame (s : State) (toll : Nat) : s.armRegs toll = s.putRegs (s.armRegs toll).regs := by
  have hlayout := s.setEach_frame F.SEQ_LAYOUT_DIGEST s.layoutPart (List.range 4)
  unfold State.armRegs
  generalize s.setEach F.SEQ_LAYOUT_DIGEST s.layoutPart (List.range 4) = y at hlayout ⊢
  rw [hlayout]
  rfl

theorem State.arm_eq (s : State) (d : Desc) (toll start : Nat) : s.arm d toll start =
    ((s.armRegs toll).putBeatU { (s.armRegs toll).beatU with startBeat := start }).putScore
      { (s.armRegs toll).score with launch := some d } := rfl

theorem State.arm_frame (s : State) (d : Desc) (toll start : Nat) : s.arm d toll start =
    ((s.putRegs (s.arm d toll start).regs).putBeatU { s.beatU with startBeat := start }).putScore { s.score with launch := some d } := by
  rw [State.arm_eq]
  have hframe := s.armRegs_frame toll
  generalize s.armRegs toll = y at hframe ⊢
  rw [hframe]
  rfl

/-- The keys that an armed Beat changes. -/
def armKeys : List Nat :=
  F.SEQ_SCORE_STATE.key 0 :: F.BEAT_STATUS_STATE.key 0 :: F.BEAT_LAUNCH_LAUNCH_TOLL.key 0 :: F.SEQ_PAUSE_PAUSE_BEAT.key 0 ::
    F.CKPT_STATUS_NEXT_V.key 0 :: (List.range 4).map F.SEQ_LAYOUT_DIGEST.key

theorem State.armRegs_regsKept (s : State) (toll : Nat) : s.regsKept (s.armRegs toll) armKeys := by
  have hlayout : s.regsKept (s.setEach F.SEQ_LAYOUT_DIGEST s.layoutPart (List.range 4)) armKeys :=
    (s.regsKept_refl _).setEach _ fun k hk => by simpa [armKeys] using Or.inr (Or.inr (Or.inr (Or.inr (Or.inr ⟨k, List.mem_range.mp hk, rfl⟩))))
  exact ((((hlayout.setReg (by simp [armKeys]) _).setReg (by simp [armKeys]) _).setReg (by simp [armKeys]) _).setReg
    (by simp [armKeys]) _).setReg (by simp [armKeys]) _

/-- What an armed Beat shows. -/
theorem State.arm_shows (s : State) (d : Desc) {toll : Nat} (htoll : toll < 2 ^ 64) (start : Nat) :
    (s.arm d toll start).reg F.SEQ_SCORE_STATE = 3 ∧ (s.arm d toll start).reg F.BEAT_STATUS_STATE = 1 ∧
    (s.arm d toll start).reg F.BEAT_LAUNCH_LAUNCH_TOLL = toll ∧ (s.arm d toll start).reg F.SEQ_PAUSE_PAUSE_BEAT = 0 ∧
    (s.arm d toll start).reg F.CKPT_STATUS_NEXT_V = 0 ∧ s.regsKept (s.arm d toll start) armKeys := by
  have hregs (g : Field) (m : Nat) : (s.arm d toll start).reg g m = (s.armRegs toll).reg g m := rfl
  rw [hregs, hregs, hregs, hregs, hregs]
  refine ⟨?_, ?_, ?_, ?_, ?_, (s.armRegs_regsKept toll).congr rfl⟩ <;> unfold State.armRegs
  · iterate 4 rw [State.reg_setReg_apart _ _ (by decide) (by decide) (by decide)]
    exact State.reg_setReg_lt _ 0 (by decide)
  · exact State.reg_setReg_lt _ 0 (by decide)
  · rw [State.reg_setReg_apart _ _ (by decide) (by decide) (by decide)]
    exact State.reg_setReg_lt _ 0 htoll
  · iterate 3 rw [State.reg_setReg_apart _ _ (by decide) (by decide) (by decide)]
    exact State.reg_setReg_lt _ 0 (by decide)
  · iterate 2 rw [State.reg_setReg_apart _ _ (by decide) (by decide) (by decide)]
    exact State.reg_setReg_lt _ 0 (by decide)

theorem State.launchCode_none {s : State} (hupdate : s.reg F.BOOT_UPDATE_STATE ≠ 4) (hop : s.ckpt.op = none)
    (hnone : s.score.cur = none ∨ s.scoreState ∉ [2, 5, 6, 7]) (toll start : Nat) : s.launchCode toll start = 0x4E := by
  unfold State.launchCode
  rw [if_neg hupdate, hop, if_neg (by decide)]
  split
  next => rfl
  next p hcur =>
    refine if_pos (hnone.resolve_left ?_)
    rw [hcur]
    exact Option.some_ne_none p

theorem State.launchCode_past {s : State} {p : ScoreParams} (hupdate : s.reg F.BOOT_UPDATE_STATE ≠ 4) (hop : s.ckpt.op = none)
    (hcur : s.score.cur = some p) (hstate : s.scoreState ∈ [2, 5, 6, 7]) {start : Nat} (hfinite : p.beats ≠ 0)
    (hpast : p.beats < start) (toll : Nat) : s.launchCode toll start = 0x4F := by
  unfold State.launchCode
  rw [if_neg hupdate, hop, if_neg (by decide), hcur]
  dsimp only
  rw [if_neg (not_not_intro hstate), if_pos ⟨hfinite, hpast⟩]

/-! ### Pauses (07 R267) -/

theorem exec_pause {s : State} {d : Desc} (haccepts : s.accepts d) (hstart : s.reg F.BOOT_STATUS_FAIL = 0) (beat : BitVec 48) :
    exec (.pause d beat) s = .next (s.pauseDesc d beat.toNat) :=
  congrArg Host.Outcome.next (s.serve_good d _ haccepts.1 haccepts.2 hstart)

/-- A pause taken: PAUSING, with the Beat it names. -/
def State.pauseTaken (s : State) (d : Desc) (p : Nat) : State :=
  ((s.putScore { s.score with pause := some d }).setReg F.SEQ_PAUSE_PAUSE_BEAT p).setReg F.SEQ_SCORE_STATE 4

theorem State.pauseDesc_takes {s : State} {q : ScoreParams} {p : Nat} (hcur : s.score.cur = some q) (hstate : s.scoreState = 3)
    (hnone : s.score.pause = none) (hfar : s.pauseBase + 2 ≤ p) (hfits : q.beats = 0 ∨ p ≤ q.beats) (d : Desc) :
    s.pauseDesc d p = s.pauseTaken d p := by
  have hgood : ¬ (s.scoreState ≠ 3 ∨ s.score.pause.isSome = true ∨ p < s.pauseBase + 2 ∨ (q.beats ≠ 0 ∧ q.beats < p)) := by
    rintro (hother | hpending | hnear | ⟨hfinite, hpast⟩)
    · exact hother hstate
    · rw [hnone] at hpending
      exact absurd hpending (by decide)
    · omega
    · omega
  unfold State.pauseDesc
  rw [hcur]
  exact if_neg hgood

theorem State.pauseDesc_refused {s : State} {p : Nat} (h : s.scoreState ≠ 3 ∨ p < s.pauseBase + 2) (d : Desc) :
    s.pauseDesc d p = s.complete d 0x52 :=
  if_pos (h.elim Or.inl fun hnear => Or.inr (Or.inr (Or.inl hnear)))

theorem State.pauseTaken_shows (s : State) (d : Desc) {p : Nat} (hp : p < 2 ^ 48) :
    s.pauseTaken d p = (s.putRegs (s.pauseTaken d p).regs).putScore { s.score with pause := some d } ∧
    (s.pauseTaken d p).reg F.SEQ_PAUSE_PAUSE_BEAT = p ∧ (s.pauseTaken d p).reg F.SEQ_SCORE_STATE = 4 ∧
    s.regsKept (s.pauseTaken d p) [F.SEQ_PAUSE_PAUSE_BEAT.key 0, F.SEQ_SCORE_STATE.key 0] := by
  have hplain : s.regsKept (s.putScore { s.score with pause := some d }) [F.SEQ_PAUSE_PAUSE_BEAT.key 0, F.SEQ_SCORE_STATE.key 0] :=
    (s.regsKept_refl _).congr rfl
  refine ⟨rfl, ?_, State.reg_setReg_lt _ 0 (by decide), (hplain.setReg (by simp) _).setReg (by simp) _⟩
  rw [State.pauseTaken, State.reg_setReg_apart _ _ (by decide) (by decide) (by decide)]
  exact State.reg_setReg_lt _ 0 hp

/-! ### The statement -/

/-- Settles O46: each course of a load, of its end, of a launch and of a pause by the lemma above that says it. -/
theorem scoresLoadLaunchAndPause : Obligations.ScoresLoadLaunchAndPause := by
  intro d host len toll ok beat s st entry ends q f code idle loads
  have hloads (haccepts : s.accepts d) (hstart : s.reg F.BOOT_STATUS_FAIL = 0) {c : Nat} (hc : c < 2 ^ 16)
      (hload : s.scoreLoad d host.toNat len.toNat ok = s.loadCode d c) : loads c :=
    ⟨_, (exec_scoreLoad haccepts hstart host len ok).trans (congrArg Host.Outcome.next hload), s.loadCode_shows d hc⟩
  have hlenNat (h : len ≠ 0) : len.toNat ≠ 0 := fun h0 => h (BitVec.eq_of_toNat_eq h0)
  refine ⟨fun l hload hjoined hwriting hbank => ⟨fun hperiod => ?_, fun hcode _ hdrain hreq => ?_⟩, fun haccepts hstart =>
    ⟨fun hlen => ?_, fun hlen hstate => ?_, fun hidle hlen hok => ?_, fun hmagic => s.scoreCode_magic hmagic _ _, fun hidle hlen hok => ?_,
      fun hcode => ?_, fun lc hlc hne => ?_, fun hupdate hop => ⟨fun hnone => ?_, fun p hcur hstate hfinite hpast => ?_⟩,
      fun p hcur hstate hnone hfar hfits => ?_, fun hrefused => ?_⟩⟩
  · have hfails := State.beatCode_period hperiod
    have hfinish := State.scoreFinish_fails ⟨hload, hjoined, hwriting, hbank⟩ (hfails ▸ by decide)
    rw [hfails] at hfinish
    exact ⟨_, (exec_scoreLoadFinish s).trans (congrArg Host.Outcome.next hfinish), s.scoreFinish_fails_shows l (by decide)⟩
  · have hfinish := State.scoreFinish_writes ⟨hload, hjoined, hwriting, hbank⟩ hcode
    obtain ⟨hperiod, hstretch, hfixed, hscored⟩ := (s.loadBegun l).loadRegs_shows l
    have hscore := State.loadFinished_score (l := l) hdrain hreq
    refine ⟨_, (exec_scoreLoadFinish s).trans (congrArg Host.Outcome.next hfinish), ?_, ?_, State.loadFinished_bank hdrain hreq,
      ?_, ?_, ?_, ?_, ?_⟩
    · rw [hscore]
    · rw [hscore]
    · rw [State.loadFinished_reg hdrain hreq (by decide) (by decide), hperiod]
    · rw [State.loadFinished_reg hdrain hreq (by decide) (by decide), hstretch]
    · rw [State.loadFinished_reg hdrain hreq (by decide) (by decide), hfixed]
    · rw [State.loadFinished_reg hdrain hreq (by decide) (by decide), hscored]
    · rw [State.loadFinished_capped hdrain hreq (by decide) (by decide) (by decide) (by decide), State.reg_setReg_same]
  · exact hloads haccepts hstart (by decide) (if_pos (by rw [hlen]; rfl))
  · exact hloads haccepts hstart (by decide) (State.scoreLoad_busy hstate d _ (hlenNat hlen) ok)
  · subst hok
    exact hloads haccepts hstart (by decide) (State.scoreLoad_unread hidle d _ (hlenNat hlen))
  · subst hok
    have hexec := exec_scoreLoad haccepts hstart host len true
    rw [State.scoreLoad_staged hidle d _ (hlenNat hlen)] at hexec
    have hheader := s.stage_header host.toNat (s.fetchScore_hdr_length host.toNat)
    have hout := s.stage_memKeptOut host.toNat f
    by_cases hcode : s.scoreCode (s.fetchScore host.toNat) len.toNat s.scoreState = 0
    · obtain ⟨hstate, hscore, hcomps, hmem⟩ := s.loadJoined_shows d host.toNat
      rw [if_neg (not_not_intro hcode)] at hexec
      refine ⟨_, hexec, fun x hx => (State.byte_congr hmem x).trans (hout x hx), fun hseeds htable himage => ?_,
        fun hne => absurd hcode hne, fun _ => ⟨hstate, ?_, hcomps, f.toLoad d s.scoreState, ?_, rfl, rfl, rfl, rfl, rfl, rfl⟩⟩
      · exact (congrArg (fun m => memBytes m 0x4400000000 256) hmem).trans (hheader hseeds htable himage)
      · rw [hscore]
      · rw [hscore]
    · obtain ⟨hcomps, hkept, hscore, hlast, hmem⟩ := s.loadRefused_shows d host.toNat f (s.scoreCode_lt f len.toNat st)
      rw [if_pos hcode] at hexec
      refine ⟨_, hexec, fun x hx => (State.byte_congr hmem x).trans (hout x hx), fun hseeds htable himage => ?_,
        fun _ => ⟨hcomps, hkept, hscore, hlast⟩, fun h0 => absurd h0 hcode⟩
      exact (congrArg (fun m => memBytes m 0x4400000000 256) hmem).trans (hheader hseeds htable himage)
  · obtain ⟨hstate, harmed, hlaunch, hpause, hnext, hkept⟩ := s.arm_shows d toll.isLt beat.toNat
    exact ⟨_, (exec_launch haccepts hstart toll beat).trans (congrArg Host.Outcome.next (State.launchDesc_arms hcode d)),
      hstate, harmed, hlaunch, hpause, hnext, s.arm_frame d _ _, hkept⟩
  · exact ⟨_, (exec_launch haccepts hstart toll beat).trans (congrArg Host.Outcome.next (State.launchDesc_refused hlc.symm hne d)),
      s.complete_plain d lc⟩
  · have hcode := State.launchCode_none hupdate hop hnone toll.toNat beat.toNat
    exact ⟨_, (exec_launch haccepts hstart toll beat).trans (congrArg Host.Outcome.next (State.launchDesc_refused hcode (by decide) d)),
      (s.complete_plain d _).1⟩
  · have hcode := State.launchCode_past hupdate hop hcur hstate hfinite hpast toll.toNat
    exact ⟨_, (exec_launch haccepts hstart toll beat).trans (congrArg Host.Outcome.next (State.launchDesc_refused hcode (by decide) d)),
      (s.complete_plain d _).1⟩
  · exact ⟨_, (exec_pause haccepts hstart beat).trans (congrArg Host.Outcome.next (State.pauseDesc_takes hcur hstate hnone hfar hfits d)),
      s.pauseTaken_shows d beat.isLt⟩
  · exact ⟨_, (exec_pause haccepts hstart beat).trans (congrArg Host.Outcome.next (State.pauseDesc_refused hrefused d)),
      s.complete_plain d _⟩

end Sys2Proof.Machine
end

section
/-!
LAWS. What the park area, the group table, a Bushel record and the end of an open collective change, and what each leaves alone.
-/
namespace Sys2Proof.Machine

/-! ### The park area (04 R166) -/

theorem State.regsKept.showPark {s t : State} {ks : List Nat} (h : s.regsKept t ks) (h0 : F.TALLY_PARK_PARKED_D0.key 0 ∈ ks)
    (h1 : F.TALLY_PARK_PARKED_D1.key 0 ∈ ks) : s.regsKept t.showPark ks :=
  State.regsKept.setReg (h.setReg h0 _) h1 _

theorem State.showPark_reg_apart (s : State) {g : Field} {m : Nat} (h0 : g.apart F.TALLY_PARK_PARKED_D0 = true)
    (h1 : g.apart F.TALLY_PARK_PARKED_D1 = true) (hm : m < g.count) : s.showPark.reg g m = s.reg g m :=
  (State.reg_setReg_apart _ _ h1 hm (by decide)).trans (State.reg_setReg_apart _ _ h0 hm (by decide))

/-- No cell waits, so none goes to the tally engines when its collective starts. -/
theorem State.releaseCells_none {s : State} (h : s.parked = []) (g seq : Nat) : s.releaseCells g seq = (s.putParked []).showPark := by
  unfold State.releaseCells
  rw [h]
  rfl

/-! ### The group table (09 R301, R318) -/

theorem State.setGroup_group (s : State) (h x : Nat) (g : Option Grp) : (s.setGroup h g).group x = if x = h then g else s.group x := by
  show tabGet none (tabSet none s.groups h g) x = _
  split
  next hx => rw [hx, tabGet_tabSet_same]
  next hx => exact tabGet_tabSet_other _ _ _ _ hx

theorem State.regsKept.setGroup {s t : State} {ks : List Nat} (h : s.regsKept t ks) (hk : F.COLL_STATUS_GROUPS.key 0 ∈ ks) (n : Nat)
    (g : Option Grp) : s.regsKept (t.setGroup n g) ks :=
  State.regsKept.setReg (h.congr rfl) hk _

theorem State.setGroup_reg_apart (s : State) (n : Nat) (x : Option Grp) {g : Field} {m : Nat} (h : g.apart F.COLL_STATUS_GROUPS = true)
    (hm : m < g.count) : (s.setGroup n x).reg g m = s.reg g m :=
  State.reg_setReg_apart _ _ h hm (by decide)

/-! ### Bushel records (04 R158, R164) -/

/-- The number of the `n` bytes of a number is that number modulo their range (00 R8). -/
theorem leNat_leBytes_mod (n v : Nat) : leNat (leBytes n v) = v % 256 ^ n := by
  induction n generalizing v with
  | zero => rw [pow_zero, Nat.mod_one]; rfl
  | succ n ih =>
    have hfirst : (BitVec.ofNat 8 v).toNat = v % 256 := BitVec.toNat_ofNat v 8
    rw [leBytes, leNat, ih, hfirst, pow_succ', Nat.mod_mul]

/-- The bytes of one word among those of a list of words. -/
theorem wordBytes_part {ws : List Nat} {i : Nat} (hi : i < ws.length) : ((ws.flatMap (leBytes 8)).drop (8 * i)).take 8 = leBytes 8 (ws.getD i 0) := by
  induction ws generalizing i with
  | nil => exact absurd hi (Nat.not_lt_zero i)
  | cons w ws ih =>
    rw [List.flatMap_cons]
    cases i with
    | zero => exact List.take_left' (leBytes_length 8 w)
    | succ i =>
      rw [Nat.mul_succ, Nat.add_comm, ← List.drop_drop, List.drop_left' (leBytes_length 8 w), List.getD_cons_succ]
      exact ih (Nat.lt_of_succ_lt_succ hi)

theorem wordBytes_length (ws : List Nat) : (ws.flatMap (leBytes 8)).length = 8 * ws.length := by
  induction ws with
  | nil => rfl
  | cons w ws ih => rw [List.flatMap_cons, List.length_append, leBytes_length, ih, List.length_cons, Nat.mul_succ, Nat.add_comm]

theorem State.writeRecord_mem (s : State) (c r : Nat) (ws : List Nat) :
    (s.writeRecord c r ws).mem = memWrite s.mem (recAddr c r) (fitBytes 64 (ws.flatMap (leBytes 8))) := rfl

/-- The words of a record read as those written to it. -/
theorem State.writeRecord_recWord (s : State) (c r : Nat) {ws : List Nat} (hlen : ws.length = 8) {i : Nat} (hi : i < 8) :
    (s.writeRecord c r ws).recWord c r i = ws.getD i 0 % 2 ^ 64 := by
  have hbytes : (ws.flatMap (leBytes 8)).length = 64 := by rw [wordBytes_length, hlen]
  have hread := memBytes_memWrite_in s.mem (recAddr c r) (ws.flatMap (leBytes 8)) (o := 8 * i) (n := 8) (by omega)
  rw [wordBytes_part (by omega)] at hread
  calc (s.writeRecord c r ws).recWord c r i
      = leNat (memBytes (memWrite s.mem (recAddr c r) (fitBytes 64 (ws.flatMap (leBytes 8)))) (recAddr c r + 8 * i) 8) := rfl
    _ = ws.getD i 0 % 2 ^ 64 := by rw [fitBytes_of_length hbytes, hread, leNat_leBytes_mod]; rfl

theorem State.writeRecord_memKeptOut (s : State) (c r : Nat) (ws : List Nat) : s.memKeptOut (s.writeRecord c r ws) (recAddr c r) 64 := by
  intro x hx
  have hlen := fitBytes_length 64 (ws.flatMap (leBytes 8))
  obtain hbelow | habove := hx
  · exact memWrite_below _ _ _ hbelow
  · exact memWrite_above _ _ _ (by omega)

theorem State.recWord_congr {s t : State} (h : t.mem = s.mem) (c r w : Nat) : t.recWord c r w = s.recWord c r w :=
  congrArg (fun m => leNat (memBytes m (recAddr c r + 8 * w) 8)) h

theorem State.bushel_setBushel_same (s : State) (c r : Nat) (b : Bushel) : (s.setBushel c r b).bushel c r = b := tabGet_tabSet_same ..

theorem State.recsOf_congr {s t : State} (h : t.mem = s.mem) (c : Nat) : t.recsOf c = s.recsOf c := by
  unfold State.recsOf State.activeRecs
  rw [h]

/-- What the allocator finds free depends on memory and on the records and Pecks that the Score reserves. -/
theorem State.freeRuns_congr {s t : State} (h : t.mem = s.mem) (hpecks : t.reg F.TALLY_CFG_SCORE_PECKS = s.reg F.TALLY_CFG_SCORE_PECKS)
    (c : Nat) : t.freeRuns c = s.freeRuns c := by
  unfold State.freeRuns State.freePecks State.rBase State.rPecks State.recBits
  simp only [State.recsOf_congr h, State.recWord_congr h, hpecks]

theorem State.freeRecord_congr {s t : State} (h : t.mem = s.mem)
    (hrecords : t.reg F.TALLY_CFG_SCORE_RECORDS = s.reg F.TALLY_CFG_SCORE_RECORDS) (c : Nat) : t.freeRecord c = s.freeRecord c := by
  unfold State.freeRecord
  rw [State.recsOf_congr h, hrecords]

/-! ### The end of an open collective (04 R161; 09 R314) -/

/-- The records of a collective, released one after the other. -/
def State.releaseRecs (s : State) (l : List (Nat × Nat)) : State := l.foldl (fun t k => t.releaseRec k.1 k.2) s

theorem State.releaseRecs_kept (s : State) (l : List (Nat × Nat)) : s.keptBut parkFields (s.releaseRecs l) := by
  have hstep (t : State) (k : Nat × Nat) : t.loaderKept (t.releaseRec k.1 k.2) := t.releaseRec_kept k.1 k.2
  exact (State.loaderKept_foldl hstep l s).kept

theorem State.releaseRec_colls (s : State) (c r : Nat) : (s.releaseRec c r).colls = s.colls := by
  unfold State.releaseRec State.showPark State.writeRecord State.cleanse
  simp

theorem State.releaseRecs_colls (s : State) (l : List (Nat × Nat)) : (s.releaseRecs l).colls = s.colls := by
  induction l generalizing s with
  | nil => rfl
  | cons k l ih => rw [State.releaseRecs, List.foldl_cons, ← State.releaseRecs, ih, State.releaseRec_colls]

theorem State.endColl_eq (s : State) (x : Coll) (code : Nat) : s.endColl x code =
    ((((s.releaseRecs x.live).putColls ((s.releaseRecs x.live).colls.erase x)).complete x.desc code x.tag (x.seq + 2 ^ 16))).showColls := rfl

/-- A collective that ends is no longer listed, its start descriptor completes with TAG and SEQ, ACTIVE follows, and no time passes. -/
theorem State.endColl_shows (s : State) (x : Coll) (code : Nat) :
    (s.endColl x code).colls = s.colls.erase x ∧ (s.endColl x code).comps = s.comps ++
      [⟨x.desc.ring.val, x.desc.slot.toNat, x.desc.id.toNat, code, x.tag, x.seq + 2 ^ 16, s.toll⟩] ∧
    (s.endColl x code).toll = s.toll ∧
    (s.endColl x code).reg F.COLL_STATUS_ACTIVE = (s.endColl x code).activeColls.length % 2 ^ 11 := by
  have hkept := s.releaseRecs_kept x.live
  have htoll : (s.releaseRecs x.live).toll = s.toll := hkept.reg (by decide) (by decide)
  rw [State.endColl_eq, s.releaseRecs_colls x.live]
  refine ⟨rfl, ?_, ?_, State.reg_setReg_same ..⟩
  · show (s.releaseRecs x.live).comps ++ [⟨_, _, _, _, _, _, (s.releaseRecs x.live).toll⟩] = _
    rw [hkept.comps, htoll]
  · exact (State.reg_setReg_apart _ _ (by decide) (by decide) (by decide)).trans
      ((State.complete_reg_apart (by decide) (by decide) _ _ _ _ _).trans htoll)

end Sys2Proof.Machine
end

section
/-!
PROOFS. Group, start and end descriptors of collectives: the statement CollectivesOpenAndEnd.
-/
namespace Sys2Proof.Machine

/-! ### Group descriptors (09 R302, R304) -/

theorem exec_group {s : State} {d : Desc} (haccepts : s.accepts d) (hstart : s.reg F.BOOT_STATUS_FAIL = 0) (w0 w1 w2 w3 : BitVec 64) :
    exec (.group d w0 w1 w2 w3) s = .next (s.groupDesc d w0.toNat (bitsOf w1.toNat 39 0) (bitsOf w2.toNat 39 0)) :=
  congrArg Host.Outcome.next (s.serve_good d _ haccepts.1 haccepts.2 hstart)

/-- The entry of a group replaced, and what refused collectives of the group left gone with it. -/
def State.groupPut (s : State) (h : Nat) (g : Option Grp) : State := (s.forgetColls h).setGroup h g

theorem State.groupPut_shows (s : State) (d : Desc) (h : Nat) (g : Option Grp) :
    ((s.groupPut h g).complete d 0).comps = s.comps ++ [⟨d.ring.val, d.slot.toNat, d.id.toNat, 0, 0, 0, s.toll⟩] ∧
    ((s.groupPut h g).complete d 0).group h = g ∧ (∀ x, x ≠ h → ((s.groupPut h g).complete d 0).group x = s.group x) ∧
    s.memKept ((s.groupPut h g).complete d 0) ∧
    s.regsKept ((s.groupPut h g).complete d 0) [F.ACV_RSTAT_INFLIGHT.key d.ring.val, F.COLL_STATUS_GROUPS.key 0] := by
  have htoll : (s.groupPut h g).toll = s.toll := State.setGroup_reg_apart (s.forgetColls h) h g (by decide) (by decide)
  have hgroup (x : Nat) : ((s.groupPut h g).complete d 0).group x = if x = h then g else s.group x :=
    (s.forgetColls h).setGroup_group h x g
  have hforgot : s.regsKept (s.forgetColls h) [F.ACV_RSTAT_INFLIGHT.key d.ring.val, F.COLL_STATUS_GROUPS.key 0] :=
    (s.regsKept_refl _).congr rfl
  refine ⟨?_, ?_, fun x hx => ?_, fun _ => rfl, (hforgot.setGroup (by simp) h g).complete (by simp) 0 0 0⟩
  · rw [State.complete_comps, htoll]
    rfl
  · rw [hgroup, if_pos rfl]
  · rw [hgroup, if_neg hx]

section
variable {s : State} (d : Desc) {w0 origin extent : Nat}

theorem State.groupDesc_bad (hput : w0.testBit 17 = false) (hbad : s.groupBad (bitsOf w0 16 12) origin extent = true) :
    s.groupDesc d w0 origin extent = s.complete d 0x36 := by
  unfold State.groupDesc
  rw [hput, hbad]
  rfl

theorem State.groupDesc_busy (hput : w0.testBit 17 = false) (hgood : s.groupBad (bitsOf w0 16 12) origin extent = false)
    (hhave : (s.group (bitsOf w0 11 0)).isSome = true) (hbusy : s.groupBusy (bitsOf w0 11 0) = true) :
    s.groupDesc d w0 origin extent = s.complete d 0x37 := by
  unfold State.groupDesc
  dsimp only
  rw [hput, hgood, hhave, hbusy]
  rfl

theorem State.groupDesc_put (hput : w0.testBit 17 = false) (hgood : s.groupBad (bitsOf w0 16 12) origin extent = false)
    (hfree : s.groupBusy (bitsOf w0 11 0) = false) :
    s.groupDesc d w0 origin extent = (s.groupPut (bitsOf w0 11 0) (some ⟨w0, origin, extent, 0⟩)).complete d 0 := by
  unfold State.groupDesc
  dsimp only
  rw [hput, hgood, hfree, Bool.and_false]
  rfl

theorem State.groupDesc_remove {x : Grp} (hremove : w0.testBit 17 = true) (hhave : s.group (bitsOf w0 11 0) = some x)
    (hfree : s.groupBusy (bitsOf w0 11 0) = false) : s.groupDesc d w0 origin extent = (s.groupPut (bitsOf w0 11 0) none).complete d 0 := by
  unfold State.groupDesc
  dsimp only
  rw [hremove, hhave, hfree]
  rfl

theorem State.groupDesc_absent (hremove : w0.testBit 17 = true) (hnone : s.group (bitsOf w0 11 0) = none) :
    s.groupDesc d w0 origin extent = s.complete d 0 := by
  unfold State.groupDesc
  dsimp only
  rw [hremove, hnone]
  rfl

end

/-! ### Start descriptors refused (09 R311) -/

/-- A command that only completes, with TAG. -/
theorem State.complete_plain_value (s : State) (d : Desc) (code v0 : Nat) :
    s.complete d code v0 =
      (s.putRegs (s.complete d code v0).regs).putComps (s.comps ++ [⟨d.ring.val, d.slot.toNat, d.id.toNat, code, v0, 0, s.toll⟩]) ∧
    s.regsKept (s.complete d code v0) [F.ACV_RSTAT_INFLIGHT.key d.ring.val] :=
  ⟨s.complete_frame d code v0 0, (s.regsKept_refl _).complete (List.mem_singleton_self _) code v0 0⟩

theorem exec_collStart {s : State} {d : Desc} (haccepts : s.accepts d) (hstart : s.reg F.BOOT_STATUS_FAIL = 0) (ws : List (BitVec 64)) :
    exec (.collStart d ws) s = .next (s.collStart d (collArgs (ws.map BitVec.toNat))) :=
  congrArg Host.Outcome.next (s.serve_good d _ haccepts.1 haccepts.2 hstart)

section
variable {s : State} {a : CollArgs} {g : Grp}

theorem State.collStart_refused {code : Nat} (hcode : s.collCode a = code) (hne : code ≠ 0) (d : Desc) :
    s.collStart d a = s.complete d code a.tag := by
  unfold State.collStart
  rw [hcode]
  split
  next => rfl
  next => exact if_pos hne

theorem State.collCode_none (hnone : s.group a.group = none) : s.collCode a = 0x36 := by
  unfold State.collCode
  rw [hnone]

theorem State.collCode_named (hgroup : s.group a.group = some g) (hnamed : s.scoreNames a.group = true) : s.collCode a = 0x37 := by
  unfold State.collCode
  rw [hgroup]
  exact if_pos hnamed

theorem State.collCode_fields (hgroup : s.group a.group = some g) (hnamed : s.scoreNames a.group = false)
    (hbad : grpDeviceMember g = true ∨ a.paths = 0 ∨ a.rm = 3 ∨ a.dkind = 3 ∨ grpSize g ≤ a.rootRank) : s.collCode a = 0x38 := by
  have hfields (hmember : grpDeviceMember g ≠ true) : s.collFieldBad a (grpSize g) = true := by
    unfold State.collFieldBad
    obtain hmember' | hpaths | hrm | hdkind | hroot := hbad
    · exact absurd hmember' hmember
    · simp [hpaths]
    · simp [hrm]
    · simp [hdkind]
    · simp [hroot]
  unfold State.collCode
  rw [hgroup, hnamed]
  dsimp only
  rw [if_neg (by decide)]
  split
  next => rfl
  next hmember => rw [hfields hmember]; rfl

end

/-! ### A start that takes a number (09 R312; 04 R160, R162) -/

/-- The next number of a group taken; a refused collective of that number is forgotten. -/
def State.numbered (s : State) (a : CollArgs) (g : Grp) : State :=
  (s.takeNumber a.group g).putColls ((s.takeNumber a.group g).colls.filter
    (fun x => decide (x.mode = 0) || decide (x.group ≠ a.group) || decide (x.seq ≠ g.next)))

theorem State.takeNumber_eq (s : State) (h : Nat) (g : Grp) : s.takeNumber h g =
    ((s.setGroup h (some { g with next := (g.next + 1) % 65536 })).setReg F.COLL_COUNTS_STARTED
      (min ((s.setGroup h (some { g with next := (g.next + 1) % 65536 })).reg F.COLL_COUNTS_STARTED + 1) F.COLL_COUNTS_STARTED.top)).putFresh
      (s.takeNumber h g).fresh := State.count_eq ..

/-- A number taken changes the group table and its registers, what is new in this CK, and the collectives. -/
theorem State.numbered_frame (s : State) (a : CollArgs) (g : Grp) : s.numbered a g =
    (((s.putRegs (s.numbered a g).regs).putFresh (s.numbered a g).fresh).putGroups (s.numbered a g).groups).putColls (s.numbered a g).colls := by
  unfold State.numbered
  rw [State.takeNumber_eq]
  rfl

theorem State.numbered_reg_apart (s : State) (a : CollArgs) (x : Grp) {g : Field} {m : Nat} (hgroups : g.apart F.COLL_STATUS_GROUPS = true)
    (hstarted : g.apart F.COLL_COUNTS_STARTED = true) (hm : m < g.count) : (s.numbered a x).reg g m = s.reg g m := by
  rw [State.numbered, State.putColls_reg, State.takeNumber, State.count_reg_apart _ 1 hstarted hm (by decide),
    State.setGroup_reg_apart s a.group _ hgroups hm]

theorem State.numbered_toll (s : State) (a : CollArgs) (g : Grp) : (s.numbered a g).toll = s.toll :=
  s.numbered_reg_apart a g (by decide) (by decide) (by decide)

theorem State.numbered_started (s : State) (a : CollArgs) (g : Grp) :
    (s.numbered a g).reg F.COLL_COUNTS_STARTED = min (s.reg F.COLL_COUNTS_STARTED + 1) F.COLL_COUNTS_STARTED.top := by
  rw [State.numbered, State.putColls_reg, State.takeNumber, State.count_reg_same, State.setGroup_reg_apart s a.group _ (by decide) (by decide)]

theorem State.group_congr {s t : State} (h : t.groups = s.groups) (x : Nat) : t.group x = s.group x := by
  rw [State.group, State.group, h]

theorem State.numbered_group (s : State) (a : CollArgs) (g : Grp) :
    (s.numbered a g).group a.group = some { g with next := (g.next + 1) % 65536 } := by
  have hgroups : (s.numbered a g).groups = (s.setGroup a.group (some { g with next := (g.next + 1) % 65536 })).groups := by
    rw [State.numbered, State.putColls_groups, State.takeNumber_eq, State.putFresh_groups, State.setReg_groups]
  rw [State.group_congr hgroups, State.setGroup_group, if_pos rfl]

theorem State.numbered_colls {s : State} (h : s.colls = []) (a : CollArgs) (g : Grp) : (s.numbered a g).colls = [] := by
  have hcolls : (s.takeNumber a.group g).colls = [] := by
    rw [State.takeNumber_eq, State.putFresh_colls, State.setReg_colls]
    exact h
  rw [State.numbered, State.putColls_colls, hcolls, List.filter_nil]

theorem State.numbered_room {s : State} (h : s.colls = []) (a : CollArgs) (g : Grp) : ¬ 1024 ≤ (s.numbered a g).activeColls.length := by
  unfold State.activeColls State.openColls
  rw [State.numbered_colls h]
  decide

theorem State.numbered_leaves (s : State) (a : CollArgs) (g : Grp) :
    (s.numbered a g).mem = s.mem ∧ (s.numbered a g).comps = s.comps ∧ (s.numbered a g).parked = s.parked := by
  rw [State.numbered_frame]
  exact ⟨rfl, rfl, rfl⟩

section
variable {s : State} {a : CollArgs} {g : Grp} (hgroup : s.group a.group = some g) (hcode : s.collCode a = 0)
include hgroup hcode

/-- A collective without elements is done as soon as it has its number. -/
theorem State.collStart_empty (hop : a.op ≠ 7) (helems : a.elems = 0) (d : Desc) :
    s.collStart d a = (s.numbered a g).complete d 1 a.tag (g.next + 2 ^ 16) := by
  unfold State.collStart
  rw [hcode, hgroup]
  dsimp only
  rw [if_neg (by decide), ← State.numbered, if_pos ⟨hop, helems⟩]

/-- With no collective open, a start claims the Bushels of its stripes. -/
theorem State.collStart_claims (hsome : a.op = 7 ∨ a.elems ≠ 0) (hcolls : s.colls = []) {q : List (Nat × Nat) × State}
    (hclaim : (s.numbered a g).claim a (grpSize g) g.next (s.stripes a) (List.range (s.stripes a)) = some q) (d : Desc) :
    s.collStart d a = ((q.2.putColls (q.2.colls ++
      [⟨d, a.group, g.next, a.tag, q.1, q.1, 0, a.dest, s.stripes a, a.chunks, none⟩])).showColls).releaseCells a.group g.next := by
  have helems : ¬ (a.op ≠ 7 ∧ a.elems = 0) := fun h => hsome.elim h.1 fun hne => hne h.2
  unfold State.collStart
  rw [hcode, hgroup]
  dsimp only
  rw [if_neg (by decide), ← State.numbered, if_neg helems, if_neg (State.numbered_room hcolls a g), hclaim]

/-- With no collective open and no fallback asked for, a start whose claim fails is refused with NO_SRAM. -/
theorem State.collStart_rejects (hsome : a.op = 7 ∨ a.elems ≠ 0) (hcolls : s.colls = [])
    (hclaim : (s.numbered a g).claim a (grpSize g) g.next (s.stripes a) (List.range (s.stripes a)) = none) (hfallback : a.fallback = false)
    (d : Desc) : s.collStart d a = (s.numbered a g).refuseColl d a g.next (s.stripes a) 0x30 1 := by
  have helems : ¬ (a.op ≠ 7 ∧ a.elems = 0) := fun h => hsome.elim h.1 fun hne => hne h.2
  unfold State.collStart
  rw [hcode, hgroup]
  dsimp only
  rw [if_neg (by decide), ← State.numbered, if_neg helems, if_neg (State.numbered_room hcolls a g), hclaim]
  dsimp only
  rw [hfallback, if_neg (by decide)]

end

/-! ### The claim of one Bushel (04 R156, R158, R160, R164) -/

/-- A record written for the claim of a stripe, its Bushel empty. -/
def State.bushelClaimed (s : State) (c r : Nat) (ws : List Nat) : State :=
  (s.writeRecord c r ws).setBushel c r { Bushel.reset with last := s.toll }

/-- The claim of one stripe. (The recursion is unfolded by `delta`: Lean's own equations of `claim` would evaluate the allocator's 512 Pecks.) -/
theorem State.claim_one {s : State} {a : CollArgs} {run : Nat × Nat} {r : Nat}
    (hrun : (s.freeRuns (a.cluster 0)).find? (fun y => decide (pecksOf a.w a.levels a.cfmt ≤ y.2)) = some run)
    (hrecord : s.freeRecord (a.cluster 0) = some r) (hfits : pecksOf a.w a.levels a.cfmt ≤ 512) (n seq nb : Nat) :
    s.claim a n seq nb [0] = some ([(a.cluster 0, r)],
      s.bushelClaimed (a.cluster 0) r (a.record n seq nb 0 (pecksOf a.w a.levels a.cfmt) run.1)) := by
  delta State.claim State.claim._f
  dsimp only [List.brecOn]
  rw [hrun, hrecord]
  dsimp only
  rw [if_pos hfits, State.bushelClaimed]

theorem State.claim_refused {s : State} {a : CollArgs} (hrecord : s.freeRecord (a.cluster 0) = none) (n seq nb : Nat) :
    s.claim a n seq nb [0] = none := by
  delta State.claim State.claim._f
  dsimp only [List.brecOn]
  rw [hrecord]
  cases (s.freeRuns (a.cluster 0)).find? (fun y => decide (pecksOf a.w a.levels a.cfmt ≤ y.2)) <;> rfl

theorem State.bushelClaimed_leaves (s : State) (c r : Nat) (ws : List Nat) :
    (s.bushelClaimed c r ws).colls = s.colls ∧ (s.bushelClaimed c r ws).comps = s.comps ∧ (s.bushelClaimed c r ws).groups = s.groups ∧
    (s.bushelClaimed c r ws).mem = (s.writeRecord c r ws).mem := ⟨rfl, rfl, rfl, rfl⟩

/-- An open collective added, with nothing parked. -/
def State.collAdded (s : State) (x : Coll) : State := (((s.putColls (s.colls ++ [x])).showColls).putParked []).showPark

theorem State.collAdded_leaves (s : State) (x : Coll) : (s.collAdded x).colls = s.colls ++ [x] ∧ (s.collAdded x).comps = s.comps ∧
    (s.collAdded x).groups = s.groups ∧ (s.collAdded x).mem = s.mem := ⟨rfl, rfl, rfl, rfl⟩

theorem State.collAdded_active {s : State} (h : s.colls = []) {x : Coll} (hmode : x.mode = 0) (hlive : x.live.length = x.recs.length) :
    (s.collAdded x).reg F.COLL_STATUS_ACTIVE = 1 := by
  have hactive : (s.putColls (s.colls ++ [x])).activeColls = [x] := by
    unfold State.activeColls State.openColls
    rw [State.putColls_colls, h]
    simp [hmode, hlive]
  rw [State.collAdded, State.showPark_reg_apart _ (by decide) (by decide) (by decide), State.putParked_reg, State.showColls, hactive,
    List.length_singleton]
  exact State.reg_setReg_lt _ 0 (by decide)

theorem CollArgs.record_length (a : CollArgs) (n seq nb k pecks base : Nat) : (a.record n seq nb k pecks base).length = 8 := rfl

/-- The one stripe of a collective claimed: its record is written and it alone is open. -/
theorem State.collOpened_shows {s : State} (hcolls : s.colls = []) (c r : Nat) {ws : List Nat} (hws : ws.length = 8)
    {x : Coll} (hmode : x.mode = 0) (hlive : x.live.length = x.recs.length) {t : State} (ht : t = (s.bushelClaimed c r ws).collAdded x) :
    t.colls = [x] ∧ t.comps = s.comps ∧ t.groups = s.groups ∧ t.reg F.COLL_STATUS_ACTIVE = 1 ∧ s.memKeptOut t (recAddr c r) 64 ∧
    ∀ i < 8, t.recWord c r i = ws.getD i 0 % 2 ^ 64 := by
  obtain ⟨hcolls', hcomps, hgroups, hmem⟩ := s.bushelClaimed_leaves c r ws
  obtain ⟨hadded, hcomps', hgroups', hmem'⟩ := (s.bushelClaimed c r ws).collAdded_leaves x
  have hempty := hcolls'.trans hcolls
  have hwritten := hmem'.trans hmem
  subst ht
  refine ⟨?_, hcomps'.trans hcomps, hgroups'.trans hgroups, State.collAdded_active hempty hmode hlive, fun y hy => ?_, fun i hi => ?_⟩
  · rw [hadded, hempty, List.nil_append]
  · exact (State.byte_congr hwritten y).trans (s.writeRecord_memKeptOut c r ws y hy)
  · exact (State.recWord_congr hwritten c r i).trans (s.writeRecord_recWord c r hws hi)

/-- A collective whose claim was refused completes with NO_SRAM, and its cells are rejected. -/
def State.collRejected (s : State) (d : Desc) (a : CollArgs) (seq : Nat) : State :=
  (((s.putColls (s.colls ++ [⟨d, a.group, seq, a.tag, [], [], 1, a.dest, 1, a.chunks, none⟩])).complete d 0x30 a.tag
    (seq + 2 ^ 16)).putParked []).showPark

theorem State.refuseColl_none {s : State} (h : s.parked = []) (d : Desc) (a : CollArgs) (seq : Nat) :
    s.refuseColl d a seq 1 0x30 1 = s.collRejected d a seq := by
  rw [State.refuseColl, State.releaseCells_none (by rw [State.complete_parked, State.putColls_parked, h]), State.collRejected]

theorem State.collRejected_shows (s : State) (d : Desc) (a : CollArgs) (seq : Nat) :
    (s.collRejected d a seq).comps = s.comps ++ [⟨d.ring.val, d.slot.toNat, d.id.toNat, 0x30, a.tag, seq + 2 ^ 16, s.toll⟩] ∧
    (s.collRejected d a seq).groups = s.groups ∧ (s.collRejected d a seq).mem = s.mem := ⟨rfl, rfl, rfl⟩

section
variable {s : State} {a : CollArgs} {g : Grp} (hgroup : s.group a.group = some g) (hcode : s.collCode a = 0)
  (hsome : a.op = 7 ∨ a.elems ≠ 0) (hone : s.stripes a = 1) (hcolls : s.colls = []) (hparked : s.parked = [])
include hgroup hcode hsome hone hcolls hparked

theorem State.collStart_opens {run : Nat × Nat} {r : Nat}
    (hrun : (s.freeRuns (a.cluster 0)).find? (fun y => decide (pecksOf a.w a.levels a.cfmt ≤ y.2)) = some run)
    (hrecord : s.freeRecord (a.cluster 0) = some r) (hfits : pecksOf a.w a.levels a.cfmt ≤ 512) (d : Desc) :
    s.collStart d a = ((s.numbered a g).bushelClaimed (a.cluster 0) r
      (a.record (grpSize g) g.next 1 0 (pecksOf a.w a.levels a.cfmt) run.1)).collAdded
        ⟨d, a.group, g.next, a.tag, [(a.cluster 0, r)], [(a.cluster 0, r)], 0, a.dest, 1, a.chunks, none⟩ := by
  obtain ⟨hmem, -, hnone⟩ := s.numbered_leaves a g
  have hruns := State.freeRuns_congr hmem (s.numbered_reg_apart a g (by decide) (by decide) (by decide)) (a.cluster 0)
  have hrecords := State.freeRecord_congr hmem (s.numbered_reg_apart a g (by decide) (by decide) (by decide)) (a.cluster 0)
  have hclaim := State.claim_one (hruns.symm ▸ hrun) (hrecords.trans hrecord) hfits (grpSize g) g.next 1
  have hstart := State.collStart_claims hgroup hcode hsome hcolls (by rw [hone]; exact hclaim) d
  rw [hstart, hone, State.releaseCells_none]
  · rfl
  · exact hnone.trans hparked

/-- A claim refused leaves a collective that rejects its cells. -/
theorem State.collStart_unclaimed (hrecord : s.freeRecord (a.cluster 0) = none) (hfallback : a.fallback = false) (d : Desc) :
    s.collStart d a = (s.numbered a g).collRejected d a g.next := by
  obtain ⟨hmem, -, hnone⟩ := s.numbered_leaves a g
  have hrecords := State.freeRecord_congr hmem (s.numbered_reg_apart a g (by decide) (by decide) (by decide)) (a.cluster 0)
  have hclaim := State.claim_refused (hrecords.trans hrecord) (grpSize g) g.next 1
  rw [State.collStart_rejects hgroup hcode hsome hcolls (by rw [hone]; exact hclaim) hfallback d, hone,
    State.refuseColl_none (hnone.trans hparked)]

end

/-! ### End descriptors (09 R314, R315) -/

theorem exec_collEnd {s : State} {d : Desc} (haccepts : s.accepts d) (hstart : s.reg F.BOOT_STATUS_FAIL = 0) (g : BitVec 12) (seq : BitVec 16) :
    exec (.collEnd d g seq) s = .next (s.collEnd d g.toNat seq.toNat) :=
  congrArg Host.Outcome.next (s.serve_good d _ haccepts.1 haccepts.2 hstart)

theorem State.collEnd_none {s : State} (h : s.colls = []) (d : Desc) (g seq : Nat) : s.collEnd d g seq = s.complete d 0x3A := by
  unfold State.collEnd State.activeColls State.openColls
  rw [h]
  rfl

theorem State.collEnd_only {s : State} {x : Coll} (h : s.colls = [x]) (hmode : x.mode = 0) (hlive : x.recs.length = x.live.length) (d : Desc) :
    s.collEnd d x.group x.seq = (s.endColl x 0x35).complete d 0 := by
  have hfound : s.activeColls.find? (fun y => decide (y.group = x.group) && decide (y.seq = x.seq)) = some x := by
    unfold State.activeColls State.openColls
    rw [h]
    simp [hmode, hlive]
  unfold State.collEnd
  rw [hfound]

theorem State.collEnd_only_shows {s : State} {x : Coll} (h : s.colls = [x]) (d : Desc) :
    ((s.endColl x 0x35).complete d 0).comps = s.comps ++
      [⟨x.desc.ring.val, x.desc.slot.toNat, x.desc.id.toNat, 0x35, x.tag, x.seq + 2 ^ 16, s.toll⟩,
       ⟨d.ring.val, d.slot.toNat, d.id.toNat, 0, 0, 0, s.toll⟩] ∧
    ((s.endColl x 0x35).complete d 0).colls = [] ∧ ((s.endColl x 0x35).complete d 0).reg F.COLL_STATUS_ACTIVE = 0 := by
  obtain ⟨hcolls, hcomps, htoll, hactive⟩ := s.endColl_shows x 0x35
  have hnone : (s.endColl x 0x35).colls = [] := by
    rw [hcolls, h]
    exact List.erase_cons_head ..
  refine ⟨?_, hnone, ?_⟩
  · rw [State.complete_comps, hcomps, htoll, List.append_assoc]
    rfl
  · rw [State.complete_reg_apart (by decide) (by decide), hactive, State.activeColls, State.openColls, hnone]
    rfl

/-! ### The statement -/

/-- Settles O47: each course of a group, start or end descriptor by the lemma above that says it. -/
theorem collectivesOpenAndEnd : Obligations.CollectivesOpenAndEnd := by
  intro d w0 w1 w2 w3 ws g seq s haccepts h e a entry q plain hstart
  have hgroups := exec_group haccepts hstart w0 w1 w2 w3
  have hstarts : exec (.collStart d ws) s = .next (s.collStart d a) := exec_collStart haccepts hstart ws
  have hrefused {code : Nat} (hcode : s.collCode a = code) (hne : code ≠ 0) : plain (.collStart d ws) code a.tag :=
    ⟨_, hstarts.trans (congrArg Host.Outcome.next (State.collStart_refused hcode hne d)), s.complete_plain_value d code a.tag⟩
  refine ⟨fun hput hbad => ?_, fun hput hgood hhave hbusy => ?_, fun hput hgood hfree => ?_, fun hremove hfree => ?_,
    fun hnone => hrefused (State.collCode_none hnone) (by decide), fun x hgroup => ⟨fun hnamed => ?_, fun hnamed hbad => ?_,
      fun hcode hop helems => ?_, fun run r hcode hsome hone hcolls hparked hrun hrecord hfits => ?_,
      fun hcode hsome hone hcolls hparked hrecord hfallback => ?_⟩,
    fun x hcolls hmode hlive hgroup hseq => ?_, fun hcolls => ?_⟩
  · exact ⟨_, hgroups.trans (congrArg Host.Outcome.next (State.groupDesc_bad d hput hbad)), s.complete_plain_value d 0x36 0⟩
  · exact ⟨_, hgroups.trans (congrArg Host.Outcome.next (State.groupDesc_busy d hput hgood hhave hbusy)), s.complete_plain_value d 0x37 0⟩
  · exact ⟨_, hgroups.trans (congrArg Host.Outcome.next (State.groupDesc_put d hput hgood hfree)), s.groupPut_shows d h (some e)⟩
  · cases hhave : s.group h with
    | none =>
      have habsent : s.group (bitsOf w0.toNat 11 0) = none := hhave
      refine ⟨_, hgroups.trans (congrArg Host.Outcome.next (State.groupDesc_absent d hremove habsent)), rfl, habsent, fun _ _ => rfl,
        fun _ => rfl, (s.regsKept_refl _).complete (by simp [q]) 0 0 0⟩
    | some x =>
      exact ⟨_, hgroups.trans (congrArg Host.Outcome.next (State.groupDesc_remove d hremove hhave hfree)), s.groupPut_shows d h none⟩
  · exact hrefused (State.collCode_named hgroup hnamed) (by decide)
  · exact hrefused (State.collCode_fields hgroup hnamed hbad) (by decide)
  · obtain ⟨hmem, hcomps, -⟩ := s.numbered_leaves a x
    refine ⟨_, hstarts.trans (congrArg Host.Outcome.next (State.collStart_empty hgroup hcode hop helems d)), ?_, s.numbered_group a x, ?_,
      State.memKept_of_mem hmem⟩
    · rw [State.complete_comps, hcomps, State.numbered_toll]
    · rw [State.complete_reg_apart (by decide) (by decide), State.numbered_started]
  · obtain ⟨hmem, hcomps, -⟩ := s.numbered_leaves a x
    obtain ⟨hopen, hcomps', hgroups', hactive, hmem', hwords⟩ := State.collOpened_shows (State.numbered_colls hcolls a x) (a.cluster 0) r
      (a.record_length (grpSize x) x.next 1 0 (pecksOf a.w a.levels a.cfmt) run.1)
      (x := ⟨d, a.group, x.next, a.tag, [(a.cluster 0, r)], [(a.cluster 0, r)], 0, a.dest, 1, a.chunks, none⟩) rfl rfl rfl
    exact ⟨_, hstarts.trans (congrArg Host.Outcome.next
      (State.collStart_opens hgroup hcode hsome hone hcolls hparked hrun hrecord hfits d)), hopen, hcomps'.trans hcomps,
      (State.group_congr hgroups' _).trans (s.numbered_group a x), hactive,
      fun y hy => (hmem' y hy).trans (State.byte_congr hmem y), hwords⟩
  · obtain ⟨hmem, hcomps, -⟩ := s.numbered_leaves a x
    obtain ⟨hcomps', hgroups', hmem'⟩ := (s.numbered a x).collRejected_shows d a x.next
    refine ⟨_, hstarts.trans (congrArg Host.Outcome.next
      (State.collStart_unclaimed hgroup hcode hsome hone hcolls hparked hrecord hfallback d)), ?_,
      (State.group_congr hgroups' _).trans (s.numbered_group a x), State.memKept_of_mem (hmem'.trans hmem)⟩
    rw [hcomps', hcomps, State.numbered_toll]
  · have hends := State.collEnd_only hcolls hmode hlive d
    rw [hgroup, hseq] at hends
    exact ⟨_, (exec_collEnd haccepts hstart g seq).trans (congrArg Host.Outcome.next hends), State.collEnd_only_shows hcolls d⟩
  · exact ⟨_, (exec_collEnd haccepts hstart g seq).trans (congrArg Host.Outcome.next (State.collEnd_none hcolls d _ _)),
      s.complete_plain_value d 0x3A 0⟩

end Sys2Proof.Machine
end

section
/-!
LAWS. What an instruction that issues does, what a completion entry changes, and what a tally engine does with an input in turn.
-/
namespace Sys2Proof.Machine

/-! ### Memory with no bad symbol, no poison and no corruption due (13 R420, R421; 17 R532) -/

theorem State.correct_clean {s : State} {a n : Nat} (h : s.softIn a n = []) : s.correct a n = s := by
  rw [State.correct, h]
  rfl

theorem State.softIn_none {s : State} (h : s.soft = []) (a n : Nat) : s.softIn a n = [] := by
  rw [State.softIn, h]
  rfl

theorem State.poisonRead_none {s : State} (h : s.poison = []) (a n : Nat) : s.poisonRead a n = none := by
  unfold State.poisonRead
  rw [h, List.find?_eq_none]
  simp

theorem State.hitMode_none {s : State} (h : s.inj.corrupt = []) (kind level unit : Nat) : s.hitMode kind level unit = none := by
  rw [State.hitMode, h]
  rfl

theorem State.mend_clean {s : State} (h : s.soft = []) (a n : Nat) : s.mend a n = s.putSoft [] := by
  unfold State.mend
  rw [State.softIn_none h, h]
  rfl

theorem State.spoil_none {s : State} (h : s.inj.corrupt = []) (a n : Nat) : s.spoil a n = s := by
  unfold State.spoil
  simp only [State.hitMode_none h, Option.isSome_none, Bool.false_eq_true, if_false, ite_self]

/-- Bytes put into clean memory change memory and what was poisoned there. -/
theorem State.putBytes_clean {s : State} (hsoft : s.soft = []) (hcorrupt : s.inj.corrupt = []) (a : Nat) (l : List Byte) :
    s.putBytes a l = ((s.putMem (memWrite s.mem a l)).putPoison (s.putBytes a l).poison).putSoft [] := by
  have hput : s.putBytes a l = ((s.putSoft []).poke a l).cleanse a l.length := by
    unfold State.putBytes
    rw [State.mend_clean hsoft]
    exact State.spoil_none (s := ((s.putSoft []).poke a l).cleanse a l.length) hcorrupt _ _
  rw [hput]
  rfl

theorem State.putBytes_leaves {s : State} (hsoft : s.soft = []) (hcorrupt : s.inj.corrupt = []) (a : Nat) (l : List Byte) :
    (s.putBytes a l).mem = memWrite s.mem a l ∧ (s.putBytes a l).bushels = s.bushels ∧ (s.putBytes a l).clusters = s.clusters ∧
    (s.putBytes a l).regs = s.regs := by
  rw [State.putBytes_clean hsoft hcorrupt]
  exact ⟨rfl, rfl, rfl, rfl⟩

/-! ### Issue (06 R203, R205) -/

theorem State.sHeld_readable {s : State} {c : Nat} {i : Instr} (h : s.readable c (sRegs i)) : s.sHeld c i = false := by
  unfold State.sHeld
  rw [List.any_eq_false]
  intro r hr
  simpa using h r hr

/-- An instruction that the sequencer meets, well formed and with its registers readable, does what it does. -/
theorem State.issue_runs {s : State} {c : Nat} {i : Instr} (hmeets : s.meets c) (hwf : i.wf = true) (hread : s.readable c (sRegs i)) (unit : Nat)
    (act : State → State) : s.issue c i unit act = act s := by
  obtain ⟨hmay, hpoison, hsoft⟩ := hmeets
  have hfetch : s.fetchWord c = s := by
    unfold State.fetchWord
    cases haddr : s.listAddr c with
    | none => rfl
    | some a =>
      rw [haddr] at hsoft
      exact State.correct_clean (List.isEmpty_iff.mp (by simpa using hsoft))
  unfold State.issue
  rw [if_pos hmay, hpoison]
  dsimp only
  rw [hfetch, hwf, State.sHeld_readable hread]
  rfl

theorem State.goOn_frame (s : State) (c : Nat) : s.goOn c = s.putRegs (s.goOn c).regs := rfl

theorem State.regsKept.goOn {s t : State} {ks : List Nat} (h : s.regsKept t ks) {c : Nat} (hindex : F.SEQ_CLUSTER_INDEX.key c ∈ ks)
    (hstall : F.SEQ_CLUSTER_STALL.key c ∈ ks) : s.regsKept (t.goOn c) ks :=
  State.regsKept.setReg (h.setReg hindex _) hstall _

theorem State.goOn_shows (s : State) {c : Nat} (hc : c < 64) :
    (s.goOn c).reg F.SEQ_CLUSTER_INDEX c = (s.reg F.SEQ_CLUSTER_INDEX c + 1) % 2 ^ 24 ∧ (s.goOn c).reg F.SEQ_CLUSTER_STALL c = 0 := by
  refine ⟨?_, State.reg_setReg_lt _ c (by decide)⟩
  rw [State.goOn, State.goTo, State.reg_setReg_apart _ _ (by decide) hc hc, State.reg_setReg_same]
  rfl

/-! ### Completion entries (06 R226, R227) -/

/-- An entry of a unit without flags, as a number. -/
theorem entryBits_plain {index unit code : Nat} (hindex : index < 2 ^ 24) (hunit : unit < 8) (hcode : code < 65536) :
    entryBits index unit 0 code = index * 2 ^ 40 + unit * 2 ^ 32 + code := by
  unfold entryBits
  rw [Nat.mod_eq_of_lt hindex, Nat.mod_eq_of_lt hunit, Nat.mod_eq_of_lt hcode]
  omega

/-- The state with an entry written and counted. -/
def State.entered (s : State) (c index unit code : Nat) : State :=
  (s.putBytes (wmBase c + s.entryOff (s.cl c).ccount) (leBytes 8 (entryBits index unit 0 code))).setCount c ((s.cl c).ccount + 1)

theorem State.entry_eq (s : State) (c index unit code : Nat) : s.entry c index unit 0 code =
    if code ≤ 3 then s.entered c index unit code else (s.entered c index unit code).err (causeOf code) := rfl

theorem State.putBeatU_self (s : State) : s.putBeatU s.beatU = s := rfl

theorem State.err_frame (s : State) (cause : Nat) : s.err cause = s.putBeatU (s.err cause).beatU := by
  rw [State.err_eq]
  split <;> rfl

/-- A code that is no success sets ERR, in the Beat unit. -/
theorem State.entry_frame (s : State) (c index unit code : Nat) :
    s.entry c index unit 0 code = (s.entered c index unit code).putBeatU (s.entry c index unit 0 code).beatU := by
  rw [State.entry_eq]
  by_cases h : code ≤ 3
  · rw [if_pos h, State.putBeatU_self]
  · rw [if_neg h]
    exact State.err_frame _ _

theorem State.setCount_frame (s : State) (c n : Nat) : s.setCount c n =
    (s.putRegs (s.setCount c n).regs).putClusters (tabSet Cluster.reset s.clusters c { s.cl c with ccount := n }) := rfl

/-- What a completion entry of cluster `c` changes, from `s` to `t`: its eight bytes at `e`, the count of the cluster and CCOUNT, and the Beat
unit; in memory with no bad symbol and with no corruption due. -/
structure State.entryMade (s t : State) (c e w : Nat) : Prop where
  mem : t.mem = memWrite s.mem e (leBytes 8 w)
  bushels : t.bushels = s.bushels
  same : t.cl c = { s.cl c with ccount := (s.cl c).ccount + 1 }
  others : s.othersKept t c
  regs : s.regsKept t [F.SEQ_CLUSTER_CCOUNT.key c]

theorem State.entryMade_of_written {s p : State} {e w : Nat} (hmem : p.mem = memWrite s.mem e (leBytes 8 w)) (hbushels : p.bushels = s.bushels)
    (hclusters : p.clusters = s.clusters) (hregs : p.regs = s.regs) (c : Nat) (b : BeatUnit) :
    s.entryMade ((p.setCount c ((s.cl c).ccount + 1)).putBeatU b) c e w := by
  have hcl (x : Nat) : p.cl x = s.cl x := congrArg (fun t => tabGet Cluster.reset t x) hclusters
  have hkept : s.regsKept p [F.SEQ_CLUSTER_CCOUNT.key c] := (s.regsKept_refl _).congr hregs
  refine ⟨hmem, hbushels, ?_, fun x hx => ?_, (State.regsKept.setReg (hkept.congr rfl) (List.mem_singleton_self _) _).congr rfl⟩
  · exact (State.cl_setCl_same ..).trans (by rw [hcl])
  · exact (State.cl_setCl_other _ _ hx).trans (hcl x)

theorem State.entry_made {s : State} (hsoft : s.soft = []) (hcorrupt : s.inj.corrupt = []) (c index unit code : Nat) :
    s.entryMade (s.entry c index unit 0 code) c (wmBase c + s.entryOff (s.cl c).ccount) (entryBits index unit 0 code) := by
  obtain ⟨hmem, hbushels, hclusters, hregs⟩ := State.putBytes_leaves hsoft hcorrupt (wmBase c + s.entryOff (s.cl c).ccount)
    (leBytes 8 (entryBits index unit 0 code))
  rw [State.entry_frame, State.entered]
  exact State.entryMade_of_written hmem hbushels hclusters hregs c _

/-! ### Inputs of a tally engine (04 R148, R149, R157, R166) -/

/-- An input that its engine takes at once: its chunk is not done, it is no duplicate, its turn has come, its slot is free, and its record
does not take inputs in arrival order. -/
abbrev State.takesNow (s : State) (x : TallyIn) : Prop :=
  decide (x.chunk ∈ (s.bushel (x.key / 64) (x.key % 64)).done) = false ∧ s.haveLo (x.key / 64) x 0 = false ∧
  s.turnOf (x.key / 64) (x.key % 64) x.chunk = x.lo ∧ s.slotBusy (x.key / 64) (x.key % 64) x.chunk = false ∧
  s.rAny (x.key / 64) (x.key % 64) = false

theorem State.takesNow_setCl {s : State} {x : TallyIn} (h : s.takesNow x) {y : Cluster} (hy : y.tallyq = (s.cl (x.key / 64)).tallyq) :
    (s.setCl (x.key / 64) y).takesNow x := by
  obtain ⟨hdone, hdup, hturn, hslot, hany⟩ := h
  refine ⟨hdone, ?_, hturn, hslot, hany⟩
  unfold State.haveLo at hdup ⊢
  rw [State.cl_setCl_same, hy]
  exact hdup

theorem joinParts_one (x : TallyIn) : joinParts [(0, x)] 1 x = x := by
  simp [joinParts]

theorem State.openSlot_frame (s : State) (c r : Nat) (x : TallyIn) : s.openSlot c r x = s.putBushels (s.openSlot c r x).bushels := by
  unfold State.openSlot
  dsimp only
  split <;> rfl

theorem State.openSlot_slot (s : State) (c r : Nat) (x : TallyIn) : (slotFor ((s.openSlot c r x).bushel c r) x.chunk).isSome = true := by
  unfold State.openSlot
  dsimp only
  split
  next h => exact h
  next h =>
    rw [State.bushel_setBushel_same, slotFor, List.find?_append]
    simp

theorem State.queueInput_frame (s : State) (c r : Nat) (x : TallyIn) :
    s.queueInput c r x = (s.putBushels (s.queueInput c r x).bushels).putClusters (s.queueInput c r x).clusters := by
  have hopen := s.openSlot_frame c r x
  unfold State.queueInput State.touchRec
  dsimp only
  generalize s.openSlot c r x = t at hopen ⊢
  rw [hopen]
  rfl

/-- An input in its engine's queue has touched its record and holds its chunk's slot. -/
theorem State.queueInput_shows (s : State) (c r : Nat) (x : TallyIn) :
    (s.queueInput c r x).cl c = { s.cl c with tallyq := (s.cl c).tallyq ++ [x] } ∧ s.othersKept (s.queueInput c r x) c ∧
    ((s.queueInput c r x).bushel c r).taken = true ∧ (slotFor ((s.queueInput c r x).bushel c r) x.chunk).isSome = true := by
  have hopen := s.openSlot_frame c r x
  have hslot := s.openSlot_slot c r x
  unfold State.queueInput
  dsimp only
  generalize s.openSlot c r x = t at hopen hslot ⊢
  have hcl (y : Nat) : (t.touchRec c r).cl y = s.cl y := by
    rw [hopen]
    rfl
  have hbushel : (t.touchRec c r).bushel c r = { t.bushel c r with last := t.toll, taken := true } := State.bushel_setBushel_same ..
  have hsame (y : Cluster) : ((t.touchRec c r).setCl c y).bushel c r = (t.touchRec c r).bushel c r := rfl
  refine ⟨?_, fun y hy => ?_, ?_, ?_⟩
  · rw [State.cl_setCl_same, hcl]
  · rw [State.cl_setCl_other _ _ hy, hcl]
  · rw [hsame, hbushel]
  · rw [hsame, hbushel]
    exact hslot

theorem State.unpark_frame (s : State) (ps : List Parked) :
    s.unpark ps = (s.putRegs (s.unpark ps).regs).putParked (ps.foldl List.erase s.parked) := rfl

/-- The fields of the park areas. -/
def parkKeys : List Nat := [F.TALLY_PARK_PARKED_D0.key 0, F.TALLY_PARK_PARKED_D1.key 0]

theorem State.unpark_regsKept (s : State) (ps : List Parked) : s.regsKept (s.unpark ps) parkKeys :=
  State.regsKept.showPark (State.regsKept.congr (s.regsKept_refl _) rfl) (by simp [parkKeys]) (by simp [parkKeys])

/-- What an input that joins its engine's queue changes, from `s` to `t`: its cluster, its record, and the counts of the park areas. -/
structure State.inputQueued (s t : State) (x : TallyIn) : Prop where
  frame : t = ((s.putRegs t.regs).putClusters t.clusters).putBushels t.bushels
  same : t.cl (x.key / 64) = { s.cl (x.key / 64) with tallyq := (s.cl (x.key / 64)).tallyq ++ [x] }
  others : s.othersKept t (x.key / 64)
  taken : (t.bushel (x.key / 64) (x.key % 64)).taken = true
  slot : (slotFor (t.bushel (x.key / 64) (x.key % 64)) x.chunk).isSome = true
  regs : s.regsKept t parkKeys

theorem State.queueInput_queued (s : State) (x : TallyIn) :
    s.inputQueued ((s.unpark []).queueInput (x.key / 64) (x.key % 64) x) x := by
  have hunpark := s.unpark_frame []
  have hregs := s.unpark_regsKept []
  generalize s.unpark [] = u at hunpark hregs ⊢
  obtain ⟨hsame, hothers, htaken, hslot⟩ := u.queueInput_shows (x.key / 64) (x.key % 64) x
  have hframe := u.queueInput_frame (x.key / 64) (x.key % 64) x
  generalize u.queueInput (x.key / 64) (x.key % 64) x = t at *
  have hcl (y : Nat) : u.cl y = s.cl y := by
    rw [hunpark]
    rfl
  refine ⟨?_, ?_, fun y hy => (hothers y hy).trans (hcl y), htaken, hslot, ?_⟩
  · rw [hframe, hunpark]
    rfl
  · rw [hsame, hcl]
  · refine hregs.congr ?_
    rw [hframe]
    rfl

/-- An input of one part that is taken at once joins the queue with the code 0. -/
theorem State.offer_takes {s : State} {x : TallyIn} (h : s.takesNow x) (access : Nat) (addr : Option Nat) :
    (s.offer x 0 1 access addr).1 = 0 ∧ s.inputQueued (s.offer x 0 1 access addr).2 x := by
  obtain ⟨hdone, hdup, hturn, hslot, hany⟩ := h
  have hgather : s.gather x 1 (some 0) = some [] := rfl
  have hoffer : s.offer x 0 1 access addr = (0, (s.unpark []).queueInput (x.key / 64) (x.key % 64) x) := by
    unfold State.offer
    dsimp only
    rw [hany, hdone, hdup, hturn, if_neg (by decide), if_neg (by simp), if_pos rfl, State.joinOrPark]
    rw [hslot, if_neg (by decide), hgather]
    dsimp only
    rw [List.map_nil, joinParts_one]
  rw [hoffer]
  exact ⟨rfl, s.queueInput_queued x⟩

end Sys2Proof.Machine
end

section
/-!
LAWS. The tally instructions, the tally cells, the operation of a tally engine, and its parks and time limits, case by case.
-/
namespace Sys2Proof.Machine

/-! ### What a tally instruction leaves when it completes (06 R226, R228) -/

/-- The fields that a tally instruction may change: those of its issue and completion, and the counts of the park areas. -/
def tallyKeys (c : Nat) : List Nat :=
  [F.SEQ_CLUSTER_INDEX.key c, F.SEQ_CLUSTER_STALL.key c, F.SEQ_CLUSTER_CCOUNT.key c, F.TALLY_PARK_PARKED_D0.key 0, F.TALLY_PARK_PARKED_D1.key 0]

/-- From `s` to `t` the instruction at the list's index has completed with a code: its entry stands at `e`, the completion count and INDEX have
risen, and no other byte, cluster or field has changed, but for the counts of the park areas. -/
def State.tallyDone (s t : State) (c e code : Nat) : Prop :=
  t.word e = s.reg F.SEQ_CLUSTER_INDEX c * 2 ^ 40 + 3 * 2 ^ 32 + code ∧ s.memKeptOut t e 8 ∧ (t.cl c).ccount = (s.cl c).ccount + 1 ∧
  s.othersKept t c ∧ s.regsKept t (tallyKeys c) ∧ t.reg F.SEQ_CLUSTER_INDEX c = (s.reg F.SEQ_CLUSTER_INDEX c + 1) % 2 ^ 24

/-- What an instruction has done when its completion entry is written: neither memory nor the completion count has changed, and no cluster but
its own, and no field but the counts of the park areas. -/
structure State.tallyWorked (s u : State) (c : Nat) : Prop where
  mem : u.mem = s.mem
  soft : u.soft = s.soft
  inj : u.inj = s.inj
  count : (u.cl c).ccount = (s.cl c).ccount
  others : s.othersKept u c
  regs : s.regsKept u parkKeys

theorem State.tallyWorked_self (s : State) (c : Nat) : s.tallyWorked s c := ⟨rfl, rfl, rfl, rfl, fun _ _ => rfl, s.regsKept_refl _⟩

theorem State.regsKept.mono {s t : State} {ks js : List Nat} (h : s.regsKept t ks) (hsub : ∀ k ∈ ks, k ∈ js) : s.regsKept t js :=
  fun f n hout => h f n (fun hin => hout (hsub _ hin))

theorem State.regsKept.trans {s t u : State} {ks : List Nat} (h : s.regsKept t ks) (h' : t.regsKept u ks) : s.regsKept u ks :=
  fun f n hout => (h' f n hout).trans (h f n hout)

/-- A field that lies apart from the park counts reads as before. -/
theorem State.regsKept.reg_apart_park {s t : State} (h : s.regsKept t parkKeys) {g : Field} {m : Nat} (h0 : g.apart F.TALLY_PARK_PARKED_D0 = true)
    (h1 : g.apart F.TALLY_PARK_PARKED_D1 = true) (hm : m < g.count) : t.reg g m = s.reg g m := by
  refine h g m ?_
  simp only [parkKeys, List.mem_cons, List.not_mem_nil, or_false, not_or]
  exact ⟨Field.key_ne_of_apart h0 hm (by decide), Field.key_ne_of_apart h1 hm (by decide)⟩

theorem State.word_of_written {s : State} {m : List Host.Cell} {e w : Nat} (h : s.mem = memWrite m e (leBytes 8 w)) (hw : w < 2 ^ 64) :
    s.word e = w := by
  have hread := memBytes_memWrite_in m e (leBytes 8 w) (o := 0) (n := 8) (by rw [leBytes_length])
  rw [Nat.add_zero, List.drop_zero, ← h, List.take_of_length_le (by rw [leBytes_length])] at hread
  calc s.word e = leNat (memBytes s.mem e 8) := rfl
    _ = w := by rw [hread, leNat_leBytes_mod]; exact Nat.mod_eq_of_lt hw

theorem State.memKeptOut_of_written {s t : State} {e w : Nat} (h : t.mem = memWrite s.mem e (leBytes 8 w)) : s.memKeptOut t e 8 := by
  intro x hx
  have hlen : (leBytes 8 w).length = 8 := leBytes_length 8 w
  have hbyte : t.byte x = tabGet 0 (memWrite s.mem e (leBytes 8 w)) x := congrArg (fun m => tabGet 0 m x) h
  rw [hbyte]
  obtain hbelow | habove := hx
  · exact memWrite_below _ _ _ hbelow
  · exact memWrite_above _ _ _ (by omega)

theorem State.goOn_leaves (s : State) (c : Nat) : (s.goOn c).mem = s.mem ∧ (s.goOn c).bushels = s.bushels ∧ (s.goOn c).clusters = s.clusters := by
  rw [State.goOn_frame]
  exact ⟨rfl, rfl, rfl⟩

theorem State.cl_congr {s t : State} (h : t.clusters = s.clusters) (x : Nat) : t.cl x = s.cl x :=
  congrArg (fun l => tabGet Cluster.reset l x) h

theorem State.bushel_congr {s t : State} (h : t.bushels = s.bushels) (c r : Nat) : t.bushel c r = s.bushel c r :=
  congrArg (fun l => tabGet Bushel.reset l (64 * c + r)) h

theorem State.entryOff_worked {s u : State} {c : Nat} (h : s.tallyWorked u c) (k : Nat) : u.entryOff k = s.entryOff k := by
  unfold State.entryOff
  rw [h.regs.reg_apart_park (by decide) (by decide) (by decide), h.regs.reg_apart_park (by decide) (by decide) (by decide)]

/-- A tally instruction that has worked completes with its entry, and the next in list order follows. -/
theorem State.tallyWorked.done {s u : State} {c : Nat} (h : s.tallyWorked u c) (hc : c < 64) (hsoft : s.soft = []) (hcorrupt : s.inj.corrupt = [])
    {code : Nat} (hcode : code < 65536) :
    s.tallyDone ((u.entry c (s.index c) 3 0 code).goOn c) c (wmBase c + s.entryOff (s.cl c).ccount) code ∧
    ((u.entry c (s.index c) 3 0 code).goOn c).bushels = u.bushels ∧
    ((u.entry c (s.index c) 3 0 code).goOn c).cl c = { u.cl c with ccount := (u.cl c).ccount + 1 } := by
  have hindex : s.index c < 2 ^ 24 := s.reg_lt _ _
  have hmade := State.entry_made (h.soft.trans hsoft) (by rw [h.inj, hcorrupt]) c (s.index c) 3 code
  rw [h.count, State.entryOff_worked h, entryBits_plain hindex (by decide) hcode] at hmade
  generalize wmBase c + s.entryOff (s.cl c).ccount = e at hmade ⊢
  generalize u.entry c (s.index c) 3 0 code = v at hmade ⊢
  obtain ⟨hvmem, hvbushels, hvsame, hvothers, hvregs⟩ := hmade
  obtain ⟨hmem, hbushels, hclusters⟩ := v.goOn_leaves c
  have hwritten := hmem.trans (hvmem.trans (by rw [h.mem]))
  have hcl := State.cl_congr hclusters
  have hkept : s.regsKept v (tallyKeys c) :=
    (h.regs.mono (by simp [parkKeys, tallyKeys])).trans (hvregs.mono (by simp [tallyKeys]))
  have hbefore : v.reg F.SEQ_CLUSTER_INDEX c = s.reg F.SEQ_CLUSTER_INDEX c :=
    (hvregs _ _ (by
      rw [List.mem_singleton]
      exact Field.key_ne_of_apart (by decide) hc hc)).trans (h.regs.reg_apart_park (by decide) (by decide) hc)
  refine ⟨⟨State.word_of_written hwritten ?_, State.memKeptOut_of_written hwritten, ?_, fun x hx => ?_, ?_, ?_⟩, hbushels.trans hvbushels, ?_⟩
  · show s.index c * 2 ^ 40 + 3 * 2 ^ 32 + code < 2 ^ 64
    omega
  · rw [hcl, hvsame, h.count]
  · rw [hcl, hvothers x hx, h.others x hx]
  · exact hkept.goOn (by simp [tallyKeys]) (by simp [tallyKeys])
  · rw [(v.goOn_shows hc).1, hbefore]
  · rw [hcl, hvsame, h.count]

/-! ### TALLY.PUT and TALLY.ANY (06 R204, R228) -/

/-- The input that TALLY.PUT of the chunk at `a`, named by `b`, offers to record `r`. -/
def State.putLeaf (s : State) (c r a b : Nat) : TallyIn :=
  let d := leafData (s.rCfmt c r) (s.bytes (wmBase c + a) (chunkBytes (s.rCfmt c r)))
  ⟨64 * c + r, b % 65536, b % 65536, b / 2 ^ 32 % 2 ^ 23, s.beat, true, d.1, d.2⟩

/-- What TALLY.PUT asks for (04 R147; 06 R228): the record is valid and takes contributions of its cluster, the chunk and the node are its own, and
the payload lies in working memory. -/
structure State.putGood (s : State) (c r a b : Nat) : Prop where
  open_ : s.taFenced c = false
  valid : s.rValid c r = true
  single : b % 65536 = b / 65536 % 65536
  node : isNode (s.rN c r) (b % 65536) (b % 65536) = true
  low : s.rLo c r ≤ b % 65536
  high : b % 65536 ≤ s.rHi c r
  chunk : b / 2 ^ 32 % 2 ^ 23 < s.rChunks c r
  stripe : b / 2 ^ 32 % 2 ^ 23 % max (s.rNb c r) 1 = s.rK c r
  inside : a + chunkBytes (s.rCfmt c r) ≤ 0x400000

theorem State.tallyOffer_good {s : State} {c r a b : Nat} (h : s.putGood c r a b) (hpoison : s.poison = []) (hsoft : s.soft = [])
    (index word : Nat) : s.tallyOffer c a b r index word =
      (s.offer (s.putLeaf c r a b) 0 1 6 none).2.entry c index 3 0 (s.offer (s.putLeaf c r a b) 0 1 6 none).1 := by
  have hlo : bitsOf b 15 0 = b % 65536 := by
    rw [bitsOf_eq_div_mod, pow_zero, Nat.div_one]
    rfl
  have hhi : bitsOf b 31 16 = b / 65536 % 65536 := bitsOf_eq_div_mod b 31 16
  have hchunk : bitsOf b 54 32 = b / 2 ^ 32 % 2 ^ 23 := bitsOf_eq_div_mod b 54 32
  obtain ⟨hopen, hvalid, hsingle, hnode, hlow, hhigh, hin, hstripe, hinside⟩ := h
  have hroom : ¬ a + chunkBytes (s.rCfmt c r) > wmSize := Nat.not_lt.mpr hinside
  have hown : (!isNode (s.rN c r) (b % 65536) (b % 65536) || decide (b % 65536 < s.rLo c r) || decide (s.rHi c r < b % 65536) ||
      decide (s.rChunks c r ≤ b / 2 ^ 32 % 2 ^ 23) || decide (b / 2 ^ 32 % 2 ^ 23 % max (s.rNb c r) 1 ≠ s.rK c r)) = false := by
    simp only [hnode, Bool.not_true, Bool.false_or, Bool.or_eq_false_iff, decide_eq_false_iff_not]
    exact ⟨⟨⟨Nat.not_lt.mpr hlow, Nat.not_lt.mpr hhigh⟩, Nat.not_le.mpr hin⟩, not_not.mpr hstripe⟩
  unfold State.tallyOffer
  dsimp only
  rw [hlo, hhi, hchunk, hown, if_neg (by simp [hopen]), if_neg (by simp [hvalid, hsingle.symm]), if_neg (by decide), if_neg hroom,
    State.poisonRead_none hpoison]
  dsimp only
  rw [State.correct_clean (State.softIn_none hsoft _ _)]
  rfl

/-- An input that joined its queue is all that a tally instruction of that cluster has done. -/
theorem State.inputQueued.worked {s t : State} {x : TallyIn} (h : s.inputQueued t x) : s.tallyWorked t (x.key / 64) where
  mem := (congrArg State.mem h.frame).trans rfl
  soft := (congrArg State.soft h.frame).trans rfl
  inj := (congrArg State.inj h.frame).trans rfl
  count := by rw [h.same]
  others := h.others
  regs := h.regs

/-- The engine is busy with TALLY.PUT for a while; that is no work of the instruction's. -/
theorem State.tallyWorked.of_setCl {s u : State} {c : Nat} {y : Cluster} (h : (s.setCl c y).tallyWorked u c)
    (hy : y.ccount = (s.cl c).ccount) : s.tallyWorked u c where
  mem := h.mem
  soft := h.soft
  inj := h.inj
  count := by rw [h.count, State.cl_setCl_same, hy]
  others := fun x hx => (h.others x hx).trans (State.cl_setCl_other _ _ hx)
  regs := h.regs

/-- TALLY.PUT of a chunk that its engine takes at once: it completes with 0, and its input joins the queue. -/
theorem State.tallyOffer_done {s : State} {c r a b : Nat} (hc : c < 64) (hr : r < 64) (hsoft : s.soft = []) (hpoison : s.poison = [])
    (hcorrupt : s.inj.corrupt = []) (hgood : s.putGood c r a b) (htakes : s.takesNow (s.putLeaf c r a b)) (word : Nat) :
    let t := ((s.setCl c { s.cl c with tlfree := s.ck + 3 }).tallyOffer c a b r (s.index c) word).goOn c
    s.tallyDone t c (wmBase c + s.entryOff (s.cl c).ccount) 0 ∧ (t.cl c).tallyq = (s.cl c).tallyq ++ [s.putLeaf c r a b] ∧
    (t.bushel c r).taken = true ∧ (slotFor (t.bushel c r) (s.putLeaf c r a b).chunk).isSome = true ∧ (t.cl c).tlfree = s.ck + 3 := by
  have hdiv : (s.putLeaf c r a b).key / 64 = c := by
    show (64 * c + r) / 64 = c
    omega
  have hmod : (s.putLeaf c r a b).key % 64 = r := by
    show (64 * c + r) % 64 = r
    omega
  have hbusy : (s.setCl c { s.cl c with tlfree := s.ck + 3 }).putGood c r a b :=
    ⟨hgood.open_, hgood.valid, hgood.single, hgood.node, hgood.low, hgood.high, hgood.chunk, hgood.stripe, hgood.inside⟩
  have hleaf : (s.setCl c { s.cl c with tlfree := s.ck + 3 }).putLeaf c r a b = s.putLeaf c r a b := rfl
  have hnow : (s.setCl c { s.cl c with tlfree := s.ck + 3 }).takesNow (s.putLeaf c r a b) := by
    have hset := State.takesNow_setCl htakes (y := { s.cl c with tlfree := s.ck + 3 }) (by rw [hdiv])
    rwa [hdiv] at hset
  dsimp only
  rw [State.tallyOffer_good hbusy hpoison hsoft, hleaf]
  obtain ⟨hcode, hqueued⟩ := State.offer_takes hnow 6 none
  rw [hcode]
  generalize ((s.setCl c { s.cl c with tlfree := s.ck + 3 }).offer (s.putLeaf c r a b) 0 1 6 none).2 = u at hqueued ⊢
  have hworked := hqueued.worked
  obtain ⟨-, hsame, -, htaken, hslot, -⟩ := hqueued
  rw [hdiv] at hworked hsame htaken hslot
  rw [hmod] at htaken hslot
  rw [State.cl_setCl_same] at hsame
  obtain ⟨hdone, hbushels, hcl⟩ := (hworked.of_setCl (s := s) rfl).done hc hsoft hcorrupt (code := 0) (by decide)
  have hbushel := State.bushel_congr hbushels c r
  refine ⟨hdone, ?_, ?_, ?_, ?_⟩
  · rw [hcl, hsame]
  · rw [hbushel, htaken]
  · rw [hbushel, hslot]
  · rw [hcl, hsame]

theorem State.anySet_sets {s : State} {c r : Nat} (hvalid : s.rValid c r = true) (hscored : s.rScored c r = true)
    (htaken : (s.bushel c r).taken = false) (index : Nat) :
    s.anySet c r index = (s.setBushel c r { s.bushel c r with any := true }).entry c index 3 0 0 := by
  unfold State.anySet
  rw [if_neg (by simp [hvalid, hscored]), if_neg (by simp [htaken])]

theorem State.anySet_late {s : State} {c r : Nat} (hvalid : s.rValid c r = true) (hscored : s.rScored c r = true)
    (htaken : (s.bushel c r).taken = true) (index : Nat) : s.anySet c r index = s.entry c index 3 0 0x24 := by
  unfold State.anySet
  rw [if_neg (by simp [hvalid, hscored]), if_pos htaken]

theorem State.setBushel_worked (s : State) (c r : Nat) (b : Bushel) : s.tallyWorked (s.setBushel c r b) c :=
  ⟨rfl, rfl, rfl, rfl, fun _ _ => rfl, s.regsKept_refl _⟩

/-- With nothing before it, its engine takes a tally instruction at once. -/
theorem State.tlPlace_quiet {s : State} {c : Nat} (h : s.unitQuiet c 6 = true) (i : Instr) :
    s.tlPlace c i = (s.tlStart c ⟨i, s.index c, s.sVal c i 0, s.sVal c i 1⟩).goOn c := by
  unfold State.tlPlace
  rw [if_pos h]

theorem State.setCl_issued (s : State) {c : Nat} (hc : c < 64) (y : Cluster) :
    s.issued ((s.setCl c y).goOn c) c [] ∧ ((s.setCl c y).goOn c).cl c = y := by
  obtain ⟨hindex, hstall⟩ := (s.setCl c y).goOn_shows hc
  refine ⟨⟨?_, State.regsKept.goOn ((s.regsKept_refl _).congr rfl) (by simp) (by simp), fun _ => ?_, fun x hx => ?_, hindex, hstall⟩, ?_⟩
  · rw [State.goOn_frame]
    rfl
  · rw [State.goOn_frame]
    rfl
  · rw [State.goOn_frame]
    exact State.cl_setCl_other _ _ hx
  · rw [State.goOn_frame]
    exact State.cl_setCl_same ..

theorem State.stall_stalls (s : State) {c k : Nat} (hk : k < 2 ^ F.SEQ_CLUSTER_STALL.width) : s.stalls (s.stall c k) c k := by
  refine ⟨⟨rfl, State.regsKept.setReg (s.regsKept_refl _) (List.mem_singleton_self _) k, fun _ => rfl⟩, ?_⟩
  exact State.reg_setReg_lt s c hk

/-- With something before it, a tally instruction goes to the end of the queue, or stalls issue while that holds 32. -/
theorem State.tlPlace_busy {s : State} {c : Nat} (hc : c < 64) (h : s.unitQuiet c 6 = false) (i : Instr) :
    ((s.cl c).tlq.length < 32 → s.issued (s.tlPlace c i) c [] ∧
      (s.tlPlace c i).cl c = { s.cl c with tlq := (s.cl c).tlq ++ [.op ⟨i, s.index c, s.sVal c i 0, s.sVal c i 1⟩] }) ∧
    (32 ≤ (s.cl c).tlq.length → s.stalls (s.tlPlace c i) c 1) := by
  unfold State.tlPlace
  dsimp only
  rw [if_neg (by simp [h])]
  constructor
  · intro hroom
    rw [if_neg (Nat.not_le.mpr hroom)]
    exact s.setCl_issued hc _
  · intro hfull
    rw [if_pos hfull]
    exact s.stall_stalls (by decide)

theorem exec_tallyPut (c : Fin 64) (sa sb : BitVec 5) (r : BitVec 6) (s : State) : exec (.tallyPut c sa sb r) s =
    .next (s.issue c (.tallyPut c sa sb r) 3 (fun t => t.tlPlace c (.tallyPut c sa sb r))) := rfl

theorem exec_tallyAny (c : Fin 64) (r : BitVec 6) (s : State) : exec (.tallyAny c r) s =
    .next (s.issue c (.tallyAny c r) 3 (fun t => t.tlPlace c (.tallyAny c r))) := rfl

theorem exec_tallyPut_met {s : State} {c : Fin 64} {sa sb : BitVec 5} (hmeets : s.meets c) (hread : s.readable c [sa, sb]) (r : BitVec 6) :
    exec (.tallyPut c sa sb r) s = .next (s.tlPlace c (.tallyPut c sa sb r)) := by
  rw [exec_tallyPut, State.issue_runs (i := .tallyPut c sa sb r) hmeets rfl hread]

theorem exec_tallyAny_met {s : State} {c : Fin 64} (hmeets : s.meets c) (r : BitVec 6) :
    exec (.tallyAny c r) s = .next (s.tlPlace c (.tallyAny c r)) := by
  rw [exec_tallyAny, State.issue_runs (i := .tallyAny c r) hmeets rfl (fun _ h => absurd h List.not_mem_nil)]

/-! ### Leaf cells (04 R143 to R149, R152) -/

/-- The input of a leaf cell for record `key`. -/
def State.cellLeaf (s : State) (key : Nat) (x : Cell) : TallyIn :=
  let d := leafData (s.rCfmt (key / 64) (key % 64)) (cPay x)
  ⟨key, tLo x, tHi x, tChunk x, cBeat x, true, d.1, d.2⟩

/-- A leaf cell that its record takes (04 R143, R145, R147, R153): no check discards it. -/
structure State.cellGood (s : State) (key : Nat) (x : Cell) : Prop where
  leaf : tKind x = 0
  csum : csumGood x = true
  beat : s.rScored (key / 64) (key % 64) = true → cBeat x = s.beat
  kind : s.kindGood (key / 64) (key % 64) x = true
  node : isNode (s.rN (key / 64) (key % 64)) (tLo x) (tHi x) = true
  chunk : tChunk x < s.rChunks (key / 64) (key % 64)

theorem State.tallyTake_leaf {s : State} {key : Nat} {x : Cell} (h : s.cellGood key x) (hcorrupt : s.inj.corrupt = []) :
    s.tallyTake key x = (s.offer (s.cellLeaf key x) 0 1 4 (tallyAddr (key / 64) (cRoute x))).2 := by
  obtain ⟨hleaf, hcsum, hbeat, hkind, hnode, hchunk⟩ := h
  unfold State.tallyTake
  dsimp only
  rw [State.hitMode_none hcorrupt, if_neg (by decide), if_neg (by simp [hcsum]), if_neg (by simpa using hbeat), if_neg (by simp [hkind]),
    if_neg (by simpa [hnode] using hchunk), if_pos hleaf]
  rfl

theorem exec_tallyCellIn (die : Bool) (x : Cell) (s : State) :
    exec (.tallyCellIn die x) s = .next (if tKind x ≤ 1 then (s.taken x).tallyCell (b2n die) x else s) := rfl

/-- A steered leaf cell is taken out of those delivered and offered to its record. -/
theorem exec_tallyCellIn_leaf {s : State} {key : Nat} {x : Cell} (h : s.cellGood key x) (hcorrupt : s.inj.corrupt = [])
    (hsteer : s.steer (tGroup x) (tSeq x) (tLo x) (tHi x) (tChunk x) = some key) (die : Bool) : exec (.tallyCellIn die x) s =
      .next ((s.taken x).offer (s.cellLeaf key x) 0 1 4 (tallyAddr (key / 64) (cRoute x))).2 := by
  have hsteered : (s.taken x).steer (tGroup x) (tSeq x) (tLo x) (tHi x) (tChunk x) = some key := hsteer
  have hgood : (s.taken x).cellGood key x := ⟨h.leaf, h.csum, h.beat, h.kind, h.node, h.chunk⟩
  rw [exec_tallyCellIn, if_pos (by rw [h.leaf]; exact Nat.zero_le 1), State.tallyCell, hsteered]
  exact congrArg Host.Outcome.next (State.tallyTake_leaf hgood hcorrupt)

/-! ### The operation of the engine (04 R148) -/

theorem takeInput_first (cfmt n : Nat) (x : TallyIn) :
    ∃ f, takeInput cfmt n [] x = ([⟨x.lo, x.hi, (pushAcc cfmt (inputVals cfmt x)).1⟩], f) := by
  unfold takeInput
  dsimp only
  generalize pushAcc cfmt (inputVals cfmt x) = a
  exact ⟨_, rfl⟩

theorem State.tallyShadow_clean {s : State} (hcorrupt : s.inj.corrupt = []) (c r : Nat) (acc : List Nat) : s.tallyShadow c r acc = (acc, s) := by
  unfold State.tallyShadow
  dsimp only
  rw [State.hitMode_none hcorrupt]
  rfl

/-- A sticky flag is a register field, and is kept beside it for the present CK. -/
theorem State.markIf_frame {s t : State} (h : t = (s.putRegs t.regs).putFresh t.fresh) (b : Bool) (f : Field) (c : Nat) :
    (if b then t.mark f 1 c else t) = (s.putRegs (if b then t.mark f 1 c else t).regs).putFresh (if b then t.mark f 1 c else t).fresh := by
  cases b with
  | false => exact h
  | true =>
    have hone := t.mark_eq f 1 c
    rw [if_pos rfl]
    generalize t.mark f 1 c = u at hone ⊢
    rw [h] at hone
    rw [hone]
    rfl

theorem State.tallyFlags_frame (s : State) (c : Nat) (f : Flags) :
    s.tallyFlags c f = (s.putRegs (s.tallyFlags c f).regs).putFresh (s.tallyFlags c f).fresh := by
  have hnanin := State.markIf_frame (s := s) (t := s) rfl f.nanin F.TALLY_CLUSTER_NANIN c
  have hinv := State.markIf_frame hnanin f.inv F.TALLY_CLUSTER_INV c
  have hovf := State.markIf_frame hinv f.ovf F.TALLY_CLUSTER_OVF c
  exact State.markIf_frame hovf f.isat F.TALLY_CLUSTER_ISAT c

theorem slotFor_chunk {b : Bushel} {ch : Nat} {x : Slot} (h : slotFor b ch = some x) : x.chunk = ch := by
  simpa using List.find?_some h

/-- The slot of a chunk, replaced, is what is found for the chunk. -/
theorem State.putSlot_slot {s : State} {c r ch : Nat} {x y : Slot} (h : slotFor (s.bushel c r) ch = some x) (hy : y.chunk = ch) :
    slotFor ((s.putSlot c r y).bushel c r) ch = some y := by
  have hkept (z : Slot) : decide ((if z.chunk = y.chunk then y else z).chunk = ch) = decide (z.chunk = ch) := by
    split
    next hz => rw [hz]
    next => rfl
  have hmapped : (fun z : Slot => decide (z.chunk = ch)) ∘ (fun z => if z.chunk = y.chunk then y else z) = fun z => decide (z.chunk = ch) :=
    funext hkept
  have hx := slotFor_chunk h
  unfold slotFor at h ⊢
  rw [State.putSlot, State.bushel_setBushel_same, List.find?_map, hmapped, h, Option.map_some, if_pos (hx.trans hy.symm)]

/-- The slot of a chunk whose first input has become its one node, and has moved the turn past it. -/
def State.firstNode (s : State) (c r : Nat) (x : TallyIn) (sl : Slot) : Slot :=
  { sl with
    stack := [⟨x.lo, x.hi, (pushAcc (s.rCfmt c r) (inputVals (s.rCfmt c r) x)).1⟩]
    turn := x.hi + 1, beat := max sl.beat x.beat, last := s.toll }

/-- The first input of a chunk, in turn and short of its record's range, becomes the one node of its slot. -/
theorem State.takeNow_first {s : State} {x : TallyIn} {sl : Slot} (hcorrupt : s.inj.corrupt = [])
    (hslot : slotFor (s.bushel (x.key / 64) (x.key % 64)) x.chunk = some sl) (hempty : sl.stack = [])
    (hany : s.rAny (x.key / 64) (x.key % 64) = false) (hvalid : s.rValid (x.key / 64) (x.key % 64) = true)
    (hhi : x.hi < s.rHi (x.key / 64) (x.key % 64)) : ∃ f, s.takeNow x =
      (s.putSlot (x.key / 64) (x.key % 64) (s.firstNode (x.key / 64) (x.key % 64) x sl)).tallyFlags (x.key / 64) f := by
  obtain ⟨f, htake⟩ := takeInput_first (s.rCfmt (x.key / 64) (x.key % 64)) (s.rN (x.key / 64) (x.key % 64)) x
  refine ⟨f, ?_⟩
  unfold State.takeNow
  dsimp only
  rw [hslot]
  dsimp only
  rw [hany, if_neg (by decide), hempty, htake]
  rw [State.tallyShadow_clean hcorrupt]
  dsimp only
  rw [hvalid, if_neg (by decide), if_neg (fun h => absurd h.2 (Nat.ne_of_lt hhi))]
  rfl

/-! ### Release of parked inputs (04 R148, R166) -/

theorem sameInput_refl (x : TallyIn) : sameInput x x = true := by
  simp [sameInput]

/-- An input of one part, parked and no other like it, is all its parts. -/
theorem State.gather_one {s : State} {p : Parked} (hp : p ∈ s.parked) (hcell : p.cell.isNone = true) (hpart : p.part = 0)
    (halone : ∀ q ∈ s.parked, q ≠ p → sameInput q.input p.input = false) : s.gather p.input 1 none = some [p] := by
  have hfind : s.parked.find? (fun q => q.cell.isNone && decide (q.part = 0) && sameInput q.input p.input) = some p := by
    cases hres : s.parked.find? (fun q => q.cell.isNone && decide (q.part = 0) && sameInput q.input p.input) with
    | none =>
      have hnone := List.find?_eq_none.mp hres p hp
      simp [hcell, hpart, sameInput_refl] at hnone
    | some q =>
      have hsame := List.find?_some hres
      have hmem := List.mem_of_find?_eq_some hres
      by_cases hq : q = p
      · rw [hq]
      · rw [halone q hmem hq] at hsame
        simp at hsame
  have hneed : (List.range 1).filter (fun i => decide ((none : Option Nat) ≠ some i)) = [0] := by decide
  unfold State.gather
  dsimp only
  rw [hneed, List.filterMap_cons, hfind]
  rfl

theorem exec_parkedRelease (c : Fin 64) (s : State) : exec (.parkedRelease c) s = .next (s.parkRelease c) := rfl

/-- A parked input of one part that may go to its engine leaves the park area and joins the queue. -/
theorem State.parkRelease_one {s : State} {c : Nat} {p : Parked} (hfind : s.parked.find? (s.releasable c) = some p) (hpart : p.part = 0)
    (hparts : p.parts = 1) (halone : ∀ q ∈ s.parked, q ≠ p → sameInput q.input p.input = false) :
    (s.parkRelease c).parked = s.parked.erase p ∧ ((s.parkRelease c).cl c).tallyq = (s.cl c).tallyq ++ [p.input] ∧
    s.othersKept (s.parkRelease c) c ∧ (s.parkRelease c).mem = s.mem ∧ s.regsKept (s.parkRelease c) parkKeys := by
  have hcell : p.cell.isNone = true := by
    have hmay := List.find?_some hfind
    simp only [State.releasable, Bool.and_eq_true] at hmay
    exact hmay.1.1.1.1
  have hgather := State.gather_one (List.mem_of_find?_eq_some hfind) hcell hpart halone
  have hrelease : s.parkRelease c = (s.unpark [p]).queueInput c (p.input.key % 64) p.input := by
    unfold State.parkRelease
    rw [hfind]
    dsimp only
    rw [hparts, hgather, Option.getD_some, List.map_cons, List.map_nil, hpart, joinParts_one]
  have hunpark := s.unpark_frame [p]
  have hregs := s.unpark_regsKept [p]
  rw [hrelease]
  generalize s.unpark [p] = u at hunpark hregs ⊢
  obtain ⟨hsame, hothers, -, -⟩ := u.queueInput_shows c (p.input.key % 64) p.input
  have hframe := u.queueInput_frame c (p.input.key % 64) p.input
  generalize u.queueInput c (p.input.key % 64) p.input = t at *
  have hclusters : u.clusters = s.clusters := (congrArg State.clusters hunpark).trans rfl
  refine ⟨?_, ?_, fun x hx => (hothers x hx).trans (State.cl_congr hclusters x), ?_, ?_⟩
  · rw [hframe, hunpark]
    rfl
  · rw [hsame, State.cl_congr hclusters]
  · rw [hframe, hunpark]
    rfl
  · refine hregs.congr ?_
    rw [hframe]
    rfl

/-! ### Time limits (04 R168; 09 R319) -/

theorem exec_tallyTimeout (c : Fin 64) (r : BitVec 6) (s : State) : exec (.tallyTimeout c r) s = .next (s.bushelTimeout c r.toNat) := rfl

theorem State.advanceTo_colls (s : State) (n : Nat) : (s.advanceTo n).colls = s.colls := by
  rw [State.advanceTo_frame]
  rfl

theorem State.advanceTo_parked (s : State) (n : Nat) : (s.advanceTo n).parked = s.parked := by
  rw [State.advanceTo_frame]
  rfl

/-- Whether or not the Toll count has passed an instant, it then shows the later of the two, modulo 2^64. -/
theorem State.advanceTo_toll_mod (s : State) (n : Nat) : (s.advanceTo n).toll = max s.toll n % 2 ^ 64 := by
  have hlt : s.toll < 2 ^ 64 := s.reg_lt _ _
  rw [State.advanceTo_toll]
  split
  next h => rw [Nat.max_eq_right (Nat.le_of_lt h)]
  next h => rw [Nat.max_eq_left (Nat.not_lt.mp h), Nat.mod_eq_of_lt hlt]

theorem State.advanceTo_tallyLimit (s : State) (n : Nat) : (s.advanceTo n).tallyLimit = s.tallyLimit := by
  unfold State.tallyLimit
  rw [State.advanceTo_reg_apart _ _ (by decide) (by decide)]

theorem exec_parkedCellExpiry (s : State) : exec .parkedCellExpiry s = .next s.parkExpiry := rfl

/-- The one waiting cell is discarded at its limit and counted. -/
theorem State.parkExpiry_one {s : State} {p : Parked} (hparked : s.parked = [p]) (hcell : p.cell.isSome = true)
    (hlimit : p.since + s.tallyLimit < 2 ^ 64) : s.parkExpiry =
      (((s.advanceTo (p.since + s.tallyLimit)).putParked []).count F.COLL_COUNTS_EXPIRED 1).showPark := by
  have hdue : (p.cell.isSome && decide (p.since + s.tallyLimit ≤ max s.toll (p.since + s.tallyLimit))) = true := by
    rw [hcell, decide_eq_true (Nat.le_max_right _ _)]
    rfl
  have hfirst : [p].find? (fun q => q.cell.isSome) = some p := List.find?_cons_of_pos hcell
  unfold State.parkExpiry
  rw [hparked, hfirst]
  dsimp only
  rw [State.advanceTo_parked, State.advanceTo_tallyLimit, State.advanceTo_toll_max _ hlimit, hparked]
  simp only [List.filter_cons, hdue]
  rfl

end Sys2Proof.Machine
end

section
/-!
PROOFS. The inputs, the operation, the parks and the time limits of a tally engine.
-/
namespace Sys2Proof.Machine

/-- What TALLY.PUT and TALLY.ANY do with an engine that takes them at once (06 R228). -/
theorem exec_tallyPut_taken {s : State} {c : Fin 64} {sa sb : BitVec 5} {r : BitVec 6} (hmeets : s.meets c) (hread : s.readable c [sa, sb])
    (hquiet : s.unitQuiet c 6 = true) : exec (.tallyPut c sa sb r) s =
      .next (((s.setCl c { s.cl c with tlfree := s.ck + 3 }).tallyOffer c (s.sreg c sa).toNat (s.sreg c sb).toNat r.toNat (s.index c)
        (insnBits (.tallyPut c sa sb r))).goOn c) := by
  rw [exec_tallyPut_met hmeets hread, State.tlPlace_quiet hquiet]
  rfl

theorem exec_tallyAny_taken {s : State} {c : Fin 64} {r : BitVec 6} (hmeets : s.meets c) (hquiet : s.unitQuiet c 6 = true) :
    exec (.tallyAny c r) s = .next ((s.anySet c r.toNat (s.index c)).goOn c) := by
  rw [exec_tallyAny_met hmeets, State.tlPlace_quiet hquiet]
  rfl

/-- A tally instruction behind others of its cluster (06 R204). -/
theorem exec_tally_busy {s : State} {c : Fin 64} {i : Instr} (hexec : exec i s = .next (s.tlPlace c i)) (hbusy : s.unitQuiet c 6 = false)
    {a b : Nat} (ha : s.sVal c i 0 = a) (hb : s.sVal c i 1 = b) :
    ((s.cl c).tlq.length < 32 → ∃ t, exec i s = .next t ∧ s.issued t c [] ∧
      t.cl c = { s.cl c with tlq := (s.cl c).tlq ++ [.op ⟨i, s.reg F.SEQ_CLUSTER_INDEX c, a, b⟩] }) ∧
    (32 ≤ (s.cl c).tlq.length → ∃ t, exec i s = .next t ∧ s.stalls t c 1) := by
  obtain ⟨hroom, hfull⟩ := State.tlPlace_busy c.isLt hbusy i
  rw [ha, hb] at hroom
  exact ⟨fun h => ⟨_, hexec, hroom h⟩, fun h => ⟨_, hexec, hfull h⟩⟩

/-- A leaf cell that its record takes at once joins the engine's queue (04 R140, R157). -/
theorem exec_tallyCellIn_taken {s : State} {key : Nat} {x : Cell} (hgood : s.cellGood key x) (hcorrupt : s.inj.corrupt = [])
    (hsteer : s.steer (tGroup x) (tSeq x) (tLo x) (tHi x) (tChunk x) = some key) (htakes : s.takesNow (s.cellLeaf key x)) (die : Bool) :
    ∃ t, exec (.tallyCellIn die x) s = .next t ∧ (t.cl (key / 64)).tallyq = (s.cl (key / 64)).tallyq ++ [s.cellLeaf key x] ∧
      t = ((((s.putRegs t.regs).putClusters t.clusters).putBushels t.bushels).putDelivered (s.delivered.erase x)) ∧
      s.othersKept t (key / 64) ∧ s.regsKept t parkKeys := by
  have hnow : (s.taken x).takesNow (s.cellLeaf key x) := htakes
  obtain ⟨-, hqueued⟩ := State.offer_takes hnow 4 (tallyAddr (key / 64) (cRoute x))
  refine ⟨_, exec_tallyCellIn_leaf hgood hcorrupt hsteer die, ?_⟩
  generalize ((s.taken x).offer (s.cellLeaf key x) 0 1 4 (tallyAddr (key / 64) (cRoute x))).2 = t at hqueued ⊢
  obtain ⟨hframe, hsame, hothers, -, -, hregs⟩ := hqueued
  refine ⟨?_, hframe.trans rfl, hothers, hregs⟩
  exact (congrArg Cluster.tallyq hsame).trans rfl

theorem exec_tallyOperation (c : Fin 64) (s : State) : exec (.tallyOperation c) s = .next (s.tallyStep c) := rfl

/-- The engine takes the first input of a chunk as the one node of its slot (04 R148). -/
theorem State.tallyStep_first {s : State} {c r : Nat} {x : TallyIn} {rest : List TallyIn} {sl : Slot} (hcorrupt : s.inj.corrupt = [])
    (hqueue : (s.cl c).tallyq = x :: rest) (hdiv : x.key / 64 = c) (hmod : x.key % 64 = r)
    (hslot : slotFor (s.bushel c r) x.chunk = some sl) (hempty : sl.stack = []) (hany : s.rAny c r = false) (hvalid : s.rValid c r = true)
    (hhi : x.hi < s.rHi c r) : ((s.tallyStep c).cl c).tallyq = rest ∧
    slotFor ((s.tallyStep c).bushel c r) x.chunk = some (s.firstNode c r x sl) ∧
    s.tallyStep c = ((((s.putRegs (s.tallyStep c).regs).putFresh (s.tallyStep c).fresh).putClusters (s.tallyStep c).clusters).putBushels
      (s.tallyStep c).bushels) ∧ (s.tallyStep c).mem = s.mem := by
  subst hdiv hmod
  obtain ⟨f, hnow⟩ := State.takeNow_first (s := s.setCl (x.key / 64) { s.cl (x.key / 64) with tallyq := rest }) hcorrupt hslot hempty hany
    hvalid hhi
  have hstep : s.tallyStep (x.key / 64) = (s.setCl (x.key / 64) { s.cl (x.key / 64) with tallyq := rest }).takeNow x := by
    unfold State.tallyStep
    rw [hqueue]
  have hnode : (s.setCl (x.key / 64) { s.cl (x.key / 64) with tallyq := rest }).firstNode (x.key / 64) (x.key % 64) x sl =
      s.firstNode (x.key / 64) (x.key % 64) x sl := rfl
  have hchunk : (s.firstNode (x.key / 64) (x.key % 64) x sl).chunk = x.chunk :=
    (show sl.chunk = x.chunk from slotFor_chunk hslot)
  have htaken := State.putSlot_slot (s := s.setCl (x.key / 64) { s.cl (x.key / 64) with tallyq := rest }) hslot hchunk
  have hcl := State.cl_setCl_same s (x.key / 64) { s.cl (x.key / 64) with tallyq := rest }
  rw [hstep, hnow, hnode]
  generalize s.firstNode (x.key / 64) (x.key % 64) x sl = y at htaken ⊢
  have hframe := State.tallyFlags_frame ((s.setCl (x.key / 64) { s.cl (x.key / 64) with tallyq := rest }).putSlot (x.key / 64) (x.key % 64) y)
    (x.key / 64) f
  generalize (State.putSlot _ (x.key / 64) (x.key % 64) y).tallyFlags (x.key / 64) f = t at hframe ⊢
  have hbushels := (congrArg State.bushels hframe).trans rfl
  refine ⟨?_, (congrArg (slotFor · x.chunk) (State.bushel_congr hbushels _ _)).trans htaken, hframe.trans ?_,
    (congrArg State.mem hframe).trans rfl⟩
  · exact congrArg Cluster.tallyq ((State.cl_congr ((congrArg State.clusters hframe).trans rfl) _).trans hcl)
  · rw [hframe]
    rfl

/-- A chunk that has waited its limit ends its collective with TALLY_TIMEOUT (04 R168). -/
theorem State.bushelTimeout_ends {s : State} {c r : Nat} {y : Coll} (h : s.collOf (64 * c + r) = some y) :
    (s.bushelTimeout c r).colls = s.colls.erase y ∧
    (s.bushelTimeout c r).toll = max s.toll (s.oldestChunk c r + s.tallyLimit) % 2 ^ 64 ∧
    ∃ e, (s.bushelTimeout c r).comps = s.comps ++ [e] ∧ e.id = y.desc.id.toNat ∧ e.code = 0x33 := by
  have htimeout : s.bushelTimeout c r = (s.advanceTo (s.oldestChunk c r + s.tallyLimit)).endColl y 0x33 := by
    unfold State.bushelTimeout
    rw [h]
  obtain ⟨hcolls, hcomps, htoll, -⟩ := (s.advanceTo (s.oldestChunk c r + s.tallyLimit)).endColl_shows y 0x33
  rw [htimeout]
  refine ⟨?_, ?_, _, hcomps.trans (by rw [State.advanceTo_comps]), rfl, rfl⟩
  · rw [hcolls, State.advanceTo_colls]
  · rw [htoll, State.advanceTo_toll_mod]

/-- A waiting cell past its limit is discarded and counted in EXPIRED (09 R319). -/
theorem State.parkExpiry_counts {s : State} {p : Parked} (hparked : s.parked = [p]) (hcell : p.cell.isSome = true)
    (hlimit : p.since + s.tallyLimit < 2 ^ 64) : s.parkExpiry.parked = [] ∧
    s.parkExpiry.reg F.COLL_COUNTS_EXPIRED = min (s.reg F.COLL_COUNTS_EXPIRED + 1) F.COLL_COUNTS_EXPIRED.top ∧ s.memKept s.parkExpiry := by
  rw [State.parkExpiry_one hparked hcell hlimit]
  have hbefore := s.advanceTo_reg_apart (p.since + s.tallyLimit) (g := F.COLL_COUNTS_EXPIRED) (m := 0) (by decide) (by decide)
  have hmem := s.advanceTo_mem (p.since + s.tallyLimit)
  generalize s.advanceTo (p.since + s.tallyLimit) = u at hbefore hmem ⊢
  have hcount := (u.putParked []).count_eq F.COLL_COUNTS_EXPIRED 1 0
  have hshown := State.showPark_reg_apart ((u.putParked []).count F.COLL_COUNTS_EXPIRED 1) (g := F.COLL_COUNTS_EXPIRED) (m := 0) (by decide)
    (by decide) (by decide)
  have hcounted := (u.putParked []).count_reg_same F.COLL_COUNTS_EXPIRED 1 0
  generalize (u.putParked []).count F.COLL_COUNTS_EXPIRED 1 = v at hcount hshown hcounted ⊢
  refine ⟨(congrArg State.parked hcount).trans rfl, ?_, State.memKept_of_mem (((congrArg State.mem hcount).trans rfl).trans hmem)⟩
  rw [hshown, hcounted, ← hbefore]
  rfl

/-- Settles O31: each clause is the case lemma of its instruction or of its engine. -/
theorem tallyInputsQueueWorkAndTimeOut : Obligations.TallyInputsQueueWorkAndTimeOut := by
  unfold Obligations.TallyInputsQueueWorkAndTimeOut
  refine ⟨fun c sa sb r s hcorrupt hsoft => ⟨?_, ?_, ?_, ?_, ?_⟩, fun c r s hcorrupt => ⟨?_, ?_, ?_, ?_⟩⟩
  · intro hmeets hread hquiet hopen hvalid hsingle hnode hlow hhigh hchunk hstripe hinside hpoison _ _ htakes
    have hgood : s.putGood c r.toNat (s.sreg c sa).toNat (s.sreg c sb).toNat :=
      ⟨hopen, hvalid, hsingle, hnode, hlow, hhigh, hchunk, hstripe, hinside⟩
    exact ⟨_, exec_tallyPut_taken hmeets hread hquiet, State.tallyOffer_done c.isLt r.isLt hsoft hpoison hcorrupt hgood htakes _⟩
  · intro hmeets hquiet hvalid hscored htaken
    obtain ⟨hdone, hbushels, -⟩ := (s.setBushel_worked c r.toNat { s.bushel c r.toNat with any := true }).done c.isLt hsoft hcorrupt
      (code := 0) (by decide)
    rw [← State.anySet_sets hvalid hscored htaken] at hdone hbushels
    exact ⟨_, exec_tallyAny_taken hmeets hquiet, hdone, (State.bushel_congr hbushels _ _).trans (State.bushel_setBushel_same ..)⟩
  · intro hmeets hquiet hvalid hscored htaken
    obtain ⟨hdone, hbushels, -⟩ := (s.tallyWorked_self c).done c.isLt hsoft hcorrupt (code := 0x24) (by decide)
    rw [← State.anySet_late hvalid hscored htaken] at hdone hbushels
    exact ⟨_, exec_tallyAny_taken hmeets hquiet, hdone, hbushels⟩
  · intro hmeets hread hbusy p hp
    simp only [List.mem_cons, List.not_mem_nil, or_false] at hp
    obtain rfl | rfl := hp
    · exact exec_tally_busy (exec_tallyPut_met hmeets hread r) hbusy rfl rfl
    · exact exec_tally_busy (exec_tallyAny_met hmeets r) hbusy rfl rfl
  · intro die x key hleaf hsteer _ hcsum hbeat hkind hnode hchunk _ _ htakes
    exact exec_tallyCellIn_taken ⟨hleaf, hcsum, hbeat, hkind, hnode, hchunk⟩ hcorrupt hsteer htakes die
  · intro x rest sl hqueue hkey hslot hempty hany hvalid _ hhi
    have hr : r.toNat < 64 := r.isLt
    obtain ⟨hrest, hfound, hframe, hmem⟩ := State.tallyStep_first hcorrupt hqueue (by omega) (by omega) hslot hempty hany hvalid hhi
    exact ⟨_, exec_tallyOperation c s, hrest, hfound, hframe, State.memKept_of_mem hmem⟩
  · intro p hfind hpart hparts halone
    obtain ⟨hparked, hqueue, hothers, hmem, hregs⟩ := State.parkRelease_one hfind hpart hparts halone
    exact ⟨_, exec_parkedRelease c s, hparked, hqueue, hothers, State.memKept_of_mem hmem, hregs⟩
  · intro y hy
    exact ⟨_, exec_tallyTimeout c r s, State.bushelTimeout_ends hy⟩
  · intro p hparked hcell hlimit
    exact ⟨_, exec_parkedCellExpiry s, State.parkExpiry_counts hparked hcell hlimit⟩

end Sys2Proof.Machine
end

section
/-!
LAWS. A completion entry with flags and the Chime it names, a matrix queue whose head is no Chime operation, and a write within one line.
-/
namespace Sys2Proof.Machine

/-! ### Completion entries (06 R226, R227) -/

theorem entryBits_lt (index unit flags code : Nat) : entryBits index unit flags code < 2 ^ 64 := by
  unfold entryBits
  omega

/-- An entry is written and counted, and may set ERR, in the Beat unit. -/
theorem State.entry_parts (s : State) (c index unit flags code : Nat) : s.entry c index unit flags code =
    ((s.putBytes (wmBase c + s.entryOff (s.cl c).ccount) (leBytes 8 (entryBits index unit flags code))).setCount c ((s.cl c).ccount + 1)).putBeatU
      (s.entry c index unit flags code).beatU := by
  unfold State.entry
  dsimp only
  split
  · rw [State.putBeatU_self]
  · exact State.err_frame _ _

section
variable {s : State} (hsoft : s.soft = []) (hcorrupt : s.inj.corrupt = [])
include hsoft hcorrupt

theorem State.entryFlags_made (c index unit flags code : Nat) : s.entryMade (s.entry c index unit flags code) c
    (wmBase c + s.entryOff (s.cl c).ccount) (entryBits index unit flags code) := by
  obtain ⟨hmem, hbushels, hclusters, hregs⟩ := State.putBytes_leaves hsoft hcorrupt (wmBase c + s.entryOff (s.cl c).ccount)
    (leBytes 8 (entryBits index unit flags code))
  rw [State.entry_parts]
  exact State.entryMade_of_written hmem hbushels hclusters hregs c _

theorem State.entry_chimeq (c index unit flags code : Nat) : (s.entry c index unit flags code).chimeq = s.chimeq := by
  rw [State.entry_parts, State.putBeatU_chimeq, State.setCount_frame, State.putClusters_chimeq, State.putRegs_chimeq,
    State.putBytes_clean hsoft hcorrupt, State.putSoft_chimeq, State.putPoison_chimeq, State.putMem_chimeq]

end

/-- CCOUNT shows the completion count, and holds at its largest value. -/
theorem State.entry_shows_count (s : State) {c : Nat} (index unit flags code : Nat) :
    (s.entry c index unit flags code).reg F.SEQ_CLUSTER_CCOUNT c = min ((s.cl c).ccount + 1) 0xFFFF := by
  have hlt : min ((s.cl c).ccount + 1) 0xFFFF < 2 ^ F.SEQ_CLUSTER_CCOUNT.width := Nat.lt_succ_of_le (Nat.min_le_right _ _)
  rw [State.entry_parts, State.putBeatU_reg, State.setCount, State.reg_setReg_lt _ c hlt]

/-! ### The Chime of a completion (06 R226; 02 R107) -/

/-- With room at both Chime units the ARRIVE of a completion, if any, waits last, and QMAX may rise. -/
theorem State.arriveOpt_joins {s : State} (hroom : ∀ d < 2, s.chimeFull d = false) (c after : Nat) (ch : Option Nat) (beat : Nat) :
    (s.arriveOpt c after ch beat).chimeq = s.chimeq ++ (ch.map (fun i => ⟨i % 32768, false, 1, beat⟩)).toList ∧
    (s.arriveOpt c after ch beat).mem = s.mem ∧ (s.arriveOpt c after ch beat).clusters = s.clusters ∧
    s.regsKept (s.arriveOpt c after ch beat) [F.CHIME_STATUS_QMAX.key 0] := by
  cases ch with
  | none => exact ⟨(List.append_nil _).symm, rfl, rfl, s.regsKept_refl _⟩
  | some i =>
    have hdie : chimeDie (i % 32768) < 2 := Nat.mod_lt _ (by decide)
    obtain ⟨hframe, hkept⟩ := s.queueChime_shows ⟨i % 32768, false, 1, beat⟩
    unfold State.arriveOpt
    dsimp only
    rw [hroom _ hdie, if_neg Bool.false_ne_true]
    refine ⟨?_, ?_, ?_, hkept⟩
    all_goals
      rw [hframe]
      rfl

/-! ### Matrix queues (06 R230) -/

/-- A matrix queue whose head is no Chime operation hands nothing on. -/
theorem State.flushMx_stays (n : Nat) {s : State} {c : Nat} (h : chimeFirst (s.cl c).mxq = false) : State.flushMx n s c = s := by
  cases n with
  | zero => rfl
  | succ n =>
    unfold State.flushMx
    split
    next o t hq =>
      rw [hq] at h
      cases h
    next => rfl

/-! ### Writes (07 R250) -/

/-- A write within one line, of which no byte is a state line's, puts its bytes. -/
theorem State.writeMem_within {s : State} {a : Nat} {l : List Byte} (hne : l ≠ []) (hfits : l.length ≤ 4096 - a % 4096)
    (hplain : s.stateOff a = none) (beat : Nat) : s.writeMem beat a l = s.putBytes a l := by
  have hline : s.writeLine beat a l = s.putBytes a l := by
    unfold State.writeLine
    unfold State.stateOff at hplain
    cases hcur : s.score.cur with
    | none => rfl
    | some q =>
      rw [hcur] at hplain
      dsimp only at hplain ⊢
      rw [hplain, Option.isSome_none, Bool.and_false, if_neg Bool.false_ne_true]
  unfold State.writeMem State.writeLines
  dsimp only
  rw [if_pos hfits, if_neg (by simpa using hne), hline]

end Sys2Proof.Machine
end

section
/-!
LAWS. A matrix operation joins its queue, leaves the head of it, and starts or completes at once (05 R174 to R178, R185, R189; 06 R224, R225).
-/
namespace Sys2Proof.Machine

/-! ### MXE.OP (06 R204, R224) -/

theorem exec_mxeOp (c : Fin 64) (sa : BitVec 5) (s : State) : exec (.mxeOp c sa) s =
    .next (s.issue c (.mxeOp c sa) 2 (fun t => t.mxPlace c sa)) := rfl

theorem exec_mxeOp_met {s : State} {c : Fin 64} {sa : BitVec 5} (hmeets : s.meets c) (hread : s.readable c [sa]) :
    exec (.mxeOp c sa) s = .next (s.mxPlace c sa) := by
  rw [exec_mxeOp, State.issue_runs (i := .mxeOp c sa) hmeets rfl hread]

theorem State.mxPlace_joins {s : State} {c : Nat} (hc : c < 64) (sa : BitVec 5) (hroom : (s.cl c).mxq.length < 32) :
    s.issued (s.mxPlace c sa) c [] ∧
    (s.mxPlace c sa).cl c = { s.cl c with mxq := (s.cl c).mxq ++ [.op (s.sreg c sa).toNat (s.index c) (mxWord sa).toNat] } := by
  unfold State.mxPlace
  dsimp only
  rw [if_neg (Nat.not_le.mpr hroom)]
  exact s.setCl_issued hc _

theorem State.mxPlace_stalls {s : State} {c : Nat} (sa : BitVec 5) (hfull : 32 ≤ (s.cl c).mxq.length) : s.stalls (s.mxPlace c sa) c 1 := by
  unfold State.mxPlace
  dsimp only
  rw [if_pos hfull]
  exact s.stall_stalls (by decide)

/-! ### The head of a matrix queue (06 R224, R225) -/

theorem exec_mxeOpIssue (c : Fin 64) (s : State) : exec (.mxeOpIssue c) s = .next (s.mxIssue c) := rfl

/-- An operation that its engine may take from the head of its queue, with its parameter block in clean memory. -/
structure State.mxHead (s : State) (c addr index word : Nat) (rest : List QEntry) : Prop where
  head : (s.cl c).mxq = .op addr index word :: rest
  after : chimeFirst rest = false
  unfenced : s.mxFenced c = false
  aligned : addr % 64 = 0
  inside : addr + 64 ≤ 0x400000
  poison : s.poison = []
  corrupt : s.inj.corrupt = []
  soft : s.soft = []

/-- The parameter block at an offset of working memory (06 R225). -/
def State.mxBlock (s : State) (c addr : Nat) : List Nat := (List.range 8).map (fun i => s.word (wmBase c + addr + 8 * i))

/-- The state with an operation taken from the head of its queue. -/
def State.mxTaken (s : State) (c : Nat) (rest : List QEntry) : State := s.setCl c { s.cl c with mxq := rest }

section
variable {s : State} {c addr index word : Nat} {rest : List QEntry} (h : s.mxHead c addr index word rest)
include h

theorem State.mxHead.flush : State.flushMx 33 s c = s := State.flushMx_stays 33 (by rw [h.head]; rfl)

/-- With two operations that still have a row to enter, the head waits. -/
theorem State.mxIssue_waits (hbusy : 2 ≤ feeding (s.cl c).mxRun (s.cl c).feed.length) : s.mxIssue c = s := by
  unfold State.mxIssue
  rw [h.flush]
  dsimp only
  rw [h.head]
  dsimp only
  rw [if_pos hbusy]

theorem State.mxIssue_block (hroom : feeding (s.cl c).mxRun (s.cl c).feed.length < 2) :
    s.mxIssue c = State.flushMx 33 ((s.mxTaken c rest).mxIssueBlock c index word (s.mxBlock c addr)) c := by
  have hfence : (s.mxTaken c rest).mxFenced c = false := h.unfenced
  have hplace : ¬ (addr % 64 ≠ 0 ∨ addr + 64 > wmSize) := by
    rintro (halign | hin)
    · exact halign h.aligned
    · exact absurd h.inside (Nat.not_le.mpr hin)
  have hpoison : (s.mxTaken c rest).poisonRead (wmBase c + addr) 64 = none := State.poisonRead_none h.poison _ _
  have hsoft : (s.mxTaken c rest).correct (wmBase c + addr) 64 = s.mxTaken c rest := State.correct_clean (State.softIn_none h.soft _ _)
  unfold State.mxTaken at hfence hpoison hsoft ⊢
  unfold State.mxIssue
  rw [h.flush]
  dsimp only
  rw [h.head]
  dsimp only
  rw [if_neg (Nat.not_le.mpr hroom), hfence, if_neg Bool.false_ne_true, if_neg hplace, hpoison]
  dsimp only
  rw [hsoft]
  rfl

end

/-! ### An operation with no element (05 R175; 06 R225, R226) -/

/-- An operation with M or N zero and no Chime leaves no tile and completes DONE_EMPTY. -/
theorem State.mxIssueBlock_empty {s : State} {ws : List Nat} (hempty : mpM ws = 0 ∨ mpN ws = 0) (hchime : mpChime ws = none) (c index word : Nat) :
    s.mxIssueBlock c index word ws = (s.setCl c { s.cl c with tile := none }).entry c index 2 0 1 := by
  unfold State.mxIssueBlock
  dsimp only
  rw [if_pos hempty, hchime]
  rfl

section
variable {s : State} {c addr index word : Nat} {rest : List QEntry} (h : s.mxHead c addr index word rest)
include h

theorem State.mxIssue_empty (hroom : feeding (s.cl c).mxRun (s.cl c).feed.length < 2)
    (hempty : mpM (s.mxBlock c addr) = 0 ∨ mpN (s.mxBlock c addr) = 0) (hchime : mpChime (s.mxBlock c addr) = none) :
    (s.mxIssue c).cl c = { s.cl c with mxq := rest, tile := none, ccount := (s.cl c).ccount + 1 } ∧ s.othersKept (s.mxIssue c) c ∧
    (s.mxIssue c).word (wmBase c + s.entryOff (s.cl c).ccount) = index % 2 ^ 24 * 2 ^ 40 + 2 * 2 ^ 32 + 1 ∧
    s.memKeptOut (s.mxIssue c) (wmBase c + s.entryOff (s.cl c).ccount) 8 ∧ s.regsKept (s.mxIssue c) [F.SEQ_CLUSTER_CCOUNT.key c] ∧
    (s.mxIssue c).chimeq = s.chimeq := by
  rw [State.mxIssue_block h hroom, State.mxIssueBlock_empty hempty hchime]
  have hothers (x : Nat) (hx : x ≠ c) (y : Cluster) : ((s.mxTaken c rest).setCl c y).cl x = s.cl x :=
    (State.cl_setCl_other _ _ hx).trans (State.cl_setCl_other _ _ hx)
  have htaken : (s.mxTaken c rest).cl c = { s.cl c with mxq := rest } := State.cl_setCl_same ..
  rw [htaken]
  generalize hy : ({ s.cl c with mxq := rest, tile := none } : Cluster) = y
  have hown : ((s.mxTaken c rest).setCl c y).cl c = y := State.cl_setCl_same ..
  have hmade := State.entryFlags_made (s := (s.mxTaken c rest).setCl c y) h.soft h.corrupt c index 2 0 1
  have hchimeq := State.entry_chimeq (s := (s.mxTaken c rest).setCl c y) h.soft h.corrupt c index 2 0 1
  generalize ((s.mxTaken c rest).setCl c y).entry c index 2 0 1 = t at hmade hchimeq ⊢
  obtain ⟨hmem, -, hsame, hkept, hregs⟩ := hmade
  rw [hown, ← hy] at hmem hsame
  have hwritten : t.mem = memWrite s.mem (wmBase c + s.entryOff (s.cl c).ccount) (leBytes 8 (entryBits index 2 0 1)) := hmem
  rw [State.flushMx_stays 33 (by rw [hsame]; exact h.after)]
  refine ⟨hsame, fun x hx => (hkept x hx).trans (hothers x hx y), ?_, State.memKeptOut_of_written hwritten, hregs.of_regs rfl, hchimeq⟩
  rw [State.word_of_written hwritten (entryBits_lt ..)]
  unfold entryBits
  omega

end

/-! ### An operation starts (05 R171, R173, R177, R179, R189, R194) -/

theorem tileOf_axis_zero {ws : List Nat} (h : mpAxis ws = 0) (b sb : List Nat) :
    (tileOf ws b sb 0).rows = min 128 (mpK ws) ∧ (tileOf ws b sb 0).cols = mpN ws := by
  unfold tileOf passAt mxKt
  rw [if_pos h, if_pos h]
  exact ⟨by simp, rfl⟩

theorem tileOf_axis_one {ws : List Nat} (h : mpAxis ws = 1) (b sb : List Nat) :
    (tileOf ws b sb 0).rows = mpN ws ∧ (tileOf ws b sb 0).cols = min 64 (mpK ws) := by
  have hne : mpAxis ws ≠ 0 := by omega
  unfold tileOf passAt mxKt
  rw [if_neg hne, if_neg hne]
  exact ⟨rfl, by simp⟩

/-- With no repair the spare rows hold the checksums of the tile and the last of them nothing (05 R194). -/
theorem loadArray_spares (t : Tile) : (loadArray 0 t).spares = [(List.range t.cols).map (tileColSum t), (List.range (min t.rows 64)).map (tileRowSum t),
    (List.range (t.rows - 64)).map (fun i => tileRowSum t (64 + i)), []] := by
  have hspan : (span 64 (t.rows - 64)).map (tileRowSum t) = (List.range (t.rows - 64)).map (fun i => tileRowSum t (64 + i)) := List.map_map
  rw [← hspan]
  rfl

/-- One pass covers K, where K is not 0 and no wider than a tile (05 R179). -/
theorem mxPasses_eq_one (ws : List Nat) : mxPasses ws = 1 ↔ mpK ws ≠ 0 ∧ mpK ws ≤ mxKt ws := by
  have hwidth : mxKt ws = 128 ∨ mxKt ws = 64 := by
    unfold mxKt
    split
    · exact .inl rfl
    · exact .inr rfl
  unfold mxPasses
  obtain hkt | hkt := hwidth
  all_goals
    rw [hkt]
    omega

/-- The first tile of an operation changes the array and the shadow buffer of its engine alone: nothing with K 0, the array of an idle engine
otherwise. -/
theorem State.mxLoad_shows (s : State) (c : Nat) (ws b sb : List Nat) : s.mxLoad c ws b sb = s.putClusters (s.mxLoad c ws b sb).clusters ∧
    s.othersKept (s.mxLoad c ws b sb) c ∧
    (s.mxLoad c ws b sb).cl c = { s.cl c with array := ((s.mxLoad c ws b sb).cl c).array, shadow := ((s.mxLoad c ws b sb).cl c).shadow } ∧
    (mpK ws = 0 → s.mxLoad c ws b sb = s) ∧
    (mpK ws ≠ 0 → mpReuse ws = false → (s.cl c).mxRun = [] →
      ((s.mxLoad c ws b sb).cl c).array = loadArray (s.repMap c) (tileOf ws b sb 0)) := by
  unfold State.mxLoad
  dsimp only
  split
  next hnone =>
    refine ⟨rfl, fun _ _ => rfl, rfl, fun _ => rfl, fun hk hreuse => ?_⟩
    simp [hk, hreuse] at hnone
  next hsome =>
    have hk : mpK ws ≠ 0 := fun hk => hsome (by simp [hk])
    split
    next =>
      refine ⟨rfl, fun x hx => State.cl_setCl_other _ _ hx, ?_, fun hzero => absurd hzero hk, fun _ _ _ => ?_⟩
      all_goals rw [State.cl_setCl_same]
    next hbusy =>
      refine ⟨rfl, fun x hx => State.cl_setCl_other _ _ hx, ?_, fun hzero => absurd hzero hk, fun _ _ hidle => ?_⟩
      · rw [State.cl_setCl_same]
      · exact absurd (List.isEmpty_iff.mpr hidle) hbusy

end Sys2Proof.Machine
end

section
/-!
LAWS. A matrix operation starts: what its engine holds then (05 R173, R177 to R179, R189, R194).
-/
namespace Sys2Proof.Machine

/-- From `s` to `t` an operation with the words `ws` has started as `r`: it is the last of those started, its tiles follow in the feed, the engine
keeps its tile for REUSE where it makes a single pass, and an idle engine's array holds its first tile. Nothing else changes. -/
structure State.mxStarted (s t : State) (c index : Nat) (ws : List Nat) (r : MxRun) : Prop where
  frame : t = s.putClusters t.clusters
  others : s.othersKept t c
  same : t.cl c = { s.cl c with mxRun := (s.cl c).mxRun ++ [r], feed := (s.cl c).feed ++ mxFeed ws, tile := (t.cl c).tile, array := (t.cl c).array,
                                shadow := (t.cl c).shadow }
  run : r.index = index ∧ r.words = ws ∧ r.beat = s.beat ∧ r.code = if mpK ws = 0 then 2 else 0
  tile : (t.cl c).tile.isSome = decide (mpK ws ≠ 0 ∧ mpK ws ≤ mxKt ws)
  still : mpK ws = 0 → (t.cl c).array = (s.cl c).array ∧ (t.cl c).shadow = (s.cl c).shadow
  loads : 0 < mpK ws → (s.cl c).mxRun = [] → ∃ b sb, (t.cl c).array = loadArray (s.repMap c) (tileOf ws b sb 0)

theorem tileAfter_isSome (ws b sb : List Nat) : (tileAfter ws b sb).isSome = decide (mpK ws ≠ 0 ∧ mpK ws ≤ mxKt ws) := by
  unfold tileAfter
  by_cases hone : mxPasses ws = 1
  · rw [if_pos hone, decide_eq_true ((mxPasses_eq_one ws).mp hone)]
    rfl
  · rw [if_neg hone, decide_eq_false (fun h => hone ((mxPasses_eq_one ws).mpr h))]
    rfl

/-- A cluster with an operation started on it, once its first tile has loaded. -/
def Cluster.withRun (x : Cluster) (r : MxRun) (ws b sb : List Nat) : Cluster :=
  { x with mxRun := x.mxRun ++ [r], feed := x.feed ++ mxFeed ws, tile := tileAfter ws b sb }

theorem State.mxLoad_started (s : State) {c index : Nat} {ws : List Nat} (hreuse : mpReuse ws = false) {r : MxRun}
    (hrun : r.index = index ∧ r.words = ws ∧ r.beat = s.beat ∧ r.code = if mpK ws = 0 then 2 else 0) (b sb : List Nat) :
    s.mxStarted ((s.mxLoad c ws b sb).setCl c (((s.mxLoad c ws b sb).cl c).withRun r ws b sb)) c index ws r := by
  obtain ⟨hframe, hothers, hsame, hstill, hloads⟩ := s.mxLoad_shows c ws b sb
  generalize s.mxLoad c ws b sb = u at hframe hothers hsame hstill hloads
  have hcl : (u.setCl c ((u.cl c).withRun r ws b sb)).cl c = (u.cl c).withRun r ws b sb := State.cl_setCl_same ..
  refine ⟨?_, fun x hx => (State.cl_setCl_other _ _ hx).trans (hothers x hx), ?_, hrun, ?_, fun hk => ?_, fun hk hidle => ⟨b, sb, ?_⟩⟩
  · rw [hframe]
    rfl
  · rw [hcl, hsame]
    rfl
  · rw [hcl]
    exact tileAfter_isSome ws b sb
  · rw [hcl, hstill hk]
    exact ⟨rfl, rfl⟩
  · rw [hcl]
    exact hloads (Nat.ne_of_gt hk) hreuse hidle

theorem State.mxStart_starts (s : State) {ws : List Nat} (hreuse : mpReuse ws = false) (c index word : Nat) :
    ∃ r, s.mxStarted (s.mxStart c index word ws) c index ws r := by
  unfold State.mxStart
  dsimp only
  rw [hreuse]
  exact ⟨_, s.mxLoad_started hreuse ⟨rfl, rfl, rfl, rfl⟩ _ _⟩

theorem State.rowsPoison_none {s : State} (h : s.poison = []) (c : Nat) (rows : List (Nat × Nat)) : s.rowsPoison c rows = none := by
  unfold State.rowsPoison
  rw [List.findSome?_eq_none_iff]
  exact fun a _ => State.poisonRead_none h _ _

theorem State.rowsCorrect_clean {s : State} (h : s.soft = []) (c : Nat) (rows : List (Nat × Nat)) : s.rowsCorrect c rows = s := by
  unfold State.rowsCorrect
  induction rows with
  | nil => rfl
  | cons a rows ih => rw [List.foldl_cons, State.correct_clean (State.softIn_none h _ _), ih]

/-- An operation in range, with no overlap and no REUSE, starts with its operands in clean memory. -/
theorem State.mxIssueBlock_starts {s : State} {ws : List Nat} (hpoison : s.poison = []) (hsoft : s.soft = []) (hm : 0 < mpM ws) (hn : 0 < mpN ws)
    (hrange : s.mxInRange ws = true) (hoverlap : mxOverlap ws = false) (hreuse : mpReuse ws = false) (c index word : Nat) :
    ∃ r, s.mxStarted (s.mxIssueBlock c index word ws) c index ws r := by
  have hstart : s.mxIssueBlock c index word ws = s.mxStart c index word ws := by
    unfold State.mxIssueBlock
    dsimp only
    rw [if_neg (by omega), hrange, hoverlap, hreuse, State.rowsPoison_none hpoison]
    dsimp only
    rw [State.rowsCorrect_clean hsoft]
    rfl
  rw [hstart]
  exact s.mxStart_starts hreuse c index word

theorem State.mxIssue_starts {s : State} {c addr index word : Nat} {rest : List QEntry} (h : s.mxHead c addr index word rest)
    (hroom : feeding (s.cl c).mxRun (s.cl c).feed.length < 2) (hm : 0 < mpM (s.mxBlock c addr)) (hn : 0 < mpN (s.mxBlock c addr))
    (hrange : s.mxInRange (s.mxBlock c addr) = true) (hoverlap : mxOverlap (s.mxBlock c addr) = false) (hreuse : mpReuse (s.mxBlock c addr) = false) :
    ∃ r, (s.mxTaken c rest).mxStarted (s.mxIssue c) c index (s.mxBlock c addr) r := by
  obtain ⟨r, hstarted⟩ := State.mxIssueBlock_starts (s := s.mxTaken c rest) h.poison h.soft hm hn hrange hoverlap hreuse c index word
  have htaken : (s.mxTaken c rest).cl c = { s.cl c with mxq := rest } := State.cl_setCl_same ..
  rw [State.mxIssue_block h hroom, State.flushMx_stays 33 (by rw [hstarted.same, htaken]; exact h.after)]
  exact ⟨r, hstarted⟩

end Sys2Proof.Machine
end

section
/-!
LAWS. A matrix operation completes: its failed checks, its one element of D, its entry and its Chime (03 R126 to R128; 05 R173, R180, R195, R196;
06 R226).
-/
namespace Sys2Proof.Machine

/-! ### The end of an operation (06 R226) -/

/-- The ARRIVE of an operation's Chime, if it names one. -/
def MxRun.arrival (r : MxRun) : List ChimeOp :=
  match mpChime r.words with
  | some i => [⟨i % 32768, false, 1, r.beat⟩]
  | none => []

theorem MxRun.arrival_eq (r : MxRun) : ((mpChime r.words).map (fun i => (⟨i % 32768, false, 1, r.beat⟩ : ChimeOp))).toList = r.arrival := by
  unfold MxRun.arrival
  cases mpChime r.words <;> rfl

/-- The entry of an operation that completes is written, and its Chime receives ARRIVE(1). -/
def State.mxEnd (s : State) (c : Nat) (r : MxRun) (flags code : Nat) : State :=
  (s.entry c r.index 2 flags code).arriveOpt c 1 (mpChime r.words) r.beat

/-- What the end of an operation changes from `s` to `t`: the entry's bytes `w` at `e`, the completion count, the queue of the Chimes. -/
structure State.mxEnded (s t : State) (c : Nat) (r : MxRun) (e w : Nat) : Prop where
  mem : t.mem = memWrite s.mem e (leBytes 8 w)
  same : t.cl c = { s.cl c with ccount := (s.cl c).ccount + 1 }
  others : s.othersKept t c
  regs : s.regsKept t [F.SEQ_CLUSTER_CCOUNT.key c, F.CHIME_STATUS_QMAX.key 0]
  count : t.reg F.SEQ_CLUSTER_CCOUNT c = min ((s.cl c).ccount + 1) 0xFFFF
  chimeq : t.chimeq = s.chimeq ++ r.arrival

theorem State.chimeFull_congr {s t : State} (h : t.chimeq = s.chimeq) (d : Nat) : t.chimeFull d = s.chimeFull d := by
  unfold State.chimeFull State.chimeDepth
  rw [h]

theorem State.mxEnd_ends {s : State} (hsoft : s.soft = []) (hcorrupt : s.inj.corrupt = []) (hroom : ∀ d < 2, s.chimeFull d = false) {c : Nat}
    (hc : c < 64) (r : MxRun) (flags code : Nat) : s.mxEnded (s.mxEnd c r flags code) c r (wmBase c + s.entryOff (s.cl c).ccount)
      (entryBits r.index 2 flags code) := by
  obtain ⟨hmem, -, hsame, hothers, hregs⟩ := State.entryFlags_made hsoft hcorrupt c r.index 2 flags code
  have hqueue := State.entry_chimeq hsoft hcorrupt c r.index 2 flags code
  have hcount := s.entry_shows_count (c := c) r.index 2 flags code
  unfold State.mxEnd
  generalize s.entry c r.index 2 flags code = u at hmem hsame hothers hregs hqueue hcount ⊢
  have hroom' : ∀ d < 2, u.chimeFull d = false := fun d hd => (State.chimeFull_congr hqueue d).trans (hroom d hd)
  obtain ⟨hjoined, hmem', hclusters, hregs'⟩ := State.arriveOpt_joins hroom' c 1 (mpChime r.words) r.beat
  refine ⟨hmem'.trans hmem, (State.cl_congr hclusters c).trans hsame, fun x hx => (State.cl_congr hclusters x).trans (hothers x hx), ?_, ?_, ?_⟩
  · exact (hregs.mono (by simp)).trans (hregs'.mono (by simp))
  · refine (hregs' _ _ ?_).trans hcount
    rw [List.mem_singleton]
    exact Field.key_ne_of_apart (by decide) hc (by decide)
  · rw [hjoined, hqueue, r.arrival_eq]

/-- From `s` to `t` the oldest operation of cluster `c` has completed, with those in `q` still started: the completion count has risen, CCOUNT
shows it, the operation's Chime has its ARRIVE, and no other cluster has changed. -/
def State.mxDone (s t : State) (c : Nat) (r : MxRun) (q : List MxRun) : Prop :=
  (t.cl c).mxRun = q ∧ (t.cl c).ccount = (s.cl c).ccount + 1 ∧ s.othersKept t c ∧
  t.reg F.SEQ_CLUSTER_CCOUNT c = min ((s.cl c).ccount + 1) 0xFFFF ∧ t.chimeq = s.chimeq ++ r.arrival

theorem State.mxEnded.done {s v t : State} {c e w : Nat} {r : MxRun} {q : List MxRun} (h : v.mxEnded t c r e w) (hrun : (v.cl c).mxRun = q)
    (hcount : (v.cl c).ccount = (s.cl c).ccount) (hothers : s.othersKept v c) (hchimeq : v.chimeq = s.chimeq) : s.mxDone t c r q := by
  obtain ⟨-, hsame, hkept, -, hshown, hqueue⟩ := h
  refine ⟨?_, ?_, fun x hx => (hkept x hx).trans (hothers x hx), by rw [hshown, hcount], by rw [hqueue, hchimeq]⟩
  · rw [hsame]
    exact hrun
  · rw [hsame, hcount]

/-! ### Failed checks (05 R196; 17 R511, R520) -/

/-- Memory, the bad symbols and the corruption that wait in it, the clusters and the queue of the Chimes are as they were. -/
structure State.workKept (s t : State) : Prop where
  mem : t.mem = s.mem
  soft : t.soft = s.soft
  inj : t.inj = s.inj
  clusters : t.clusters = s.clusters
  chimeq : t.chimeq = s.chimeq

theorem State.workKept_refl (s : State) : s.workKept s := ⟨rfl, rfl, rfl, rfl, rfl⟩

theorem State.workKept.trans {s t u : State} (h : s.workKept t) (h' : t.workKept u) : s.workKept u :=
  ⟨h'.mem.trans h.mem, h'.soft.trans h.soft, h'.inj.trans h.inj, h'.clusters.trans h.clusters, h'.chimeq.trans h.chimeq⟩

theorem State.count_workKept (s : State) (f : Field) (k n : Nat) : s.workKept (s.count f k n) := by
  rw [State.count_eq]
  exact ⟨rfl, rfl, rfl, rfl, rfl⟩

/-- A detected fault touches nothing of a unit's work. -/
theorem State.raise_workKept (s : State) (r : Rep) : s.workKept (s.raise r) := by
  rw [State.raise_eq]
  exact ⟨rfl, rfl, rfl, rfl, rfl⟩

/-- What the reports of `n` failed checks of cluster `c` change: CHECK_FAIL, and what a message reaches, which is no unit's work; of the registers
below those of the ride, memory and fault units nothing but CHECK_FAIL, and of the Score unit neither the loaded Score nor a load. -/
structure State.checksTold (s t : State) (c n : Nat) : Prop where
  work : s.workKept t
  cur : t.score.cur = s.score.cur
  load : t.score.load = s.score.load
  fails : t.reg F.MXE_ENG_CHECK_FAIL c = min (s.reg F.MXE_ENG_CHECK_FAIL c + n) F.MXE_ENG_CHECK_FAIL.top
  low : ∀ {g : Field} {m : Nat}, g.key m < 0x80000 * 64 → g.key m ≠ F.MXE_ENG_CHECK_FAIL.key c → t.reg g m = s.reg g m

/-- A failed check is counted and reported. -/
def State.tellCheck (s : State) (c : Nat) (r : MxRun) : State :=
  (s.count F.MXE_ENG_CHECK_FAIL 1 c).detectIn 0x0101 0 (8 * c) 6 none r.index 2 r.word

theorem checkFail_low {c : Nat} (hc : c < 64) : F.MXE_ENG_CHECK_FAIL.key c < 0x80000 * 64 := by
  have hkey : F.MXE_ENG_CHECK_FAIL.key c = (0x50100 + 8 * c) * 64 + 48 := rfl
  omega

theorem State.checksTold_none (s : State) (c : Nat) : s.checksTold s c 0 := by
  refine ⟨s.workKept_refl, rfl, rfl, ?_, fun _ _ => rfl⟩
  have hlt := s.reg_lt F.MXE_ENG_CHECK_FAIL c
  unfold Field.top
  omega

theorem State.checksTold.tell {s t : State} {c n : Nat} (h : s.checksTold t c n) (hc : c < 64) (hload : s.score.load = none) (r : MxRun) :
    s.checksTold (t.tellCheck c r) c (n + 1) := by
  have hcounted := t.count_workKept F.MXE_ENG_CHECK_FAIL 1 c
  have hscore : (t.count F.MXE_ENG_CHECK_FAIL 1 c).score = t.score := by
    rw [State.count_eq]
    rfl
  have hfails := t.count_reg_same F.MXE_ENG_CHECK_FAIL 1 c
  have hother {g : Field} {m : Nat} (hg : g.key m ≠ F.MXE_ENG_CHECK_FAIL.key c) : (t.count F.MXE_ENG_CHECK_FAIL 1 c).reg g m = t.reg g m := by
    rw [State.count, State.update_reg, State.reg_setReg_other t _ hg]
  unfold State.tellCheck State.detectIn
  generalize t.count F.MXE_ENG_CHECK_FAIL 1 c = u at hcounted hscore hfails hother ⊢
  obtain ⟨⟨hcur, -, hload', -⟩, hlow⟩ := State.raise_faultKept (s := u) (by rw [hscore, h.load, hload])
    ⟨u.msg 0x0101 (kindClass 0x0101) 0 (8 * c) 6 none, r.index, 2, r.word, 0⟩
  have hraised := u.raise_workKept ⟨u.msg 0x0101 (kindClass 0x0101) 0 (8 * c) 6 none, r.index, 2, r.word, 0⟩
  generalize u.raise ⟨u.msg 0x0101 (kindClass 0x0101) 0 (8 * c) 6 none, r.index, 2, r.word, 0⟩ = v at hcur hload' hlow hraised ⊢
  refine ⟨?_, ?_, ?_, ?_, fun hg hne => ?_⟩
  · exact (h.work.trans hcounted).trans hraised
  · rw [hcur, hscore, h.cur]
  · rw [hload', hscore, h.load]
  · rw [hlow (checkFail_low hc), hfails, h.fails]
    omega
  · rw [hlow hg, hother hne, h.low hg hne]

/-- Every failed check of an operation is counted and reported. -/
def State.tellChecks (s : State) (c n : Nat) (r : MxRun) : State := foldKeys (List.range n) (fun t _ => t.tellCheck c r) s

theorem State.tellChecks_told {s : State} {c : Nat} (hc : c < 64) (hload : s.score.load = none) (n : Nat) (r : MxRun) :
    s.checksTold (s.tellChecks c n r) c n := by
  induction n with
  | zero => exact s.checksTold_none c
  | succ n ih =>
    have hlast : s.tellChecks c (n + 1) r = (s.tellChecks c n r).tellCheck c r := by
      unfold State.tellChecks foldKeys
      rw [List.range_succ, List.foldl_concat]
    rw [hlast]
    exact ih.tell hc hload r

/-! ### One element of D (03 R126 to R128, R134; 05 R173, R177, R180) -/

/-- An operation of one element of D: plain formats, no wider than one pass, no INIT, and its operands as captured. -/
structure MxRun.oneElement (r : MxRun) : Prop where
  m : mpM r.words = 1
  n : mpN r.words = 1
  kPos : 1 ≤ mpK r.words
  kFits : mpK r.words ≤ 64
  init : mpInit r.words = false
  afmt : mpAfmt r.words ≤ 4
  bfmt : mpBfmt r.words ≤ 4
  outfmt : mpOutfmt r.words ≤ 4
  a : r.a.length = mpK r.words
  b : r.b.length = mpK r.words

/-- The pass sum of an operation of one element, in FP32. -/
def MxRun.passAcc (r : MxRun) : Val :=
  (passFp valZero (r.a.map (decodeCode (mpAfmt r.words))) (r.b.map (decodeCode (mpBfmt r.words))) none).1

theorem tyMx_plain {t : Nat} (h : t ≤ 4) : tyMx t = false := by
  unfold tyMx
  rw [decide_eq_false (by omega), Bool.false_and]

theorem mxVals_plain {fmt : Nat} (h : fmt ≤ 4) (codes scales : List Nat) : mxVals fmt codes scales = codes.map (decodeCode fmt) := by
  unfold mxVals
  rw [tyMx_plain h, if_neg Bool.false_ne_true]

/-- The one column of B is B. -/
theorem colOf_one {ws : List Nat} {b : List Val} (hn : mpN ws = 1) (hb : b.length = mpK ws) : colOf ws b 0 = b := by
  unfold colOf
  rw [hn, ← hb]
  refine List.ext_getElem (by simp) (fun i hi hi' => ?_)
  simp [hi']

section
variable {r : MxRun} (h : r.oneElement)
include h

theorem MxRun.oneElement.ints : mpInts r.words = false := by
  have hne : mpAfmt r.words ≠ 11 := by
    have hafmt := h.afmt
    omega
  unfold mpInts
  rw [decide_eq_false hne, Bool.false_and]

theorem MxRun.oneElement.kNonzero : mpK r.words ≠ 0 := by
  have hpos := h.kPos
  omega

theorem MxRun.oneElement.onePass : mxPasses r.words = 1 := by
  have hfits := h.kFits
  refine (mxPasses_eq_one _).mpr ⟨h.kNonzero, ?_⟩
  unfold mxKt
  split <;> omega

theorem MxRun.oneElement.pass : passAt r.words 0 = (0, mpK r.words) := by
  have hwide := ((mxPasses_eq_one _).mp h.onePass).2
  unfold passAt
  rw [Nat.zero_mul, Nat.sub_zero, Nat.min_eq_right hwide]

/-- Its one pass takes all of both operands. -/
theorem MxRun.oneElement.elemAcc {a b : List Val} (ha : a.length = mpK r.words) (hb : b.length = mpK r.words) :
    (elemAcc r.words valZero a b none).1 = (passFp valZero a b none).1 := by
  unfold Sys2Proof.Machine.elemAcc
  rw [h.onePass, List.range_one, List.foldl_cons, List.foldl_nil, h.pass]
  dsimp only
  rw [h.ints, if_neg Bool.false_ne_true, List.drop_zero, List.drop_zero, List.take_of_length_le (by omega), List.take_of_length_le (by omega),
    Option.bind_none]

theorem State.mxAccs_one (s : State) (c : Nat) : (s.mxAccs c r none).1 = [r.passAcc] := by
  have hone := h.elemAcc (a := r.a.map (decodeCode (mpAfmt r.words))) (b := r.b.map (decodeCode (mpBfmt r.words)))
    (by rw [List.length_map, h.a]) (by rw [List.length_map, h.b])
  have hb : (r.b.map (decodeCode (mpBfmt r.words))).length = mpK r.words := by rw [List.length_map, h.b]
  have ha : (r.a.map (decodeCode (mpAfmt r.words))).length ≤ mpK r.words := by rw [List.length_map, h.a]
  unfold State.mxAccs
  dsimp only
  rw [h.m, h.n, h.init, mxVals_plain h.afmt, mxVals_plain h.bfmt, List.range_one, List.flatMap_singleton, List.map_singleton, List.map_singleton,
    if_neg h.kNonzero, colOf_one h.n hb]
  rw [Nat.zero_mul, Nat.zero_mul, List.drop_zero, List.take_of_length_le ha]
  exact congrArg (fun v => [v]) hone

/-- The bytes of D of an operation of one element, rounded once to OUTFMT. -/
def MxRun.outBytes (r : MxRun) (draw : Nat) : List Byte :=
  elemBytes (tyWidth (mpOutfmt r.words)) [(encodeCode (mpOutfmt r.words) r.passAcc (mpRm r.words) (mpSat r.words) draw).1]

theorem State.mxResult_one (s : State) :
    (s.mxResult r [r.passAcc]).1 = [(r.outBytes (s.mxDraw r 0 0), [])] := by
  unfold State.mxResult State.mxRow MxRun.outBytes
  simp [h.m, h.n, tyMx_plain h.outfmt]

theorem MxRun.oneElement.width : tyWidth (mpOutfmt r.words) = 32 ∨ tyWidth (mpOutfmt r.words) = 16 ∨ tyWidth (mpOutfmt r.words) = 8 := by
  have hplain : ∀ t ≤ 4, tyWidth t = 32 ∨ tyWidth t = 16 ∨ tyWidth t = 8 := by decide
  exact hplain _ h.outfmt

/-- One element takes its width in bytes, and they hold its code. -/
theorem MxRun.oneElement.outBytes_eq (draw : Nat) : r.outBytes draw = leBytes (tyWidth (mpOutfmt r.words) / 8)
    ((encodeCode (mpOutfmt r.words) r.passAcc (mpRm r.words) (mpSat r.words) draw).1 % 2 ^ tyWidth (mpOutfmt r.words)) := by
  have hround : (tyWidth (mpOutfmt r.words) + 7) / 8 = tyWidth (mpOutfmt r.words) / 8 := by
    have hwidth := h.width
    omega
  rw [← hround]
  unfold MxRun.outBytes elemBytes packElems
  simp

end

end Sys2Proof.Machine
end

section
/-!
LAWS. The completion of a matrix operation put together: what is written, what is left in the engine, and with what code it ends (05 R173, R178,
R187, R188, R196; 06 R226; 13 R421).
-/
namespace Sys2Proof.Machine

theorem exec_mxeOpComplete (c : Fin 64) (s : State) : exec (.mxeOpComplete c) s = .next (s.mxComplete c) := rfl

/-! ### D, the sticky flags and the engine (05 R173, R181, R187) -/

/-- The fields of the sticky flags of matrix engine `c`. -/
def mxFlagKeys (c : Nat) : List Nat := [F.MXE_ENG_NANIN.key c, F.MXE_ENG_INV.key c, F.MXE_ENG_OVF.key c, F.MXE_ENG_ISAT.key c]

theorem State.regsKept.markIf {s t : State} {ks : List Nat} (h : s.regsKept t ks) (b : Bool) {f : Field} {c : Nat} (hf : f.key c ∈ ks) :
    s.regsKept (if b then t.mark f 1 c else t) ks := by
  cases b with
  | false => exact h
  | true =>
    rw [if_pos rfl]
    exact h.update hf _ _

theorem State.mxFlags_frame (s : State) (c : Nat) (f : Flags) :
    s.mxFlags c f = (s.putRegs (s.mxFlags c f).regs).putFresh (s.mxFlags c f).fresh := by
  have hnanin := State.markIf_frame (s := s) (t := s) rfl f.nanin F.MXE_ENG_NANIN c
  have hinv := State.markIf_frame hnanin f.inv F.MXE_ENG_INV c
  have hovf := State.markIf_frame hinv f.ovf F.MXE_ENG_OVF c
  exact State.markIf_frame hovf f.isat F.MXE_ENG_ISAT c

theorem State.mxFlags_regsKept (s : State) (c : Nat) (f : Flags) : s.regsKept (s.mxFlags c f) (mxFlagKeys c) := by
  have hnanin := (s.regsKept_refl (mxFlagKeys c)).markIf f.nanin (f := F.MXE_ENG_NANIN) (c := c) (by simp [mxFlagKeys])
  have hinv := hnanin.markIf f.inv (f := F.MXE_ENG_INV) (c := c) (by simp [mxFlagKeys])
  have hovf := hinv.markIf f.ovf (f := F.MXE_ENG_OVF) (c := c) (by simp [mxFlagKeys])
  exact hovf.markIf f.isat (f := F.MXE_ENG_ISAT) (c := c) (by simp [mxFlagKeys])

theorem State.mxLeave_shows (s : State) (c : Nat) (r : MxRun) (ints : Bool) (vs : List Val) :
    s.mxLeave c r ints vs = s.putClusters (s.mxLeave c r ints vs).clusters ∧ s.othersKept (s.mxLeave c r ints vs) c ∧
    (s.mxLeave c r ints vs).cl c = { s.cl c with accs := accFile ints (s.cl c).accs vs, array := ((s.mxLeave c r ints vs).cl c).array } := by
  have hother (x : Nat) (hx : x ≠ c) (y : Cluster) : (s.setCl c y).cl x = s.cl x := State.cl_setCl_other _ _ hx
  unfold State.mxLeave
  dsimp only
  split
  · exact ⟨rfl, fun x hx => hother x hx _, by rw [State.cl_setCl_same]⟩
  · refine ⟨rfl, fun x hx => (State.cl_setCl_other _ _ hx).trans (hother x hx _), ?_⟩
    rw [State.cl_setCl_same, State.cl_setCl_same]

/-- One row of plain elements is one write. -/
theorem State.mxWrite_one (s : State) (c : Nat) (ws : List Nat) (l : List Byte) :
    s.mxWrite c ws [(l, [])] = s.writeMem s.beat (wmBase c + mpAddr ws 4) l := by
  simp [State.mxWrite]

/-- The one element of D written, its flags set, and its accumulator left in the engine. -/
def State.elementPut (s : State) (c : Nat) (r : MxRun) (f : Flags) : State :=
  ((s.mxWrite c r.words [(r.outBytes (s.mxDraw r 0 0), [])]).mxFlags c f).mxLeave c r (mxInt r.words) [r.passAcc]

/-- What that changes from `s` to `t`. -/
structure State.elementKept (s t : State) (c : Nat) (r : MxRun) (l : List Byte) : Prop where
  mem : t.mem = memWrite s.mem (wmBase c + mpAddr r.words 4) l
  soft : t.soft = []
  inj : t.inj = s.inj
  chimeq : t.chimeq = s.chimeq
  others : s.othersKept t c
  same : t.cl c = { s.cl c with accs := accFile (mxInt r.words) (s.cl c).accs [r.passAcc], array := (t.cl c).array }
  regs : s.regsKept t (mxFlagKeys c)

theorem State.elementPut_keeps {s : State} (hsoft : s.soft = []) (hcorrupt : s.inj.corrupt = []) {c : Nat} {r : MxRun}
    (hne : r.outBytes (s.mxDraw r 0 0) ≠ []) (hfits : (r.outBytes (s.mxDraw r 0 0)).length ≤ 4096 - (wmBase c + mpAddr r.words 4) % 4096)
    (hplain : s.stateOff (wmBase c + mpAddr r.words 4) = none) (f : Flags) :
    s.elementKept (s.elementPut c r f) c r (r.outBytes (s.mxDraw r 0 0)) := by
  unfold State.elementPut
  generalize r.outBytes (s.mxDraw r 0 0) = l at hne hfits ⊢
  rw [State.mxWrite_one, State.writeMem_within hne hfits hplain, State.putBytes_clean hsoft hcorrupt]
  generalize (s.putBytes (wmBase c + mpAddr r.words 4) l).poison = p
  have hflags := ((((s.putMem (memWrite s.mem (wmBase c + mpAddr r.words 4) l)).putPoison p).putSoft []).mxFlags_frame c f)
  have hregs := ((((s.putMem (memWrite s.mem (wmBase c + mpAddr r.words 4) l)).putPoison p).putSoft []).mxFlags_regsKept c f)
  generalize (((s.putMem (memWrite s.mem (wmBase c + mpAddr r.words 4) l)).putPoison p).putSoft []).mxFlags c f = u at hflags hregs ⊢
  have hclusters : u.clusters = s.clusters := (congrArg State.clusters hflags).trans rfl
  obtain ⟨hleft, hothers, hsame⟩ := u.mxLeave_shows c r (mxInt r.words) [r.passAcc]
  generalize u.mxLeave c r (mxInt r.words) [r.passAcc] = t at hleft hothers hsame ⊢
  have hkept : u.regsKept t (mxFlagKeys c) := (u.regsKept_refl _).congr ((congrArg State.regs hleft).trans rfl)
  refine ⟨?_, ?_, ?_, ?_, fun x hx => (hothers x hx).trans (State.cl_congr hclusters x), ?_, (hregs.trans hkept).of_regs rfl⟩
  · exact (congrArg State.mem hleft).trans ((congrArg State.mem hflags).trans rfl)
  · exact (congrArg State.soft hleft).trans ((congrArg State.soft hflags).trans rfl)
  · exact (congrArg State.inj hleft).trans ((congrArg State.inj hflags).trans rfl)
  · exact (congrArg State.chimeq hleft).trans ((congrArg State.chimeq hflags).trans rfl)
  · rw [← State.cl_congr hclusters c]
    exact hsame

/-! ### The oldest started operation completes -/

/-- The state with the oldest started operation of a cluster taken off, and its tiles off the feed. -/
def State.mxPopped (s : State) (c : Nat) (rest : List MxRun) : State :=
  s.setCl c { s.cl c with mxRun := rest, feed := (s.cl c).feed.drop ((s.cl c).feed.length - (rest.map runTiles).sum) }

theorem State.mxPartial_none {s : State} (h : s.poison = []) (c : Nat) (ws : List Nat) : s.mxPartial c ws = none := by
  unfold State.mxPartial State.poisonWrite
  rw [List.findSome?_eq_none_iff]
  intro a _
  rw [h, List.find?_eq_none]
  simp

theorem State.mxHit_none {s : State} (h : s.inj.corrupt = []) (c : Nat) (r : MxRun) : s.mxHit c r = none := by
  unfold State.mxHit
  rw [State.hitMode_none h]
  rfl

/-- An operation with no fault injected in it, once its failed checks are told: D is written and it ends. -/
def State.mxStore (s : State) (c : Nat) (r : MxRun) (bad : Nat) : State :=
  let acc := s.mxAccs c r none
  let res := s.mxResult r acc.1
  let f := flagsOr acc.2 res.2
  let left := ((s.mxWrite c r.words res.1).mxFlags c f).mxLeave c r (mxInt r.words) acc.1
  let done := if mpK r.words = 0 then left.mark F.MXE_ENG_EMPTY 1 c else left
  done.mxEnd c r (flagsBits f) (if decide (0 < bad) && !done.running then 0x21 else r.code)

theorem State.mxFinish_unhit {s : State} {c : Nat} {r : MxRun} (hhit : s.mxHit c r = none) :
    s.mxFinish c r = (s.tellChecks c (s.mxFails c r none) r).mxStore c r (s.mxFails c r none) := by
  unfold State.mxFinish
  extract_lets hit s0 s1 bad s2 acc res f s3 s4 code
  have h : hit = none := hhit
  have h0 : s0 = s := if_neg (by rw [h]; exact Bool.false_ne_true)
  have h1 : s1 = s := (if_neg (by rw [h]; exact Bool.false_ne_true)).trans h0
  have hbad : bad = s.mxFails c r none := by rw [← h, ← h1]
  have htold : s2 = s.tellChecks c (s.mxFails c r none) r := by
    rw [← hbad, ← h1]
    rfl
  rw [← htold, ← hbad]
  clear_value hit s0 s1 bad s2
  subst h
  rfl

theorem State.mxStore_one (s : State) {r : MxRun} (h : r.oneElement) (c bad : Nat) : ∃ f : Flags, s.mxStore c r bad =
    (s.elementPut c r f).mxEnd c r (flagsBits f) (if 0 < bad ∧ (s.elementPut c r f).running = false then 0x21 else r.code) := by
  refine ⟨flagsOr (s.mxAccs c r none).2 (s.mxResult r [r.passAcc]).2, ?_⟩
  unfold State.mxStore
  dsimp only
  rw [s.mxAccs_one h c, s.mxResult_one h, if_neg h.kNonzero]
  unfold State.elementPut
  simp only [Bool.and_eq_true, decide_eq_true_eq, Bool.not_eq_true']

section
variable {s : State} {c : Nat} {r : MxRun} {rest : List MxRun} (hrun : (s.cl c).mxRun = r :: rest)
include hrun

theorem State.mxComplete_finishes (hcode : r.code = 0) (hpoison : s.poison = []) :
    s.mxComplete c = State.flushMx 33 ((s.mxPopped c rest).mxFinish c r) c := by
  have hread : (s.mxPopped c rest).rowsPoison c (rowsC r.words) = none := State.rowsPoison_none hpoison _ _
  have hwrite : (s.mxPopped c rest).mxPartial c r.words = none := State.mxPartial_none hpoison _ _
  unfold State.mxPopped at hread hwrite ⊢
  unfold State.mxComplete
  dsimp only
  rw [hrun]
  dsimp only
  rw [if_neg (fun hfails => hfails.1 hcode), hread]
  dsimp only
  rw [hwrite]

theorem State.mxComplete_fails (hcode : r.code = 0x15) :
    s.mxComplete c = State.flushMx 33 ((s.mxPopped c rest).mxFail c r 0x15) c := by
  unfold State.mxPopped State.mxComplete
  dsimp only
  rw [hrun]
  dsimp only
  rw [if_pos (by rw [hcode]; decide), hcode]

end

/-- An operation that fails takes its tile from those that were to reuse it, and ends with its code. -/
theorem State.mxFail_ends (s : State) (c : Nat) (r : MxRun) (code : Nat) : s.mxFail c r code =
    (s.setCl c { s.cl c with
      mxRun := voidReuse (s.cl c).mxRun
      tile := if (voidReuse (s.cl c).mxRun).all (fun q => decide (q.code ≠ 0)) then none else (s.cl c).tile }).mxEnd c r 0 code := rfl

end Sys2Proof.Machine
end

section
/-!
LAWS. A matrix operation that met poison at issue completes (05 R178; 06 R226; 13 R421).
-/
namespace Sys2Proof.Machine

section
variable {s : State} {c : Nat} {r : MxRun} {rest : List MxRun} (hrun : (s.cl c).mxRun = r :: rest) (hqueue : chimeFirst (s.cl c).mxq = false)
  (hcorrupt : s.inj.corrupt = []) (hsoft : s.soft = []) (hroom : ∀ d < 2, s.chimeFull d = false)

include hrun hqueue hcorrupt hsoft hroom

/-- It writes no byte but its entry, with MEM_UE, and takes its tile from the operations that were to reuse it. -/
theorem State.mxComplete_poisoned (hc : c < 64) (hcode : r.code = 0x15) : s.mxDone (s.mxComplete c) c r (voidReuse rest) ∧
    (rest = [] → ((s.mxComplete c).cl c).tile = none) ∧
    (s.mxComplete c).word (wmBase c + s.entryOff (s.cl c).ccount) = r.index % 2 ^ 24 * 2 ^ 40 + 2 * 2 ^ 32 + 0x15 ∧
    s.memKeptOut (s.mxComplete c) (wmBase c + s.entryOff (s.cl c).ccount) 8 := by
  rw [State.mxComplete_fails hrun hcode, State.mxFail_ends]
  have hpopped : (s.mxPopped c rest).cl c = { s.cl c with
      mxRun := rest, feed := (s.cl c).feed.drop ((s.cl c).feed.length - (rest.map runTiles).sum) } := State.cl_setCl_same ..
  have hothers (y : Cluster) (x : Nat) (hx : x ≠ c) : ((s.mxPopped c rest).setCl c y).cl x = s.cl x :=
    (State.cl_setCl_other _ _ hx).trans (State.cl_setCl_other _ _ hx)
  rw [hpopped]
  dsimp only
  generalize hy : ({ s.cl c with mxRun := voidReuse rest, feed := _, tile := _ } : Cluster) = y
  have hown : ((s.mxPopped c rest).setCl c y).cl c = y := State.cl_setCl_same ..
  have hended := State.mxEnd_ends (s := (s.mxPopped c rest).setCl c y) hsoft hcorrupt hroom hc r 0 0x15
  generalize ((s.mxPopped c rest).setCl c y).mxEnd c r 0 0x15 = t at hended ⊢
  have hsame := hended.same
  rw [hown] at hended hsame
  have hstays : State.flushMx 33 t c = t := State.flushMx_stays 33 (by rw [hsame, ← hy]; exact hqueue)
  have hwritten : t.mem = memWrite s.mem (wmBase c + s.entryOff (s.cl c).ccount) (leBytes 8 (entryBits r.index 2 0 0x15)) := by
    rw [hended.mem, ← hy]
    rfl
  rw [hstays]
  refine ⟨hended.done ?_ ?_ (hothers y) rfl, fun hlast => ?_, ?_, State.memKeptOut_of_written hwritten⟩
  · rw [hown, ← hy]
  · rw [hown, ← hy]
  · rw [hsame, ← hy, hlast]
    rfl
  · rw [State.word_of_written hwritten (entryBits_lt ..)]
    unfold entryBits
    omega

end

/-- The next operation, which was to reuse the tile, will complete REUSE_BAD. -/
theorem voidReuse_first {x : MxRun} {y : List MxRun} (hcode : x.code = 0) (hreuse : mpReuse x.words = true) :
    voidReuse (x :: y) = { x with code := 0x20 } :: voidReuse y := by
  rw [voidReuse, hreuse, hcode]
  rfl

end Sys2Proof.Machine
end

section
/-!
LAWS. An operation of one element completes, from its started state on (03 R126 to R128, R134; 05 R173, R187, R188, R196; 06 R226).
-/
namespace Sys2Proof.Machine

theorem State.stateOff_congr {s t : State} (h : t.score.cur = s.score.cur) (a : Nat) : t.stateOff a = s.stateOff a := by
  unfold State.stateOff
  rw [h]

theorem State.mxDraw_congr {s t : State} (hcur : t.score.cur = s.score.cur) (hstate : t.scoreState = s.scoreState) (r : MxRun) (m n : Nat) :
    t.mxDraw r m n = s.mxDraw r m n := by
  unfold State.mxDraw State.seed
  rw [hcur, hstate]

theorem not_mem_mxFlagKeys {c : Nat} (hc : c < 64) {g : Field} {m : Nat} (hm : m < g.count) (hnanin : g.apart F.MXE_ENG_NANIN = true)
    (hinv : g.apart F.MXE_ENG_INV = true) (hovf : g.apart F.MXE_ENG_OVF = true) (hisat : g.apart F.MXE_ENG_ISAT = true) :
    g.key m ∉ mxFlagKeys c := by
  simp only [mxFlagKeys, List.mem_cons, List.not_mem_nil, or_false, not_or]
  exact ⟨Field.key_ne_of_apart hnanin hm hc, Field.key_ne_of_apart hinv hm hc, Field.key_ne_of_apart hovf hm hc, Field.key_ne_of_apart hisat hm hc⟩

/-- Working memory begins at a line, so a row of D at a multiple of 64 leaves room for an element in its line. -/
theorem wmBase_room (c : Nat) {a : Nat} (h : a % 64 = 0) : 64 ≤ 4096 - (wmBase c + a) % 4096 := by
  unfold wmBase
  omega

/-- From `s` to `v` an operation of one element has done its work: its failed checks `bad` are told, D holds its bytes, its accumulator is left in
the engine, and it is off the list of those started; the entry is still to be written. -/
structure State.oneWorked (s v : State) (c : Nat) (r : MxRun) (rest : List MxRun) (bad : Nat) : Prop where
  mem : v.mem = memWrite s.mem (wmBase c + mpAddr r.words 4) (r.outBytes (s.mxDraw r 0 0))
  soft : v.soft = []
  corrupt : v.inj.corrupt = []
  chimeq : v.chimeq = s.chimeq
  others : s.othersKept v c
  run : (v.cl c).mxRun = rest
  queue : (v.cl c).mxq = (s.cl c).mxq
  count : (v.cl c).ccount = (s.cl c).ccount
  acc : (v.cl c).accs.headD 0 = (rneFp32 r.passAcc).1
  fails : v.reg F.MXE_ENG_CHECK_FAIL c = min (s.reg F.MXE_ENG_CHECK_FAIL c + bad) F.MXE_ENG_CHECK_FAIL.top
  running : v.running = s.running
  entryOff : ∀ k, v.entryOff k = s.entryOff k

theorem State.elementPut_worked {s : State} {c : Nat} (hc : c < 64) {r : MxRun} {rest : List MxRun} (h : r.oneElement)
    (hcorrupt : s.inj.corrupt = []) (hsoft : s.soft = []) (hload : s.score.load = none)
    (hplain : s.stateOff (wmBase c + mpAddr r.words 4) = none) (halign : mpAddr r.words 4 % 64 = 0) (bad : Nat) (f : Flags) :
    s.oneWorked (((s.mxPopped c rest).tellChecks c bad r).elementPut c r f) c r rest bad := by
  have hpopped : (s.mxPopped c rest).cl c = { s.cl c with
      mxRun := rest, feed := (s.cl c).feed.drop ((s.cl c).feed.length - (rest.map runTiles).sum) } := State.cl_setCl_same ..
  have hpoppedOthers (x : Nat) (hx : x ≠ c) : (s.mxPopped c rest).cl x = s.cl x := State.cl_setCl_other _ _ hx
  obtain ⟨⟨hmem, hsoft', hinj, hclusters, hchimeq⟩, hcur, -, hfails, hlow⟩ := State.tellChecks_told (s := s.mxPopped c rest) hc hload bad r
  generalize (s.mxPopped c rest).tellChecks c bad r = u at hmem hsoft' hinj hclusters hchimeq hcur hfails hlow ⊢
  have hcl := State.cl_congr hclusters
  have hdraw : u.mxDraw r 0 0 = s.mxDraw r 0 0 := State.mxDraw_congr hcur (hlow (by decide) (Field.key_ne_of_apart (by decide) (by decide) hc)) r 0 0
  have hlen : (r.outBytes (s.mxDraw r 0 0)).length = tyWidth (mpOutfmt r.words) / 8 := by rw [h.outBytes_eq, leBytes_length]
  have hwidth := h.width
  have hline := wmBase_room c halign
  obtain ⟨hput, hputSoft, hputInj, hputChimeq, hputOthers, hsame, hregs⟩ := State.elementPut_keeps (s := u) (hsoft'.trans hsoft)
    (by rw [hinj]; exact hcorrupt) (c := c) (r := r)
    (by
      intro hnil
      rw [hdraw] at hnil
      rw [hnil, List.length_nil] at hlen
      omega)
    (by
      rw [hdraw, hlen]
      omega)
    ((State.stateOff_congr hcur _).trans hplain) f
  generalize u.elementPut c r f = v at hput hputSoft hputInj hputChimeq hputOthers hsame hregs ⊢
  rw [hcl, hpopped] at hsame
  have hreg {g : Field} (hg : g.key 0 < 0x80000 * 64) (hfail : g.apart F.MXE_ENG_CHECK_FAIL = true) (hcount : 0 < g.count)
      (hnot : g.key 0 ∉ mxFlagKeys c) : v.reg g = s.reg g :=
    (hregs g 0 hnot).trans (hlow hg (Field.key_ne_of_apart hfail hcount hc))
  refine ⟨?_, hputSoft, ?_, hputChimeq.trans hchimeq, fun x hx => ?_, ?_, ?_, ?_, ?_, ?_, ?_, fun k => ?_⟩
  · rw [hput, hmem, hdraw]
    rfl
  · rw [hputInj, hinj]
    exact hcorrupt
  · rw [hputOthers x hx, hcl, hpoppedOthers x hx]
  · rw [hsame]
  · rw [hsame]
  · rw [hsame]
  · have hints : mxInt r.words = false := by
      unfold mxInt
      rw [if_neg h.kNonzero, h.ints]
    rw [hsame, hints]
    rfl
  · exact (hregs _ _ (not_mem_mxFlagKeys hc hc (by decide) (by decide) (by decide) (by decide))).trans hfails
  · unfold State.running
    rw [hreg (by decide) (by decide) (by decide) (not_mem_mxFlagKeys hc (by decide) (by decide) (by decide) (by decide) (by decide))]
  · unfold State.entryOff
    rw [hreg (g := F.SEQ_CFG_RING_BASE) (by decide) (by decide) (by decide)
        (not_mem_mxFlagKeys hc (by decide) (by decide) (by decide) (by decide) (by decide)),
      hreg (g := F.SEQ_CFG_RING_LOG2) (by decide) (by decide) (by decide)
        (not_mem_mxFlagKeys hc (by decide) (by decide) (by decide) (by decide) (by decide))]

theorem State.mxComplete_one {s : State} {c : Nat} (hc : c < 64) {r : MxRun} {rest : List MxRun} (hrun : (s.cl c).mxRun = r :: rest)
    (hqueue : chimeFirst (s.cl c).mxq = false) (hcorrupt : s.inj.corrupt = []) (hpoison : s.poison = []) (hsoft : s.soft = [])
    (hload : s.score.load = none) (hroom : ∀ d < 2, s.chimeFull d = false) (hcode : r.code = 0) (h : r.oneElement)
    (hplain : s.stateOff (wmBase c + mpAddr r.words 4) = none) (halign : mpAddr r.words 4 % 64 = 0) :
    ∃ v fl, s.oneWorked v c r rest (s.mxFails c r none) ∧ v.mxEnded (s.mxComplete c) c r (wmBase c + s.entryOff (s.cl c).ccount)
      (entryBits r.index 2 fl (if 0 < s.mxFails c r none ∧ s.running = false then 0x21 else 0)) := by
  have hfinish : (s.mxPopped c rest).mxFinish c r = ((s.mxPopped c rest).tellChecks c (s.mxFails c r none) r).mxStore c r (s.mxFails c r none) :=
    State.mxFinish_unhit (State.mxHit_none hcorrupt c r)
  obtain ⟨f, hstore⟩ := ((s.mxPopped c rest).tellChecks c (s.mxFails c r none) r).mxStore_one h c (s.mxFails c r none)
  have hworked := State.elementPut_worked (rest := rest) hc h hcorrupt hsoft hload hplain halign (s.mxFails c r none) f
  rw [State.mxComplete_finishes hrun hcode hpoison, hfinish, hstore]
  generalize ((s.mxPopped c rest).tellChecks c (s.mxFails c r none) r).elementPut c r f = v at hworked ⊢
  have hended := State.mxEnd_ends hworked.soft hworked.corrupt (fun d hd => (State.chimeFull_congr hworked.chimeq d).trans (hroom d hd)) hc r
    (flagsBits f) (if 0 < s.mxFails c r none ∧ v.running = false then 0x21 else r.code)
  generalize v.mxEnd c r (flagsBits f) _ = t at hended ⊢
  rw [State.flushMx_stays 33 (by rw [hended.same]; exact (congrArg chimeFirst hworked.queue).trans hqueue)]
  rw [hworked.running, hworked.count, hworked.entryOff, hcode] at hended
  exact ⟨v, flagsBits f, hworked, hended⟩

end Sys2Proof.Machine
end

section
/-!
PROOFS. Matrix operations from their queue to their completion: the statement MatrixOperationsQueueStartAndComplete.
-/
namespace Sys2Proof.Machine

/-! ### Memory after the writes of D and of the entry (06 R226) -/

section
variable {s t : State} {d e : Nat} {l l' : List Byte} (h : t.mem = memWrite (memWrite s.mem d l) e l')
include h

theorem State.bytes_of_two_writes (hapart : d + l.length ≤ e ∨ e + l'.length ≤ d) : t.bytes d l.length = l := by
  have hin := memBytes_memWrite_in s.mem d l (o := 0) (n := l.length) (by omega)
  rw [Nat.add_zero, List.drop_zero, List.take_length] at hin
  calc t.bytes d l.length = memBytes (memWrite (memWrite s.mem d l) e l') d l.length := congrArg (fun m => memBytes m d l.length) h
    _ = memBytes (memWrite s.mem d l) d l.length := memBytes_memWrite_out _ _ _ hapart
    _ = l := hin

theorem State.byte_out_two_writes {x : Nat} (hd : x < d ∨ d + l.length ≤ x) (he : x < e ∨ e + l'.length ≤ x) : t.byte x = s.byte x := by
  have hout (m : List Host.Cell) (a : Nat) (q : List Byte) (hx : x < a ∨ a + q.length ≤ x) : tabGet 0 (memWrite m a q) x = tabGet 0 m x :=
    hx.elim (memWrite_below m a q) (memWrite_above m a q)
  calc t.byte x = tabGet 0 (memWrite (memWrite s.mem d l) e l') x := congrArg (fun m => tabGet 0 m x) h
    _ = tabGet 0 (memWrite s.mem d l) x := hout _ _ _ he
    _ = s.byte x := hout _ _ _ hd

end

/-! ### The statement -/

/-- D, the accumulator, CHECK_FAIL and the entry of an operation of one element that has completed; no other byte changes. -/
theorem State.oneWorked.shows {s v t : State} {c e code : Nat} {r : MxRun} {rest : List MxRun} {bad fl : Nat} (hc : c < 64) (h : r.oneElement)
    (hworked : s.oneWorked v c r rest bad) (hended : v.mxEnded t c r e (entryBits r.index 2 fl code)) (hcode : code < 2 ^ 16)
    (hapart : wmBase c + mpAddr r.words 4 + tyWidth (mpOutfmt r.words) / 8 ≤ e ∨ e + 8 ≤ wmBase c + mpAddr r.words 4) :
    s.mxDone t c r rest ∧ (t.cl c).accs.headD 0 = (rneFp32 r.passAcc).1 ∧
    leNat (t.bytes (wmBase c + mpAddr r.words 4) (tyWidth (mpOutfmt r.words) / 8)) =
      (encodeCode (mpOutfmt r.words) r.passAcc (mpRm r.words) (mpSat r.words) (s.mxDraw r 0 0)).1 % 2 ^ tyWidth (mpOutfmt r.words) ∧
    t.reg F.MXE_ENG_CHECK_FAIL c = min (s.reg F.MXE_ENG_CHECK_FAIL c + bad) F.MXE_ENG_CHECK_FAIL.top ∧
    (∃ fl < 16, t.word e = r.index % 2 ^ 24 * 2 ^ 40 + 2 * 2 ^ 32 + fl * 2 ^ 16 + code) ∧
    ∀ x, (x < wmBase c + mpAddr r.words 4 ∨ wmBase c + mpAddr r.words 4 + tyWidth (mpOutfmt r.words) / 8 ≤ x) → (x < e ∨ e + 8 ≤ x) →
      t.byte x = s.byte x := by
  have hmem := hended.mem
  rw [hworked.mem] at hmem
  have hlen : (r.outBytes (s.mxDraw r 0 0)).length = tyWidth (mpOutfmt r.words) / 8 := by rw [h.outBytes_eq, leBytes_length]
  have hfits : 256 ^ (tyWidth (mpOutfmt r.words) / 8) = 2 ^ tyWidth (mpOutfmt r.words) := by
    obtain hw | hw | hw := h.width
    all_goals
      rw [hw]
      rfl
  have hentry : (leBytes 8 (entryBits r.index 2 fl code)).length = 8 := leBytes_length 8 _
  refine ⟨hended.done hworked.run hworked.count hworked.others hworked.chimeq, ?_, ?_, ?_, ⟨fl % 16, Nat.mod_lt _ (by decide), ?_⟩,
    fun x hd he => ?_⟩
  · rw [hended.same]
    exact hworked.acc
  · rw [← hlen, State.bytes_of_two_writes hmem (by rwa [hlen, hentry]), h.outBytes_eq, leNat_leBytes_mod, hfits, Nat.mod_mod]
  · refine (hended.regs _ _ ?_).trans hworked.fails
    simp only [List.mem_cons, List.not_mem_nil, or_false, not_or]
    exact ⟨Field.key_ne_of_apart (by decide) hc hc, Field.key_ne_of_apart (by decide) hc (by decide)⟩
  · rw [State.word_of_written hmem (entryBits_lt ..)]
    unfold entryBits
    omega
  · exact State.byte_out_two_writes hmem (by rwa [hlen]) (by rwa [hentry])

/-- Settles O29: an operation joins the queue by `State.mxPlace_joins`; at the head of the queue it waits, completes or starts by what
`State.mxIssue_block` reads; one of one element completes by `State.mxComplete_one`, and one that met poison by `State.mxComplete_poisoned`. -/
theorem matrixOperationsQueueStartAndComplete : Obligations.MatrixOperationsQueueStartAndComplete := by
  refine ⟨fun c sa s => ⟨fun hmeets hread hroom => ?_, fun hmeets hread hfull => ?_, ?_⟩, ?_⟩
  · obtain ⟨hissued, hcl⟩ := State.mxPlace_joins c.isLt sa hroom
    exact ⟨_, exec_mxeOp_met hmeets hread, hissued, _, hcl⟩
  · exact ⟨_, exec_mxeOp_met hmeets hread, State.mxPlace_stalls sa hfull⟩
  · intro addr index word rest hhead hnext hfence halign hinside hpoison hcorrupt hsoft
    have h : s.mxHead c addr index word rest := ⟨hhead, hnext, hfence, halign, hinside, hpoison, hcorrupt, hsoft⟩
    refine ⟨fun hbusy => ?_, fun hroom => ⟨fun hempty hchime => ?_, fun hm hn hrange hoverlap hreuse => ?_⟩⟩
    · rw [exec_mxeOpIssue, State.mxIssue_waits h hbusy]
    · obtain ⟨hcl, hshown⟩ := State.mxIssue_empty h hroom hempty hchime
      refine ⟨_, exec_mxeOpIssue c s, ?_, ?_, ?_, ?_, hshown⟩
      all_goals rw [hcl]
    · have htaken : (s.mxTaken c rest).cl c = { s.cl c with mxq := rest } := State.cl_setCl_same ..
      obtain ⟨r, hframe, hothers, hsame, ⟨hindex, hwords, hbeat, hcode⟩, htile, hstill, hloads⟩ :=
        State.mxIssue_starts h hroom hm hn hrange hoverlap hreuse
      rw [htaken] at hsame hstill hloads
      refine ⟨_, r, exec_mxeOpIssue c s, hframe, fun x hx => (hothers x hx).trans (State.cl_setCl_other _ _ hx), hsame, hindex, hwords, hbeat, hcode,
        htile, hstill, fun hk hidle => ?_⟩
      obtain ⟨b, sb, harray⟩ := hloads hk hidle
      refine ⟨tileOf (s.mxBlock c addr) b sb 0, by rw [harray]; rfl, fun haxis => tileOf_axis_zero haxis b sb,
        fun haxis => tileOf_axis_one haxis b sb, fun hmap => ?_⟩
      have hmap' : (s.mxTaken c rest).repMap c = 0 := hmap
      rw [harray, hmap']
      exact loadArray_spares _
  · intro c r rest s hrun hqueue hcorrupt hpoison hsoft hload hroom
    refine ⟨fun hcode hm hn hk hfits hinit hafmt hbfmt houtfmt ha hb hplain hapart halign => ?_, fun hcode => ?_⟩
    · have h : r.oneElement := ⟨hm, hn, hk, hfits, hinit, hafmt, hbfmt, houtfmt, ha, hb⟩
      obtain ⟨v, fl, hworked, hended⟩ := State.mxComplete_one c.isLt hrun hqueue hcorrupt hpoison hsoft hload hroom hcode h hplain halign
      have hlt : (if 0 < s.mxFails c r none ∧ s.running = false then 0x21 else 0) < 2 ^ 16 := by split <;> decide
      exact ⟨_, exec_mxeOpComplete c s, hworked.shows c.isLt h hended hlt hapart⟩
    · obtain ⟨hdone, hlast, hword, hmem⟩ := State.mxComplete_poisoned hrun hqueue hcorrupt hsoft hroom c.isLt hcode
      refine ⟨_, exec_mxeOpComplete c s, hdone, hlast, fun x y hrest hzero hreuse => ⟨voidReuse y, ?_⟩, hword, hmem⟩
      rw [hdone.1, hrest, voidReuse_first hzero hreuse]

end Sys2Proof.Machine
end

section
/-!
PROOFS. A write of the repair map in the CK of a rejected one (05 R198, R202; 00 R17): the statement RampAndRepairFollowTheRules.
-/
namespace Sys2Proof.Machine

/-- Engine 0 after a write of its map that R198 rejects, of entry 1 valid above entry 0 invalid, in the CK of that write. -/
def State.mapRejected : State := State.reset.mark F.ENG_REPAIR_REJ 1 0

theorem State.mapRejected_reached : exec (.engRepairWrite 0 0x8000) State.reset = .next State.mapRejected := by rfl

theorem exec_engRepairWrite (n : Fin 64) (v : BitVec 64) (s : State) : exec (.engRepairWrite n v) s = .next (s.repWrite n v.toNat) := rfl

/-- A 1 written to REJ with a map that is taken leaves of REJ what this CK has given it (00 R17). -/
theorem State.repWrite_rej {s : State} {n v : Nat} (hclear : v.testBit 33 = true)
    (hgood : repBad ((s.cl n).repair.getD (s.repMap n)) (v % 2 ^ 32) s.running = false) :
    (s.repWrite n v).reg F.ENG_REPAIR_REJ n = s.freshPart F.ENG_REPAIR_REJ n % 2 ^ F.ENG_REPAIR_REJ.width := by
  unfold State.repWrite
  dsimp only
  rw [hgood, hclear, if_neg Bool.false_ne_true, if_pos rfl]
  exact State.reg_setReg_same ..

/-- Refutes O30: its fourth clause has REJ read 0 after a write of the map with a 1 in REJ, and that fails on `State.mapRejected`, which a rejected
write reaches from reset. In the CK of that rejection the 1 does not clear REJ, which still reads 1 (00 R17; 05 R198, R202). -/
theorem not_rampAndRepairFollowTheRules : ¬ Obligations.RampAndRepairFollowTheRules := by
  intro h
  obtain ⟨-, -, -, hwrite, -⟩ := h 0 State.mapRejected
  obtain ⟨t, hexec, -, -, -, -, hrej⟩ := hwrite 0x200000000 (fun hrun => absurd hrun (by decide)) (by decide)
  rw [exec_engRepairWrite] at hexec
  obtain rfl : State.mapRejected.repWrite 0 0x200000000 = t := Host.Outcome.next.inj hexec
  have hkept : (State.mapRejected.repWrite 0 0x200000000).reg F.ENG_REPAIR_REJ 0 = 1 := State.repWrite_rej (by decide) (by decide)
  have hcleared : (State.mapRejected.repWrite 0 0x200000000).reg F.ENG_REPAIR_REJ 0 = 0 := hrej.trans (if_pos (by decide))
  omega

end Sys2Proof.Machine
end
